-- ==== Sys2Proof/Word.lean ====
section
/-! DEFINITION. The word types of the GN7720's register space and their plainest arithmetic: bytes, 16-bit registers,
saturating 8-bit tally steps, little-endian packing. -/
namespace Sys2Proof

/-- One byte of a frame, a register or a memory. -/
abbrev Byte := BitVec 8

/-- One host-visible register (R5: 16 bits wide). -/
abbrev Reg16 := BitVec 16

/-- A fixed table of `n` like things, indexed by `Fin n`. -/
abbrev Tab (n : Nat) (α : Type) := Vector α n

/-- A table filled with one value. -/
abbrev Tab.all (n : Nat) {α : Type} (a : α) : Tab n α := Vector.replicate n a

/-- Change one entry of a table. -/
def Tab.upd {n : Nat} {α : Type} (t : Tab n α) (i : Fin n) (f : α → α) : Tab n α := t.set i (f t[i])

/-- One more, saturating at 255 (the 8-bit tallies of the register tables). -/
def sat255 (n : Nat) : Nat := min 255 (n + 1)

/-- Add, saturating at 255. -/
def satAdd255 (n k : Nat) : Nat := min 255 (n + k)

/-- Bit of a Boolean. -/
def bit01 (b : Bool) : Nat := if b then 1 else 0

/-- A byte from a natural number, low eight bits. -/
def byteOf (n : Nat) : Byte := BitVec.ofNat 8 n

/-- The `k` bytes of a number, least significant first (R5, R29). -/
def leBytes : Nat → Nat → List Byte
  | 0, _ => []
  | k + 1, n => byteOf n :: leBytes k (n / 256)

/-- The number that bytes spell, least significant first. -/
def leNat : List Byte → Nat
  | [] => 0
  | b :: bs => b.toNat + 256 * leNat bs

/-- Two's-complement reading of a `w`-bit number. -/
def signedOf (w n : Nat) : Int := if n % 2 ^ w < 2 ^ (w - 1) then (n % 2 ^ w : Nat) else (n % 2 ^ w : Nat) - (2 ^ w : Nat)

/-- The 16-bit two's-complement code of an integer. -/
def s16 (i : Int) : Nat := (i % 65536).toNat

/-- Bit `i` of a number. -/
def natBit (n i : Nat) : Bool := n / 2 ^ i % 2 == 1

/-- Bits `[lo + w - 1 : lo]` of a number. -/
def natBits (n lo w : Nat) : Nat := n / 2 ^ lo % 2 ^ w

/-- A mask of Booleans as a number, the first being bit 0. -/
def maskOf : List Bool → Nat
  | [] => 0
  | b :: bs => bit01 b + 2 * maskOf bs

end Sys2Proof
end

