-- ==== Sys2Proof/Syntax.lean ====
section
/-! DEFINITION. The commands of the GN7720 model: one constructor of `Instr` for each row of spec/opcode_table.json,
with the operands a command of that row carries. A command is a step of the part as spec/95_what_each_step_holds.md
lists them: a host access, a frame, a pin event, an analogue event, or the expiry of one of the part's own timers. -/
namespace Sys2Proof

/-- The three embedded cores (R25), in the order of Table 16.5. -/
inductive CoreId where
  | supervisor | ledger | link
deriving DecidableEq, Repr

/-- The clocked islands of Table 1.3. -/
inductive Island where
  | pwm | errorAdc (r : Fin 24) | capture | housekeeping | host | moduleBus | servicePort | memory
  | ovrath (k : Fin 6) | pairLink | loadLink (p : Fin 8)
deriving DecidableEq, Repr

/-- The single control events that cross as toggles (R20). -/
inductive ToggleLine where
  | conversionStart             -- a request to start a conversion
  | frameReceived (p : Fin 8)   -- a load-link port's frame-received notice
  | ovFrame (k : Fin 6)         -- an Ovrath port's
  | pairFrame                   -- the pair link's
  | spFrame                     -- the service port's
  | timerWrap (t : Fin 16)      -- a capture timer's wrap notice
  | demand (r : Fin 24)         -- the event that offers a rail's demand to the PWM island (R19)
deriving DecidableEq, Repr

/-- The straps sampled at step 2 of Table 3.1 (R56). -/
structure Straps where
  addr  : BitVec 3
  pref  : Bool
  testN : Bool
deriving DecidableEq, Repr

/-- An input judged under R53: an auxiliary feed, the bus bar, or the input of a domain. -/
inductive QualInput where
  | feed (f : Fin 2) | busBar | domain (d : Fin 8)
deriving DecidableEq, Repr

/-- How an on-time ended (R85). -/
inductive OnEnd where
  | trip | minOn | blanking | tonMax
deriving DecidableEq, Repr

/-- The reductions of a rail's current limit that can wait for a grace (R150, R151). -/
inductive LimitKind where
  | fence | cap | thermal
deriving DecidableEq, Repr

/-- The three thermal levels (R209). -/
inductive ThLevel where
  | warn | dim | trip
deriving DecidableEq, Repr

/-- How a module-bus transaction ended (R232, R233). -/
inductive MbResult where
  | ok (data : List Byte)   -- every ACK came; the bytes read and the CRC byte after them, none for a write
  | addrNack                -- the cartridge NACKed its address while busy
  | nack                    -- a NACK where an ACK was due
  | badCrc                  -- a CRC mismatch, whatever was read
  | sdaLow                  -- SDA stayed low at the moment for the START, and nothing was sent
deriving DecidableEq, Repr

/-- The blocks that a BRESET reaction resets (Table 11.4). -/
inductive Block where
  | port (p : Fin 8) | housekeeping | cartridge (c : Fin 16) | moduleBus | pairLink | ovPort (k : Fin 6)
  | ledgerCore | hostBus | servicePort | chandler | memory | supervisorCore | linkCore | capture
deriving DecidableEq, Repr

/-- One rail of a SYNC frame (Table 12.2). -/
structure SyncEntry where
  rail   : Fin 24
  state  : Nat    -- RAIL_STAT [7:0]
  index  : Nat
  u1     : Int    -- u[n-1], 14 fraction bits
deriving DecidableEq, Repr

/-- The content of a HEALTH frame (Table 12.2). -/
structure Health where
  role      : Nat          -- as PAIR_STAT.ROLE_NOW
  cannotOwn : Bool         -- the sender reports that it cannot own (R268)
  grounds   : BitVec 7
  inStep    : Bool
  patCrc    : BitVec 32    -- CRC of the migrated pattern image
  pairId    : Byte
  fences    : BitVec 64
  snuffs    : BitVec 24
  marks     : List (Fin 24 × Int)  -- the timebase marks: for each rail the time from the receiver's own origin to the
                                   -- arrival of the mark of the sender's origin, taps, as the receiver stamps it (R262)
  trip      : Nat          -- the round trip of the link as the receiver measures it at this frame, taps
  pref      : Bool         -- the sender's PREF strap
  addr      : BitVec 3     -- the sender's ADDR strap
  busyWin   : Bool         -- the sender runs a proof window or a core trial
  staged    : BitVec 32    -- IMG_ID of the sender's verified image, 0 if none
  proved    : Bool         -- the sender has recorded the pattern in force as proved
  order     : BitVec 32    -- IMG_ID of the image that the sender's sequence asks the receiver to activate, 0 if none
  confirm   : BitVec 16    -- CONFIRM of that activation
  ran       : BitVec 32    -- IMG_ID of the image that the sender activated in the sequence, 0 if none
deriving DecidableEq, Repr

/-- The response that a port has stored (R154): the request it answers, with CODE and DATA. -/
structure TwinResp where
  cmd     : Nat
  sub     : Nat
  tog     : Bool
  payload : Nat
  code    : Nat
  data    : Nat
deriving DecidableEq, Repr

/-- The load-link part of a STATE frame, for one port (R155). -/
structure TwinPort where
  settled : BitVec 4
  sfail   : BitVec 4
  dim     : BitVec 4
  fault   : BitVec 4
  tn      : Byte
  dimId   : Byte
  tns     : List (Nat × Nat)          -- for each sub-address, the latest TN accepted and the latest settled
  dims    : List (Option Nat × Nat)   -- for each sub-address, the DIM_ID of its latest dim notice and its limit
  stored  : Option TwinResp
deriving DecidableEq, Repr

/-- A cartridge as a STATE frame shows it (R240). -/
structure TwinCart where
  state    : Nat          -- BC_STAT.STATE
  why      : Nat
  warned   : Bool
  retired  : Bool
  authOk   : Bool
  serial   : Nat
  typ      : Nat
  capAh    : Nat
  ratedEfc : Nat
  ratedAh  : Nat
  bankA    : Option (Nat × Nat × Nat × Nat)   -- AH_THRU, AH_DIS, SEQ and FLAGS of a valid bank
  bankB    : Option (Nat × Nat × Nat × Nat)
  authDone : Nat          -- when the latest authentication passed, ns of the sender's clock
  dueWhy   : Option Nat   -- WHY of an exclusion that waits for the end of the ride
  fenced   : Bool
  examDue  : Bool         -- it is still to be examined
deriving DecidableEq, Repr

/-- What a STATE frame says of a domain beside its state (R185). Times are of the sender's clock. -/
structure TwinDom where
  after   : Nat           -- what its stop ends in: 0 OFF, 1 WAIT, 2 LATCHED
  req     : Bool
  auto    : Bool
  minOff  : Option Nat
  restart : Option Nat
  faults  : List Nat
  inQ     : Bool          -- its input is qualified
  afresh  : Bool          -- the input has to qualify afresh (R173)
  qualAt  : Option Nat    -- when its qualify time began
deriving DecidableEq, Repr

/-- What a STATE frame says of a slot (R185). Ticks are the sender's. -/
structure TwinSlot where
  state   : Nat           -- SEQ_SL_STAT.STATE
  onAt    : Nat
  upBy    : Nat
  offAt   : Nat
  downBy  : Nat
  pastOff : Bool
  falling : Bool
  planned : Bool
deriving DecidableEq, Repr

/-- The content of a STATE frame (Table 12.2). -/
structure TwinShared where
  clock    : Nat                -- the sender's clock, ns, and the number of its latest tick, for the times below
  tick     : Nat
  ports    : List TwinPort      -- the ports in order
  huState  : Nat                -- HU_STAT.STATE
  rideAt   : Nat                -- when the ride began, ns of the sender's clock
  rideAh   : Int × Nat          -- 0.01 Ah discharged in the ride, as a fraction
  carts    : List TwinCart
  counters : List (Nat × Nat)   -- AH_THRU and AH_DIS totals of each cartridge, 0.001 Ah
  cap      : Reg16
  capRoot  : Reg16
  dimK     : Nat
  domains  : List Nat           -- SEQ_DOM_STAT.STATE of each domain
  plans    : List TwinDom
  slots    : List TwinSlot
  active   : List Nat           -- the active set of each rail, as a mask of its units
  degr     : Reg16
  twinAddr : BitVec 18          -- the sender's Ovrath address (R308)
deriving DecidableEq, Repr

/-- The content of a REPORT frame (Table 12.2). -/
structure TwinReport where
  max    : Option (Int × Nat)   -- the reported maximum and its source; none in a round with no valid sensor
  taps   : List (Option Nat)    -- the readings of the reference taps 56 to 58, in 25 uV codes, where they are valid
  vout   : List (Fin 24 × Nat)  -- VOUT of every REGULATING rail, mV
deriving DecidableEq, Repr

/-- A STREAM frame: a copy of an outgoing message (R266). -/
structure StreamMsg where
  attn    : Bool           -- an attention record, else an Ovrath message
  pseq    : Reg16
  bytes   : List Byte
deriving DecidableEq, Repr

/-- Why an Ovrath link goes down (R284). -/
inductive LinkLoss where
  | alignment | silence
deriving DecidableEq, Repr

/-- How a received frame ended (R291): with a good CRC and EOF, with a bad CRC, with a code error inside it, or with K30.7. -/
inductive FrameEnd where
  | good | badCrc | codeError | k307
deriving DecidableEq, Repr

/-- The content of a LINK frame (R284). -/
structure LinkInfo where
  role     : Nat            -- 1 ROOT, 2 DEPUTY, 3 NODE
  downKind : Bool           -- the sender's port is a down port
  spareUp  : Bool           -- it is a spare up port, in SPARE_IDLE
  depth    : Nat            -- 15 = unknown
  addr     : BitVec 18
  count    : Nat            -- devices in the sender's subtree
  credits  : Nat × Nat × Nat  -- initial credits of classes 1 to 3
  delayNs  : Nat            -- one-way delay measured by round trip
  acting   : Bool           -- the sender acts as root
deriving DecidableEq, Repr

/-- The body of a class-0 frame (Table 13.4). -/
structure Ov0 where
  down   : Bool
  paired : Bool
  hops   : Nat
  src    : BitVec 18
  twin   : Bool
  arg0   : Byte
  arg1   : Byte
  arg2   : Byte     -- PAIR_ID in an up frame
  corr   : Reg16    -- PSEQ in an up frame
deriving DecidableEq, Repr

/-- The header of a class 1-3 frame (Table 13.3). -/
structure OvHdr where
  bcast  : Bool
  root   : Bool
  paired : Bool
  reply  : Bool
  hops   : Nat
  dest   : BitVec 18
  src    : BitVec 18
  twin   : Bool
  tag    : BitVec 7
  pairId : Byte
  pseq   : Reg16
deriving DecidableEq, Repr

/-- A frame as a port carries it: class 0, or classes 1-3. -/
inductive OvFrame where
  | c0 (type : Nat) (f : Ov0)
  | cN (cls : Nat) (type : Nat) (h : OvHdr) (payload : List Byte)
deriving DecidableEq, Repr

/-- The payload of an ACTIVATE frame (Table 16.9). -/
structure ActivateCmd where
  actId   : BitVec 32
  imgId   : BitVec 32
  confirm : Reg16
  atTime  : BitVec 64
deriving DecidableEq, Repr

/-- The payload of an EVREC frame (Table 13.5). -/
structure EvRec where
  source : Byte
  sub    : Byte
  entry  : Reg16
  time   : BitVec 64
  cause  : Reg16
deriving DecidableEq, Repr

/-- What the standby reports over the pair link: a verdict of Table 12.4 (R265), or one of its own firings, which the active
numbers and sends (R266, log entry 150). -/
inductive Verdict where
  | domain (d : Fin 8) | runFault (n : Fin 48) | ovSnuff (r : Fin 24)
  | firing (e : EvRec) (int : Bool)   -- whether its INT is enabled
deriving DecidableEq, Repr

/-- Where an ECC error is found (R330): a page of the sample memory, or the index memory. -/
inductive EccSite where
  | page (p : Nat) | index (ofs : Nat)
deriving DecidableEq, Repr

/-- The two lines of the host bus (R350). -/
inductive BusLine where
  | scl | sda
deriving DecidableEq, Repr

/-- How an attempt to send an attention record goes (R354, R355). -/
inductive AttnResult where
  | delivered | arbitrationLost | nack | timeout
  | started      -- it has begun and is still in progress
deriving DecidableEq, Repr

/-- The two paths of protected writes (R387); the Ovrath path names its requester. -/
inductive Path where
  | host | ovrath (src : BitVec 18)
deriving DecidableEq, Repr

/-- How the read of the settings store at the start goes (R71, R372): whether a copy is readable, and whether a migration that is
due succeeds (log entry 119). -/
structure StoreRead where
  readable : Bool
  migrates : Bool
deriving DecidableEq, Repr

/-- A feed, and its sense voltage in mV (R52 to R54). -/
structure FeedSense where
  feed : Fin 2
  mv   : Nat
deriving DecidableEq, Repr

/-- What a housekeeping conversion brings beside its value: whether the converter saturated (R204), and for an XD channel the
base-emitter voltages at its three currents, in microvolts (R207). -/
structure HkReading where
  sat : Bool
  vbe : Nat × Nat × Nat
deriving DecidableEq, Repr

/-- The re-light command of the pair link (R264): the rail, the SHEDPROG entry that it moves up to, and whether a trigger of R124
caused it. -/
structure RelightMsg where
  rail  : Fin 24
  entry : Nat
  trig  : Bool
deriving DecidableEq, Repr

/-- The bytes after A+W in a host transaction that writes no register (Table 15.1): none in a read at the pointer, PH alone, or
both bytes of the pointer. -/
inductive PtrBytes where
  | held | high (ph : Byte) | both (ph pl : Byte)
deriving DecidableEq, Repr

/-- How a request of the service port ends (R362): its payload where that is of a length which the command does not have, and
its CRC. -/
structure SpEnd where
  odd : Option (List Byte)
  crc : Reg16
deriving DecidableEq, Repr

/-- The commands: one constructor for each row of spec/opcode_table.json. -/
inductive Instr where
  /-- HANDSHAKE_STALL (R14): A block request stays unacknowledged for more than 10 us, which is counted in TALLY_HS_STALL and raises the stall condition (EV185). -/
  | handshakeStall
  /-- PLL_LOCK_LOSS (R16): The PWM PLL loses lock: every PWM output goes to tri-state, the clock condition is raised and each affected domain is shut off. -/
  | pllLockLoss
  /-- PLL_LOCK_ACQUIRED (R22): The PWM PLL locks or relocks, and the island reloads every phase timebase. -/
  | pllLockAcquired
  /-- REF_CLK_LOSS (R17): No REF_CLK edge arrives for 200 ns: the PLL holds its frequency, the clock condition is raised and ticks move to the core oscillator. -/
  | refClkLoss
  /-- REF_CLK_RETURN (R17): REF_CLK returns within 1 ms, and the PLL relocks without leaving regulation. -/
  | refClkReturn
  /-- REF_CLK_HOLDOVER_EXPIRY (R17): REF_CLK has not returned within 1 ms, and the device proceeds as for a loss of PLL lock. -/
  | refClkHoldoverExpiry
  /-- CDC_ACCEPT_FAILURE (R18): No two successive samples of a multi-bit value agree within 3 island clock periods: the last value is held and TALLY_CDC_REJ is counted. -/
  | cdcAcceptFailure
  /-- CDC_TOGGLE_ACK (R20): The acknowledgement of a toggle crossing arrives, and any merged pending event is sent. -/
  | cdcToggleAck (l : ToggleLine)
  /-- ISLAND_RESTART_DONE (R22): A stopped island completes its restart after a wake request, and waiting crossings proceed. -/
  | islandRestartDone (i : Island)
  /-- CORE_WATCHDOG_EXPIRY (R26): The watchdog of an embedded core expires, so the core is restarted and EV187 fires. -/
  | coreWatchdogExpiry (c : CoreId)
  /-- CORE_RESTART_DONE (R26): A core restart completes, and the core takes up its paused functions from the block registers. -/
  | coreRestartDone (c : CoreId) (selfTestOk : Bool)
  /-- POR_ASSERT (R396): A supply falls below its POR assert level, and POR is asserted with the states of R56. -/
  | porAssert (k : Fin 5)
  /-- POR_RELEASE (R57): POR is released, and the POR-to-READY sequence begins. -/
  | porRelease (straps : Straps)
  /-- RESET_N_ASSERT (R56): RESET_N is held low for at least 1 us, and the reset states return within 50 ns. -/
  | resetNAssert (lowNs : Nat)
  /-- RESET_N_RELEASE (R56): RESET_N rises after a reset, and a full restart follows. -/
  | resetNRelease (straps : Straps)
  /-- LAYOUT_DIRECTORY_READ (R61): The layout directory read completes: the primary or mirror copy is accepted, or the blank pattern is applied. -/
  | layoutDirectoryRead
  /-- PATTERN_CANDIDATE_CHECK (R45): A candidate pattern has been read and is checked in the order of Table 2.26, then accepted or rejected. -/
  | patternCandidateCheck
  /-- PATTERN_APPLY (R47): The configuration cells are written from an accepted pattern, and the change is applied as hot-safe or structural. -/
  | patternApply
  /-- CORE_IMAGE_CHECK (R57): The read of the core images completes and their CRCs are checked. -/
  | coreImageCheck
  /-- CORE_START (R57): The cores are started and self-tested, and the host-bus target begins to acknowledge its address. -/
  | coreStart (supOk ledOk lnkOk : Bool)
  /-- SETTINGS_STORE_READ (R71): The supervisor core completes its read of the settings store. -/
  | settingsStoreRead (copy : StoreRead)
  /-- READY (R58): The device reaches READY: FAULT_N follows its sources, writes are accepted and the lamplighter starts its domains. -/
  | ready
  /-- FEED_QUALIFIED (R53): An auxiliary feed has stayed at or above its rising threshold for its whole qualify time, so it qualifies and its gate turns on. -/
  | feedQualified (f : FeedSense)
  /-- INPUT_QUALIFY_RESTART (R53): An input that has not yet qualified falls below its rising threshold, and its qualify time restarts. -/
  | inputQualifyRestart (i : QualInput)
  /-- FEED_ABSENT (R52): A qualified feed stays below its falling threshold for 5 us: it becomes absent, its gate turns off and EV144 fires. -/
  | feedAbsent (f : FeedSense)
  /-- FEED_GATE_OFF (R52): The sense voltage of a feed lies more than 0.5 V below the other feed, and its gate turns off. -/
  | feedGateOff (f : Fin 2)
  /-- FEED_GATE_ON (R52): The feed difference falls to 0.2 V or less, and the gate turns on again. -/
  | feedGateOn (f : Fin 2)
  /-- MEM_STATUS_POLL (R65): The 10 us status poll of a NOR device that is programming or erasing. -/
  | memStatusPoll (busy : Bool)
  /-- MEM_WRITE_TIMEOUT (R65): A memory write exceeds its timeout: it is abandoned and counted in TALLY_MEM_WR, and EV182 is raised. -/
  | memWriteTimeout
  /-- SCRUB_SEGMENT_CHECK (R72): The scrub recomputes the CRC of one segment and compares it with the stored CRC. -/
  | scrubSegmentCheck (seg : Nat) (crc : BitVec 32)
  /-- SCRUB_REPAIR (R73): The reread of the pattern in force completes, and the mismatched segment is rewritten, or UNREPAIRED is set. -/
  | scrubRepair
  /-- SLEEP_REQUEST (R76): A host write of SLP_CTRL.SLEEP requests sleep, which is accepted or refused with REFUSED set. -/
  | sleepRequest
  /-- SLEEP_IDLE_EXPIRY (R76): SLEEP_IDLE seconds pass with every domain off under SLEEP_POLICY 2, which requests sleep. -/
  | sleepIdleExpiry
  /-- SLEEP_ENTRY (R77): Once any flush in progress has completed, the device enters sleep: the cores halt and the island clocks stop. -/
  | sleepEntry
  /-- WAKE_REQUEST (R78): An enabled wake source occurs in sleep and starts the wake sequence. -/
  | wakeRequest (src : Fin 8)
  /-- SLP_ALARM_EXPIRY (R78): The real-time-clock alarm set by SLP_ALARM expires during sleep. -/
  | slpAlarmExpiry
  /-- WAKE_SCRUB_PASS (R79): The full scrub pass at wake completes, or finds an unrepairable mismatch that restarts from step 4 of Table 3.1. -/
  | wakeScrubPass (bad : List Nat)
  /-- WAKE_COMPLETE (R79): The cores have restarted and the host-bus target acknowledges; every domain stays off and EV190 fires. -/
  | wakeComplete
  /-- PWM_LEADING_EDGE (R86): A phase timebase reaches a leading edge: the reference is loaded, the on-level is set and the slope ramp starts. -/
  | pwmLeadingEdge (n : Fin 64)
  /-- ON_TIME_END (R85): The on-time ends by comparator trip, minimum on-time or tON_MAX, and the peak sample is taken. -/
  | onTimeEnd (n : Fin 64) (why : OnEnd) (peak : BitVec 10) (ton : Nat)
  /-- VALLEY_SAMPLE_CONVERSION (R83): The sense digitiser completes the valley sample that closes a period. -/
  | valleySampleConversion (n : Fin 64) (code : BitVec 10)
  /-- PHASE_RESULT_PUBLISH (R106): After 256 switching periods, a phase publishes a new result set. -/
  | phaseResultPublish (n : Fin 64)
  /-- PH_RES_READ (R106): A read of the low byte of PH_RES takes a coherent snapshot of the phase result set with FRESH. -/
  | phResRead (n : Fin 64) (count : Nat)
  /-- PH_CTRL_FENCE (R102): The host fences a phase, and its partner, or the write is refused. -/
  | phCtrlFence (n : Fin 64)
  /-- PH_CTRL_UNFENCE (R101): The host returns a fenced phase to service as OFF or SHED, or the write is refused. -/
  | phCtrlUnfence (n : Fin 64)
  /-- PH_CTRL_TALLY_CLR (R107): The host clears PH_TALLY of a phase. -/
  | phCtrlTallyClr (n : Fin 64)
  /-- PH_TRIM_WRITE (R49): A protected write of the running SLOPE and BLANK codes of a phase, held in the trim overlay. -/
  | phTrimWrite (n : Fin 64) (v : BitVec 16)
  /-- COMPENSATOR_SAMPLE (R111): A compensator interval closes: e[n] is formed and the rail computes its demand, clamp, shedding, PG and checks. -/
  | compensatorSample (r : Fin 24) (e : Int) (sat : Bool) (vsnBad : Bool)
  /-- RAMP_STEP (R116): The 10 us step of an on or off ramp moves Vref, and the ramp ends at its target or at 0. -/
  | rampStep (r : Fin 24)
  /-- DWELL_EXPIRY (R122): The dwell timer reaches DWELL x 10 us with no hold-off running. -/
  | dwellExpiry (r : Fin 24)
  /-- HOLDOFF_EXPIRY (R124): The shedding hold-off after a re-light ends. -/
  | holdoffExpiry (r : Fin 24)
  /-- OV_SNUFF (R127): The OV comparator trips: the rail snuffs, or latches in tri-state for BATTERY, OV_LATCH is set and EV64 + r is raised. -/
  | ovSnuff (r : Fin 24) (vsense : Nat)
  /-- UV_COMPARATOR_CHANGE (R130): The sense voltage crosses UV or UV + 8: UV is armed, or its timer is started or cleared. -/
  | uvComparatorChange (r : Fin 24) (vsense : Nat)
  /-- UV_DELAY_EXPIRY (R130): The UV timer reaches UV_DELAY, and EV64 + r, or EV146 during a ride, is raised with cause UV. -/
  | uvDelayExpiry (r : Fin 24)
  /-- RAIL_RESULT_PUBLISH (R134): After 256 compensator samples, a rail publishes a new result set. -/
  | railResultPublish (r : Fin 24)
  /-- RAIL_RES_READ (R134): A read of the low byte of RAIL_RES takes a coherent snapshot of the rail result set. -/
  | railResRead (r : Fin 24) (count : Nat)
  /-- RAIL_CTRL_UNSNUFF (R129): The host releases a snuff, which puts the phases in tri-state and the rail OFF, or the write is refused. -/
  | railCtrlUnsnuff (r : Fin 24)
  /-- RAIL_CTRL_TALLY_CLR (R135): The host clears the shed and protection tallies of a rail. -/
  | railCtrlTallyClr (r : Fin 24)
  /-- RAIL_CTRL_NOSHED (R125): A write of NOSHED re-lights every unfenced shed unit and holds the last entry, or resumes shedding. -/
  | railCtrlNoshed (r : Fin 24) (on : Bool)
  /-- RAIL_VSET_WRITE (R115): A protected trim of VSET moves the target or the next start value, or is refused. -/
  | railVsetWrite (r : Fin 24) (v : BitVec 16)
  /-- RAIL_ILIM_WRITE (R119): A protected trim of the rail current limit enters ILIM_EFF at the next sample. -/
  | railIlimWrite (r : Fin 24) (v : BitVec 16)
  /-- LL_FRAME_BOUNDARY (R138): A load-link clock low of more than 1 us ends a frame, and framing faults and cut frames are handled. -/
  | llFrameBoundary (p : Fin 8) (edges : Nat) (startOne : Bool)
  /-- SET_V (R145): A SET_V request is checked and, when accepted, assigns a TN and sets the rail target and slew. -/
  | setV (p : Fin 8) (sub : Fin 4) (tog : Bool) (payload : BitVec 16) (rcrc : BitVec 8)
  /-- PRELOAD (R124): A PRELOAD notice from the load is checked and acts as a re-light trigger. -/
  | preload (p : Fin 8) (sub : Fin 4) (tog : Bool) (payload : BitVec 16) (rcrc : BitVec 8)
  /-- LL_READ (R142): A load-link READ request returns the value selected by SEL. -/
  | llRead (p : Fin 8) (sub : Fin 4) (tog : Bool) (payload : BitVec 16) (rcrc : BitVec 8)
  /-- NOTICE_ACK (R148): A NOTICE_ACK request clears the SETTLED, SFAIL and FAULT notices named in its masks. -/
  | noticeAck (p : Fin 8) (sub : Fin 4) (tog : Bool) (payload : BitVec 16) (rcrc : BitVec 8)
  /-- DIM_ACK (R151): A DIM_ACK request of the latest DIM_ID clears the rail's DIM notice. -/
  | dimAck (p : Fin 8) (sub : Fin 4) (tog : Bool) (payload : BitVec 16) (rcrc : BitVec 8)
  /-- LL_UNUSED_COMMAND (R144): A request with an unused CMD is answered BAD_CMD. -/
  | llUnusedCommand (p : Fin 8) (cmd : BitVec 4) (sub : Fin 4) (tog : Bool) (payload : BitVec 16) (rcrc : BitVec 8)
  /-- SETTLE_TIMEOUT (R146): SETTLE_TO passes without settling: an SFAIL notice is posted and EV88 + p is raised. -/
  | settleTimeout (r : Fin 24)
  /-- GRACE_EXPIRY (R151): The grace of a reduction ends: the limit is enforced, and DIM_NOACK is raised if the notice is still pending. -/
  | graceExpiry (r : Fin 24) (kind : LimitKind)
  /-- LP_CTRL_TALLY_CLR (R158): The host clears the port tallies. -/
  | lpCtrlTallyClr (p : Fin 8)
  /-- LP_CTRL_NOTICE_CLR (R148): The host clears every notice of the port. -/
  | lpCtrlNoticeClr (p : Fin 8)
  /-- LAMPLIGHTER_TICK (R159): The 10 us lamplighter tick at which slot up and down conditions are sampled. -/
  | lamplighterTick
  /-- DOMAIN_COMMON_START (R160): The first tick at which the start condition of a waiting domain holds becomes its common start. -/
  | domainCommonStart (d : Fin 8)
  /-- SLOT_SWITCH_ON (R160): ON_DELAY ticks after the common start, a slot switches on: SEQ_ENn goes high and its rail is enabled. -/
  | slotSwitchOn (n : Fin 48)
  /-- SLOT_OFF_POINT (R160): A slot reaches its off point: SEQ_ENn goes low and its rail's off ramp begins. -/
  | slotOffPoint (n : Fin 48)
  /-- UP_TO_EXPIRY (R170): A slot is not up by ON_DELAY + UP_TO: NO_START is raised and a reverse-order shut-down begins. -/
  | upToExpiry (n : Fin 48)
  /-- DOWN_TO_EXPIRY (R174): A slot fails to discharge: the rail may be snuffed, the slot becomes DOWN_FAIL and PD_FAULT is raised. -/
  | downToExpiry (n : Fin 48)
  /-- PG_IN_CHANGE (R163): PG_INn changes state after its glitch filter. -/
  | pgInChange (n : Fin 48) (level : Bool)
  /-- DOMAIN_INPUT_QUALIFIED (R166): The input monitor of a domain qualifies under R53. -/
  | domainInputQualified (d : Fin 8)
  /-- DOMAIN_INPUT_LOST (R166): A qualified domain input becomes absent, and INPUT_LOST is set. -/
  | domainInputLost (d : Fin 8)
  /-- MIN_OFF_EXPIRY (R179): MIN_OFF passes after the end of a domain's last stop. -/
  | minOffExpiry (d : Fin 8)
  /-- RESTART_EXPIRY (R180): RESTART ms pass since the latest fault of a domain in WAIT, which permits an auto-restart. -/
  | restartExpiry (d : Fin 8)
  /-- RETRY_WINDOW_EXPIRY (R181): A counted fault ages out of the RETRY_WIN window. -/
  | retryWindowExpiry (d : Fin 8)
  /-- SEQ_DOM_START (R183): The host START strobe of a domain, per Table 7.11. -/
  | seqDomStart (d : Fin 8)
  /-- SEQ_DOM_STOP (R183): The host STOP strobe cancels a request, abandons a start or begins an ordered stop. -/
  | seqDomStop (d : Fin 8)
  /-- SEQ_DOM_SHUTOFF (R183): The host SHUTOFF strobe causes an uncounted immediate shut-off. -/
  | seqDomShutoff (d : Fin 8)
  /-- SEQ_DOM_UNLATCH (R183): The host UNLATCH strobe makes a LATCHED domain OFF and clears its count. -/
  | seqDomUnlatch (d : Fin 8)
  /-- SEQ_DOM_RETRY_CLR (R183): The host clears the retry count of a domain. -/
  | seqDomRetryClr (d : Fin 8)
  /-- SEQ_DOM_TALLY_CLR (R186): The host clears SEQ_DOM_TALLY. -/
  | seqDomTallyClr (d : Fin 8)
  /-- WICK_SAMPLE (R190): A monitor in wick operation takes its sample at its grid point and its comparators decide. -/
  | wickSample (m : Fin 96) (v : Nat)
  /-- CONTINUOUS_COMPARATOR_CHANGE (R188): In a continuous mode, the input of a monitor crosses a threshold and a comparator decides. -/
  | continuousComparatorChange (m : Fin 96) (v : Nat)
  /-- CAPTURE_SATURATE (R194): The count of a capture timer saturates at 0xFFFF_FFFF, which sets SAT and LOST and fires EV189. -/
  | captureSaturate (t : Fin 16)
  /-- CT_CTRL_ARM (R194): The host arms a capture timer, or the write is refused when CT_MODE is 0. -/
  | ctCtrlArm (t : Fin 16)
  /-- CT_CTRL_MISSED_CLR (R202): The host clears MISSED of a capture timer. -/
  | ctCtrlMissedClr (t : Fin 16)
  /-- CT_PRESCALE_WRITE (R197): A protected PRESCALE trim abandons the count and re-arms the timer. -/
  | ctPrescaleWrite (t : Fin 16) (v : BitVec 4)
  /-- CT_RES_READ (R195): A read of the low byte of CT_RES takes a snapshot of the capture result set. -/
  | ctResRead (t : Fin 16) (count : Nat)
  /-- WM_CTRL_SELFTEST (R199): The host starts a monitor self-test, or the write is refused. -/
  | wmCtrlSelftest (m : Fin 96)
  /-- SELF_TEST_SAMPLE (R198): One check sample of a self-test is taken, with the outputs frozen. -/
  | selfTestSample (m : Fin 96) (low high : Bool) (v : Nat)
  /-- SWEEP_VISIT (R200): The sweep interval expires, and the next monitor is tested or skipped. -/
  | sweepVisit
  /-- WM_SWEEP_CTRL_WRITE (R200): A write of the sweep interval and tap, which the supervisor stores in the settings store. -/
  | wmSweepCtrlWrite (v : BitVec 16)
  /-- WM_CTRL_TALLY_CLR (R202): The host clears TRIPS and WM_TALLY. -/
  | wmCtrlTallyClr (m : Fin 96)
  /-- WM_TICK_WRITE (R202): A protected trim of the wick TICK of a monitor. -/
  | wmTickWrite (m : Fin 96) (v : BitVec 10)
  /-- WM_LOW_WRITE (R202): A protected trim of LOW and HYST, or the write is refused. -/
  | wmLowWrite (m : Fin 96) (v : BitVec 16)
  /-- WM_HIGH_WRITE (R202): A protected trim of HIGH and FILTER, or the write is refused. -/
  | wmHighWrite (m : Fin 96) (v : BitVec 16)
  /-- HK_ROUND_START (R203): A housekeeping round starts at a tick, every HK_ROUND ms. -/
  | hkRoundStart
  /-- HK_CONVERSION_DONE (R203): One channel conversion of the round completes, and the value is checked and stored. -/
  | hkConversionDone (ch : Fin 160) (val : BitVec 16) (q : HkReading)
  /-- HK_CONVERSION_TIMEOUT (R204): A conversion does not complete within 20 us, and the sample is dropped. -/
  | hkConversionTimeout (ch : Fin 160)
  /-- HK_ROUND_LATE (R204): A round has not completed within 2 x HK_ROUND, which sets SLOW and fires EV126. -/
  | hkRoundLate
  /-- HK_CTRL_TALLY_CLR (R217): The host clears HK_TALLY. -/
  | hkCtrlTallyClr
  /-- TH_LEVEL_WRITE (R217): A protected trim of T_WARN, T_DIM or T_TRIP, or the write is refused. -/
  | thLevelWrite (lvl : ThLevel) (v : BitVec 16)
  /-- HK_RES_READ (R214): A read of the low byte of HK_RES takes a snapshot of all 160 channels. -/
  | hkResRead (count : Nat)
  /-- TH_RES_READ (R214): A read of the low byte of TH_RES takes a snapshot of the temperature result set. -/
  | thResRead (count : Nat)
  /-- RIDE_COMPARATOR_TRIP (R223): The bus bar falls below BUS_RISE, and the BATTERY rail enters RIDE and discharges. -/
  | rideComparatorTrip
  /-- RIDE_COMPARATOR_CLEAR (R225): The ride comparator clears in RIDE, and the state becomes HANDBACK. -/
  | rideComparatorClear
  /-- HANDBACK_EXPIRY (R225): The comparator has stayed clear for HANDBACK ms: the rail changes to charge or IDLE, counters are written and the ride result is published. -/
  | handbackExpiry
  /-- MAX_RIDE_EXPIRY (R224): MAX_RIDE seconds pass since RIDE entry. -/
  | maxRideExpiry
  /-- BUS_BAR_QUALIFIED (R219): The bus bar qualifies after BUS_QUAL at or above BUS_RISE. -/
  | busBarQualified
  /-- BUS_BAR_ABSENT (R219): The bus bar falls below the LOW threshold of BUS_MON and becomes absent. -/
  | busBarAbsent
  /-- SHARE_SAMPLE (R226): The 1 ms reading of SHARE, which judges its validity. -/
  | shareSample (uv : Int)
  /-- SHARE_LOOP_STEP (R227): The 1 ms share-loop comparison moves the BRIDGE targets by one code. -/
  | shareLoopStep
  /-- HU_CAP_WRITE (R229): The host writes the host cap. -/
  | huCapWrite (v : BitVec 16)
  /-- MB_TRANSACTION_DONE (R232): A module-bus transaction ends, successfully or failed. -/
  | mbTransactionDone (res : MbResult)
  /-- MB_FAILURE_RETRY (R233): The 10 ms retry of a failed module-bus transaction. -/
  | mbFailureRetry (c : Fin 16)
  /-- MB_BUSY_RETRY (R233): The 1 ms retry of a cartridge that NACKed its address while busy. -/
  | mbBusyRetry (c : Fin 16)
  /-- MB_LOW_TIMEOUT (R233): Clock stretching or a low SCL or SDA passes 25 ms, and the transaction fails. -/
  | mbLowTimeout (sdaStuck : Bool)
  /-- CARTRIDGE_STATUS_POLL (R235): The 1 s read of each enabled cartridge's STATUS. -/
  | cartridgeStatusPoll (c : Fin 16)
  /-- AUTH_POLL (R236): The 5 ms poll of AUTH_STAT during authentication. -/
  | authPoll (c : Fin 16)
  /-- AUTH_TIMEOUT (R236): No response is ready within 100 ms, and the authentication fails. -/
  | authTimeout (c : Fin 16)
  /-- REAUTH_TIMER (R236): 24 h pass, and a connected cartridge is authenticated again. -/
  | reauthTimer (c : Fin 16)
  /-- COUNTER_WRITE_PERIOD (R237): CTR_PERIOD minutes pass, and the counters are written to each cartridge's older bank. -/
  | counterWritePeriod
  /-- BC_CTRL_RESCAN (R235): The host requests that cartridge INDEX be examined afresh. -/
  | bcCtrlRescan (c : Fin 16)
  /-- HU_CTRL_TALLY_CLR (R242): The host clears MB_TALLY and BC_TALLY. -/
  | huCtrlTallyClr
  /-- HU_RES_READ (R225): A read of the low byte of HU_RES takes a snapshot of the ride result set. -/
  | huResRead (count : Nat)
  /-- FAULTN_RELEASE_TIMER (R251): 10 ms pass after the latest ERRPIN firing in FAULTN_MODE 0, and FAULT_N is released. -/
  | faultnReleaseTimer
  /-- CRESET_RESTART (R248): After a CRESET, the freezes and the last-gasp write complete, and the device restarts from step 2 of Table 3.1. -/
  | cresetRestart (straps : Straps)
  /-- BLOCK_RESET_COMPLETE (R245): The block reset of a BRESET reaction completes. -/
  | blockResetComplete (b : Block)
  /-- EV_STAT_CLEAR (R250): A W1C write clears pending bits, and INT_N is released when no enabled pending pair remains. -/
  | evStatClear (i : Fin 12) (v : BitVec 16)
  /-- EV_IEN_WRITE (R250): A write of the interrupt enables, which updates INT_N. -/
  | evIenWrite (i : Fin 12) (v : BitVec 16)
  /-- EV_CTRL_FAULTN_CLR (R251): The host releases a latched FAULT_N in FAULTN_MODE 1, or the write is refused. -/
  | evCtrlFaultnClr
  /-- EV_CTRL_UNFENCE (R245): The host releases the fenced unit of source EV_SEL, or the write is refused. -/
  | evCtrlUnfence
  /-- EV_CTRL_BLK_RELEASE (R247): The host releases every held block. -/
  | evCtrlBlkRelease
  /-- EV_CTRL_HOLD_CLR (R248): The host clears CRESET_HOLD. -/
  | evCtrlHoldClr
  /-- EV_CTRL_CNT_CLR (R256): The host clears COUNT of source EV_SEL. -/
  | evCtrlCntClr
  /-- TALLY_CTRL_CLR_ALL (R253): The host clears every tally, or the write is refused while a proof window is open. -/
  | tallyCtrlClrAll
  /-- EV_TIME_READ (R256): A read of the lowest byte of EV_TIME takes a snapshot of EV_INFO and EV_TIME. -/
  | evTimeRead (count : Nat)
  /-- TALLY_READ (R253): A read of the lowest byte of a tally takes a snapshot of its 32-bit value. -/
  | tallyRead (i : Fin 32) (count : Nat)
  /-- TEST_CHALLENGE (R255): The factory equipment requests a challenge, which is answered with DEV_UID and a fresh challenge. -/
  | testChallenge (tag : BitVec 8) (q : SpEnd)
  /-- TEST_ENTER (R255): The factory authenticator is checked, and factory test mode is entered or the request is refused. -/
  | testEnter (tag : BitVec 8) (q : SpEnd) (payload : List (BitVec 8))
  /-- SUPPLY_RANGE_EXIT (R396): A supply leaves its supply-range limits, and EV184 is raised. -/
  | supplyRangeExit (k : Fin 5)
  /-- SUPPLY_RANGE_CLEAR (R396): Every supply has stood within range for 1 ms, and the supply-range condition clears. -/
  | supplyRangeClear
  /-- PAIR_LINK_UP (R259): Word alignment of the pair link has been held for 1 ms, and the link is up. -/
  | pairLinkUp
  /-- PAIR_LINK_LOSS (R259): No good frame arrives for 20 us, or alignment is lost: EV152 fires and the standby leaves step. -/
  | pairLinkLoss
  /-- PL_SYNC_HEALTH_SEND (R259): The 8 us sending of SYNC and HEALTH frames. -/
  | plSyncHealthSend
  /-- PL_STATE_SEND (R259): The full STATE frame is sent every 10 ms. -/
  | plStateSend
  /-- PL_CTRL_RETRY_TIMER (R260): A CTRL frame has no ACK within 2 us, so it is resent or, after 3 repeats, a link error is raised. -/
  | plCtrlRetryTimer (seq : BitVec 8)
  /-- PL_ACK (R260): An ACK frame is received for a CTRL frame. -/
  | plAck (crcOk : Bool) (seq : BitVec 8)
  /-- PL_YIELD (R271): A YIELD is received, and an in-step standby prepares to assert OWN_N at the next origin or answers REFUSE. -/
  | plYield (crcOk : Bool) (seq : BitVec 8)
  /-- PL_REFUSE (R270): A REFUSE is received: YIELD_BLOCKED is set and the held reactions are carried out. -/
  | plRefuse (crcOk : Bool) (seq : BitVec 8)
  /-- PL_TAKE_REQ (R276): A TAKE_REQ is received, and the active yields or refuses. -/
  | plTakeReq (crcOk : Bool) (seq : BitVec 8)
  /-- PL_FENCE (R264): A fence command is received and applied to the standby's own streams. -/
  | plFence (crcOk : Bool) (seq : BitVec 8) (n : Fin 64)
  /-- PL_UNFENCE (R264): An unfence command is received and applied. -/
  | plUnfence (crcOk : Bool) (seq : BitVec 8) (n : Fin 64)
  /-- PL_SNUFF (R264): A snuff command is received and applied. -/
  | plSnuff (crcOk : Bool) (seq : BitVec 8) (r : Fin 24)
  /-- PL_UNSNUFF (R264): An unsnuff command is received and applied. -/
  | plUnsnuff (crcOk : Bool) (seq : BitVec 8) (r : Fin 24)
  /-- PL_SHED_ANNOUNCEMENT (R264): A shed announcement is received and applied. -/
  | plShedAnnouncement (crcOk : Bool) (seq : BitVec 8) (r : Fin 24)
  /-- PL_RELIGHT (R264): A re-light command is received and applied. -/
  | plRelight (crcOk : Bool) (seq : BitVec 8) (m : RelightMsg)
  /-- PL_DIRECTION_CHANGE (R264): A direction-change command is received and applied. -/
  | plDirectionChange (crcOk : Bool) (seq : BitVec 8) (discharge : Bool)
  /-- PL_LAMPLIGHTER_STEP (R264): A lamplighter step is received and applied. -/
  | plLamplighterStep (crcOk : Bool) (seq : BitVec 8) (n : Fin 48) (on : Bool)
  /-- PL_SLOT_VERDICT (R265): A slot or standby verdict is received and compared with the active's own verdicts. -/
  | plSlotVerdict (crcOk : Bool) (seq : BitVec 8) (v : Verdict)
  /-- PL_DOMAIN_SHUTOFF (R264): A domain shut-off command is received and applied. -/
  | plDomainShutoff (crcOk : Bool) (seq : BitVec 8) (mask : BitVec 8)
  /-- PL_TRIM (R264): A forwarded trim is received and applied. -/
  | plTrim (crcOk : Bool) (seq : BitVec 8) (addr v : BitVec 16)
  /-- PL_SYNC (R263): A SYNC frame is received, and the standby corrects its u histories. -/
  | plSync (crcOk : Bool) (entries : List SyncEntry)
  /-- PL_HEALTH (R261): A HEALTH frame is received, and the in-step status and timebase alignment are updated. -/
  | plHealth (crcOk : Bool) (h : Health)
  /-- PL_STATE (R259): A STATE frame is received, and the standby takes over the shared state. -/
  | plState (crcOk : Bool) (t : TwinShared)
  /-- PL_REPORT (R215): A REPORT frame is received with the twin's temperature maximum, taps and VOUT. -/
  | plReport (crcOk : Bool) (rep : TwinReport)
  /-- PL_STREAM (R266): A STREAM frame is received, and the standby sends its copy of the message. -/
  | plStream (crcOk : Bool) (m : StreamMsg)
  /-- OWNERSHIP_DECISION (R268): After READY, the 100 ms or 200 ms wait of a pair unit ends, and it becomes ACTIVE or STANDBY. -/
  | ownershipDecision
  /-- HANDOVER_ORIGIN (R271): At a reference-rail origin, the standby asserts OWN_N or defers, and EV151 fires. -/
  | handoverOrigin
  /-- PEER_OWN_N_CHANGE (R271): PEER_OWN_N changes after its 40 ns filter. -/
  | peerOwnNChange (asserted : Bool)
  /-- OWN_RELEASE (R271): SEL_TIME + 50 ns after seeing PEER_OWN_N, the old active releases OWN_N and its drivers. -/
  | ownRelease
  /-- OWN_CONFLICT (R275): OWN_N of both units, or of neither, persists for one reference period, and EV155 fires. -/
  | ownConflict
  /-- REVERT_HOLD_EXPIRY (R276): The revert hold-off ends, and the PREF unit sends TAKE_REQ or the revert is withheld. -/
  | revertHoldExpiry
  /-- VERDICT_TIMEOUT (R265): The active has not matched a standby verdict within 20 us, and EV153 fires. -/
  | verdictTimeout
  /-- PAIR_CTRL_YIELD (R277): The host asks the active to yield. -/
  | pairCtrlYield
  /-- PAIR_CTRL_TAKE (R277): The host asks the standby to request ownership. -/
  | pairCtrlTake
  /-- PAIR_CTRL_FLAP_CLR (R277): The host clears the revert count. -/
  | pairCtrlFlapClr
  /-- PAIR_CTRL_NO_REVERT (R277): A write of NO_REVERT suspends or resumes the automatic revert. -/
  | pairCtrlNoRevert (on : Bool)
  /-- PAIR_CTRL_TALLY_CLR (R281): The host clears PAIR_TALLY. -/
  | pairCtrlTallyClr
  /-- OV_LINK_ALIGNED (R284): Word alignment has been held for 1 ms on an Ovrath port, and LINK frames are exchanged. -/
  | ovLinkAligned (k : Fin 6)
  /-- OV_LINK_FRAME (R284): A LINK frame is received, and the port is admitted or refused and its link delay measured. -/
  | ovLinkFrame (k : Fin 6) (e : FrameEnd) (l : LinkInfo)
  /-- OV_LINK_FRAME_SEND (R284): The 100 us sending of LINK frames on an UP port. -/
  | ovLinkFrameSend (k : Fin 6)
  /-- OV_LINK_DOWN (R284): A link goes DOWN on lost alignment or 300 us without a LINK frame, retrains and fires EV156 + 2k. -/
  | ovLinkDown (k : Fin 6) (why : LinkLoss)
  /-- OV_FRAME_FORWARD (R291): A frame not ending at the device is forwarded cut-through with HOPS, CORR and CRC updated. -/
  | ovFrameForward (k : Fin 6) (e : FrameEnd) (f : OvFrame)
  /-- OV_CREDIT_RETURN (R293): A K23.7 credit return is received for a class. -/
  | ovCreditReturn (k : Fin 6) (cls : Fin 4) (credits : Nat)
  /-- OV_ENUM (R285): An ENUM frame starts enumeration at the device. -/
  | ovEnum (k : Fin 6) (e : FrameEnd) (h : OvHdr)
  /-- OV_COUNT (R285): A COUNT frame reports the device count of a subtree. -/
  | ovCount (k : Fin 6) (e : FrameEnd) (h : OvHdr) (n : Nat)
  /-- OV_COUNT_TIMEOUT (R285): 10 ms after ENUM, a device sends its COUNT without waiting for every port. -/
  | ovCountTimeout
  /-- OV_ASSIGN (R285): An ASSIGN frame gives the device its range, and it assigns its down ports. -/
  | ovAssign (k : Fin 6) (e : FrameEnd) (h : OvHdr) (base len : Nat)
  /-- OV_TRIP (R297): A class-0 TRIP frame reaches the acting root. -/
  | ovTrip (k : Fin 6) (e : FrameEnd) (f : Ov0)
  /-- OV_YIELD (R297): A class-0 YIELD frame reaches the acting root. -/
  | ovYield (k : Fin 6) (e : FrameEnd) (f : Ov0)
  /-- OV_SUMMARY (R295): A SUMMARY frame of merged class-0 frames reaches the acting root. -/
  | ovSummary (k : Fin 6) (e : FrameEnd) (f : Ov0)
  /-- OV_SUMMARY_WINDOW_END (R295): The 2 us source-limiter window ends, and a pending SUMMARY is sent. -/
  | ovSummaryWindowEnd (k : Fin 6)
  /-- OV_BAR_ACK (R303): A BAR_ACK frame is received for a barrier. -/
  | ovBarAck (k : Fin 6) (e : FrameEnd) (f : Ov0)
  /-- OV_SNAP_ACK (R304): A SNAP_ACK frame is received for a snapshot. -/
  | ovSnapAck (k : Fin 6) (e : FrameEnd) (f : Ov0)
  /-- OV_TMARK (R300): A TMARK frame is stamped on arrival and forwarded. -/
  | ovTmark (k : Fin 6) (e : FrameEnd) (f : Ov0)
  /-- OV_BARRIER (R303): A BARRIER frame is acted on, and the device prepares its BAR_ACK. -/
  | ovBarrier (k : Fin 6) (e : FrameEnd) (f : Ov0)
  /-- OV_SNAP (R304): A SNAP frame sets the capture instant of a snapshot. -/
  | ovSnap (k : Fin 6) (e : FrameEnd) (f : Ov0)
  /-- OV_RESET (R306): A cascade RESET resets every Ovrath port island and retrains. -/
  | ovReset (k : Fin 6) (e : FrameEnd) (f : Ov0)
  /-- OV_FTRIP (R298): An FTRIP frame acts as a host SHUTOFF on the masked domains. -/
  | ovFtrip (k : Fin 6) (e : FrameEnd) (f : Ov0)
  /-- OV_FSTART (R298): An FSTART frame acts as a host START on the masked domains. -/
  | ovFstart (k : Fin 6) (e : FrameEnd) (f : Ov0)
  /-- OV_ROOTCHG (R312): A ROOTCHG frame names a new acting root. -/
  | ovRootchg (k : Fin 6) (e : FrameEnd) (f : Ov0)
  /-- OV_GRAFT (R311): A GRAFT frame installs a graft entry, or is refused when the table is full. -/
  | ovGraft (k : Fin 6) (e : FrameEnd) (h : OvHdr) (base len : Nat)
  /-- OV_UNGRAFT (R311): An UNGRAFT frame removes a graft entry. -/
  | ovUngraft (k : Fin 6) (e : FrameEnd) (h : OvHdr) (base len : Nat)
  /-- OV_RD_REQ (R307): A remote read request is executed as a host read and answered with RESP. -/
  | ovRdReq (k : Fin 6) (e : FrameEnd) (h : OvHdr) (addr : BitVec 16) (count : Nat)
  /-- OV_WR_REQ (R307): A remote write request is executed as a host write and answered with RESP. -/
  | ovWrReq (k : Fin 6) (e : FrameEnd) (h : OvHdr) (addr : BitVec 16) (data : List (BitVec 8))
  /-- OV_RESP (R307): A RESP frame ends an outstanding transaction. -/
  | ovResp (k : Fin 6) (e : FrameEnd) (h : OvHdr) (status : BitVec 8) (data : List (BitVec 8))
  /-- OV_TIME (R300): A TIME frame corrects the global-time counter by slew or step. -/
  | ovTime (k : Fin 6) (e : FrameEnd) (h : OvHdr) (mark : BitVec 16) (markMs : BitVec 16) (time : BitVec 64)
  /-- OV_ROLE (R312): A ROLE frame from the root makes the deputy stop acting as root. -/
  | ovRole (k : Fin 6) (e : FrameEnd) (h : OvHdr) (acting : Bool)
  /-- OV_SHARE_SP (R298): A SHARE_SP frame sets the share set-point. -/
  | ovShareSp (k : Fin 6) (e : FrameEnd) (h : OvHdr) (v : BitVec 16)
  /-- OV_CAP (R298): A CAP frame sets HU_CAP_ROOT. -/
  | ovCap (k : Fin 6) (e : FrameEnd) (h : OvHdr) (v : BitVec 16)
  /-- OV_ACTIVATE (R379): An ACTIVATE frame schedules an activation. -/
  | ovActivate (k : Fin 6) (e : FrameEnd) (h : OvHdr) (a : ActivateCmd)
  /-- OV_EVREC (R297): An EVREC frame of an event record is received. -/
  | ovEvrec (k : Fin 6) (e : FrameEnd) (h : OvHdr) (rec : EvRec)
  /-- OV_SNAPREC (R305): A SNAPREC frame of a snapshot record is received. -/
  | ovSnaprec (k : Fin 6) (e : FrameEnd) (h : OvHdr) (payload : List (BitVec 8))
  /-- OV_IMG_DATA (R367): An IMG_DATA frame stages image data. -/
  | ovImgData (k : Fin 6) (e : FrameEnd) (h : OvHdr) (imgId offset : BitVec 32) (data : List (BitVec 8))
  /-- OV_PARK (R314): A K28.1 park symbol is received, and the port becomes PARKED. -/
  | ovPark (k : Fin 6)
  /-- OV_MARK_TIMER (R300): Every MARK ms, the acting root sends a TMARK and then TIME. -/
  | ovMarkTimer
  /-- OV_TIME_HOLD (R301): No usable mark pair arrives for 3 x MARK, and TIME_HOLD is set. -/
  | ovTimeHold
  /-- OV_BARRIER_TIMEOUT (R303): 1 ms after acting on a barrier, a device answers without the silent ports. -/
  | ovBarrierTimeout
  /-- OV_SNAP_CAPTURE (R304): The capture instant of a snapshot is reached, and the snapshot fields are recorded. -/
  | ovSnapCapture
  /-- OV_TXN_TIMEOUT (R307): A transaction has had no RESP for 50 ms, ends with TIMEOUT and frees its tag. -/
  | ovTxnTimeout (tag : BitVec 7)
  /-- OV_AUTO_REROUTE (R310): OP0 has not been UP for 1 ms with SPARE = 1, and the device reroutes to OP1 and sends GRAFT. -/
  | ovAutoReroute
  /-- OV_DEPUTY_TAKEOVER (R312): The deputy loses OP0 for 10 ms and TMARKs for 3 x MARK, and becomes the acting root. -/
  | ovDeputyTakeover
  /-- OV_CTRL_ENUM (R285): The host starts an enumeration at the acting root. -/
  | ovCtrlEnum
  /-- OV_CTRL_BARRIER (R303): The host starts a barrier. -/
  | ovCtrlBarrier
  /-- OV_CTRL_SNAP (R304): The host starts a snapshot. -/
  | ovCtrlSnap
  /-- OV_CTRL_RESET (R306): The host starts a cascade reset. -/
  | ovCtrlReset
  /-- OV_CTRL_REROUTE (R310): The host moves up traffic to OP1. -/
  | ovCtrlReroute
  /-- OV_CTRL_RETURN (R311): The host moves up traffic back to OP0 and sends UNGRAFT. -/
  | ovCtrlReturn
  /-- OV_CTRL_RECLAIM (R312): The host of the root reclaims the root role. -/
  | ovCtrlReclaim
  /-- OV_TXN_GO (R307): The host sends a mailbox transaction. -/
  | ovTxnGo
  /-- OV_TIME_SET_WRITE (R299): Writing the highest byte of OV_TIME_SET loads global time where allowed. -/
  | ovTimeSetWrite (v : BitVec 64)
  /-- OV_TIME_READ (R299): A read of the lowest byte of OV_TIME takes a snapshot of global time. -/
  | ovTimeRead (count : Nat)
  /-- LEDGER_BLOCK_WRITE (R326): A coded block is written to its channel page, after its Lpre delay. -/
  | ledgerBlockWrite (ch : Fin 64) (samples : List (BitVec 12)) (t0 : BitVec 64)
  /-- RECORD_CLOSE (R325): The END of an open record is reached, and the record closes. -/
  | recordClose
  /-- ARCHIVE_FLUSH_START (R334): At most once a second, the oldest closed record begins flushing to the archive. -/
  | archiveFlushStart
  /-- ARCHIVE_FLUSH_DONE (R334): A record's flush completes with its header sector. -/
  | archiveFlushDone
  /-- LAST_GASP_WRITE_DONE (R332): The last-gasp bank write completes with DIR_CRC. -/
  | lastGaspWriteDone (complete : Bool)
  /-- ECC_ERROR (R330): An ECC error is found: a single bit is corrected, or a double bit marks DAMAGED and fires EV171. -/
  | eccError (site : EccSite) (double : Bool)
  /-- LG_CTRL_TRIGGER (R325): The host opens a host record. -/
  | lgCtrlTrigger
  /-- LG_CTRL_RELEASE (R327): The host releases record LG_REC_SEL, or the write is refused when it is open. -/
  | lgCtrlRelease
  /-- LG_CTRL_FLUSH_HOLD (R334): A write of FLUSH_HOLD stops or allows new flushes. -/
  | lgCtrlFlushHold (on : Bool)
  /-- LG_CTRL_TALLY_CLR (R339): The host clears LG_TALLY. -/
  | lgCtrlTallyClr
  /-- LG_REC_INFO_READ (R339): A read of the low byte of LG_REC_INFO takes a snapshot of the record set. -/
  | lgRecInfoRead (count : Nat)
  /-- LG_WIN_SEL_WRITE (R392): A write of the ledger window space, which refetches the window buffer. -/
  | lgWinSelWrite (v : BitVec 16)
  /-- LG_WIN_OFS_WRITE (R392): A write of the ledger window offset, which refetches the window buffer. -/
  | lgWinOfsWrite (v : BitVec 32)
  /-- PRB_SEL_WRITE (R391): A write of the pattern-readback source and page, which refetches the buffer. -/
  | prbSelWrite (v : BitVec 16)
  /-- LEDGER_WINDOW_READ (R390): A read in the ledger window returns buffered bytes and prefetches the next line. -/
  | ledgerWindowRead (ofs : BitVec 14) (count : Nat)
  /-- PATTERN_WINDOW_READ (R391): A read in the pattern-readback window returns buffered bytes and prefetches. -/
  | patternWindowRead (ofs : BitVec 14) (count : Nat)
  /-- WINDOW_LINE_FETCH (R392): A 32-byte window line arrives in the buffer. -/
  | windowLineFetch (pat : Bool) (line : Nat)
  /-- HB_SET_POINTER (R342): A host transaction sets the pointer, or an odd pointer is refused with BAD_PTR. -/
  | hbSetPointer (p : PtrBytes) (count : Nat)
  /-- REGISTER_WRITE (R344): A host write of a register that has no row of its own takes effect when its high byte is acknowledged. -/
  | registerWrite (ptr : BitVec 16) (data : List (BitVec 8))
  /-- HB_LOW_TIMEOUT (R350): SCL or SDA is held low for LOW_TO: SDA is released, the transaction is abandoned and EV172 fires. -/
  | hbLowTimeout (line : BusLine)
  /-- ATTN_ATTEMPT (R354): Once the bus is free, the controller makes an attempt to send the head attention record. -/
  | attnAttempt (res : AttnResult)
  /-- ATTN_BACKOFF_EXPIRY (R354): The random back-off after a failed attempt ends, and the record is retried or abandoned with EV173. -/
  | attnBackoffExpiry
  /-- HB_RECOVERY (R356): SDA is still low 10 us after a timeout, and up to 9 SCL pulses and a STOP recover the bus. -/
  | hbRecovery (pulses : Nat)
  /-- HB_CTRL_TALLY_CLR (R360): The host clears HB_TALLY and HB_ATTN_TALLY. -/
  | hbCtrlTallyClr
  /-- HB_CTRL_FLUSH (R360): The host discards every queued attention record, counted as lost. -/
  | hbCtrlFlush
  /-- HB_CTRL_RECOVER (R356): The host starts bus recovery now, or the write is refused during an attempt. -/
  | hbCtrlRecover (pulses : Nat)
  /-- GLB_UNLOCK_WRITE (R387): A write of GLB_UNLOCK arms, unlocks or locks a path, or breaks the sequence. -/
  | glbUnlockWrite (path : Path) (v : BitVec 16)
  /-- UNLOCK_DISARM_TIMEOUT (R388): 1 ms passes without KEY2, and the path is disarmed. -/
  | unlockDisarmTimeout (ov : Bool)
  /-- UNLOCK_IDLE_LOCK (R389): 10 s pass without an accepted protected write, and the path locks. -/
  | unlockIdleLock (ov : Bool)
  /-- SP_FETCH (R362): A fetch transfer returns the response to the latest request. -/
  | spFetch
  /-- SP_OPEN (R365): The OPEN command opens a READOUT, UPDATE or FACTORY session, or is refused. -/
  | spOpen (tag : BitVec 8) (q : SpEnd) (mode : BitVec 8)
  /-- SP_CLOSE (R365): The CLOSE command closes the session. -/
  | spClose (tag : BitVec 8) (q : SpEnd)
  /-- SP_INFO (R365): The INFO command returns the identity and update state. -/
  | spInfo (tag : BitVec 8) (q : SpEnd)
  /-- SP_READ (R365): The READ command returns bytes of a ledger or pattern space. -/
  | spRead (tag : BitVec 8) (q : SpEnd) (space : BitVec 8) (ofs : BitVec 32) (count : BitVec 16)
  /-- SP_STAGE_BEGIN (R367): STAGE_BEGIN checks an image header and starts staging into the inactive slot. -/
  | spStageBegin (tag : BitVec 8) (q : SpEnd) (payload : List (BitVec 8))
  /-- SP_STAGE_DATA (R367): STAGE_DATA writes image data in ascending order. -/
  | spStageData (tag : BitVec 8) (q : SpEnd) (ofs : BitVec 32) (data : List (BitVec 8))
  /-- SP_STAGE_ABORT (R367): STAGE_ABORT abandons the staging. -/
  | spStageAbort (tag : BitVec 8) (q : SpEnd)
  /-- SP_ACTIVATE (R370): The ACTIVATE command activates a verified image now or at a scheduled time. -/
  | spActivate (tag : BitVec 8) (q : SpEnd) (imgId : BitVec 32) (confirm : BitVec 16) (atTime : BitVec 64)
  /-- SP_CANCEL (R379): The CANCEL command cancels a pending schedule. -/
  | spCancel (tag : BitVec 8) (q : SpEnd)
  /-- SP_REVERT (R370): The REVERT command reverts the pattern or the firmware. -/
  | spRevert (tag : BitVec 8) (q : SpEnd) (mode : BitVec 8)
  /-- SP_CONFIRM (R374): The CONFIRM command gives the confirmation of PROOF kind 0x08. -/
  | spConfirm (tag : BitVec 8) (q : SpEnd)
  /-- SP_MEM_ERASE (R365): The factory command MEM_ERASE erases a 4 KiB sector of external memory. -/
  | spMemErase (tag : BitVec 8) (q : SpEnd) (dev : BitVec 8) (ofs : BitVec 32)
  /-- SP_MEM_WRITE (R365): The factory command MEM_WRITE programs bytes within one page. -/
  | spMemWrite (tag : BitVec 8) (q : SpEnd) (dev : BitVec 8) (ofs : BitVec 32) (data : List (BitVec 8))
  /-- SP_MEM_READ (R365): The factory command MEM_READ reads external memory. -/
  | spMemRead (tag : BitVec 8) (q : SpEnd) (dev : BitVec 8) (ofs : BitVec 32) (count : BitVec 16)
  /-- SP_KEY_WRITE (R365): The factory command KEY_WRITE writes a key slot. -/
  | spKeyWrite (tag : BitVec 8) (q : SpEnd) (slot : BitVec 8) (key : List (BitVec 8))
  /-- SP_SESSION_TIMEOUT (R365): SESSION_TO passes without a good request, so the session closes and EV176 fires. -/
  | spSessionTimeout
  /-- OV_STAGING_SILENCE (R367): A staging over Ovrath is silent for SESSION_TO seconds and is ABANDONED. -/
  | ovStagingSilence
  /-- IMAGE_VERIFY (R367): The last image byte has arrived, and the CRC, signature and pattern checks make the image VERIFIED or FAILED. -/
  | imageVerify
  /-- CORE_CONFIRM (R370): A core on trial writes its confirmation, and the next core is activated. -/
  | coreConfirm (c : CoreId)
  /-- CORE_TRIAL_TIMEOUT (R370): CONFIRM ends without confirmation, so the core returns to its old image and EV178 fires. -/
  | coreTrialTimeout (c : CoreId)
  /-- PROOF_WINDOW_END (R374): The proof window ends, and the SEQ is recorded as proved. -/
  | proofWindowEnd
  /-- PAIR_SEQUENCE_HALT (R378): A unit is not back in step within CONFIRM + 10 s, so the standby-first sequence halts and EV178 fires. -/
  | pairSequenceHalt
  /-- SCHEDULED_ACTIVATION (R380): At the first tick at or after AT, a ready unit begins the activation or skips it with EV179. -/
  | scheduledActivation
  /-- UPD_CTRL_ACTIVATE (R379): The host activates the verified image now or at UPD_AT. -/
  | updCtrlActivate
  /-- UPD_CTRL_CANCEL (R379): The host cancels a pending schedule. -/
  | updCtrlCancel
  /-- UPD_CTRL_REVERT (R370): The host reverts the kind chosen by KIND_SEL. -/
  | updCtrlRevert
  /-- UPD_CTRL_CONFIRM (R374): The host gives the confirmation of PROOF kind 0x08. -/
  | updCtrlConfirm
  /-- CONTINUOUS_FILTER_EXPIRY (R188): In a continuous mode with FILTER above 1, the input has lain beyond its threshold for (f - 1) x tRESP since the first decision, and the comparator trips. -/
  | continuousFilterExpiry (m : Fin 96) (high : Bool)
  /-- GROUND_HOLD_EXPIRY (R269): A self-diagnosis ground whose condition has ended stops standing 1 s later, which lets the in-step and revert hold-off counts begin. -/
  | groundHoldExpiry
  /-- FLAP_WINDOW_EXPIRY (R276): A recorded revert ages out of the last 60 min of the real-time clock, and PAIR_REVERT.FLAPS falls, which may allow a withheld revert. -/
  | flapWindowExpiry
  /-- STREAM_FRAME_TIMEOUT (R259): A pair-link STREAM frame that has found no room within 1 ms is dropped and counted in PAIR_TALLY.CRC as a loss. -/
  | streamFrameTimeout
  /-- OV_UNLISTED_TYPE (R297): An Ovrath frame of a TYPE that Table 13.5 does not list ends at the device, and is dropped and counted in OV_PORT_DROP. -/
  | ovUnlistedType (k : Fin 6) (e : FrameEnd)
  /-- SP_UNKNOWN_COMMAND (R365): A service-port request with a CMD not in Table 16.3 is answered BAD_CMD. -/
  | spUnknownCommand (cmd tag : BitVec 8) (q : SpEnd)
  /-- HOST_BUS_STOP (R344): A host-bus transaction ends after a lone low byte or a partial wide value, so that part is discarded and HB_STAT.ODD is set. -/
  | hostBusStop
deriving DecidableEq, Repr

end Sys2Proof
end

