-- ==== Sys2Proof/Machine/Crypto.lean ====
section
/-! DEFINITION. The check codes and the cryptography that the spec names: CRC-32 (R44), the CRC-16 of the service port and
of pair and Ovrath frames, the CRC-8 of the load link and the module bus, SHA-256, HMAC-SHA-256 and ECDSA-P256. The hash
and signature algorithms are named by the spec and taken from their public standards (PRESUMED, log entry 6). -/
namespace Sys2Proof.Machine

/-- One bit of the reflected CRC-32 of R44. -/
def crc32Bit (c : Nat) : Nat := if c % 2 = 1 then (c / 2) ^^^ 0xEDB88320 else c / 2

/-- One byte of the reflected CRC-32 of R44. -/
def crc32Byte (c : Nat) (b : Byte) : Nat :=
  crc32Bit (crc32Bit (crc32Bit (crc32Bit (crc32Bit (crc32Bit (crc32Bit (crc32Bit (c ^^^ b.toNat))))))))

/-- CRC-32 of R44: polynomial 0x04C11DB7 reflected, initial value and final XOR 0xFFFFFFFF. -/
def crc32 (bs : List Byte) : Nat := bs.foldl crc32Byte 0xFFFFFFFF ^^^ 0xFFFFFFFF

/-- One bit of a CRC of width `w`, most significant bit first. -/
def crcMsbBit (w poly c : Nat) : Nat := if natBit c (w - 1) then (2 * c % 2 ^ w) ^^^ poly else 2 * c % 2 ^ w

/-- One byte of a CRC of width `w`, most significant bit first. -/
def crcMsbByte (w poly c : Nat) (b : Byte) : Nat :=
  (List.range 8).foldl (fun x _ => crcMsbBit w poly x) (c ^^^ (b.toNat * 2 ^ (w - 8)))

/-- A CRC of width `w`, most significant bit first. -/
def crcMsb (w poly init : Nat) (bs : List Byte) : Nat := bs.foldl (crcMsbByte w poly) init

/-- A 32-bit word of SHA-256. -/
abbrev W32 := BitVec 32

/-- The greatest number whose `k`-th power does not exceed `n`, bit by bit below bit `b`, from `r` up. -/
def rootUp (k n : Nat) : Nat → Nat → Nat
  | 0, r => r
  | b + 1, r => rootUp k n b (if (r + 2 ^ b) ^ k ≤ n then r + 2 ^ b else r)

/-- The first 32 bits of the fractional part of the `k`-th root of a small number. -/
def rootFrac (k p : Nat) : W32 := BitVec.ofNat 32 (rootUp k (p * 2 ^ (32 * k)) 37 0)

/-- The first 64 primes. -/
def primes64 : List Nat :=
  (List.range 312).filter (fun n => 2 ≤ n && (List.range 18).all (fun d => d < 2 || d == n || n % d != 0))

/-- The round constants of SHA-256: from the cube roots of the first 64 primes. -/
def shaK : List W32 := primes64.map (rootFrac 3)

/-- The initial hash value of SHA-256: from the square roots of the first 8 primes. -/
def shaInit : List W32 := (primes64.take 8).map (rootFrac 2)

/-- The big-endian number that bytes spell. -/
def beNat (bs : List Byte) : Nat := bs.foldl (fun a b => a * 256 + b.toNat) 0

/-- The `k` bytes of a number, most significant first. -/
def beBytes (k n : Nat) : List Byte := (leBytes k n).reverse

/-- The message schedule of one SHA-256 block, last word first. -/
def shaSchedule : Nat → List W32 → List W32
  | 0, w => w
  | k + 1, w =>
    let a := w.getD 1 0
    let b := w.getD 14 0
    let s1 := a.rotateRight 17 ^^^ a.rotateRight 19 ^^^ (a >>> 10)
    let s0 := b.rotateRight 7 ^^^ b.rotateRight 18 ^^^ (b >>> 3)
    shaSchedule k ((s1 + w.getD 6 0 + s0 + w.getD 15 0) :: w)

/-- One round of SHA-256 over the eight working variables. -/
def shaRound (h : List W32) (kw : W32 × W32) : List W32 :=
  match h with
  | [a, b, c, d, e, f, g, hh] =>
    let t1 := hh + (e.rotateRight 6 ^^^ e.rotateRight 11 ^^^ e.rotateRight 25) + ((e &&& f) ^^^ (~~~e &&& g)) + kw.1 + kw.2
    let t2 := (a.rotateRight 2 ^^^ a.rotateRight 13 ^^^ a.rotateRight 22) + ((a &&& b) ^^^ (a &&& c) ^^^ (b &&& c))
    [t1 + t2, a, b, c, d + t1, e, f, g]
  | other => other

/-- The big-endian words of a byte list. -/
def beWords : Nat → List Byte → List W32
  | 0, _ => []
  | k + 1, bs => BitVec.ofNat 32 (beNat (bs.take 4)) :: beWords k (bs.drop 4)

/-- One 64-byte block of SHA-256. -/
def shaBlock (h : List W32) (blk : List Byte) : List W32 :=
  let w := (shaSchedule 48 (beWords 16 blk).reverse).reverse
  List.zipWith (· + ·) h ((List.zip shaK w).foldl shaRound h)

/-- The blocks of a padded message. -/
def shaBlocks : Nat → List W32 → List Byte → List W32
  | 0, h, _ => h
  | k + 1, h, bs => shaBlocks k (shaBlock h (bs.take 64)) (bs.drop 64)

/-- SHA-256 of a byte list, 32 bytes. -/
def sha256 (m : List Byte) : List Byte :=
  let z := (119 - m.length % 64) % 64
  let p := m ++ [0x80] ++ List.replicate z 0 ++ beBytes 8 (8 * m.length)
  (shaBlocks (p.length / 64) shaInit p).flatMap
    (fun w => beBytes 4 w.toNat)

/-- HMAC-SHA-256. -/
def hmacSha256 (key msg : List Byte) : List Byte :=
  let k0 := if key.length > 64 then sha256 key else key
  let k := k0 ++ List.replicate (64 - k0.length) 0
  sha256 (k.map (· ^^^ 0x5c) ++ sha256 (k.map (· ^^^ 0x36) ++ msg))

/-- The P-256 field prime. -/
def p256p : Nat := 0xffffffff00000001000000000000000000000000ffffffffffffffffffffffff
/-- The P-256 group order. -/
def p256n : Nat := 0xffffffff00000000ffffffffffffffffbce6faada7179e84f3b9cac2fc632551
/-- The P-256 curve constant b. -/
def p256b : Nat := 0x5ac635d8aa3a93e7b3ebbd55769886bc651d06b0cc53b0f63bce3c3e27d2604b
/-- The P-256 base point. -/
def p256g : Nat × Nat :=
  (0x6b17d1f2e12c4247f8bce6e563a440f277037d812deb33a0f4a13945d898c296,
   0x4fe342e2fe1a7f9b8ee7eb4a7c0f9e162bce33576b315ececbb6406837bf51f5)

/-- `b ^ e` modulo `m`, over `k` bits of the exponent. -/
def powMod (m : Nat) : Nat → Nat → Nat → Nat
  | 0, _, _ => 1 % m
  | k + 1, b, e =>
    let r := powMod m k (b * b % m) (e / 2)
    if e % 2 = 1 then b * r % m else r

/-- The inverse modulo a 256-bit prime. -/
def invMod (m a : Nat) : Nat := powMod m 256 (a % m) (m - 2)

/-- Addition on the curve; `none` is the point at infinity. -/
def p256Add (a b : Option (Nat × Nat)) : Option (Nat × Nat) :=
  match a, b with
  | none, q => q
  | q, none => q
  | some (x1, y1), some (x2, y2) =>
    if x1 = x2 ∧ (y1 + y2) % p256p = 0 then none
    else
      let l := if x1 = x2 then (3 * x1 * x1 + (p256p - 3)) * invMod p256p (2 * y1) % p256p
               else (y2 + p256p - y1) * invMod p256p (x2 + p256p - x1) % p256p
      let x3 := (l * l + 2 * p256p - x1 - x2) % p256p
      some (x3, (l * (x1 + p256p - x3) + p256p - y1) % p256p)

/-- Scalar multiplication, over `k` bits of the scalar. -/
def p256Mul : Nat → Nat → Option (Nat × Nat) → Option (Nat × Nat)
  | 0, _, _ => none
  | k + 1, d, q =>
    let r := p256Mul k (d / 2) (p256Add q q)
    if d % 2 = 1 then p256Add q r else r

/-- ECDSA-P256 verification over a SHA-256 digest. Key and signature are 64 bytes each, two big-endian numbers. -/
def p256Verify (key sig digest : List Byte) : Bool :=
  let qx := beNat (key.take 32)
  let qy := beNat ((key.drop 32).take 32)
  let r := beNat (sig.take 32)
  let s := beNat ((sig.drop 32).take 32)
  if key.length ≠ 64 ∨ sig.length ≠ 64 then false
  else if qx ≥ p256p ∨ qy ≥ p256p ∨ (qy * qy) % p256p ≠ (qx * qx * qx + (p256p - 3) * qx + p256b) % p256p then false
  else if r = 0 ∨ r ≥ p256n ∨ s = 0 ∨ s ≥ p256n then false
  else
    let w := invMod p256n s
    let u1 := beNat digest * w % p256n
    let u2 := r * w % p256n
    match p256Add (p256Mul 256 u1 (some p256g)) (p256Mul 256 u2 (some (qx, qy))) with
    | none => false
    | some (x, _) => x % p256n == r

end Sys2Proof.Machine
end

