-- ==== Sys2Proof/Config.lean ====
section
/-! DEFINITION. What one device fixes and the spec does not give (die number, revision, the keys in on-die ROM), and the
free values. Each is a constant without a body: nothing can evaluate it, so a statement that mentions one holds for every
value of it. -/
namespace Sys2Proof

/-- DEV_REV [9:0] as fixed at manufacture (Table 17.11). A free value: log entry 2. -/
opaque Config.devRev : BitVec 10

/-- DEV_UID, the die number (Table 17.11). A free value: log entry 2. -/
opaque Config.devUid : BitVec 64

/-- The vendor's P-256 public key in on-die ROM (R367), 64 bytes X then Y as one number. A free value: log entry 2. -/
opaque Config.vendorKey : BitVec 512

/-- The factory key in on-die ROM (R255), never disclosed. A free value: log entry 2. -/
opaque Config.factoryKey : BitVec 256

/-- The key-store slot contents at manufacture are not given; an unwritten slot is absent (log entry 2). The n-th number
drawn from the on-die random generator, and every other value the spec leaves open after a command that goes on. The
state's `free` counter numbers the draws. A free value: log entry 3. -/
opaque Config.freeNat : Nat → Nat

/-- DIM_STEP of an absent THERMAL record, which Table 2.3 does not give. A free value: log entry 5. -/
opaque Config.builtinDimStep : Nat

/-- SESSION_TO of an absent SERVICE_PORT record, which Table 2.3 does not give. A free value: log entry 5. -/
opaque Config.builtinSessionTo : Nat

/-- CDC_RATE where no PAIR record stands, which Table 2.3 does not give (log entry 5). -/
opaque Config.builtinCdcRate : Nat

/-- A term of LIFE whose divisor is 0 (R238: RATED_AH of 0), in %, by the counted 0.001 Ah. A free value: log entry 3. -/
opaque Config.lifeByZero : Nat → Nat

/-- HK_CH_INFO.UNIT of a reserved channel, for which Table 9.1 gives no unit. A free value: log entry 148. -/
opaque Config.reservedUnit : Nat → BitVec 3

/-- Fields of the event-log entries that Table 14.5 names without giving their codes (R328): by KIND, by step, and by field
(0 for A where the step concerns no numbered unit, 1 for B, 2 for C where the step names no value). A free value: log
entry 31. -/
opaque Config.logField : Nat → Nat → Nat → Nat

/-- How many settings versions a supervisor image is older than the current one, by its VERSION; the spec gives the current
version, 3, alone (R372). A free value: log entry 155. -/
opaque Config.setVerBack : Nat → Nat

/-- The fields that a supervisor reads in a record of the settings store whose bytes it did not write itself: by the field and
by the record's body, whose layout the spec does not give (R372). A free value: log entry 155. -/
opaque Config.setField : Nat → List Byte → List Nat

/-- The 16 bytes of the `n`-th challenge drawn from the on-die random generator (R236, R255). -/
def Config.challenge (n : Nat) : List Byte := leBytes 16 (Config.freeNat n)

end Sys2Proof
end

