-- ==== Sys2Proof/Machine/Records.lean ====
section
/-! DEFINITION. The pattern's records as data (spec/02_pattern_format.md, Tables 2.4 to 2.25): what each record configures,
after migration to format 3, and the built-in values of Table 2.3. Field names are the spec's. -/
namespace Sys2Proof.Machine

/-- DEVICE (Table 2.4). -/
structure DeviceCfg where
  hkRound     : Nat := 8
  scrub       : Nat := 100
  sleepIdle   : Nat := 0
  sleepWick   : Nat := 1000
  sleepPolicy : Nat := 1
  faultnMode  : Nat := 0
  trimEn      : Nat := 1
deriving DecidableEq, Repr

/-- PHASE (Table 2.5). -/
structure PhaseCfg where
  rail     : Nat := 0
  mode     : Nat := 0
  partner  : Nat := 255
  lNh      : Nat := 10
  csGain   : Nat := 100
  slope    : Nat := 0
  blank    : Nat := 0
  tonMin   : Nat := 1
  toffMin  : Nat := 1
  ccBand   : Nat := 5
  ipkMax   : Nat := 0
  predBand : Nat := 30
  noshed   : Bool := false
  check    : Bool := true
deriving DecidableEq, Repr

/-- One shedding-table entry (Table 2.7). -/
structure ShedEntry where
  nph  : Nat
  up   : Nat
  down : Nat
deriving DecidableEq, Repr

/-- RAIL (Table 2.6). -/
structure RailCfg where
  topo       : Nat := 0
  lport      : Nat := 255
  lportSub   : Nat := 0
  fsw        : Nat := 100000
  vset       : Nat := 0
  div        : Nat := 256
  b0 : Int := 0
  b1 : Int := 0
  b2 : Int := 0
  b3 : Int := 0
  a1 : Int := 0
  a2 : Int := 0
  a3 : Int := 0
  ilim       : Nat := 0
  rampOn     : Nat := 10
  rampOff    : Nat := 10
  ov         : Nat := 0
  uv         : Nat := 0
  uvDelay    : Nat := 0
  prot       : Nat := 3
  relightMv  : Nat := 1
  shedHold   : Nat := 0
  relightWin : Nat := 0
  holdoff    : Nat := 0
  dwell      : Nat := 10
  pgTol      : Nat := 50
  shed       : List ShedEntry := []
deriving DecidableEq, Repr

/-- LOAD_PORT (Table 2.8). -/
structure PortCfg where
  railCnt  : Nat := 1
  clkMax   : Nat := 1
  preload  : Bool := false
  dimReq   : Bool := false
  settleTo : Nat := 0
  grace    : Nat := 1
  retry    : Nat := 0
deriving DecidableEq, Repr

/-- MONITOR (Table 2.9). -/
structure MonCfg where
  mode   : Nat := 0
  tick   : Nat := 1000
  low    : Nat := 0
  high   : Nat := 1023
  hyst   : Nat := 0
  filter : Nat := 1
  route  : Nat := 0
  ct     : Nat := 255
deriving DecidableEq, Repr

/-- DOMAIN (Table 2.10). -/
structure DomCfg where
  link     : Nat := 0
  minOff   : Nat := 1
  restart  : Nat := 0
  retryLim : Nat := 1
  retryWin : Nat := 1
  start    : Nat := 0
  input    : Nat := 255
  qual     : Nat := 100
deriving DecidableEq, Repr

/-- SLOT (Table 2.11). -/
structure SlotCfg where
  domain   : Nat := 0
  target   : Nat := 254
  judge    : Nat := 3
  onDelay  : Nat := 0
  offDelay : Nat := 0
  upTo     : Nat := 0
  downTo   : Nat := 0
  mon      : Nat := 255
  warn     : Nat := 255
  snuffOk  : Bool := false
  pgLow    : Bool := false
deriving DecidableEq, Repr

/-- THERMAL (Table 2.14); the defaults are Table 2.3's, with DIM_STEP free, since Table 2.3 gives none (log entry 5). -/
structure ThermalCfg where
  hsEn    : Nat := 65535
  xdEn    : Nat := 0
  tWarn   : Int := 1600
  tDim    : Int := 1760
  tTrip   : Int := 1920
  dimStep : Nat := Config.builtinDimStep
  tHyst   : Nat := 32
  enforce : Nat := 0
  ideal   : Nat := 16515
deriving DecidableEq, Repr

/-- HOLDUP (Table 2.15). -/
structure HoldupCfg where
  busMon   : Nat := 0
  battRail : Nat := 255
  busRise  : Nat := 0
  busQual  : Nat := 1
  auxRise  : Nat := 90
  auxFall  : Nat := 90
  auxQual  : Nat := 1
  chgI     : Nat := 0
  disI     : Nat := 0
  handback : Nat := 1
  maxRide  : Nat := 1
  share    : Nat := 0
  cap      : Nat := 0
deriving DecidableEq, Repr

/-- CARTRIDGE (Table 2.16). -/
structure CartCfg where
  bcEn      : Nat := 0
  auth      : Bool := false
  warnPct   : Nat := 50
  types     : List Nat := [0, 0, 0, 0]
  keySlot   : Nat := 0
  ctrPeriod : Nat := 1
  mbBase    : Nat := 8
deriving DecidableEq, Repr

/-- PAIR (Table 2.17). -/
structure PairCfg where
  role       : Nat := 0
  pairId     : Nat := 0
  revertHold : Nat := 10
  flapLimit  : Nat := 1
  selTime    : Nat := 0
  cdcRate    : Nat := Config.builtinCdcRate
  refx       : Nat := 1
  autoRevert : Nat := 0
deriving DecidableEq, Repr

/-- OVRATH (Table 2.18). -/
structure OvCfg where
  role    : Nat := 0
  portEn  : Nat := 0
  address : Nat := 0
  auto    : Bool := false
  mark    : Nat := 1
  spare   : Nat := 0
deriving DecidableEq, Repr

/-- One queue of a QUEUE record (Table 2.19). -/
structure QueueCfg where
  size  : Nat
  cls   : Nat
  owner : Nat
deriving DecidableEq, Repr

/-- One channel of a LEDGER record (Table 2.20). -/
structure LedgerChan where
  source : Nat
  rate   : Nat
deriving DecidableEq, Repr

/-- LEDGER (Table 2.20). The built-in channels of Table 2.3 take capture ADC 0 (log entry 5). -/
structure LedgerCfg where
  e        : Nat := 2
  pre      : Nat := 20
  post     : Nat := 10
  lossless : Nat := 16
  archive  : Nat := 0
  archSize : Nat := 0
  chans    : List LedgerChan := (List.range 8).map (fun n => ⟨n, 3⟩)
deriving DecidableEq, Repr

/-- HOST_BUS (Table 2.21); LOW_TO of an absent record is R350's; ATTN_RETRY and ATTN_SPEED have no use without ATTN_ADDR. -/
structure HostBusCfg where
  attnAddr  : Nat := 0
  attnRetry : Nat := 1
  attnSpeed : Nat := 0
  lowTo     : Nat := 25
deriving DecidableEq, Repr

/-- SERVICE_PORT (Table 2.22); SESSION_TO of an absent record is free, since Table 2.3 gives none (log entry 5). -/
structure SpCfg where
  readout   : Bool := true
  update    : Bool := true
  spiMode   : Nat := 0
  sessionTo : Nat := Config.builtinSessionTo
  custKey   : Nat := 0
deriving DecidableEq, Repr

/-- One capture timer of a CAPTURE record (Table 2.23). -/
structure CtCfg where
  mode     : Nat := 0
  prescale : Nat := 0
  second   : Nat := 255
deriving DecidableEq, Repr

/-- One proof condition (Table 2.25). -/
structure ProofCond where
  kind  : Nat
  inst  : Nat
  value : Nat
deriving DecidableEq, Repr

/-- PROOF (Table 2.24). -/
structure ProofCfg where
  window : Nat
  conds  : List ProofCond
deriving DecidableEq, Repr

/-- The reaction of a source that no REACTION record covers (R38): FENCE with F_INT for EV0-EV63, DOMAIN with F_INT,
F_ERRPIN and F_RETRY for EV64-EV87, INT otherwise. -/
def defaultReaction (n : Nat) : Nat := if n < 64 then 0x13 else if n < 88 then 0x155 else 1

/-- The built-in queue allocation of Table 2.3. -/
def builtinQueue (n : Nat) : QueueCfg :=
  let m := n % 32
  { size := 32, cls := n / 32, owner := if m < 8 then 3 else if m < 24 then 0 else if m < 28 then 2 else 1 }

/-- A whole decoded pattern: every record it holds, and the built-in values where it holds none (R35). -/
structure Cfg where
  device  : DeviceCfg := {}
  phases  : Tab 64 (Option PhaseCfg) := Tab.all 64 none
  rails   : Tab 24 (Option RailCfg) := Tab.all 24 none
  ports   : Tab 8 (Option PortCfg) := Tab.all 8 none
  mons    : Tab 96 (Option MonCfg) := Tab.all 96 none
  doms    : Tab 8 (Option DomCfg) := Tab.all 8 none
  slots   : Tab 48 (Option SlotCfg) := Tab.all 48 none
  react   : Tab 192 Nat := Vector.ofFn (fun i => defaultReaction i.val)
  thermal : ThermalCfg := {}
  holdup  : Option HoldupCfg := none
  cart    : Option CartCfg := none
  pair    : PairCfg := {}
  ov      : OvCfg := {}
  queues  : Tab 128 (Option QueueCfg) := Vector.ofFn (fun i => some (builtinQueue i.val))
  ledger  : LedgerCfg := {}
  host    : HostBusCfg := {}
  sp      : SpCfg := {}
  cts     : Tab 16 CtCfg := Tab.all 16 {}
  proof   : Option ProofCfg := none
deriving DecidableEq, Repr

/-- The header fields that are kept and reported (Table 2.1). -/
structure PatHeader where
  fmt       : Nat := 3
  seq       : Nat := 0
  buildTime : Nat := 0
  fwMin     : Nat := 0
  patternId : Nat := 0
deriving DecidableEq, Repr

/-- One record of a pattern as walked: its type, version, byte offset in the stored pattern, and its bytes, header
included (R32). -/
structure RawRec where
  type  : Nat
  ver   : Nat
  ofs   : Nat
  bytes : List Byte
deriving DecidableEq, Repr

end Sys2Proof.Machine
end

