-- ==== Sys2Proof/Machine/PatternCheck.lean ====
section
/-! DEFINITION. The pattern format (spec/02_pattern_format.md): the walk over the records, their checks in the order of
Table 2.26 with the reason codes, the migration of Table 2.29, the decoding into `Cfg`, and the comparison that tells a
hot-safe change from a structural one (R47, R39). -/
namespace Sys2Proof.Machine

/-- The range of one field, as its table gives it. -/
inductive Rng where
  | rng (lo hi : Int)
  | rngX (lo hi x : Int)   -- a range and one further value
  | attn                   -- ATTN_ADDR: 0, or 0x08-0x77 but for 0x58-0x5F (R42)
  | ledE                   -- E of LEDGER: 0, 1, 2, 4 or 8
deriving DecidableEq, Repr

/-- Whether a value lies in a range. -/
def Rng.holds : Rng → Int → Bool
  | .rng lo hi, v => lo ≤ v && v ≤ hi
  | .rngX lo hi x, v => (lo ≤ v && v ≤ hi) || v == x
  | .attn, v => v == 0 || (0x08 ≤ v && v ≤ 0x57) || (0x60 ≤ v && v ≤ 0x77)
  | .ledE, v => v == 0 || v == 1 || v == 2 || v == 4 || v == 8

/-- One field of a record table: offset, width in bytes, sign, the bits that are not reserved, the range, and its class. -/
structure PField where
  ofs    : Nat
  w      : Nat
  signed : Bool
  mask   : Nat
  rng    : Rng
  hot    : Bool
deriving DecidableEq, Repr

/-- An unsigned field with every bit in use. -/
def fU (ofs w : Nat) (lo hi : Int) (hot : Bool) : PField := ⟨ofs, w, false, 256 ^ w - 1, .rng lo hi, hot⟩
/-- An unsigned field with a range and one further value. -/
def fX (ofs w : Nat) (lo hi x : Int) (hot : Bool) : PField := ⟨ofs, w, false, 256 ^ w - 1, .rngX lo hi x, hot⟩
/-- A field with reserved bits outside `mask`. -/
def fM (ofs w mask : Nat) (hot : Bool) (hi : Nat := mask) : PField := ⟨ofs, w, false, mask, .rng 0 hi, hot⟩
/-- A signed 16-bit field. -/
def fS (ofs : Nat) (lo hi : Int) (hot : Bool) : PField := ⟨ofs, 2, true, 65535, .rng lo hi, hot⟩
/-- A reserved field (R30). -/
def fR (ofs w : Nat) : PField := ⟨ofs, w, false, 0, .rng 0 0, true⟩

/-- The value bytes of a field, as an unsigned number. -/
def fieldRaw (bs : List Byte) (f : PField) : Nat := leNat ((bs.drop f.ofs).take f.w)

/-- The value of a field. -/
def fieldVal (bs : List Byte) (f : PField) : Int :=
  if f.signed then signedOf (8 * f.w) (fieldRaw bs f) else (fieldRaw bs f : Nat)

/-- A field in its range with its reserved bits 0 (check 10). -/
def fieldOk (bs : List Byte) (f : PField) : Bool :=
  (fieldRaw bs f &&& f.mask) == fieldRaw bs f && f.rng.holds (fieldVal bs f)

/-- The fixed fields of each record type in its current layout (Tables 2.4 to 2.24). -/
def recFields : Nat → List PField
  | 0x01 => [fU 4 2 1 100 true, fU 6 2 10 1000 true, fU 8 2 0 65535 true, fU 10 2 1 1000 true, fU 12 1 0 2 true,
      fU 13 1 0 1 true, fU 14 1 0 1 false, fR 15 1]
  | 0x02 => [fU 4 1 0 63 false, fU 5 1 0 23 false, fU 6 1 0 3 false, fX 7 1 0 63 255 false, fU 8 2 10 65535 false,
      fU 10 2 100 50000 true, fM 12 2 1023 true, fU 14 1 0 36 true, fU 15 1 1 255 true, fU 16 1 1 255 true,
      fU 17 1 5 50 true, fM 18 2 1023 true, fU 20 1 5 50 true, fM 21 1 3 true, fR 22 2]
  | 0x03 => [fU 4 1 0 23 false, fU 5 1 0 2 false, fX 6 1 0 7 255 false, fU 7 1 0 3 false, fU 8 4 100000 4000000 false,
      fM 12 2 4095 true 3200, fU 14 2 256 65535 false] ++
      [16, 18, 20, 22, 24, 26, 28].map (fun o => fS o (-32768) 32767 true) ++
      [fU 30 2 0 65535 true, fU 32 2 10 10000 true, fU 34 2 10 10000 true, fM 36 2 4095 true, fM 38 2 4095 true,
      fU 40 2 0 65535 true, fU 42 1 1 3 false, fU 43 1 0 15 false, fU 44 2 1 255 true, fU 46 2 0 65535 true,
      fU 48 2 0 65535 true, fU 50 2 0 65535 true, fU 52 2 0 65535 true, fU 54 2 1 200 true]
  | 0x05 => [fU 4 1 0 7 false, fU 5 1 1 4 false, fU 6 1 1 25 true, fM 7 1 3 true, fU 8 2 0 65535 true,
      fU 10 2 1 65535 true, fU 12 1 0 15 true, fR 13 3]
  | 0x06 => [fU 4 1 0 95 false, fU 5 1 0 3 false, fU 6 2 1 1000 true, fM 8 2 1023 true, fM 10 2 1023 true,
      fU 12 1 0 31 true, fU 13 1 1 8 true, fM 14 1 15 true, fX 15 1 0 15 255 false]
  | 0x07 => [fU 4 1 0 7 false, fU 5 1 0 255 false, fU 6 2 1 65535 true, fU 8 2 0 65535 true, fU 10 1 1 15 true,
      fU 11 1 1 255 true, fU 12 1 0 2 false, fX 13 1 0 95 255 false, fU 14 2 1 65535 true]
  | 0x08 => [fU 4 1 0 47 false, fU 5 1 0 7 false, fX 6 1 0 23 254 false, fU 7 1 0 3 false, fU 8 2 0 65535 true,
      fU 10 2 0 65535 true, fU 12 2 0 65535 true, fU 14 2 0 65535 true, fX 16 1 0 95 255 false, fX 17 1 0 95 255 false,
      fM 18 1 3 true, fR 19 1]
  | 0x09 => [fU 4 1 0 191 false, fU 5 1 1 192 false, fR 6 2]
  | 0x0A => [fU 4 2 0 65535 false, fR 6 2, fU 8 4 0 0xFFFFFFFF false, fS 12 (-32768) 2000 true, fS 14 (-32768) 2000 true,
      fS 16 (-32768) 2000 true, fU 18 1 5 50 true, fU 19 1 0 255 true, fU 20 1 0 1 true, fR 21 1, fU 22 2 0 65535 true]
  | 0x0B => [fU 4 1 0 95 false, fX 5 1 0 23 255 false, fR 6 2, fM 8 2 1023 true, fU 10 2 1 65535 true,
      fU 12 2 90 600 true, fU 14 2 90 600 true, fU 16 2 1 65535 true, fU 18 2 0 65535 true, fU 20 2 0 65535 true,
      fU 22 2 1 65535 true, fU 24 2 1 65535 true, fU 26 1 0 3 false, fR 27 1, fU 28 2 0 65535 true, fR 30 2]
  | 0x0C => [fU 4 2 0 65535 false, fM 6 1 1 false, fU 7 1 50 99 true, fU 8 2 0 65535 false, fU 10 2 0 65535 false,
      fU 12 2 0 65535 false, fU 14 2 0 65535 false, fU 16 1 0 3 false, fU 17 1 1 255 true, fU 18 1 0x08 0x67 false, fR 19 1]
  | 0x0D => [fU 4 1 0 1 false, fU 5 1 0 255 false, fU 6 2 10 3600 true, fU 8 1 1 15 true, fU 9 1 0 255 false,
      fU 10 2 1 65535 true, fU 12 2 1 65535 true, fU 14 1 0 1 true, fR 15 1]
  | 0x0E => [fU 4 1 0 3 false, fM 5 1 63 false, fR 6 2, fM 8 4 0x8003FFFF false, fU 12 2 1 1000 true, fU 14 1 0 1 true,
      fR 15 1]
  | 0x0F => [fU 4 1 0 127 false, fU 5 1 1 128 false, fR 6 2]
  | 0x10 => [fU 4 1 1 64 false, ⟨5, 1, false, 255, .ledE, true⟩, fU 6 2 1 65535 true, fU 8 2 1 65535 true,
      fU 10 1 0 255 true, fU 11 1 0 1 false, fU 12 2 0 65535 false, fR 14 2]
  | 0x11 => [⟨4, 1, false, 255, .attn, true⟩, fU 5 1 1 15 true, fU 6 1 0 2 true, fU 7 1 1 255 true, fR 8 4]
  | 0x12 => [fM 4 1 3 false, fU 5 1 0 3 false, fU 6 2 1 65535 true, fU 8 1 0 1 false, fR 9 3]
  | 0x13 => [fU 4 1 0 15 false, fU 5 1 1 16 false, fR 6 2]
  | 0x1E => [fU 4 2 1 600 true, fU 6 1 1 32 true, fR 7 1]
  | _ => []

/-- The entries of a record type: first byte, stride, the byte that counts them, and the fields of one. -/
def recEntries : Nat → Option (Nat × Nat × Nat × List PField)
  | 0x03 => some (56, 8, 43, [fU 0 1 1 16 false, fR 1 1, fU 2 2 0 65535 true, fU 4 2 0 65535 true, fR 6 2])
  | 0x09 => some (8, 2, 5, [⟨0, 2, false, 0x3F7, .rng 0 0x3F7, true⟩])
  | 0x0F => some (8, 4, 5, [fU 0 2 1 4096 false, fU 2 1 0 3 false, fU 3 1 0 3 false])
  | 0x10 => some (16, 2, 4, [⟨0, 1, false, 255, .rngX 0 0x57 0x60, false⟩, ⟨1, 1, false, 0xEF, .rng 0 255, false⟩])
  | 0x13 => some (8, 4, 5, [fU 0 1 0 3 false, fU 1 1 0 15 true, fX 2 1 0 95 255 false, fR 3 1])
  | 0x1E => some (8, 8, 6, [fU 0 1 1 8 true, fU 1 1 0 255 true, fR 2 2, fU 4 4 0 0xFFFFFFFF true])
  | _ => none

/-- Byte `i` of a record. -/
def byteAt (bs : List Byte) (i : Nat) : Nat := (bs.getD i 0).toNat
/-- The u16 at byte `i`. -/
def u16At (bs : List Byte) (i : Nat) : Nat := leNat ((bs.drop i).take 2)
/-- The u32 at byte `i`. -/
def u32At (bs : List Byte) (i : Nat) : Nat := leNat ((bs.drop i).take 4)
/-- The s16 at byte `i`. -/
def s16At (bs : List Byte) (i : Nat) : Int := signedOf 16 (u16At bs i)

/-- Every field of a record in its current layout, its entries and its padding included. -/
def allFields (type : Nat) (bs : List Byte) : List PField :=
  match recEntries type with
  | none => recFields type
  | some (start, stride, cntOfs, es) =>
    let n := byteAt bs cntOfs
    recFields type ++
      (List.range n).flatMap (fun i => es.map (fun f => { f with ofs := start + stride * i + f.ofs })) ++
      (if stride = 2 ∧ n % 2 = 1 then [fR (start + 2 * n) 2] else [])

/-- The ranges that a field table cannot say alone: SOURCE 0x60-0xBF and k of a ledger channel; of a proof condition the tally
index of KIND 4, which R253 judges here, and the reserved INST and VALUE of its KIND (Table 2.25). Where INST is limited by
KIND alone, it relates two fields and is judged at check 12 (R418). -/
def entryOk (type : Nat) (bs : List Byte) : Bool :=
  if type = 0x10 then
    (List.range (byteAt bs 4)).all (fun j =>
      let src := byteAt bs (16 + 2 * j)
      (src ≤ 0x57 || (0x60 ≤ src && src ≤ 0xBF)) && byteAt bs (17 + 2 * j) % 16 ≤ 10)
  else if type = 0x1E then
    (List.range (byteAt bs 6)).all (fun i =>
      let k := byteAt bs (8 + 8 * i)
      let inst := byteAt bs (9 + 8 * i)
      let v := u32At bs (12 + 8 * i)
      (k != 4 || inst ≤ 23) && (!(k == 5 || k == 6 || k == 8) || inst == 0) && (k == 4 || k == 5 || v == 0))
  else true

/-- A field that its table says is ignored: TICK of a monitor that is not in WICK, LPORT_SUB of a rail without a port (log
entry 96). -/
def fieldIgnored (type : Nat) (bs : List Byte) (f : PField) : Bool :=
  (type == 0x06 && f.ofs == 6 && byteAt bs 5 != 0) || (type == 0x03 && f.ofs == 7 && byteAt bs 6 == 255)

/-- SOURCE of a ledger channel takes its whole range in `entryOk`; an ignored field is not judged. -/
def fieldOkIn (type : Nat) (bs : List Byte) (f : PField) : Bool :=
  if type = 0x10 ∧ f.rng = .rngX 0 0x57 0x60 then true else fieldIgnored type bs f || fieldOk bs f

/-- Check 10 of Table 2.26 on one migrated record. -/
def rangesOk (r : RawRec) : Bool := (allFields r.type r.bytes).all (fieldOkIn r.type r.bytes) && entryOk r.type r.bytes

/-- The first format version of each listed type (Table 2.2). -/
def firstVer (type : Nat) : Option Nat :=
  if type = 0x0F then some 3
  else if type = 0x13 ∨ type = 0x1E then some 2
  else if type = 0xFF ∨ (0x01 ≤ type ∧ type ≤ 0x12 ∧ type ≠ 0x04) then some 1
  else none

/-- The length formula of a record type, in words, for a REC_VER (record tables, Table 2.31). -/
def recLen (type ver : Nat) (bs : List Byte) : Nat :=
  match type with
  | 0x01 => 4
  | 0x02 => if ver = 1 then 5 else 6
  | 0x03 => if ver = 1 then 13 + byteAt bs 43 else if ver = 2 then 13 + 2 * byteAt bs 43 else 14 + 2 * byteAt bs 43
  | 0x05 => 4
  | 0x06 => if ver = 1 then 3 else 4
  | 0x07 => 4
  | 0x08 => 5
  | 0x09 => if ver = 1 then 2 + (byteAt bs 5 + 3) / 4 else 2 + (byteAt bs 5 + 1) / 2
  | 0x0A => 6
  | 0x0B => 8
  | 0x0C => 5
  | 0x0D => 4
  | 0x0E => 4
  | 0x0F => 2 + byteAt bs 5
  | 0x10 => 4 + (byteAt bs 4 + 1) / 2
  | 0x11 => 3
  | 0x12 => 3
  | 0x13 => 2 + byteAt bs 5
  | 0x1E => 2 + 2 * byteAt bs 6
  | _ => 1

/-- The record walk of check 7 (R32, R34): from byte `ofs` up to the CRC word at byte `stop`. `prev` is the type and
offset of the record before; a walk that reaches the CRC word without END names that record (log entry 97). -/
def walk : Nat → Nat → Nat → Nat × Nat → List Byte → Except (Nat × Nat) (List RawRec)
  | 0, ofs, _, _, _ => .error (7, ofs)
  | k + 1, ofs, stop, prev, bs =>
    let type := byteAt bs 0
    let len := u16At bs 2
    if ofs + 4 > stop then .error (7, prev.2)
    else if len = 0 ∨ ofs + 4 * len > stop then .error (7, ofs)
    else if prev.1 = 0x100 ∧ type ≠ 0x01 then .error (7, ofs)
    else if prev.1 = 0x1E ∧ type ≠ 0xFF then .error (7, prev.2)
    else
      let r : RawRec := ⟨type, byteAt bs 1, ofs, bs.take (4 * len)⟩
      if type = 0xFF then if len = 1 ∧ ofs + 4 = stop then .ok [r] else .error (7, ofs)
      else match walk k (ofs + 4 * len) stop (type, ofs) (bs.drop (4 * len)) with
        | .error e => .error e
        | .ok rs => .ok (r :: rs)

/-- A record that the GN7720 skips (R33). -/
def RawRec.skipped (r : RawRec) : Bool := 0x80 ≤ r.type && r.type ≤ 0xFE

/-- Check 8 of Table 2.26 on one record. -/
def typeOk (fmt : Nat) (r : RawRec) : Bool :=
  r.skipped ||
  (match firstVer r.type with
   | none => false
   | some v => v ≤ r.ver && r.ver ≤ fmt && 4 * recLen r.type r.ver r.bytes == r.bytes.length)

/-- Replace `w` bytes at `ofs` by the number `n`. -/
def putBytes (bs : List Byte) (ofs w n : Nat) : List Byte := bs.take ofs ++ leBytes w n ++ bs.drop (ofs + w)

/-- A Q1.15 coefficient as Q2.14 (Table 2.29): half, rounding half away from zero. -/
def halfAway (c : Int) : Int := if c % 2 = 0 then c / 2 else if c > 0 then (c + 1) / 2 else (c - 1) / 2

/-- Raise a PHASE record (Table 2.29). -/
def migPhase (ver : Nat) (bs : List Byte) : Option (List Byte) :=
  let b2 := if ver = 1 then bs ++ [30, 2, 0, 0] else bs
  let bl := 2 * byteAt b2 14
  if bl > 255 then none else some (putBytes b2 14 1 bl)

/-- Raise a RAIL record (Table 2.29). -/
def migRail (ver : Nat) (bs : List Byte) : List Byte :=
  let fixed2 :=
    if ver = 1 then
      [16, 18, 20, 22, 24, 26, 28].foldl (fun b o => putBytes b o 2 (s16 (halfAway (s16At bs o)))) (bs.take 52)
    else bs.take 52
  let ents :=
    if ver = 1 then
      (List.range (byteAt bs 43)).flatMap (fun k =>
        let up := u16At bs (54 + 4 * k)
        [bs.getD (52 + 4 * k) 0, 0] ++ leBytes 2 up ++ leBytes 2 (up - up / 8) ++ [0, 0])
    else bs.drop 52
  fixed2 ++ leBytes 2 10 ++ leBytes 2 50 ++ ents

/-- Raise a version-1 MONITOR record (Tables 2.29 and 2.31). -/
def migMonitor (bs : List Byte) : Option (List Byte) :=
  let m := byteAt bs 5
  let h := 4 * byteAt bs 8
  if m > 2 ∨ h > 255 then none
  else some (bs.take 5 ++ [byteOf (m + 1)] ++ leBytes 2 1000 ++ leBytes 2 (4 * byteAt bs 6) ++ leBytes 2 (4 * byteAt bs 7) ++
    [byteOf h, 1, bs.getD 9 0, bs.getD 10 0])

/-- Raise a REACTION record (Table 2.29): from version 1 only PRIMARY is kept, from version 2 bit 9 is cleared. -/
def migReaction (ver : Nat) (bs : List Byte) : List Byte :=
  let n := byteAt bs 5
  let ents := (List.range n).flatMap (fun i =>
    if ver = 1 then leBytes 2 (byteAt bs (8 + i) % 16) else leBytes 2 (u16At bs (8 + 2 * i) &&& 0xFDFF))
  bs.take 8 ++ ents ++ (if n % 2 = 1 then [0, 0] else [])

/-- Clear the reserved bits of a record read from an older version (R30). -/
def clearReserved (type : Nat) (bs : List Byte) : List Byte :=
  (allFields type bs).foldl (fun b f => putBytes b f.ofs f.w (fieldRaw b f &&& f.mask)) bs

/-- The same with what a field table cannot say: PRIMARY codes 8-15 stand in bit 3, which `recEntries` masks out for the range
check and migration keeps, and INST and VALUE of a proof condition are reserved by its KIND (Table 2.25). -/
def clearReservedIn (type : Nat) (bs : List Byte) : List Byte :=
  if type = 0x09 then
    putBytes ((List.range (byteAt bs 5)).foldl (fun b i => putBytes b (8 + 2 * i) 2 (u16At b (8 + 2 * i) &&& 0x3FF)) bs) 6 2 0
  else if type = 0x1E then
    (List.range (byteAt bs 6)).foldl (fun b i =>
      let k := byteAt b (8 + 8 * i)
      let b1 := if k = 5 ∨ k = 6 ∨ k = 8 then putBytes b (9 + 8 * i) 1 0 else b
      if k = 4 ∨ k = 5 then b1 else putBytes b1 (12 + 8 * i) 4 0) (clearReserved type bs)
  else clearReserved type bs

/-- Migration of one record to version 3 (R50, Table 2.29); `none` where it fails. -/
def migrateRec (r : RawRec) : Option RawRec :=
  if r.skipped ∨ r.ver ≥ 3 then some r
  else
    let body : Option (List Byte) :=
      match r.type with
      | 0x02 => migPhase r.ver r.bytes
      | 0x03 => some (migRail r.ver r.bytes)
      | 0x06 => if r.ver = 1 then migMonitor r.bytes else some r.bytes
      | 0x07 => if r.ver = 1 then some (putBytes (putBytes r.bytes 5 1 0) 14 2 100) else some r.bytes
      | 0x09 => some (migReaction r.ver r.bytes)
      | 0x10 => if r.ver = 1 then some (putBytes (putBytes r.bytes 5 1 2) 10 1 16) else some r.bytes
      | _ => some r.bytes
    body.map (fun b =>
      let c := clearReservedIn r.type b
      { r with ver := 3, bytes := [byteOf r.type, 3] ++ leBytes 2 (c.length / 4) ++ c.drop 4 })

/-- The instances that a record configures, as a key per instance (check 11). -/
def recKeys (r : RawRec) : List (Nat × Nat) :=
  if r.skipped ∨ r.type = 0xFF then []
  else if r.type = 0x09 ∨ r.type = 0x0F ∨ r.type = 0x13 then
    (List.range (byteAt r.bytes 5)).map (fun i => (r.type, byteAt r.bytes 4 + i))
  else if r.type = 0x02 ∨ r.type = 0x03 ∨ (0x05 ≤ r.type ∧ r.type ≤ 0x08) then [(r.type, byteAt r.bytes 4)]
  else [(r.type, 0)]

/-- Check 11: the offset of the first record that configures what an earlier one did. A doubled instance breaks R34 too, which
check 7 names; the model reports it here alone, with the code 0x0A that names just it (DEDUCED, log entry 105). -/
def dupOfs : List (Nat × Nat) → List RawRec → Option Nat
  | _, [] => none
  | seen, r :: rs =>
    if (recKeys r).any (fun k => seen.contains k) then some r.ofs else dupOfs (recKeys r ++ seen) rs

/-- Write a table entry by number; an index outside the table changes nothing. -/
def Tab.put {n : Nat} {α : Type} (t : Tab n α) (i : Nat) (a : α) : Tab n α :=
  if h : i < n then t.set i a h else t

/-- Read a table entry by number. -/
def Tab.get? {n : Nat} {α : Type} (t : Tab n α) (i : Nat) : Option α := if h : i < n then some t[i] else none

/-- Read a table of optional entries by number. -/
def Tab.opt {n : Nat} {α : Type} (t : Tab n (Option α)) (i : Nat) : Option α := (Tab.get? t i).join

/-- Add one migrated record to the decoded pattern. -/
def addRec (c : Cfg) (r : RawRec) : Cfg :=
  let b := r.bytes
  let i := byteAt b 4
  match r.type with
  | 0x01 => { c with device := ⟨u16At b 4, u16At b 6, u16At b 8, u16At b 10, byteAt b 12, byteAt b 13, byteAt b 14⟩ }
  | 0x02 => { c with phases := Tab.put c.phases i (some ⟨byteAt b 5, byteAt b 6, byteAt b 7, u16At b 8, u16At b 10,
      u16At b 12, byteAt b 14, byteAt b 15, byteAt b 16, byteAt b 17, u16At b 18, byteAt b 20, natBit (byteAt b 21) 0,
      natBit (byteAt b 21) 1⟩) }
  | 0x03 => { c with rails := Tab.put c.rails i (some ⟨byteAt b 5, byteAt b 6, byteAt b 7, u32At b 8, u16At b 12,
      u16At b 14, s16At b 16, s16At b 18, s16At b 20, s16At b 22, s16At b 24, s16At b 26, s16At b 28, u16At b 30,
      u16At b 32, u16At b 34, u16At b 36, u16At b 38, u16At b 40, byteAt b 42, u16At b 44, u16At b 46, u16At b 48,
      u16At b 50, u16At b 52, u16At b 54,
      (List.range (byteAt b 43)).map (fun k => ⟨byteAt b (56 + 8 * k), u16At b (58 + 8 * k), u16At b (60 + 8 * k)⟩)⟩) }
  | 0x05 => { c with ports := Tab.put c.ports i (some ⟨byteAt b 5, byteAt b 6, natBit (byteAt b 7) 0,
      natBit (byteAt b 7) 1, u16At b 8, u16At b 10, byteAt b 12⟩) }
  | 0x06 => { c with mons := Tab.put c.mons i (some ⟨byteAt b 5, u16At b 6, u16At b 8, u16At b 10, byteAt b 12,
      byteAt b 13, byteAt b 14, byteAt b 15⟩) }
  | 0x07 => { c with doms := Tab.put c.doms i (some ⟨byteAt b 5, u16At b 6, u16At b 8, byteAt b 10, byteAt b 11,
      byteAt b 12, byteAt b 13, u16At b 14⟩) }
  | 0x08 => { c with slots := Tab.put c.slots i (some ⟨byteAt b 5, byteAt b 6, byteAt b 7, u16At b 8, u16At b 10,
      u16At b 12, u16At b 14, byteAt b 16, byteAt b 17, natBit (byteAt b 18) 0, natBit (byteAt b 18) 1⟩) }
  | 0x09 => { c with react := (List.range (byteAt b 5)).foldl (fun t k => Tab.put t (i + k) (u16At b (8 + 2 * k))) c.react }
  | 0x0A => { c with thermal := ⟨u16At b 4, u32At b 8, s16At b 12, s16At b 14, s16At b 16, byteAt b 18, byteAt b 19,
      byteAt b 20, u16At b 22⟩ }
  | 0x0B => { c with holdup := some ⟨i, byteAt b 5, u16At b 8, u16At b 10, u16At b 12, u16At b 14, u16At b 16, u16At b 18,
      u16At b 20, u16At b 22, u16At b 24, byteAt b 26, u16At b 28⟩ }
  | 0x0C => { c with cart := some ⟨u16At b 4, natBit (byteAt b 6) 0, byteAt b 7, [u16At b 8, u16At b 10, u16At b 12,
      u16At b 14], byteAt b 16, byteAt b 17, byteAt b 18⟩ }
  | 0x0D => { c with pair := ⟨i, byteAt b 5, u16At b 6, byteAt b 8, byteAt b 9, u16At b 10, u16At b 12, byteAt b 14⟩ }
  | 0x0E => { c with ov := ⟨i, byteAt b 5, u32At b 8 % 2 ^ 18, natBit (u32At b 8) 31, u16At b 12, byteAt b 14⟩ }
  | 0x0F => { c with queues := (List.range (byteAt b 5)).foldl (fun t k => Tab.put t (i + k) (some ⟨u16At b (8 + 4 * k), byteAt b (10 + 4 * k), byteAt b (11 + 4 * k)⟩)) c.queues }
  | 0x10 => { c with ledger := ⟨byteAt b 5, u16At b 6, u16At b 8, byteAt b 10, byteAt b 11, u16At b 12,
      (List.range i).map (fun j => ⟨byteAt b (16 + 2 * j), byteAt b (17 + 2 * j)⟩)⟩ }
  | 0x11 => { c with host := ⟨i, byteAt b 5, byteAt b 6, byteAt b 7⟩ }
  | 0x12 => { c with sp := ⟨natBit i 0, natBit i 1, byteAt b 5, u16At b 6, byteAt b 8⟩ }
  | 0x13 => { c with cts := (List.range (byteAt b 5)).foldl (fun t k => Tab.put t (i + k) ⟨byteAt b (8 + 4 * k), byteAt b (9 + 4 * k), byteAt b (10 + 4 * k)⟩) c.cts }
  | 0x1E => { c with proof := some ⟨u16At b 4, (List.range (byteAt b 6)).map
      (fun k => ⟨byteAt b (8 + 8 * k), byteAt b (9 + 8 * k), u32At b (12 + 8 * k)⟩)⟩ }
  | _ => c

/-- Decode migrated records. A queue that no QUEUE record covers is absent when there is at least one (Table 2.19). -/
def decodeRecs (rs : List RawRec) : Cfg :=
  rs.foldl addRec (if rs.any (fun r => r.type == 0x0F) then ({ queues := Tab.all 128 none } : Cfg) else ({} : Cfg))

/-- The engines of a rail (R108). -/
def Cfg.railPhases (c : Cfg) (r : Nat) : List (Fin 64) :=
  (List.finRange 64).filter (fun n => match c.phases[n] with | some p => p.rail == r | none => false)

/-- Whether monitor `m` has a record; 0xFF names none and is in order. -/
def Cfg.monOk (c : Cfg) (m : Nat) : Bool := m == 255 || (Tab.opt c.mons m).isSome

/-- The shortest switching period of any present rail, as the highest frequency (0 with no rail). -/
def Cfg.fswMax (c : Cfg) : Nat := c.rails.toList.foldl (fun a r => match r with | some x => max a x.fsw | none => a) 0

/-- Strictly rising NPH and DOWN < UP in every entry. -/
def shedRising : List ShedEntry → Bool
  | [] => true
  | [e] => e.down < e.up
  | e :: f :: t => e.down < e.up && e.nph < f.nph && shedRising (f :: t)

/-- Where Table 11.4 allows FENCE. -/
def fenceAllowed (n : Nat) : Bool :=
  n < 64 || (88 ≤ n && n ≤ 111) || n == 123 || (128 ≤ n && n ≤ 143) || (156 ≤ n && n ≤ 167) || (172 ≤ n && n ≤ 179)

/-- Where Table 11.4 allows BRESET. -/
def bresetAllowed (n : Nat) : Bool :=
  (88 ≤ n && n ≤ 95) || (120 ≤ n && n ≤ 143) || (149 ≤ n && n ≤ 191)

/-- R38 and R245 on one reaction entry. -/
def reactionAllowed (n e : Nat) : Bool :=
  !(natBit e 9 && n < 120) && !(e % 16 == 3 && !fenceAllowed n) && !(e % 16 == 4 && !bresetAllowed n)

/-- The pages of R336 for one channel. -/
def chanPages (l : LedgerCfg) (ch : LedgerChan) : Nat :=
  let d := 2 ^ (ch.rate % 16) * 8080
  ((l.pre + 4 * l.post) * 216000 + d - 1) / d + 2

/-- Rmax of R336, in bytes. -/
def ledgerRmax (l : LedgerCfg) : Nat :=
  let pmax := min 6144 ((l.chans.map (chanPages l)).foldl (· + ·) 0)
  4096 + 16384 + 4096 * ((pmax + 3) / 4)

/-- The constraints on a PHASE record (Table 2.27: phase budget, topology, timing). -/
def phaseCons (c : Cfg) (n : Nat) (p : PhaseCfg) : Bool :=
  match Tab.opt c.rails p.rail with
  | none => false
  | some r =>
    (r.topo == (match p.mode with | 0 => 0 | 1 => 2 | _ => 1)) &&
    (if p.mode ≤ 1 then p.partner == 255
     else match Tab.opt c.phases p.partner with
       | some q => q.rail == p.rail && q.partner == n && q.mode == 5 - p.mode
       | none => false) &&
    (p.tonMin + p.toffMin) * 5 * r.fsw < 1000000000

/-- The constraints on a RAIL record (Table 2.27, R108). -/
def railCons (c : Cfg) (n : Nat) (r : RailCfg) : Bool :=
  let ph := c.railPhases n
  let noshed := ph.filter (fun i => match c.phases[i] with | some p => p.noshed | none => false)
  1 ≤ ph.length && ph.length ≤ 16 &&
  (match r.shed with
   | [] => true
   | e :: _ => shedRising r.shed && (match r.shed.getLast? with | some l => l.nph == ph.length | none => true) &&
       noshed.length ≤ e.nph && (r.topo != 1 || r.shed.all (fun x => x.nph % 2 == 0))) &&
  (!natBit r.prot 0 || r.vset < r.ov) && (!natBit r.prot 1 || r.uv < r.vset) &&
  (r.lport == 255 || (match Tab.opt c.ports r.lport with | some p => r.lportSub < p.railCnt | none => false))

/-- The constraints on a SLOT record (Table 2.27: sequencing, monitor budget). -/
def slotCons (c : Cfg) (s : SlotCfg) : Bool :=
  (Tab.opt c.doms s.domain).isSome &&
  (s.target == 254 || (Tab.opt c.rails s.target).isSome) &&
  (s.judge != 0 || s.target != 254) && (s.judge != 1 || s.mon != 255) &&
  c.monOk s.mon && c.monOk s.warn && !(s.mon != 255 && s.mon == s.warn)

/-- What a record takes for itself and no other record may take (Table 2.27): a load-link sub-address, the one BATTERY rail, a
slot's target, a monitor of a slot, a monitor of a domain's input or of the bus bar. -/
inductive Claim where
  | port (lport sub : Nat)
  | battery
  | target (r : Nat)
  | slotMon (m : Nat)
  | inputMon (m : Nat)
deriving DecidableEq, Repr

/-- Two claims of different records that Table 2.27 does not allow together. -/
def Claim.clash : Claim → Claim → Bool
  | .slotMon a, .inputMon b | .inputMon a, .slotMon b => a == b
  | .inputMon _, .inputMon _ => false
  | a, b => a == b

/-- The claims of one record. -/
def recClaims (r : RawRec) : List Claim :=
  let b := r.bytes
  let mon (m : Nat) (f : Nat → Claim) : List Claim := if m = 255 then [] else [f m]
  match r.type with
  | 0x03 => (if byteAt b 6 = 255 then [] else [.port (byteAt b 6) (byteAt b 7)]) ++ (if byteAt b 5 = 2 then [.battery] else [])
  | 0x07 => mon (byteAt b 13) .inputMon
  | 0x08 => (if byteAt b 6 = 254 then [] else [.target (byteAt b 6)]) ++ mon (byteAt b 16) .slotMon ++ mon (byteAt b 17) .slotMon
  | 0x0B => [.inputMon (byteAt b 4)]
  | _ => []

/-- The queue SRAM that a record gives out, in units of 64 bytes. -/
def recSram (r : RawRec) : Nat :=
  if r.type = 0x0F then (List.range (byteAt r.bytes 5)).foldl (fun a k => a + u16At r.bytes (8 + 4 * k)) 0 else 0

/-- The constraints on the HOLDUP record (R41, R218, Tables 2.15 and 2.27). -/
def holdupCons (c : Cfg) (h : HoldupCfg) : Bool :=
  h.auxFall < h.auxRise &&
  (match Tab.opt c.mons h.busMon with | some m => m.low < h.busRise | none => false) &&
  (h.battRail == 255 ||
    ((match Tab.opt c.rails h.battRail with | some r => r.topo == 2 | none => false) &&
     (match c.cart with | some k => k.bcEn != 0 | none => false) &&
     c.slots.toList.all (fun s => match s with
       | some x => x.target != h.battRail ||
           (match Tab.opt c.doms x.domain with | some d => d.input != h.busMon | none => true)
       | none => true)))

/-- Check 12 of Table 2.26 on one record of a decoded pattern (Table 2.27, and every other constraint under R418). -/
def consOk (c : Cfg) (r : RawRec) : Bool :=
  let b := r.bytes
  let i := byteAt b 4
  match r.type with
  | 0x02 => (match Tab.opt c.phases i with | some p => phaseCons c i p | none => true)
  | 0x03 => (match Tab.opt c.rails i with | some x => railCons c i x | none => true)
  | 0x06 => (match Tab.opt c.mons i with
      | some m => (m.ct == 255 || (match Tab.get? c.cts m.ct with | some t => t.mode != 0 | none => false)) &&
          m.low + 2 * m.hyst < m.high
      | none => true)
  | 0x07 => (match Tab.opt c.doms i with
      | some d => c.monOk d.input && (List.range 8).all (fun k => !natBit d.link k ||
          (match Tab.opt c.doms k with | some x => natBit x.link i | none => false))
      | none => true)
  | 0x08 => (match Tab.opt c.slots i with | some x => slotCons c x | none => true)
  | 0x09 => i + byteAt b 5 ≤ 192 && (List.range (byteAt b 5)).all (fun k => reactionAllowed (i + k) (u16At b (8 + 2 * k)))
  | 0x0A => c.thermal.tWarn < c.thermal.tDim && c.thermal.tDim < c.thermal.tTrip
  | 0x0B => (match c.holdup with | some h => holdupCons c h | none => true)
  | 0x0D => c.pair.role == 0 || (c.pair.selTime + 100) * c.fswMax < 1000000000
  | 0x0E => c.ov.role == 0 || c.queues.toList.any (fun q => match q with | some x => x.cls == 0 && x.owner == 3 | none => false)
  | 0x0F => i + byteAt b 5 ≤ 128
  | 0x10 => (List.range 8).all (fun a => (c.ledger.chans.filter (fun x => x.rate / 32 == a)).foldl
        (fun s x => s + 2 ^ (10 - x.rate % 16)) 0 ≤ 1024) &&
      (c.ledger.archive == 0 || 10 * ledgerRmax c.ledger ≤ c.ledger.archSize * 65536)
  | 0x1E => (List.range (byteAt b 6)).all (fun j =>
      byteAt b (9 + 8 * j) ≤ (match byteAt b (8 + 8 * j) with | 1 => 23 | 2 => 7 | 3 => 191 | 7 => 5 | _ => 255))
  | 0x13 => i + byteAt b 5 ≤ 16 && (List.range (byteAt b 5)).all (fun k => match Tab.get? c.cts (i + k) with
      | some t => if t.mode == 3 then t.second != 255 && c.monOk t.second else t.second == 255
      | none => true)
  | _ => true

/-- Check 12 over the records in their order: the offset of the first that breaks a constraint, alone or with one before it
(log entry 97). `seen` is what the records before have claimed, and `sram` the queue SRAM they give out. -/
def consOfs (c : Cfg) : List Claim → Nat → List RawRec → Option Nat
  | _, _, [] => none
  | seen, sram, r :: rs =>
    if r.skipped then consOfs c seen sram rs
    else if !consOk c r || (recClaims r).any (fun a => seen.any (fun b => b.clash a)) || sram + recSram r > 4096 then some r.ofs
    else consOfs c (recClaims r ++ seen) (sram + recSram r) rs

/-- A pattern that has passed every check: its header, its migrated records and image, and what it configures. -/
structure Image where
  hdr      : PatHeader := {}
  recs     : List RawRec := []
  bytes    : List Byte := []      -- the migrated image, CRC word included (R50)
  stored   : List Byte := []      -- the pattern as stored
  migrated : Bool := false
  cfg      : Cfg := {}
deriving DecidableEq, Repr

/-- The migrated image of a pattern: a format-3 header, the records, and a new CRC (R50). -/
def imageBytes (h : PatHeader) (recs : List RawRec) : List Byte :=
  let body := recs.flatMap (·.bytes)
  let hd := leBytes 4 0x4E477720 ++ [3, 8, 0, 0] ++ leBytes 4 (32 + body.length + 4) ++ leBytes 4 h.seq ++
    leBytes 4 h.buildTime ++ leBytes 2 0x7720 ++ leBytes 2 h.fwMin ++ leBytes 4 h.patternId ++ leBytes 4 0
  hd ++ body ++ leBytes 4 (crc32 (hd ++ body))

/-- Apply `migrateRec` to every record; the offset of the first that fails. -/
def migrateAll : List RawRec → Except (Nat × Nat) (List RawRec)
  | [] => .ok []
  | r :: rs => match migrateRec r, migrateAll rs with
    | none, _ => .error (0x0C, r.ofs)
    | _, .error e => .error e
    | some m, .ok ms => .ok (m :: ms)

/-- The checks of Table 2.26 in their order (R45). `bs` is what the slot holds from its first byte, `slotLen` the slot's
length, `fw` the running firmware bundle's version. An error carries the reason code and the byte offset. -/
def checkPattern (slotLen fw : Nat) (bs : List Byte) : Except (Nat × Nat) Image :=
  let fmt := byteAt bs 4
  let hl := byteAt bs 5
  let total := u32At bs 8
  let h : PatHeader := ⟨fmt, u32At bs 12, u32At bs 16, u16At bs 22, if fmt = 1 then 0 else u32At bs 24⟩
  if u32At bs 0 ≠ 0x4E477720 then .error (1, 0)
  else if total % 4 ≠ 0 ∨ total > 262144 ∨ total > slotLen ∨ total < (if fmt = 1 then 48 else 56) then .error (2, 0)
  else if crc32 (bs.take (total - 4)) ≠ u32At bs (total - 4) then .error (3, 0)
  else if u16At bs 20 ≠ 0x7720 then .error (4, 0)
  else if ¬((fmt = 1 ∧ hl = 6) ∨ ((fmt = 2 ∨ fmt = 3) ∧ hl = 8)) then .error (5, 0)
  else if h.fwMin ≠ 0 ∧ h.fwMin > fw then .error (6, 0)
  else match walk (total / 4 + 1) (4 * hl) (total - 4) (0x100, 4 * hl) (bs.drop (4 * hl)) with
    | .error e => .error e
    | .ok raw =>
      match raw.find? (fun r => !typeOk fmt r) with
      | some r => .error (8, r.ofs)
      | none =>
        match migrateAll raw with
        | .error e => .error e
        | .ok recs =>
          if fmt = 3 ∧ (u16At bs 6 ≠ 0 ∨ u32At bs 28 ≠ 0) then .error (9, 0)
          else match recs.find? (fun r => !r.skipped && !rangesOk r) with
            | some r => .error (9, r.ofs)
            | none =>
              match dupOfs [] recs with
              | some o => .error (0x0A, o)
              | none =>
                let c := decodeRecs recs
                match consOfs c [] 0 recs with
                | some o => .error (0x0B, o)
                | none =>
                  .ok { hdr := { h with fmt := 3 }, recs := recs, bytes := imageBytes h recs, stored := bs.take total,
                        migrated := fmt != 3 || raw.any (fun r => !r.skipped && r.ver != 3), cfg := c }

/-- The built-in blank pattern (R69). -/
def blankRecs : List RawRec :=
  [⟨0x01, 3, 32, [1, 3, 4, 0] ++ leBytes 2 8 ++ leBytes 2 100 ++ leBytes 2 0 ++ leBytes 2 1000 ++ [1, 0, 1, 0]⟩,
   ⟨0xFF, 3, 48, [0xFF, 3, 1, 0]⟩]

/-- The image of the blank pattern (R69). -/
def blankImage : Image := { recs := blankRecs, bytes := imageBytes {} blankRecs, stored := imageBytes {} blankRecs }

/-- The order of strength of R246, by PRIMARY code: NONE, INT, TRAP, FENCE, ERRPIN, BRESET, DOMAIN, CRESET. -/
def strength (primary : Nat) : Nat :=
  match primary with
  | 0 => 0 | 1 => 1 | 2 => 2 | 3 => 3 | 7 => 4 | 4 => 5 | 5 => 6 | 6 => 7 | _ => 0

/-- R39: the new entry is stronger or unchanged in every respect. -/
def notWeaker (old new : Nat) : Bool :=
  strength (old % 16) ≤ strength (new % 16) &&
  [4, 5, 6, 7, 8].all (fun b => !natBit old b || natBit new b) && (natBit old 9 || !natBit new 9)

/-- The structural content of a record: its structural fields, in order. -/
def structPart (r : RawRec) : List Nat :=
  r.type :: ((allFields r.type r.bytes).filter (fun f => !f.hot)).map (fieldRaw r.bytes)

/-- The structural content of a pattern: per record its structural fields. A skipped record has no effect (R33), so that a
change in one is no difference here (DEDUCED, log entry 106). -/
def structOf (rs : List RawRec) : List (List Nat) := (rs.filter (fun r => !r.skipped)).map structPart

/-- R47: whether a change from one pattern to another is hot-safe: the same records with the same structural fields, in
any order, and reaction entries changed under R39 only. -/
def hotSafe (old new : Image) : Bool :=
  (structOf old.recs).all (fun x => (structOf new.recs).contains x) &&
  (structOf new.recs).all (fun x => (structOf old.recs).contains x) &&
  (List.finRange 192).all (fun i => notWeaker old.cfg.react[i] new.cfg.react[i])

/-- The segments of the scrub (R72): the header, one per record instance, and the trim overlay last. -/
def segmentBytes (im : Image) (seg : Nat) : Option (List Byte) :=
  if seg = 0 then some (im.bytes.take 32) else (im.recs[seg - 1]?).map (·.bytes)

end Sys2Proof.Machine
end

