-- ==== Sys2Proof/Machine/Blocks/Chip.lean ====
section
/-! DEFINITION. State of the chip as a whole: clocks and islands, crossings, cores, supplies, feeds, the chandler and the
external memory, the scrub, sleep, and the event sources with their reactions and tallies (spec chapters 1, 3, 11, 17).
Every field carries its reset value as its default. -/
namespace Sys2Proof.Machine

/-- Where the part stands between power-on reset, READY and sleep. -/
inductive Mode where
  | por        -- POR asserted (R56)
  | creset     -- a CRESET has fired and its restart is due (R248)
  | held       -- RESET_N low (R56)
  | start      -- in the steps of Table 3.1
  | testWait   -- stopped after step 3 with TEST_N low (R255)
  | test       -- factory test mode (R254)
  | ready      -- READY (R58)
  | toSleep    -- sleep accepted, a flush still completing (R76)
  | sleep      -- asleep (R77)
  | wake       -- in the steps of Table 3.6 (R79)
deriving DecidableEq, Repr

/-- State of the clock of an island (R22). -/
inductive Isl where
  | running | stopped | restarting
deriving DecidableEq, Repr

/-- The clocks of the islands of Table 1.3. -/
structure Islands where
  pwm          : Isl := .stopped
  errorAdc     : Tab 24 Isl := Tab.all 24 .stopped
  capture      : Isl := .stopped
  housekeeping : Isl := .stopped
  host         : Isl := .stopped
  moduleBus    : Isl := .stopped
  servicePort  : Isl := .stopped
  memory       : Isl := .stopped
  ovrath       : Tab 6 Isl := Tab.all 6 .stopped
  pairLink     : Isl := .stopped
  loadLink     : Tab 8 Isl := Tab.all 8 .stopped
deriving DecidableEq, Repr

/-- One toggle crossing (R20): an acknowledgement outstanding, and a merged event waiting for it. -/
structure Toggle where
  outstanding : Bool := false
  merged      : Bool := false
deriving DecidableEq, Repr

/-- A reaction of type TRAP as delivered to the supervisor core (R27, Table 11.3). -/
structure Trap where
  source : Nat
  sub    : Nat
  time   : Nat
  entry  : Nat := 0     -- the reaction entry (Table 16.6)
  cause  : Nat := 0
deriving DecidableEq, Repr

/-- What an embedded core is doing (R25 to R27, R247). -/
inductive CoreState where
  | off          -- not started yet (before step 11 of Table 3.1)
  | running
  | restarting   -- paused under R26
  | halted       -- no valid image, or a failed self-test (R58)
  | held         -- held by a fourth BRESET (R247)
deriving DecidableEq, Repr

/-- One embedded core. -/
structure Core where
  state   : CoreState := .off
  imageOk : Bool := false      -- step 10 of Table 3.1 found a valid image
  bad     : Bool := false      -- the core-health condition of EV187 stands (R269)
deriving DecidableEq, Repr

/-- Clocks, crossings, cores and supplies. -/
structure ArchS where
  islands   : Islands := {}
  pllLocked : Bool := false
  refClk    : Bool := true                 -- REF_CLK edges arrive (R17)
  holdover  : Option Nat := none           -- end of the 1 ms of R17, ns of `now`
  convStart : Toggle := {}
  frameRecv : Tab 8 Toggle := Tab.all 8 {}
  ovRecv    : Tab 6 Toggle := Tab.all 6 {}
  pairRecv  : Toggle := {}
  spRecv    : Toggle := {}
  wrap      : Tab 16 Toggle := Tab.all 16 {}
  demand    : Tab 24 Toggle := Tab.all 24 {}   -- the events that offer the rails' demands (R19)
  cores     : Tab 3 Core := Tab.all 3 {}   -- supervisor, ledger, link (Table 16.5)
  traps     : List Trap := []              -- held pending, oldest first (R27)
  supplyOut : Tab 5 Bool := Tab.all 5 false  -- out of range, in Table 18.3 order (R396)
  cdcFails  : List Nat := []               -- times of R18 failures within the last second (R269)
deriving DecidableEq, Repr

/-- One auxiliary feed (R52 to R54). -/
structure Feed where
  qual  : Bool := false
  gate  : Bool := false
  lost  : Bool := false             -- FEED_STAT.x_LOST, W1C
  since : Option Nat := none        -- when its qualify time started
  below : Bool := false             -- more than 0.5 V below the other feed
  mv    : Option Nat := none        -- its sense voltage as last known, mV (R54)
deriving DecidableEq, Repr

/-- The layout directory as accepted (Table 3.2). -/
structure Layout where
  csCount   : Nat
  readMode  : Nat
  dummy     : Nat
  clkDiv    : Nat
  addrBytes : Nat
  type0     : Nat
  type1     : Nat
  regions   : List (Nat × Nat × Nat)   -- device, byte offset, length: slot A, slot B, firmware A, firmware B, settings, archive
deriving DecidableEq, Repr

/-- What a memory write is for, so that its end can be taken up (R63, R65). -/
inductive MemUse where
  | staging | settings | archive | factory
deriving DecidableEq, Repr

/-- One command of a memory write: the erase of a sector, or the program of bytes within one page (R63, R65). -/
structure MemOp where
  dev     : Nat
  use     : MemUse
  ofs     : Nat
  erase   : Bool
  data    : List Byte := []
  started : Nat := 0      -- ns of `now`
deriving DecidableEq, Repr

/-- The chandler, the external memory and the scrub (R57 to R75). -/
structure ChandlerS where
  slot      : Nat := 0              -- CHD_STAT.SLOT
  fallback  : Bool := false
  migrated  : Bool := false
  srcFmt    : Nat := 0
  dirMirror : Bool := false
  setRdFail : Bool := false
  blank     : Bool := false         -- the blank pattern is in force (R69)
  applying  : Bool := false         -- CHD_STAT.STATE 3
  reasonA   : Nat := 0xFF
  reasonB   : Nat := 0xFF
  ofs       : Nat := 0
  seq       : Nat := 0
  layout    : Option Layout := none
  image     : Image := {}           -- the pattern in force
  cand      : Option Image := none  -- the accepted candidate, waiting for its apply
  candSlot  : Nat := 0
  tried     : Nat := 0              -- candidates examined in this start (steps 7 and 8)
  dev0      : List Host.Cell := []  -- external memory on MEM_CS0_N
  dev1      : List Host.Cell := []  -- external memory on MEM_CS1_N
  memOp     : Option MemOp := none  -- the command in progress on a NOR device
  memQ      : List MemOp := []      -- the commands that wait for it, oldest first
  wrFail    : Bool := false
  segCrc    : List Nat := []        -- stored segment CRCs (R72)
  trimCrc   : Nat := 0              -- stored CRC of the trim overlay, a free value: the spec gives the overlay no layout
  upset     : List Nat := []        -- pattern segments found mismatched, their reread under way (R73)
  stuck     : List Nat := []        -- pattern segments that a reread could not repair (R73)
  seen      : List Nat := []        -- segments visited in this period of SCRUB (R72)
  scrubAt   : Nat := 0              -- start of the period, ns of `now`
  repaired  : Bool := false
  unrepaired : Bool := false
  trimDrop  : Bool := false
  passes    : Nat := 0
deriving DecidableEq, Repr

/-- Sleep and wake (R76 to R79). -/
structure SleepS where
  refused  : Bool := false
  lastWake : Nat := 0xF
  wakeEn   : Nat := 0xFF
  alarm    : Nat := 0
  alarmAt  : Option Nat := none
  idleAt   : Option Nat := none      -- since when every domain is off, for SLEEP_IDLE
  woke     : Nat := 0xF              -- the source of the wake in progress
  scrubbed : Bool := false           -- step 3 of Table 3.6 done
deriving DecidableEq, Repr

/-- One event source (Table 11.10). -/
structure EvSource where
  pend   : Bool := false
  ien    : Bool := false
  fired  : Bool := false             -- it has fired since the chip restart
  fence  : Bool := false             -- the entry of its latest firing had PRIMARY = FENCE
  count  : Nat := 0
  sub    : Nat := 0
  time   : Nat := 0
deriving DecidableEq, Repr

/-- A firing: source and sub-index, waiting to be carried out in this step (R243). -/
structure Firing where
  source : Nat
  sub    : Nat
deriving DecidableEq, Repr

/-- The record of block resets that R247 counts. -/
structure BlockRec where
  block : Block
  times : List Nat
deriving DecidableEq, Repr

/-- Event sources, reactions, chip status and tallies (chapter 11). -/
structure EventS where
  src       : Tab 192 EvSource := Tab.all 192 {}
  sel       : Nat := 0
  refused   : Bool := false
  latched   : Bool := false           -- FAULT_N latched (FAULTN_MODE 1)
  lastErr   : Option Nat := none      -- time of the latest ERRPIN firing
  faultOn   : Bool := false           -- FAULT_N asserted by an ERRPIN firing
  last      : Nat := 0xFF             -- EV_CHIP_STAT.LAST
  fireQ     : List Firing := []       -- firings of this step still to be carried out
  inReset   : List Block := []        -- block resets in progress
  resets    : List BlockRec := []     -- resets counted by R247
  heldBlks  : List Block := []        -- blocks held by R247
  crCount   : Nat := 0                -- EV_CRESET.COUNT
  crSrc     : Nat := 0xFF
  crTimes   : List Nat := []          -- real-time-clock seconds of recent CRESETs
  crHold    : Bool := false           -- EV_CHIP_STAT.CRESET_HOLD
  tallies   : Tab 24 Nat := Tab.all 24 0
  tallyRef  : Bool := false
  degr      : Nat := 0                -- EV_DEGR as last written to the ledger (R249)
  challenge : Option (List Byte) := none
  testBad   : Nat := 0                -- refused TEST_ENTER requests since the last POR (R255)
deriving DecidableEq, Repr

/-- One path of protected writes (R387 to R389). -/
structure LockPath where
  armed    : Bool := false
  armedAt  : Nat := 0
  unlocked : Bool := false
  usedAt   : Nat := 0               -- last accepted protected write, or the unlock
  who      : BitVec 18 := 0         -- the requester on the Ovrath path
deriving DecidableEq, Repr

/-- Device-wide registers and the readback windows (chapter 17). -/
structure GlobalS where
  straps   : Straps := ⟨0, false, true⟩
  resetLow : Bool := false            -- RESET_N is held low
  porAt    : Nat := 0                 -- ns of `now` at the last POR: the real-time clock counts from it
  scratch  : Nat := 0
  lockHost : LockPath := {}
  lockOv   : LockPath := {}
  prbSel   : Nat := 0
  prbPage  : Nat := 0
deriving DecidableEq, Repr

end Sys2Proof.Machine
end

