-- ==== Sys2Proof/Machine/Blocks/Power.lean ====
section
/-! DEFINITION. State of the power path: phase engines, rails, load-link ports, and the lamplighter's domains and slots
(spec chapters 4 to 7). Every field carries its reset value as its default. -/
namespace Sys2Proof.Machine

/-- An exact fraction: numerator over a positive denominator, not reduced. -/
structure Q where
  n : Int
  d : Nat
deriving DecidableEq, Repr

/-- PH_STAT.STATE (Table 4.7). -/
inductive PhState where
  | absent | off | active | shedPend | shed | fenced | snuff
deriving DecidableEq, Repr

/-- The state of a PWM output (R81). -/
inductive Pwm where
  | z | low | high
deriving DecidableEq, Repr

/-- One completed period of an engine, as the check and the rail read it (R83, R94). Codes carry the sign of Table 4.1. -/
structure Period where
  pk   : Int     -- peak sample, 2 mV per code
  val  : Int     -- valley sample that opened it
  ton  : Nat     -- on-time in vernier taps
  full : Bool    -- the on-time ended at tON_MAX
  trip : Bool    -- the on-time ended by the comparator
deriving DecidableEq, Repr

/-- One phase engine. -/
structure PhaseS where
  cfg      : Option PhaseCfg := none   -- running values, trims included
  next     : Option PhaseCfg := none   -- values waiting for the next period boundary (Table 2.28)
  trimmed  : Bool := false             -- a trim of SLOPE or BLANK is in force (R49)
  state    : PhState := .absent
  pwm      : Pwm := .z
  dir      : Bool := false             -- discharge
  dirCmd   : Bool := false             -- the direction the rail has commanded (R93)
  pkClamp  : Bool := false
  noTrip   : Bool := false
  oob      : Bool := false
  why      : Nat := 0                  -- FENCE_WHY
  oobCnt   : Nat := 0
  cause    : Nat := 0                  -- cause of the latest out-of-band period
  stage    : Bool := false             -- the previous period had a stage-fault valley sample
  refused  : Bool := false
  susp     : Nat := 0                  -- periods of check suspension left (R95)
  pos      : Int := 0                  -- leading-edge position, taps
  posTgt   : Int := 0
  ref      : Nat := 0                  -- code loaded into the peak DAC (R86)
  skip     : Bool := false             -- the pulse of the period is skipped (R86)
  thr      : Q := ⟨0, 1⟩               -- effective threshold, mV, with the ramp as it stands (R87)
  thrEnd   : Q := ⟨0, 1⟩               -- effective threshold at which its latest on-time ended, mV (R87)
  led      : Bool := false             -- it has led since it joined the switching units
  again    : Bool := false             -- re-lit by the hold-up state once its pending shed completes (Table 4.6)
  onNow    : Bool := false             -- within an on-time
  dropping : Bool := false             -- a pending shed has dropped in this period (R91)
  shedAt   : Nat := 0                  -- when it entered SHED
  opened   : Bool := false             -- a period is open: its opening valley sample has been taken
  openVal  : Int := 0                  -- valley sample that opened the period, raw code
  curPk    : Int := 0                  -- peak sample of the period, raw code
  curTon   : Nat := 0
  curFull  : Bool := false
  curTrip  : Bool := false
  latest   : Option Period := none
  lastTrip : Bool := false             -- its latest on-time ended by the comparator (R94)
  lastPk   : Option Int := none        -- its latest peak, with the sign of Table 4.1 (R94)
  accN     : Nat := 0                  -- periods accumulated towards a result (R106)
  accPk    : Int := 0
  accVal   : Int := 0
  accTon   : Nat := 0
  accClamp : Bool := false
  seq      : Nat := 0
  fresh    : Bool := false             -- the published result has not been read
  clamped  : Bool := false
  ipk      : Nat := 0                  -- PH_IPK, 16-bit code
  ival     : Nat := 0
  tonRes   : Nat := 0
  episodes : Nat := 0
  fences   : Nat := 0
deriving DecidableEq, Repr

/-- RAIL_STAT.STATE (Table 5.8). -/
inductive RailState where
  | absent | off | rampUp | regulating | rampDown | snuff
deriving DecidableEq, Repr

/-- One reduction of a rail's limit, as a fraction of ILIM (R97, R150, R151, R213, R230). `none` is no reduction. -/
structure Term where
  ann   : Option Q := none            -- as announced
  enf   : Option Q := none            -- as enforced
  pend  : List (Q × Nat) := []        -- graces in progress: the fraction, and the end of its grace
  fresh : Nat := 0                    -- how many of the newest of these have not been judged at a compensator sample
  bare  : Bool := false               -- a reduction without a grace waits for its compensator sample
deriving DecidableEq, Repr

/-- One rail. -/
structure RailS where
  cfg       : Option RailCfg := none   -- running values, trims included
  next      : Option RailCfg := none   -- values waiting for the next compensator sample (Table 2.28)
  trimV     : Bool := false            -- a trim of VSET is in force
  trimI     : Bool := false            -- a trim of ILIM is in force
  state     : RailState := .absent
  pg        : Bool := false
  inLimit   : Bool := false
  limitHit  : Bool := false
  sat       : Bool := false
  ovLatch   : Bool := false
  uvArmed   : Bool := false
  uvAt      : Option Nat := none       -- end of the UV timer
  ovCmp     : Bool := false            -- OV comparator tripped
  uvCmp     : Bool := false            -- UV comparator reads below
  sense     : Int := 0                 -- latest sense voltage, 1/16 mV
  clip      : Option Bool := none      -- it comes from a saturated sample: the output lies above it (true) or below it (R110)
  away      : Bool := false            -- the error ADC has watched the bus bar since that sense voltage (R222)
  peer      : Nat := 0                 -- RAIL_STAT [7:0] of the twin's rail, from its latest SYNC
  entry     : Nat := 0
  cause     : Nat := 0                 -- RAIL_CAUSE [4:0]
  refused   : Bool := false
  noshed    : Bool := false
  vtgt      : Nat := 0
  vref      : Int := 0                 -- 1/16 mV at the sense input
  rampFrom  : Int := 0                 -- Vref at the start of the ramp
  rampSteps : Nat := 0                 -- 10 us steps taken since
  rampVset  : Nat := 0                 -- the VSET that fixes the slope of the ramp or move (R116, R118)
  slew      : Nat := 0                 -- SLEW of the move in progress: 0 the on-ramp slope, 1-15 as R143
  pulsed    : Bool := false            -- the first demand above 0 has been issued (R82)
  e         : List Int := [0, 0, 0]    -- e[n-1] to e[n-3], 1/16 mV
  u         : List Int := [0, 0, 0]    -- u[n-1] to u[n-3], 14 fraction bits
  idx       : Nat := 0                 -- compensator sample index, modulo 65,536 (R263)
  uPast     : List Int := []           -- the latest 16 values of u, newest first (R263)
  demand    : Nat := 0
  cl        : Nat := 1023
  held      : Nat := 0                 -- the demand code that the PWM island has loaded (R19)
  heldCl    : Nat := 1023              -- the clamp code that it has loaded with it
  isum      : Q := ⟨0, 1⟩              -- A
  isumPrev  : Q := ⟨0, 1⟩
  ilimEff   : Nat := 0
  limsrc    : Nat := 0
  fence     : Term := {}
  cap       : Term := {}
  thermal   : Term := {}
  advisory  : Option Q := none         -- the advisory thermal limit of ENFORCE = 0 (R213)
  announced : Nat := 0                 -- the announced limit (R150), 0.1 A
  fenceDue  : Bool := false            -- the fence reduction changes at the next sample (R97 step 4)
  shedTo    : Nat := 0                 -- the entry that the pending shed moves to
  shedSet   : List (Fin 64) := []      -- the units of the pending shed, announced and not yet all dropped
  dwellAt   : Option Nat := none       -- end of the dwell timer
  holdAt    : Option Nat := none       -- end of the hold-off
  xFail     : Nat := 0                 -- consecutive failures of the comparator cross-check
  vFail     : Nat := 0                 -- consecutive failures of the sense-reference check
  accN      : Nat := 0
  accV      : Int := 0
  accI      : Q := ⟨0, 1⟩
  accD      : Nat := 0
  accE      : Nat := 0
  accSat    : Bool := false
  accLim    : Bool := false
  seq       : Nat := 0
  fresh     : Bool := false
  resSat    : Bool := false
  resLim    : Bool := false
  vout      : Nat := 0
  iout      : Nat := 0
  resDem    : Nat := 0
  epk       : Nat := 0
  sheds     : Nat := 0
  relights  : Nat := 0
  ovs       : Nat := 0
  uvs       : Nat := 0
deriving DecidableEq, Repr

/-- What a port holds for one sub-address (R145 to R150). -/
structure SubS where
  settled  : Bool := false
  sfail    : Bool := false
  dim      : Bool := false
  fault    : Bool := false
  tn       : Nat := 0                 -- latest TN accepted
  tnDone   : Nat := 0                 -- latest TN settled
  pending  : Bool := false            -- a transition has not settled
  count    : Nat := 0                 -- consecutive settled samples
  timed    : Bool := false            -- the settle timer of this transition has started
  settleAt : Option Nat := none       -- end of SETTLE_TO
  dimId    : Option Nat := none       -- DIM_ID of the latest dim notice since READY
  dimLimit : Nat := 0                 -- its announced limit
deriving DecidableEq, Repr

/-- A decoded load-link request (Table 6.1). -/
structure LlReq where
  cmd     : Nat
  sub     : Nat
  tog     : Bool
  payload : Nat
deriving DecidableEq, Repr

/-- A response (Table 6.1): CODE, PENDING, DATA and SCRC. -/
structure LlResp where
  code    : Nat
  pending : Nat
  data    : Nat
  scrc    : Nat
deriving DecidableEq, Repr

/-- One load-link port. -/
structure PortS where
  cfg      : Option PortCfg := none
  linkUp   : Bool := false
  tog      : Bool := false
  bad      : Nat := 0                    -- consecutive bad frames (R153)
  badRun   : Bool := false               -- the loss of the link has been raised, and no good frame has come since (R153)
  frame    : Option Bool := none         -- a request decoded in the frame in progress, and whether its RCRC agreed
  cause    : Nat := 0                    -- LP_CAUSE [2:0]
  subs     : Tab 4 SubS := Tab.all 4 {}
  tn       : Nat := 0
  tnDone   : Nat := 0
  dimId    : Nat := 0
  prev     : Option (LlReq × Nat × Nat) := none   -- previous executed request, with CODE and DATA answered (R154)
  resp     : Option LlResp := none       -- the response last driven on LLn_DAT
  fenced   : Bool := false
  good     : Nat := 0
  crcErr   : Nat := 0
  framing  : Nat := 0
  refused  : Nat := 0
  retries  : Nat := 0
deriving DecidableEq, Repr

/-- SEQ_DOM_STAT.STATE (Table 7.2). -/
inductive DomState where
  | off | wait | starting | up | stopping | reverse | latched | absent
deriving DecidableEq, Repr

/-- What a domain becomes when its stop ends (Table 7.9). -/
inductive AfterStop where
  | off | wait | latched
deriving DecidableEq, Repr

/-- One sequencing domain. -/
structure DomS where
  cfg       : Option DomCfg := none
  next      : Option DomCfg := none    -- timings waiting for the next start or stop (Table 2.28)
  state     : DomState := .absent
  inQ       : Bool := false
  afresh    : Bool := false            -- a stop has begun: the input qualifies afresh after MIN_OFF (R173)
  qualAt    : Option Nat := none       -- start of the qualify time
  req       : Bool := false            -- a start request stands
  restartAt : Option Nat := none       -- end of the RESTART time
  auto      : Bool := false            -- the standing request is an auto-restart (R180)
  minOffAt  : Option Nat := none       -- end of MIN_OFF
  slot      : Nat := 0x3F              -- slot of the latest verdict
  cause     : Nat := 0                 -- SEQ_DOM_CAUSE [9:0]
  refused   : Bool := false
  faults    : List Nat := []           -- times of the counted faults (R181)
  restarts  : Nat := 0
  src       : Nat := 0xFF
  shutoffs  : Nat := 0
  noStarts  : Nat := 0
  startTick : Nat := 0                 -- common start
  stopTick  : Nat := 0                 -- common stop
  after     : AfterStop := .off
  cutAt     : Option Nat := none       -- the step of the latest immediate shut-off, ns of `now`
deriving DecidableEq, Repr

/-- SEQ_SL_STAT.STATE (Table 7.16). -/
inductive SlotState where
  | absent | off | pending | comingUp | up | goingDown | downFail | failed
deriving DecidableEq, Repr

/-- One sequencing slot. Planned ticks are fixed at the common start or stop, so a sequence in progress finishes on the
values it began with (Table 2.28). -/
structure SlotS where
  cfg     : Option SlotCfg := none
  next    : Option SlotCfg := none
  state   : SlotState := .absent
  en      : Bool := false
  pgPin   : Bool := false             -- PG_INn as filtered, before polarity
  warn    : Bool := false
  warnCnt : Nat := 0
  onAt    : Nat := 0                  -- planned switch-on tick
  upBy    : Nat := 0                  -- last tick of UP_TO
  offAt   : Nat := 0                  -- planned off point
  downBy  : Nat := 0                  -- last tick of DOWN_TO
  pastOff : Bool := true              -- past its off point, or never switched on
  falling : Bool := false             -- past its off point, and not yet judged down
  planned : Bool := false             -- an off point is planned in the stop in progress
deriving DecidableEq, Repr

/-- The lamplighter. -/
structure SeqS where
  tick  : Nat := 0
  tickAt : Nat := 0                -- when the latest tick came, ns of `now`
  doms  : Tab 8 DomS := Tab.all 8 {}
  slots : Tab 48 SlotS := Tab.all 48 {}
deriving DecidableEq, Repr

end Sys2Proof.Machine
end

