-- ==== Sys2Proof/Machine/Blocks/Watch.lean ====
section
/-! DEFINITION. State of the measuring and supporting blocks: window monitors, capture timers, housekeeping and thermal,
hold-up, sharing and capping, the module bus and the cartridges (spec chapters 8 to 10). Every field carries its reset
value as its default. -/
namespace Sys2Proof.Machine

/-- A self-test in progress (R198). -/
structure SelfTest where
  tie    : Bool          -- kind: TIE, else SWAP
  tap    : Nat           -- 0 to 2
  step   : Nat := 0      -- check samples taken
  wrong  : Bool := false -- a check sample gave a wrong result
  again  : Bool := false -- the second run
  sweep  : Bool := false -- run by the sweep: TIE first, then SWAP
  since  : Nat := 0      -- when the comparators were last taken from the input, ns of `now`
deriving DecidableEq, Repr

/-- One window monitor. -/
structure MonS where
  cfg      : Option MonCfg := none
  next     : Option MonCfg := none     -- values waiting for the next decision (Table 2.28)
  trimmed  : Bool := false
  v        : Nat := 0                  -- latest input decided on, half-microvolts
  lowNow   : Bool := false
  highNow  : Bool := false
  lowCnt   : Nat := 0                  -- FILTER counts
  highCnt  : Nat := 0
  lowAt    : Option Nat := none        -- first decision beyond LOW, in a continuous mode
  highAt   : Option Nat := none
  lowTrip  : Bool := false
  highTrip : Bool := false
  trips    : Nat := 0
  test     : Option SelfTest := none
  stDone   : Bool := false
  stFail   : Bool := false
  stKind   : Nat := 0
  tap      : Nat := 0
  refused  : Bool := false
  fenced   : Bool := false             -- fenced by a FENCE reaction (Table 11.4)
  skipRun  : Nat := 0                  -- consecutive rounds in which the sweep skipped it (EV191)
deriving DecidableEq, Repr

/-- One capture timer. -/
structure CtS where
  cfg     : CtCfg := {}
  trimmed : Bool := false
  state   : Nat := 0                   -- CT_STAT.STATE
  start   : Nat := 0                   -- ns of `now` at which the count began
  satNow  : Bool := false              -- the count in progress has saturated
  sat     : Bool := false
  lost    : Bool := false
  missed  : Nat := 0
  refused : Bool := false
  lastCap : Option Nat := none
  seq     : Nat := 0
  fresh   : Bool := false
  resSat  : Bool := false
  mon     : Nat := 0
  comp    : Nat := 0
  count   : Nat := 0
deriving DecidableEq, Repr

/-- Monitors, capture timers and the sweep. -/
structure WatchS where
  mons     : Tab 96 MonS := Tab.all 96 {}
  cts      : Tab 16 CtS := Tab.all 16 {}
  interval : Nat := 0                  -- WM_SWEEP_CTRL.INTERVAL
  sweepTap : Nat := 1
  next     : Nat := 0x7F
  rounds   : Nat := 0
  stFails  : Nat := 0                  -- WM_TALLY
  skips    : Nat := 0
deriving DecidableEq, Repr

/-- One housekeeping channel's value. -/
structure HkVal where
  val   : Nat := 0
  valid : Bool := false
deriving DecidableEq, Repr

/-- One temperature sensor's health (R207). -/
structure Sensor where
  faulty : Bool := false
  good   : Nat := 0        -- consecutive rounds with a valid sample
  fenced : Bool := false   -- held faulty by a FENCE reaction (Table 11.4)
deriving DecidableEq, Repr

/-- Housekeeping and thermal. -/
structure HkS where
  next      : Option Nat := none       -- the next channel index of the round in progress
  started   : Nat := 0                 -- when the latest round began
  period    : Nat := 0                 -- HK_ROUND as that round took it, ms; 0 where none has begun (R203)
  late      : Bool := false            -- the round in progress has been counted late
  vals      : Tab 160 HkVal := Tab.all 160 {}   -- last valid values and this round's VALID bits
  pub       : Tab 160 HkVal := Tab.all 160 {}   -- the published set
  snap      : Tab 160 HkVal := Tab.all 160 {}   -- the host's snapshot of it
  seq       : Nat := 0
  fresh     : Bool := false
  rounds    : Nat := 0
  slow      : Bool := false
  sel       : Nat := 0
  dropped   : Nat := 0
  sensFault : Nat := 0
  hsRound   : List (Nat × Nat) := []   -- in-range HS results of this round, not yet judged against their median (R207)
  tapOut    : Nat := 0                 -- reference taps out of tolerance in the previous round, bit 0 channel 56
  tapDev    : Nat := 0                 -- largest tap deviation of the latest round, codes of 25 uV
  refFault  : Bool := false
  sensors   : Tab 48 Sensor := Tab.all 48 {}
  warn      : Bool := false
  dim       : Bool := false
  trip      : Bool := false
  warnPrev  : Bool := false            -- the previous verdict found the maximum at or above the level
  dimPrev   : Bool := false
  tripPrev  : Bool := false
  warnSeen  : Bool := false
  dimSeen   : Bool := false
  tripSeen  : Bool := false
  noSensor  : Bool := false
  k         : Nat := 0
  lastK     : Option Nat := none       -- time of the previous change of k
  f         : Nat := 100               -- F, %
  cfg       : ThermalCfg := {}         -- running values, trims included
  cfgNext   : Option ThermalCfg := none  -- an applied THERMAL record, waiting for the next round (Table 9.5)
  trimmed   : Bool := false
  thRefused : Bool := false
  thSeq     : Nat := 0
  thFresh   : Bool := false
  tmax      : Int := 0
  tsrc      : Nat := 0
  ttwin     : Bool := false
  pubTmax   : Int := 0
  pubTsrc   : Nat := 0
  pubTwin   : Bool := false
deriving DecidableEq, Repr

/-- HU_STAT.STATE (Table 10.1). -/
inductive HuState where
  | none | off | idle | charge | ride | handback | spent
deriving DecidableEq, Repr

/-- Hold-up, sharing and capping. -/
structure HoldS where
  cfg      : Option HoldupCfg := none
  next     : Option HoldupCfg := none   -- hot-safe values waiting for the end of a ride (Table 10.6)
  state    : HuState := .none
  busQ     : Bool := false
  qualAt   : Option Nat := none         -- start of the qualify time
  rideCmp  : Bool := false
  shareBad : Bool := false
  shareSrc : Nat := 0
  rides    : Nat := 0
  cause    : Nat := 0                   -- HU_CAUSE [4:0]
  cap      : Nat := 0
  capRoot  : Nat := 0
  fc       : Q := ⟨1, 1⟩
  own      : Nat := 0
  tgt      : Nat := 0
  ofs      : Int := 0
  setpoint : Option Nat := none         -- latest share set-point since the last pattern apply (R228)
  vbus     : Int := 0                   -- SHARE as last read, microvolts
  vown     : Option Q := none           -- VOWN as driven on SHARE, microvolts; none in high impedance (R226)
  bus      : Int := 0                   -- the bus bar at BUS_MON's input, as the latest sample of a ride read it, 1/16 mV (R222)
  fall     : Nat := 90                  -- the AUX_FALL that the feeds were last judged by, 0.1 V (R54)
  rideAt   : Nat := 0
  handAt   : Option Nat := none         -- when the ride comparator cleared
  rideAh   : Q := ⟨0, 1⟩                -- 0.01 Ah discharged in the ride
  seq      : Nat := 0
  fresh    : Bool := false
  resSpent : Bool := false
  dur      : Nat := 0
  ah       : Nat := 0
deriving DecidableEq, Repr

/-- BC_STAT.STATE (Table 10.10). -/
inductive CartState where
  | disabled | absent | checking | inUse | retired | excluded
deriving DecidableEq, Repr

/-- One counter bank as read (Table 10.4). -/
structure Bank where
  thru  : Nat
  dis   : Nat
  seq   : Nat
  flags : Nat
deriving DecidableEq, Repr

/-- One cartridge. -/
structure CartS where
  state    : CartState := .disabled
  why      : Nat := 0
  warned   : Bool := false
  retired  : Bool := false              -- the cartridge's RETIRED flag
  authOk   : Bool := false
  serial   : Nat := 0
  typ      : Nat := 0
  capAh    : Nat := 0
  ratedEfc : Nat := 0
  ratedAh  : Nat := 0
  bankA    : Option Bank := none        -- valid banks as last known
  bankB    : Option Bank := none
  thru     : Nat := 0                   -- AH_THRU total, 0.001 Ah
  dis      : Nat := 0                   -- AH_DIS total, 0.001 Ah
  thruRem  : Q := ⟨0, 1⟩                -- integral not yet amounting to 0.001 Ah
  disRem   : Q := ⟨0, 1⟩
  fails    : Nat := 0                   -- consecutive failed STATUS reads
  fenced   : Bool := false
  chal     : List Byte := []
  authAt   : Option Nat := none         -- when the challenge was written
  authDone : Nat := 0                   -- when the latest authentication passed
  dueWhy   : Option Nat := none         -- an exclusion waiting for the end of the ride (Table 10.6); 7 to become ABSENT
  connected : Bool := false             -- was IN_USE or RETIRED since it last answered
  answered : Bool := false              -- it has answered since it was enabled (R235)
  examDue  : Bool := false              -- an examination waits for the end of the ride (Table 10.6)
deriving DecidableEq, Repr

/-- What a module-bus transaction is for (R235, R236, R237). -/
inductive MbKind where
  | identity | banks | challenge | authPoll | response | control (v : Nat) | status | counters (bankA : Bool) (b : Bank)
deriving DecidableEq, Repr

/-- A module-bus transaction (R232). -/
structure MbOp where
  cart  : Fin 16
  addr  : Nat             -- its address on the bus: MB_BASE + n (R231)
  kind  : MbKind
  tries : Nat := 0        -- failures so far (R233)
  busy  : Nat := 0        -- address NACKs so far while the cartridge is busy
  wait  : Option Nat := none   -- until when a retry waits; none on the bus or in the queue
deriving DecidableEq, Repr

/-- Cartridges and the module bus. -/
structure CartsS where
  cfg     : Option CartCfg := none
  carts   : Tab 16 CartS := Tab.all 16 {}
  index   : Nat := 0                    -- BC_CTRL.INDEX
  ops     : List MbOp := []             -- waiting transactions; the first is on the bus
  sent    : Option MbOp := none         -- the transaction whose bytes have gone on the bus
  stuck   : Bool := false
  nacks   : Nat := 0
  crc     : Nat := 0
  excl    : Nat := 0
  ctrWr   : Nat := 0
  noneUse : Bool := false               -- every enabled cartridge is absent or excluded (EV149)
deriving DecidableEq, Repr

end Sys2Proof.Machine
end

