-- ==== Sys2Proof/Machine/Blocks/Link.lean ====
section
/-! DEFINITION. State of the links between devices: the pair and its link, the Ovrath cascade, its queues, its mailbox and
global time (spec chapters 12 and 13), and the messages that the part puts on its lines. Every field carries its reset
value as its default. -/
namespace Sys2Proof.Machine

/-- A CTRL command of the pair link (Table 12.2). -/
inductive PairCmd where
  | yield | refuse | takeReq
  | fence (n : Fin 64) | unfence (n : Fin 64) | snuff (r : Fin 24) | unsnuff (r : Fin 24)
  | shed (r : Fin 24) | relight (r : Fin 24) (entry : Nat) (trig : Bool) | direction (discharge : Bool)
  | lampStep (n : Fin 48) (on : Bool) | verdict (v : Verdict) | shutoff (mask : BitVec 8) | trim (addr v : Nat)
deriving DecidableEq, Repr

/-- A frame of the pair link (Table 12.2). -/
inductive PairFrame where
  | ctrl (c : PairCmd)
  | ack (type seq : Nat)
  | sync (entries : List SyncEntry)
  | health (h : Health)
  | state (t : TwinShared)
  | report (t : TwinReport)
  | stream (m : StreamMsg)
deriving DecidableEq, Repr

/-- A command on the external-memory bus (R63, Table 3.4): its code, the address and how many bytes carry it, the mode bits
of a 1-4-4 read, the dummy cycles, and the bytes the part sends after them. -/
structure MemCmd where
  dev      : Nat
  op       : Nat
  addr     : Option Nat := none
  addrLen  : Nat := 0
  modeBits : Option Nat := none
  dummy    : Nat := 0
  data     : List Byte := []
deriving DecidableEq, Repr

/-- What a command made the part put on its lines. -/
inductive Out where
  | pair (seq : Nat) (f : PairFrame)     -- with its SEQ, counted by TYPE (R259)
  | ov (k : Fin 6) (f : OvFrame)
  | ovBad (k : Fin 6) (f : OvFrame)      -- ended with K30.7 (R291)
  | ovLink (k : Fin 6) (l : LinkInfo)
  | ovCredit (k : Fin 6) (cls credits : Nat)
  | ovPark (k : Fin 6)
  | ovIdle (k : Fin 6)
  | attn (addr : Nat) (bytes : List Byte)
  | sclPulses (n : Nat) (stop : Bool)    -- SCL pulses on the host bus, and a STOP where SDA has risen (R356)
  | twinTime (time : Nat)
  | mb (bytes : List Byte)               -- what the part sends of a module-bus transaction (R232)
  | mbPulses (n : Nat)                   -- SCL pulses on the module bus, then a STOP (R233)
  | mem (c : MemCmd)
deriving DecidableEq, Repr

/-- PAIR_STAT.ROLE_NOW (Table 12.7). -/
inductive PairRole where
  | single | active | standby | undecided
deriving DecidableEq, Repr

/-- A CTRL frame waiting for its ACK (R260). -/
structure CtrlOut where
  seq   : Nat
  cmd   : PairCmd
  at_   : Nat
  tries : Nat := 0
deriving DecidableEq, Repr

/-- A ground of Table 12.3: its condition, and the end of the second for which it stands after (R269). -/
structure Ground where
  cond  : Bool := false
  until_ : Option Nat := none
deriving DecidableEq, Repr

/-- A hand-over that this standby has decoded and not completed (R271). -/
structure HandOver where
  deferrals : Nat := 0
deriving DecidableEq, Repr

/-- A duplicate window (R267), by pair address and pair identifier. -/
structure DupWin where
  paddr  : Nat
  pairId : Nat
  high   : Nat
  seen   : List Nat      -- the numbers recorded, within high - 63 to high
deriving DecidableEq, Repr

/-- The pair. -/
structure PairS where
  role      : PairRole := .single
  own       : Bool := false
  peer      : Bool := false
  drivers   : Bool := false            -- SEQ_ENn, load-link, module-bus and SHARE drivers enabled
  linkUp    : Bool := false
  inStep    : Bool := false
  stepAt    : Option Nat := none       -- since when every instantaneous condition of R261 holds
  twin      : Option Health := none    -- latest HEALTH
  twinSt    : Option TwinShared := none
  twinRep   : Option TwinReport := none
  lastSync  : Option Nat := none
  stateSent : Option TwinShared := none  -- the latest STATE frame sent
  prefClash : Bool := false
  yieldBlocked : Bool := false
  hoForced  : Bool := false
  takeStale : Bool := false
  wrRefused : Bool := false
  refused   : Bool := false
  noRevert  : Bool := false
  cause     : Nat := 0                 -- PAIR_CAUSE [8:0]
  grounds   : Tab 7 Ground := Tab.all 7 {}
  xchk      : Nat := 0                 -- consecutive rounds with the REF_XCHK condition
  ySrc      : Nat := 0xFF
  yields    : Nat := 0
  align     : Int := 0                 -- the largest timebase offset from the active at its latest mark, taps (R262)
  delay     : Int := 0                 -- the link delay in each direction, half the round trip, taps
  origins   : Tab 24 Int := Tab.all 24 0  -- how far each rail's timebase origin has been placed by the marks, taps
  lastGood  : Option Nat := none       -- when the latest frame with a good CRC came, or the link came up (R259)
  fwd       : List PairCmd := []       -- commands of the active that wait for their edge, sample or tick (R264)
  reverts   : List Nat := []           -- real-time-clock seconds of the reverts within the last 60 min
  holdAt    : Option Nat := none       -- end of the revert hold-off
  crcTally  : Nat := 0
  retx      : Nat := 0
  handovers : Nat := 0
  takeovers : Nat := 0
  seqs      : Tab 7 Nat := Tab.all 7 0  -- SEQ of the next frame of each TYPE (R259)
  unacked   : List CtrlOut := []
  badTimes  : List Nat := []           -- times of frames with bad CRCs within 1 ms (R260)
  yielding  : Bool := false            -- steps 1 and 2 of R270 are in progress
  yieldGround : Bool := false          -- the yield in progress was started by a ground
  release   : Option Nat := none       -- end of the wait of R271
  held      : List (Nat × Nat × Nat) := []   -- held reactions: source, sub-index and the entry at the firing (R244, R270)
  handOver  : Option HandOver := none
  takeSent  : Bool := false            -- this unit has sent TAKE_REQ
  takeRevert : Bool := false           -- it was the automatic revert's
  bothAt    : Option Nat := none       -- since when OWN_N and PEER_OWN_N are both asserted
  noneAt    : Option Nat := none       -- since when neither is asserted
  ownFired  : Bool := false            -- EV155 has fired for that (R275)
  pseq      : Nat := 0                 -- number of the next pair-originated message (R266)
  seenPseq  : Nat := 0                 -- highest number seen
  wins      : List DupWin := []
  verdicts  : List (Verdict × Nat) := []   -- the standby's verdicts waiting for the active's own (R265)
  readyAt   : Nat := 0
  alone     : Bool := false            -- EV152 of R279 has fired
  diffs     : Nat := 0                 -- PAIR_CAUSE bits whose difference stands, so that EV153 fires at its start
deriving DecidableEq, Repr

/-- OV_PORT_STAT.STATE (Table 13.14). -/
inductive OvPortState where
  | disabled | training | up | down | fenced | parked | notAdmitted | spareIdle
deriving DecidableEq, Repr

/-- A message that ends at this device and is served by the link core or the supervisor core (Table 13.5, R293). -/
inductive OvMsg where
  | enum (k : Fin 6) (h : OvHdr)
  | count (k : Fin 6) (h : OvHdr) (n : Nat)
  | assign (k : Fin 6) (h : OvHdr) (base len : Nat)
  | rdReq (k : Fin 6) (h : OvHdr) (addr count : Nat)
  | wrReq (k : Fin 6) (h : OvHdr) (addr : Nat) (data : List Byte)
  | resp (k : Fin 6) (h : OvHdr) (status : Nat) (data : List Byte)
  | role (k : Fin 6) (h : OvHdr) (acting : Bool)
  | shareSp (k : Fin 6) (h : OvHdr) (v : Nat)
  | cap (k : Fin 6) (h : OvHdr) (v : Nat)
  | activate (k : Fin 6) (h : OvHdr) (a : ActivateCmd)
  | evrec (k : Fin 6) (h : OvHdr) (r : EvRec)
  | snaprec (k : Fin 6) (h : OvHdr) (payload : List Byte)
  | imgData (k : Fin 6) (h : OvHdr) (imgId offset : Nat) (data : List Byte)
deriving DecidableEq, Repr

/-- A class 1-3 frame that a port is sending (R292): the port that it is relayed from, when its last symbol leaves, and whether
it ends with K30.7. -/
structure LongTx where
  frame : OvFrame
  relay : Option (Fin 6)
  till  : Nat
  bad   : Bool
deriving DecidableEq, Repr

/-- One Ovrath port. -/
structure OvPort where
  state    : OvPortState := .disabled
  why      : Nat := 0
  merged   : Bool := false
  errRun   : Bool := false
  delay    : Nat := 0                   -- one-way link delay, ns
  base     : Nat := 0
  len      : Nat := 0                   -- 0: no range held
  crc      : Nat := 0
  code     : Nat := 0
  merges   : Nat := 0
  drops    : Nat := 0
  peer     : Option LinkInfo := none    -- the latest LINK frame
  lastLink : Nat := 0                   -- when it came
  downAt   : Option Nat := none         -- since when an up port is not UP
  errTimes : List Nat := []             -- drops of R309 within the last millisecond
  errMs    : Nat := 0                   -- the latest millisecond over the threshold
  errRuns  : Nat := 0                   -- consecutive milliseconds over the threshold
  count    : Option Nat := none         -- subtree count reported in this enumeration
  busyTill : Nat := 0                   -- the class-0 frame being sent ends then
  busyOwn  : Bool := false              -- this device originated it
  long     : Option LongTx := none      -- the class 1-3 frame being sent, or interrupted by a class-0 frame
  crOut    : List (Nat × Nat) := []     -- credits that wait for the moment between frames: class and number (R293)
  waiting  : List (Nat × Ov0) := []     -- class-0 frames waiting behind it, with their types (R295)
  credits  : Nat × Nat × Nat := (0, 0, 0)
  egress   : List (OvFrame × Option (Fin 6)) := []   -- class 1-3 frames waiting for the link or for credits, oldest first, each with the
                                        -- port that it is relayed from
  run1     : Nat := 0                   -- consecutive class-1 frames sent
  run2     : Nat := 0
  ack      : Option Bool := none        -- answer to the barrier or snapshot in progress; true is partial
  win      : Option Nat := none         -- end of the 2 us window of R295
  winCount : Nat := 0                   -- frames merged in it
  winLow   : Nat := 0xFF                -- lowest source among the merged TRIPs
deriving DecidableEq, Repr

/-- A remote transaction of this device (R307). -/
structure OvTxn where
  tag     : Nat
  write   : Bool
  mailbox : Bool
  at_     : Nat          -- when it was sent
deriving DecidableEq, Repr

/-- One queue (R293). -/
structure QueueS where
  msgs  : List (OvMsg × Nat) := []     -- the frames held, and the space each takes
  drops : Nat := 0
deriving DecidableEq, Repr

/-- A snapshot in progress (R304). -/
structure SnapS where
  capAt  : Nat                         -- capture instant, global time
  late   : Bool
  taken  : Bool := false               -- the fields other than rails have been recorded
  rails  : List (Fin 24) := []         -- rails whose compensator sample has not come yet
  data   : List Byte := []             -- Table 13.8 as recorded so far
deriving DecidableEq, Repr

/-- The Ovrath cascade, the queues and global time. -/
structure OvS where
  ports     : Tab 6 OvPort := Tab.all 6 {}
  acting    : Bool := false
  addr      : Option Nat := none
  len       : Nat := 0                  -- length of the device's own range
  mismatch  : Bool := false
  timeHold  : Bool := false
  upSpare   : Bool := false
  split     : Bool := false
  depth     : Nat := 15
  refused   : Bool := false
  rootAddr  : Option Nat := none        -- SRC of the acting root as last named by ROOTCHG or a down frame
  lostPorts : List (Fin 6) := []        -- ports over which this root has received a ROOTCHG since the latest RECLAIM (R312)
  grafts    : List (Nat × Nat × Fin 6) := []   -- base, length, port
  enumOpen  : Bool := false             -- an ENUM has come whose range has not been assigned yet
  enumPend  : Bool := false             -- an enumeration waits for the link core (Table 13.12)
  enumAt    : Option Nat := none        -- end of the 10 ms wait for COUNT
  gtime     : Nat := 0
  slew      : Int := 0                  -- offset still to be slewed, ns
  slewAcc   : Nat := 0                  -- nanoseconds since the last slewed one
  tmarkCnt  : Nat := 0                  -- global time at the arrival of the latest TMARK
  rate      : Int := 0                  -- rate correction, parts per 2^32
  rateAcc   : Int := 0
  mark      : Nat := 0                  -- OV_TSTAT.MARK
  ofs       : Int := 0
  markMs    : Nat := 0                  -- MARK as the latest TIME frame named it
  markNext  : Nat := 1                  -- acting root: the next mark number
  markLast  : Option Nat := none        -- acting root: when the latest TMARK was sent
  tmark     : Option (Nat × Nat × Nat) := none   -- mark number, arrival on the own clock, CORR
  prevMark  : Option (Nat × Nat) := none         -- root time and own clock at the latest mark
  goodAt    : Nat := 0                  -- when the latest usable pair came
  tmarkAt   : Nat := 0                  -- when the latest TMARK came
  timeSet   : Nat := 0
  opId      : Nat := 0
  opKind    : Nat := 0
  opDone    : Bool := false
  opPartial : Bool := false
  opLead    : Nat := 10
  opDur     : Nat := 0
  opAt      : Nat := 0                  -- when it was sent or acted on
  opOpen    : Bool := false             -- in progress at this device
  opEnds    : Option Nat := none        -- end of the 1 ms
  opC0      : Nat := 0                  -- when the last class-0 frame that this device originated before it has left the up port
  opWin     : Bool := false             -- a SUMMARY of the 2 us window open then has still to leave
  opC1      : Nat := 0                  -- own class-1 frames queued before it that have not left the up port
  snap      : Option SnapS := none
  portSel   : Nat := 0
  txnDest   : Nat := 0
  txnRoot   : Bool := false
  txnAddr   : Nat := 0
  txnWrite  : Bool := false
  txnCount  : Nat := 0
  txnRefused : Bool := false
  txnBusy   : Bool := false
  txnDone   : Bool := false
  txnStatus : Nat := 0
  txnTag    : Nat := 0
  txnData   : Tab 8 Nat := Tab.all 8 0
  txns      : List OvTxn := []
  nextTag   : Nat := 0
  qSel      : Nat := 0
  queues    : Tab 128 QueueS := Tab.all 128 {}
deriving DecidableEq, Repr

end Sys2Proof.Machine
end

