-- ==== Sys2Proof/Machine/Blocks/Record.lean ====
section
/-! DEFINITION. State of recording and service: the ledger with its pages, event log, directory, archive pointer and
last-gasp store, the host bus with its attention records and windows, the service port, the settings store and field update
(spec chapters 14 to 16). Every field carries its reset value as its default. -/
namespace Sys2Proof.Machine

/-- An event entry (Table 14.5). -/
structure LogEntry where
  time : Nat
  kind : Nat
  a    : Nat
  b    : Nat
  c    : Nat
deriving DecidableEq, Repr

/-- A page of the sample memory that is not free (Table 14.2). -/
structure Page where
  num      : Nat                -- 0 to 8191
  ch       : Nat
  seq      : Nat
  t0       : Nat
  pred1    : Nat
  pred2    : Nat
  firstBit : Nat
  gap      : Bool
  damaged  : Bool := false
  blocks   : Nat := 0           -- blocks that begin in the page
  tEnd     : Nat                -- global time just after the last sample held
  bits     : Nat := 0           -- the payload written so far, most significant bit first, as a number
  used     : Nat := 0           -- its length in bits
  begun    : Bool := false      -- a block has begun in the page
  since    : Nat := 0           -- global time of the first sample of the block whose bits begin the page
deriving DecidableEq, Repr

/-- What a channel's encoder holds. -/
structure ChanS where
  x1   : Nat := 2048
  x2   : Nat := 2048
  seq  : Nat := 0
  page : Option Nat := none     -- the page in progress
  gap  : Bool := true           -- the next page starts with GAP
  line : List (Nat × List Nat) := []   -- the delay line: T0 and samples of the blocks not yet coded, oldest first (R326)
deriving DecidableEq, Repr

/-- LG_REC_INFO.STATE (Table 14.10), empty being an absent entry. -/
inductive RecState where
  | opened | closed | flushing | flushed | flushFail
deriving DecidableEq, Repr

/-- A record of the directory (Table 14.6). -/
structure Record where
  state   : RecState := .opened
  recSeq  : Nat
  kind    : Nat
  flags   : Nat
  src     : Nat
  sub     : Nat
  start   : Nat
  trig    : Nat
  endAt   : Nat
  trigs   : Nat
  events  : Nat := 0
  pages   : List Nat := []      -- the pages held, fixed at the close
  post    : Nat                 -- POST and LOSSLESS as the record opened (Table 14.8)
  lossless : Nat
  moments : List Nat := []      -- TRIG and the further firings (R326)
  chans   : List LedgerChan
  e       : Nat
  patSeq  : Nat
  retries : Nat := 0            -- abandoned flushes (R335)
  late    : List Nat := []      -- the channels that have still to write blocks of the closed record (R325, R326)
deriving DecidableEq, Repr

/-- One bank of the last-gasp store (Table 14.7). -/
structure LgsBank where
  marker   : Nat
  crCount  : Nat
  crSrc    : Nat
  complete : Bool
  record   : Record
  events   : List LogEntry
  pages    : List Page
  held     : List Nat      -- those of the pages that a record held
  old      : List Byte := []   -- what the bank held before (R332)
  stop     : Option Nat := none  -- how many bytes an incomplete write has written, in the order of R332
deriving DecidableEq, Repr

/-- The ledger. -/
structure LedgerS where
  chans     : Tab 64 ChanS := Tab.all 64 {}
  pages     : List Page := []              -- oldest taken first
  log       : List (Nat × LogEntry) := []  -- slot in the index memory, and entry; newest first
  dir       : Tab 16 (Option Record) := Tab.all 16 none
  prevEnd   : Nat := 0                     -- END of the previous record
  badIndex  : List Nat := []               -- entries of the index memory made unreadable by R330: 0 to 7,679 of the log, then the directory's
  banks     : Tab 2 (Option LgsBank) := Tab.all 2 none
  lgsWrite  : Option (Fin 2) := none       -- the bank being written
  lgsOld    : Option LgsBank := none       -- what it held before
  offs      : List Nat := []               -- the slot offset of each channel on its capture ADC (R317)
  lgsIncomplete : Bool := false
  dropHeld  : Bool := false
  archFail  : Bool := false
  uncorr    : Bool := false
  refused   : Bool := false
  flushHold : Bool := false
  codec     : Option (Nat × Nat) := none   -- E and LOSSLESS in force until the ledger core's restart ends (R26)
  flush     : Option (Fin 16) := none      -- the record being flushed
  lastFlush : Option Nat := none           -- when the latest flush began
  flushLen  : Nat := 0                     -- the bytes that the flush in progress takes in the archive
  archKnown : Bool := false                -- the write pointer has been found since READY (R334)
  archPtr   : Nat := 0
  archCnt   : Nat := 0
  archSeq   : Nat := 0                     -- highest REC_SEQ in the archive
  recSel    : Nat := 0
  winSel    : Nat := 0
  winOfs    : Nat := 0
  eccCorr   : Nat := 0
  unflushed : Nat := 0
  recSeqNo  : Nat := 0                     -- LG_REC_INFO.SEQ
  recSeen   : List (Nat × Record) := []    -- per slot, the state last read, for FRESH
deriving DecidableEq, Repr

/-- An attention record waiting to be sent (R351). -/
structure AttnRec where
  seq      : Nat
  paired   : Bool
  active   : Bool
  source   : Nat
  sub      : Nat
  cause    : Nat
  time     : Nat
  attempts : Nat := 0
deriving DecidableEq, Repr

/-- A line of a window's buffer (R392). -/
structure WinLine where
  line  : Nat
  bytes : Option (List Byte) := none    -- none until the line has arrived
deriving DecidableEq, Repr

/-- The host bus. -/
structure HbS where
  ptr       : Nat := 0
  stat      : Nat := 0                  -- HB_STAT [9:0]
  refused   : Bool := false
  snaps     : List (Nat × List Byte) := []   -- latest snapshot of each value or set, by its lowest address
  rdata     : List Byte := []           -- bytes the part sent in the latest read
  lone      : List (Nat × Byte) := []   -- bytes of a value not yet complete (R344)
  queue     : List AttnRec := []
  lost      : Nat := 0                  -- for the LOST field of the next record
  ownSeq    : Nat := 0                  -- SEQ of the next unpaired record
  lastSeq   : Nat := 0
  backoff   : Option Nat := none        -- the back-off drawn for the next attempt, us
  sending   : Option Bool := none       -- an attempt is in progress (R354); whether it may be retried
  fenced    : Bool := false
  abandoned : Nat := 0
  abSource  : Nat := 0                  -- source of the latest record abandoned (R360)
  lostTally : Nat := 0
  busyTally : Nat := 0
  timeouts  : Nat := 0
  sdaStuck  : Bool := false             -- an SDA timeout is waiting for its recovery (R356)
  winL      : List WinLine := []        -- ledger window, newest first, two lines
  winP      : List WinLine := []        -- pattern window
deriving DecidableEq, Repr

/-- A response of the service port (Table 16.1). -/
structure SpResp where
  status  : Nat := 0
  tag     : Nat := 0
  payload : List Byte := []
deriving DecidableEq, Repr

/-- The service port. -/
structure SpS where
  mode    : Option Nat := none          -- session mode, as OPEN
  lastGood : Nat := 0                   -- when the latest good request came
  badRun  : Nat := 0
  prev    : Option (Nat × Nat) := none  -- CMD and TAG of the previous good request
  resp    : SpResp := {}                -- of the latest good request
  badTag  : Option Nat := none          -- TAG of the latest request, where its CRC was bad
  rdata   : List Byte := []             -- bytes of the latest fetch
  fenced  : Bool := false
deriving DecidableEq, Repr

/-- The pattern-state record. -/
structure PatState where
  proved  : List Nat := []
  failed  : List Nat := []
  inProof : Option Nat := none
deriving DecidableEq, Repr

/-- A pending schedule (R379). -/
structure Sched where
  actId   : Nat
  imgId   : Nat
  confirm : Nat
  at_     : Nat
  ov      : Bool
deriving DecidableEq, Repr

/-- A record of the settings store (R372). -/
structure SetRec where
  type : Byte
  ver  : Byte
  body : List Byte
deriving DecidableEq, Repr

/-- The content of the settings store (R372). -/
structure SetData where
  pat      : PatState := {}
  fw       : Tab 3 Bool := Tab.all 3 false          -- slot of each core
  trial    : Option CoreId := none                  -- the core on trial (R370)
  newSlot  : Option Bool := none                    -- the slot that the latest firmware activation goes to (R370)
  verPat   : Option (List Byte) := none             -- header of the verified pattern image
  verFw    : Option (List Byte) := none
  sched    : Option Sched := none
  history  : List Trap := []
  interval : Nat := 0
  tap      : Nat := 1
  others   : List SetRec := []                      -- records of types that the supervisor does not know
deriving DecidableEq, Repr

/-- One copy of the settings store, with its bytes (R372). -/
structure SetCopy where
  ver   : Nat
  seq   : Nat
  data  : SetData
  bytes : List Byte := []
deriving DecidableEq, Repr

/-- UPD_STAT.STAGE (Table 16.11). -/
inductive Stage where
  | none | staging | checking | verified | failed | abandoned
deriving DecidableEq, Repr

/-- A staging (R367). -/
structure Staging where
  kind   : Nat
  header : List Byte
  ov     : Bool
  imgId  : Nat
  len    : Nat            -- body bytes
  next   : Nat            -- next offset, header included
  dev    : Nat
  ofs    : Nat            -- where the slot begins
  last   : Nat            -- when the latest data came
deriving DecidableEq, Repr

/-- A firmware activation (R370). -/
structure Trial where
  imgId   : Nat
  confirm : Nat
  core    : CoreId
  ends    : Nat
  todo    : List CoreId   -- the cores still to be activated after it
deriving DecidableEq, Repr

/-- A proof window (R374, R43). -/
structure Proof where
  seq       : Nat
  slot      : Nat         -- the slot it was applied from
  prevSlot  : Option Nat  -- the slot in force before, for the rollback
  hot       : Bool
  ends      : Nat
  bases     : List Nat    -- the tallies of kind 4 at the start, in the order of the conditions
  confirmed : Bool := false
  broken    : Bool := false   -- a condition has failed while the supervisor core did not run (R26)
deriving DecidableEq, Repr

/-- Where the standby-first sequence stands in this unit (R376). -/
inductive PairPhase where
  | waitTwin       -- the active waits for the standby to be back in step (steps 2 and 3)
  | yielding       -- the active has yielded (step 3)
  | activating     -- the standby activates (step 2)
  | proving        -- the new active runs the proof window (step 4)
  | oldWaits       -- the old active waits for the proof result
  | oldActivating  -- the old active activates the same image (step 5)
  | backYield      -- the new active yields back after a failed proof (step 6)
  | finishing      -- the new active waits until the old one is back in step
deriving DecidableEq, Repr

/-- A standby-first sequence (R376). -/
structure PairSeq where
  phase    : PairPhase
  imgId    : Nat
  confirm  : Nat
  deadline : Option Nat := none
  crcs     : List Nat := []  -- the CRCs of the two patterns of a pattern activation (R377)
  doms     : Nat := 0        -- the domains that their difference touches
deriving DecidableEq, Repr

/-- A rollback under way (R375). -/
structure Rollback where
  slot : Nat
  doms : List (Fin 8)
deriving DecidableEq, Repr

/-- The settings store and field update. -/
structure UpdS where
  stage    : Stage := .none
  kind     : Nat := 1
  staging  : Option Staging := none
  imgId    : Nat := 0
  why      : Nat := 0
  chk      : Nat := 0
  hot      : Bool := true                 -- the verified pattern's change is hot-safe
  trial    : Option Trial := none
  back     : List CoreId := []            -- the cores that a REVERT has still to return, after the one that restarts now
  proof    : Option Proof := none
  rollback : Option Rollback := none
  patAct   : Bool := false                -- a pattern activation is being applied
  patPrev  : Option Nat := none           -- the slot in force before it
  pairSeq  : Option PairSeq := none
  pairHalt : Bool := false
  halted   : Option PairSeq := none       -- the sequence that halted, for ACTIVATE of the same IMG_ID (R378)
  ran      : Nat := 0                     -- IMG_ID of the image that this unit activated in its sequence, 0 if none
  recheck  : Bool := false                -- the verified images are still to be checked after the restart (R367)
  keep     : Option (Fin 2) := none       -- the settings copy kept until the supervisor's trial confirms (R372)
  lastAct  : Option Nat := none           -- ACT_ID of the latest ACTIVATE taken
  refused  : Bool := false
  kindSel  : Bool := false
  confirmS : Nat := 60
  at_      : Nat := 0
  dropped  : Nat := 0
  rollbacks : Nat := 0
  fw       : Tab 3 Bool := Tab.all 3 false
  set      : SetData := {}                -- the settings as in use
  copies   : Tab 2 (Option SetCopy) := Tab.all 2 none
  writing  : Option (Fin 2 × SetCopy) := none  -- the copy being written, and its half
  dirty    : Bool := false                -- the settings have changed since it began
  setRead  : Bool := false                -- step 12 of Table 3.1 is done
  keys     : Tab 5 (Option (List Byte)) := Tab.all 5 none
deriving DecidableEq, Repr

end Sys2Proof.Machine
end

