-- ==== Sys2Proof/Machine/State.lean ====
section
/-! DEFINITION. The machine's state: every block of Blocks/, the clock that the model counts time on, the free-value
counter, the messages put on the lines, and the queue of waiting commands. -/
namespace Sys2Proof.Machine

/-- The machine has no fault: a command whose precondition does not hold changes nothing (log entry 10), and every error
that the spec describes is a flag, a count or an event of State. Nothing raises `none_`; the type only fills the host's
interface. Safe. -/
inductive Fault where
  /-- Raised by no command. Safe. -/
  | none_
deriving DecidableEq, Repr

/-- Why a command has no next state. -/
inductive Refusal where
  /-- Raised by an arm of `exec` whose command has no meaning yet, under the mnemonic of spec/opcode_table.json. Safe: the
  model stops where the hardware goes on. -/
  | notModelled (mnemonic : String)
deriving DecidableEq, Repr

/-- The GN7720. -/
structure State where
  now     : Nat := 0            -- nanoseconds since the model's start, the model's own clock (log entry 11)
  free    : Nat := 0            -- number of the next free value (log entry 3)
  mode    : Mode := .por
  step    : Nat := 0            -- the latest step of Table 3.1 done
  wakeStep : Nat := 0           -- the latest step of Table 3.6 done
  arch    : ArchS := {}
  feeds   : Tab 2 Feed := Tab.all 2 {}
  ch      : ChandlerS := {}
  slp     : SleepS := {}
  phases  : Tab 64 PhaseS := Tab.all 64 {}
  rails   : Tab 24 RailS := Tab.all 24 {}
  ports   : Tab 8 PortS := Tab.all 8 {}
  seq     : SeqS := {}
  watch   : WatchS := {}
  hk      : HkS := {}
  hold    : HoldS := {}
  carts   : CartsS := {}
  ev      : EventS := {}
  glb     : GlobalS := {}
  pair    : PairS := {}
  ov      : OvS := {}
  lg      : LedgerS := {}
  hb      : HbS := {}
  sp      : SpS := {}
  upd     : UpdS := {}
  outbox  : List Out := []      -- what the latest command put on the lines, in order
  pending : List Instr := []
deriving DecidableEq, Repr

/-- The machine with power-on reset asserted (R56): every register at its reset value, nothing in any memory, no command
waiting. -/
def State.reset : State := {}

end Sys2Proof.Machine
end

