-- ==== Sys2Proof/Machine/Ops.lean ====
section
/-! DEFINITION. The named operations that every block uses: updating one unit of State, the clocks, free values, tallies,
raising a source, sending a message, and writing the event log (R243, R253, R328). -/
namespace Sys2Proof.Machine

/-- The pattern in force. -/
def State.cfg (s : State) : Cfg := s.ch.image.cfg

def State.updPhase (s : State) (n : Fin 64) (f : PhaseS → PhaseS) : State := { s with phases := s.phases.upd n f }
def State.updRail (s : State) (r : Fin 24) (f : RailS → RailS) : State := { s with rails := s.rails.upd r f }
def State.updPort (s : State) (p : Fin 8) (f : PortS → PortS) : State := { s with ports := s.ports.upd p f }
def State.updDom (s : State) (d : Fin 8) (f : DomS → DomS) : State := { s with seq := { s.seq with doms := s.seq.doms.upd d f } }
def State.updSlot (s : State) (n : Fin 48) (f : SlotS → SlotS) : State :=
  { s with seq := { s.seq with slots := s.seq.slots.upd n f } }
def State.updMon (s : State) (m : Fin 96) (f : MonS → MonS) : State :=
  { s with watch := { s.watch with mons := s.watch.mons.upd m f } }
def State.updCt (s : State) (t : Fin 16) (f : CtS → CtS) : State :=
  { s with watch := { s.watch with cts := s.watch.cts.upd t f } }
def State.updCart (s : State) (c : Fin 16) (f : CartS → CartS) : State :=
  { s with carts := { s.carts with carts := s.carts.carts.upd c f } }
def State.updOvPort (s : State) (k : Fin 6) (f : OvPort → OvPort) : State :=
  { s with ov := { s.ov with ports := s.ov.ports.upd k f } }
def State.updFeed (s : State) (i : Fin 2) (f : Feed → Feed) : State := { s with feeds := s.feeds.upd i f }
def State.updSrc (s : State) (n : Fin 192) (f : EvSource → EvSource) : State :=
  { s with ev := { s.ev with src := s.ev.src.upd n f } }
def State.updCore (s : State) (c : CoreId) (f : Core → Core) : State :=
  let i : Fin 3 := match c with | .supervisor => 0 | .ledger => 1 | .link => 2
  { s with arch := { s.arch with cores := s.arch.cores.upd i f } }
/-- A domain is off when it is OFF, WAIT or LATCHED (R168). -/
def DomState.isOff : DomState → Bool
  | .off => true | .wait => true | .latched => true | .absent => true
  | .starting => false | .up => false | .stopping => false | .reverse => false

def State.updArch (s : State) (f : ArchS → ArchS) : State := { s with arch := f s.arch }
def State.updCh (s : State) (f : ChandlerS → ChandlerS) : State := { s with ch := f s.ch }
def State.updSlp (s : State) (f : SleepS → SleepS) : State := { s with slp := f s.slp }
def State.updWatch (s : State) (f : WatchS → WatchS) : State := { s with watch := f s.watch }
def State.updHk (s : State) (f : HkS → HkS) : State := { s with hk := f s.hk }
def State.updHold (s : State) (f : HoldS → HoldS) : State := { s with hold := f s.hold }
def State.updCarts (s : State) (f : CartsS → CartsS) : State := { s with carts := f s.carts }
def State.updEv (s : State) (f : EventS → EventS) : State := { s with ev := f s.ev }
def State.updGlb (s : State) (f : GlobalS → GlobalS) : State := { s with glb := f s.glb }
def State.updPair (s : State) (f : PairS → PairS) : State := { s with pair := f s.pair }
def State.updOv (s : State) (f : OvS → OvS) : State := { s with ov := f s.ov }
def State.updLg (s : State) (f : LedgerS → LedgerS) : State := { s with lg := f s.lg }
def State.updHb (s : State) (f : HbS → HbS) : State := { s with hb := f s.hb }
def State.updSp (s : State) (f : SpS → SpS) : State := { s with sp := f s.sp }
def State.updUpd (s : State) (f : UpdS → UpdS) : State := { s with upd := f s.upd }

/-- The state of a core. -/
def State.core (s : State) (c : CoreId) : Core :=
  s.arch.cores[(match c with | .supervisor => 0 | .ledger => 1 | .link => 2 : Fin 3)]

/-- A core runs. -/
def State.coreUp (s : State) (c : CoreId) : Bool := (s.core c).state == .running

/-- Apply a change once for each element of a list. -/
def State.each {α : Type} (s : State) (l : List α) (f : α → State → State) : State := l.foldl (fun t a => f a t) s

/-- Apply a change if a condition holds. -/
def State.when (s : State) (b : Bool) (f : State → State) : State := if b then f s else s

/-- A deadline that has passed. -/
def due (now : Nat) (t : Option Nat) : Bool := match t with | some d => d ≤ now | none => false

/-- Raise a source: its firing waits to be carried out at the end of this step (R243). -/
def fire (src sub : Nat) (s : State) : State :=
  { s with ev := { s.ev with fireQ := s.ev.fireQ ++ [⟨src, sub⟩] } }

/-- Raise a source if a condition holds. -/
def fireIf (b : Bool) (src sub : Nat) (s : State) : State := if b then fire src sub s else s

/-- Draw the next free value (log entry 3). -/
def draw (s : State) : Nat × State := (Config.freeNat s.free, { s with free := s.free + 1 })

/-- Raise a tally of Table 11.8, saturating at 0xFFFFFFFF (R253). -/
def addTally (i : Fin 24) (k : Nat) (s : State) : State :=
  { s with ev := { s.ev with tallies := s.ev.tallies.upd i (fun t => min 0xFFFFFFFF (t + k)) } }

/-- A toggle crossing's line. -/
def ArchS.toggle (a : ArchS) : ToggleLine → Toggle
  | .conversionStart => a.convStart | .frameReceived p => a.frameRecv[p] | .ovFrame k => a.ovRecv[k]
  | .pairFrame => a.pairRecv | .spFrame => a.spRecv | .timerWrap t => a.wrap[t] | .demand r => a.demand[r]

/-- Change a toggle crossing's line. -/
def ArchS.setToggle (a : ArchS) (l : ToggleLine) (t : Toggle) : ArchS :=
  match l with
  | .conversionStart => { a with convStart := t }
  | .frameReceived p => { a with frameRecv := a.frameRecv.set p t }
  | .ovFrame k => { a with ovRecv := a.ovRecv.set k t }
  | .pairFrame => { a with pairRecv := t }
  | .spFrame => { a with spRecv := t }
  | .timerWrap x => { a with wrap := a.wrap.set x t }
  | .demand r => { a with demand := a.demand.set r t }

/-- A single control event crosses as a toggle; while an acknowledgement is outstanding it merges, and is counted (R20). -/
def toggle (l : ToggleLine) (s : State) : State :=
  let t := s.arch.toggle l
  if t.outstanding then addTally 9 1 (s.updArch (fun a => a.setToggle l { t with merged := true }))
  else s.updArch (fun a => a.setToggle l { t with outstanding := true })

/-- The acknowledgement of a toggle crossing: a merged event is sent in its turn (R20). -/
def ackLine (l : ToggleLine) (s : State) : State :=
  s.updArch (fun a => a.setToggle l { outstanding := (a.toggle l).merged, merged := false })

/-- Put a message on a line. -/
def send (o : Out) (s : State) : State := { s with outbox := s.outbox ++ [o] }

/-- A block is in reset, or held stopped (R245, R247). -/
def State.blockDown (s : State) (b : Block) : Bool := s.ev.inReset.contains b || s.ev.heldBlks.contains b

/-- The real-time clock, whole seconds since POR (Table 17.11). -/
def State.rtc (s : State) : Nat := (s.now - s.glb.porAt) / 1000000000

/-- Milliseconds as nanoseconds. -/
def ms (n : Nat) : Nat := n * 1000000
/-- Microseconds as nanoseconds. -/
def us (n : Nat) : Nat := n * 1000
/-- Seconds as nanoseconds. -/
def sec (n : Nat) : Nat := n * 1000000000

/-- Entries of the event log in the index memory (R318). -/
def logSlots : Nat := 7680

/-- Whether a time lies within the window of a record (R328). -/
def LedgerS.holds (l : LedgerS) (t : Nat) : Bool :=
  l.dir.toList.any (fun r => match r with | some x => x.start ≤ t && t ≤ x.endAt | none => false)

/-- The place in the index memory that the next log entry takes, and whether it overwrites an entry of a held record: an
unused place, else the oldest entry outside every held record, else the oldest of all (R328). -/
def LedgerS.logPlace (l : LedgerS) : Nat × Bool :=
  if l.log.length < logSlots then (l.log.length, false)
  else match l.log.reverse.find? (fun e => !l.holds e.2.time) with
    | some e => (e.1, false)
    | none => (match l.log.getLast? with | some e => e.1 | none => 0, true)

/-- Write an event entry to the log, without the firing of EV168 (R328). -/
def logRaw (e : LogEntry) (s : State) : State :=
  let p := s.lg.logPlace
  { s with lg := { s.lg with
      log := (p.1, e) :: s.lg.log.filter (fun x => x.1 != p.1)
      badIndex := s.lg.badIndex.filter (· != p.1)
      dropHeld := s.lg.dropHeld || p.2 } }

/-- Write an event entry to the log; overwriting one of a held record fires EV168 (R328). -/
def logEvent (kind a b c : Nat) (s : State) : State :=
  fireIf s.lg.logPlace.2 168 1 (logRaw ⟨s.ov.gtime, kind, a % 256, b % 65536, c % 2 ^ 32⟩ s)

/-- Write the entry of a step that concerns unit `a`, with the value `c` (Table 14.5). -/
def logStep (kind step a c : Nat) (s : State) : State := logEvent kind a (Config.logField kind step 1) c s

/-- Write the entry of a step that concerns no numbered unit and names no value (Table 14.5). -/
def logBare (kind step : Nat) (s : State) : State :=
  logEvent kind (Config.logField kind step 0) (Config.logField kind step 1) (Config.logField kind step 2) s

/-- The unit runs in a pair (R279). -/
def State.paired (s : State) : Bool := s.cfg.pair.role == 1 && !s.ch.blank
/-- The unit is a standby that follows its active: the pair link is up (R264). -/
def State.follows (s : State) : Bool := s.paired && s.pair.role == .standby && s.pair.linkUp
/-- The unit forwards what it does to its twin (R264). -/
def State.leads (s : State) : Bool := s.paired && s.pair.role == .active && s.pair.linkUp

/-- The TYPE of a pair-link frame, counted from 0 (Table 12.2). -/
def PairFrame.kind : PairFrame → Fin 7
  | .ctrl _ => 0 | .ack _ _ => 1 | .sync _ => 2 | .health _ => 3 | .state _ => 4 | .report _ => 5 | .stream _ => 6

/-- Send a frame on the pair link, with the SEQ of its TYPE (R259). -/
def pairOut (f : PairFrame) (s : State) : State :=
  send (.pair s.pair.seqs[f.kind] f) (s.updPair (fun p => { p with seqs := p.seqs.upd f.kind (fun n => (n + 1) % 256) }))

/-- Send a CTRL frame on the pair link and wait for its ACK (R259, R260). -/
def sendCtrl (c : PairCmd) (s : State) : State :=
  if s.pair.linkUp then
    pairOut (.ctrl c) (s.updPair (fun p => { p with unacked := p.unacked ++ [⟨p.seqs[(0 : Fin 7)], c, s.now, 0⟩] }))
  else s

/-- Forward a command of the active to its twin (R264). -/
def forward (c : PairCmd) (s : State) : State := if s.leads then sendCtrl c s else s

/-- The forwarded commands that one edge, sample or tick is for act at it, in their order (R264). -/
def fwdTake (mine : PairCmd → Bool) (act : PairCmd → State → State) (s : State) : State :=
  (s.updPair (fun p => { p with fwd := p.fwd.filter (fun c => !mine c) })).each (s.pair.fwd.filter mine) act

/-- The modes in which the power path and its watchers run. -/
def State.running (s : State) : Bool := s.mode == .ready || s.mode == .toSleep

end Sys2Proof.Machine
end

