-- ==== Sys2Proof/Machine/OvOps.lean ====
section
/-! DEFINITION. The Ovrath cascade's own operations (spec/13_ovrath.md): ports and links, egress and merging, routing,
enumeration, grafts and rerouting, global time, barriers and snapshots, transactions as requester, and the queues. -/
namespace Sys2Proof.Machine

/-- OVRATH.ROLE is not NONE. -/
def State.ovOn (s : State) : Bool := s.cfg.ov.role != 0
/-- The up port in use (R310). -/
def State.upPort (s : State) : Fin 6 := if s.ov.upSpare then 1 else 0
/-- The down ports, OP2 to OP5. -/
def downPorts : List (Fin 6) := [2, 3, 4, 5]
/-- A port whose state is UP. -/
def State.portUp (s : State) (k : Fin 6) : Bool := s.ov.ports[k].state == .up && !(s.mode == .sleep || s.mode == .wake)
/-- A link to a spare up port in SPARE_IDLE, which carries only LINK frames (R284). -/
def State.toSpare (s : State) (k : Fin 6) : Bool := s.ov.ports[k].peer.any (·.spareUp)
/-- The down ports that are UP and carry traffic. -/
def State.upDowns (s : State) : List (Fin 6) := downPorts.filter (fun k => s.portUp k && !s.toSpare k)
/-- The down ports at which a frame for every device below arrives: one that is PARKED drops it (R287, R314). -/
def State.castDowns (s : State) : List (Fin 6) :=
  downPorts.filter (fun k => (s.portUp k && !s.toSpare k) || s.ov.ports[k].state == .parked)
/-- The down ports for which an acting root acts (R312): UP, without a ROOTCHG since the latest RECLAIM. -/
def State.rootPorts (s : State) : List (Fin 6) := s.upDowns.filter (fun k => !s.ov.lostPorts.contains k)
/-- The down ports at which a frame of this acting root arrives. -/
def State.rootCasts (s : State) : List (Fin 6) := s.castDowns.filter (fun k => !s.ov.lostPorts.contains k)
/-- A port enabled by OVRATH.PORT_EN (R282). -/
def State.portEn (s : State) (k : Fin 6) : Bool := s.ovOn && natBit s.cfg.ov.portEn k.val
/-- The source of a port's first event (R284). -/
def evOf (k : Fin 6) : Nat := 156 + 2 * k.val
/-- MARK in milliseconds as the device knows it. -/
def State.markMs (s : State) : Nat := if s.ov.acting || s.ov.markMs == 0 then s.cfg.ov.mark else s.ov.markMs

/-- Count a dropped frame (OV_PORT_DROP). -/
def ovDrop (k : Fin 6) (s : State) : State := s.updOvPort k (fun p => { p with drops := (p.drops + 1) % 65536 })

/-- Count a frame dropped on its way to each of several ports, as its HOPS would exceed 15 (R291). -/
def dropEach (l : List (Fin 6)) (s : State) : State := s.each l (fun k u => ovDrop k u)

/-- A class-0 frame that may be merged: TRIP, YIELD or SUMMARY (R295). -/
def mergeable (t : Nat) : Bool := t == 1 || t == 2 || t == 3

/-- A class-0 frame is sent from `at_` on: 16 symbols of 20 ns, which push the rest of an interrupted frame back (R290, R292). -/
def c0Start (k : Fin 6) (at_ t : Nat) (f : Ov0) (s : State) : State :=
  send (.ov k (.c0 t f)) (s.updOvPort k (fun q => { q with
    busyTill := at_ + 320, busyOwn := f.hops == 0, long := q.long.map (fun l => { l with till := l.till + 320 }) }))

/-- A port between frames: nothing is being sent, and no class-0 frame waits. -/
def OvPort.between (p : OvPort) (now : Nat) : Bool := p.waiting.isEmpty && p.long.isNone && p.busyTill ≤ now

/-- The credits that wait at a port go out between frames (R293). -/
def crGo (k : Fin 6) (s : State) : State :=
  let p := s.ov.ports[k]
  if p.between s.now then
    (s.updOvPort k (fun q => { q with crOut := [] })).each p.crOut (fun c u => send (.ovCredit k c.1 c.2) u)
  else s

/-- Credits go back over a port, between frames and never ahead of a waiting class-0 frame (R293). -/
def creditPut (k : Fin 6) (cls n : Nat) (s : State) : State :=
  if s.portUp k then crGo k (s.updOvPort k (fun q => { q with crOut := q.crOut ++ [(cls, n)] })) else s

/-- Credits that a class 1-3 frame needs: its LEN + 20 symbols in units of 64 bytes (R289, R293). -/
def creditsFor (payload : List Byte) : Nat := (payload.length + 20 + 63) / 64

/-- The credits held for a class. -/
def OvPort.creditsOf (p : OvPort) (cls : Nat) : Nat :=
  if cls = 1 then p.credits.1 else if cls = 2 then p.credits.2.1 else p.credits.2.2

/-- Change the credits held for a class. -/
def OvPort.setCredits (p : OvPort) (cls n : Nat) : OvPort :=
  { p with credits := if cls = 1 then (n, p.credits.2) else if cls = 2 then (p.credits.1, n, p.credits.2.2)
                      else (p.credits.1, p.credits.2.1, n) }

/-- The class of a frame. -/
def frameCls : OvFrame → Nat
  | .c0 _ _ => 0
  | .cN c _ _ _ => c

/-- The space of a frame. -/
def frameSpace : OvFrame → Nat
  | .c0 _ _ => 1
  | .cN _ _ _ pl => creditsFor pl

/-- The first waiting frame of a class, with the port it is relayed from, for which the port holds credits. -/
def OvPort.ready (p : OvPort) (cls : Nat) : Option (OvFrame × Option (Fin 6)) :=
  (p.egress.find? (fun f => (frameCls f.1) == cls)).filter (fun f => (frameSpace f.1) ≤ p.creditsOf cls)

/-- The next class 1-3 frame to send: strict priority, but that class 3 follows 4 class-2 frames in a row, and the higher of
classes 2 and 3 follows 8 class-1 frames in a row (R292). -/
def OvPort.nextFrame (p : OvPort) : Option (OvFrame × Option (Fin 6)) :=
  let low := (p.ready 2).or (p.ready 3)
  if p.run2 ≥ 4 && (p.ready 3).isSome then p.ready 3
  else if p.run1 ≥ 8 && low.isSome then low
  else (p.ready 1).or low

/-- Remove the first occurrence of an element. -/
def dropFirst {α : Type} [DecidableEq α] (f : α) : List α → List α
  | [] => []
  | g :: gs => if g = f then gs else g :: dropFirst f gs

/-- The space of a relayed frame is free again: its credits go back over the port it came in on (R293). -/
def creditBack (f : OvFrame) (j : Option (Fin 6)) (s : State) : State :=
  match j with
  | some k => creditPut k (frameCls f) (min 63 (frameSpace f)) s
  | none => s

/-- How long a frame of classes 1 to 3 occupies the link: LEN + 20 symbols of 20 ns (R288, R289). -/
def frameNs : OvFrame → Nat
  | .c0 _ _ => 320
  | .cN _ _ _ pl => 20 * (pl.length + 20)

/-- The next class 1-3 frame for which there are credits is sent from `at_` on (R292, R293). -/
def longStart (k : Fin 6) (at_ : Nat) (s : State) : State :=
  match s.ov.ports[k].nextFrame with
  | none => s
  | some x =>
    let f := x.1
    let c := frameCls f
    send (.ov k f) (s.updOvPort k (fun p =>
      { (p.setCredits c (p.creditsOf c - frameSpace f)) with
        egress := dropFirst x p.egress
        run1 := if c = 1 then p.run1 + 1 else 0
        run2 := if c = 2 then p.run2 + 1 else 0
        long := some ⟨f, x.2, at_ + frameNs f, false⟩ }))

/-- A class 1-3 frame has left: credits that waited for its end go out, and those of its own space go back; a class-1 frame of
this device that a barrier waits for has left (R303). -/
def longEnd (k : Fin 6) (l : LongTx) (s : State) : State :=
  let own := decide (k = s.upPort) && frameCls l.frame == 1 && l.relay.isNone
  creditBack l.frame l.relay (crGo k ((s.updOvPort k (fun p => { p with long := none })).updOv (fun o =>
    { o with opC1 := if own then o.opC1 - 1 else o.opC1 })))

/-- Up to `n` frames whose turn has come follow one another on an egress, each as the one before it ends: the waiting class-0
frames first, which interrupt a class 1-3 frame (R292). -/
def egDrain (k : Fin 6) : Nat → State → State
  | 0, s => s
  | n + 1, s =>
    let p := s.ov.ports[k]
    match p.waiting with
    | w :: ws =>
      if p.busyTill ≤ s.now then
        egDrain k n (c0Start k p.busyTill w.1 w.2 (s.updOvPort k (fun q => { q with waiting := ws })))
      else s
    | [] =>
      match p.long with
      | some l => if l.till ≤ s.now then egDrain k n (longStart k l.till (longEnd k l s)) else s
      | none =>
        if s.now < p.busyTill then s
        else if p.nextFrame.isSome then egDrain k n (longStart k p.busyTill (crGo k s))
        else crGo k s

/-- The frames whose turn has come follow one another on an egress. -/
def egAdvance (k : Fin 6) (s : State) : State :=
  egDrain k ((s.ov.ports[k]).waiting.length + (s.ov.ports[k]).egress.length + 2) s

/-- How long a class-0 frame put on an egress now waits before its start symbol leaves, ns: for the class-0 frames before it, or
for the next symbol boundary of the frame that it interrupts (R292). -/
def OvPort.wait (p : OvPort) (now : Nat) : Nat :=
  if p.busyTill ≤ now && p.waiting.isEmpty then (match p.long with | some l => (l.till - now) % 20 | none => 0)
  else (p.busyTill - now) + 320 * p.waiting.length

/-- The same at a port of the machine. -/
def State.egWait (s : State) (k : Fin 6) : Nat := (s.ov.ports[k]).wait s.now

/-- How many frames a class-0 up frame stands for, and the lowest source it names. -/
def standsFor (t : Nat) (f : Ov0) : Nat × Nat :=
  if t = 3 then (f.arg0.toNat, f.arg1.toNat) else if t = 1 then (1, f.arg0.toNat) else (1, 255)

/-- The SUMMARY that stands for two waiting up frames (R295). -/
def mergedWith (s : State) (a b : Nat × Ov0) : Nat × Ov0 :=
  let x := standsFor a.1 a.2
  let y := standsFor b.1 b.2
  (3, { down := false, paired := false, hops := 0, src := BitVec.ofNat 18 (s.ov.addr.getD 0), twin := false,
        arg0 := byteOf (min 255 (x.1 + y.1)), arg1 := byteOf (min x.2 y.2), arg2 := 0, corr := 0 })

/-- The TRIP by which this device tells of a merge itself: EV157 + 2k (R295). -/
def State.tellsMerge (s : State) (t : Nat) (f : Ov0) : Bool :=
  t == 1 && f.hops == 0 && f.src.toNat == s.ov.addr.getD 0 && 157 ≤ f.arg0.toNat && f.arg0.toNat ≤ 167 && f.arg0.toNat % 2 == 1

/-- Count a merge of a frame at a port: OV_PORT_MERGE, TALLY_OV_MERGE and MERGED, and EV157 + 2k fires (R295); the merge of the
TRIP that tells of a merge fires nothing (log entry 152). -/
def countMerge (k : Fin 6) (t : Nat) (f : Ov0) (s : State) : State :=
  fireIf (!s.tellsMerge t f) (evOf k + 1) 1 (addTally 17 1
    (s.updOvPort k (fun p => { p with merges := (p.merges + 1) % 65536, merged := true })))

/-- Put a class-0 frame on an egress: it is sent, waits behind the frame being sent, or merges into a waiting up frame
(R292, R295). -/
def c0Send (k : Fin 6) (t : Nat) (f : Ov0) (s0 : State) : State :=
  let s := egAdvance k s0
  let p := s.ov.ports[k]
  if p.busyTill ≤ s.now && p.waiting.isEmpty then c0Start k (s.now + p.wait s.now) t f s
  else
    match (if mergeable t then p.waiting.find? (fun w => mergeable w.1) else none) with
    | some w =>
      countMerge k t f (s.updOvPort k (fun q =>
        { q with waiting := q.waiting.map (fun x => if x == w then mergedWith s w (t, f) else x) }))
    | none => s.updOvPort k (fun q => { q with waiting := q.waiting ++ [(t, f)] })

/-- Originate a TRIP or YIELD under the limiter of R295. -/
def c0Origin (t : Nat) (f : Ov0) (s : State) : State :=
  let k := s.upPort
  if s.ov.acting || !s.portUp k then s
  else
    let p := s.ov.ports[k]
    if !due s.now p.win && p.win.isSome then
      countMerge k t f (s.updOvPort k (fun q =>
        { q with winCount := q.winCount + 1, winLow := min q.winLow (standsFor t f).2 }))
    else c0Send k t f (s.updOvPort k (fun q => { q with win := some (s.now + us 2), winCount := 0, winLow := 255 }))

/-- The window of R295 ends and a pending SUMMARY is sent; a barrier that waits for it waits until it has left (R303). -/
def summaryWindowEnd (k : Fin 6) (s : State) : State :=
  let p := s.ov.ports[k]
  if due s.now p.win then
    let s1 := s.updOvPort k (fun q => { q with win := none, winCount := 0, winLow := 255 })
    if p.winCount = 0 then s1
    else
      let s2 := s1.updOv (fun o => { o with
        opC0 := if o.opWin && decide (k = s.upPort) then s.now + p.wait s.now + 320 else o.opC0
        opWin := o.opWin && decide (k ≠ s.upPort) })
      c0Send k 3 { down := false, paired := false, hops := 0, src := BitVec.ofNat 18 (s.ov.addr.getD 0), twin := false,
                   arg0 := byteOf (min 255 p.winCount), arg1 := byteOf p.winLow, arg2 := 0, corr := 0 } s2
  else s

/-- A class 1-3 frame is sent now where the port is between frames. -/
def longTry (k : Fin 6) (s : State) : State :=
  if (s.ov.ports[k]).between s.now then longStart k s.now (crGo k s) else s

/-- Put a class 1-3 frame on a port's egress: one of this device, or one that is relayed from a port. -/
def cNPut (k : Fin 6) (f : OvFrame) (j : Option (Fin 6)) (s : State) : State :=
  longTry k ((egAdvance k s).updOvPort k (fun p => { p with egress := p.egress ++ [(f, j)] }))

/-- Put a class 1-3 frame of this device on a port's egress. -/
def cNSend (k : Fin 6) (f : OvFrame) (s : State) : State := cNPut k f none s

/-- What waits at an egress or is being sent is discarded; the credits of what it was to relay go back. -/
def egDiscard (k : Fin 6) (s : State) : State :=
  let t := (s.updOvPort k (fun p => { p with
    egress := [], waiting := [], credits := (0, 0, 0), long := none, crOut := [] })).updOv (fun o =>
      { o with opC1 := if k = s.upPort then 0 else o.opC1, opC0 := if k = s.upPort then 0 else o.opC0 })
  (t.each (s.ov.ports[k].egress) (fun x u => creditBack x.1 x.2 u)).each (s.ov.ports[k].long.toList)
    (fun l u => creditBack l.frame l.relay u)

/-- Where a class 1-3 frame goes (R287). -/
inductive Route where
  | self | port (k : Fin 6) | noWhere
deriving DecidableEq, Repr

/-- R287. -/
def State.route (s : State) (dest : Nat) (root : Bool) : Route :=
  if root then (if s.ov.acting then .self else .port s.upPort)
  else if s.ov.addr == some dest then .self
  else match s.ov.grafts.find? (fun g => g.1 ≤ dest && dest < g.1 + g.2.1) with
    | some g => .port g.2.2
    | none =>
      match downPorts.find? (fun k => s.ov.ports[k].base ≤ dest && dest < s.ov.ports[k].base + s.ov.ports[k].len) with
      | some k => .port k
      | none => if s.ov.acting then .noWhere else .port s.upPort

/-- The header of a frame that the device itself sends. -/
def State.ownHdr (s : State) (dest : Nat) (root bcast : Bool) (tag : Nat) : OvHdr :=
  { bcast := bcast, root := root, paired := false, reply := false, hops := 0, dest := BitVec.ofNat 18 dest,
    src := BitVec.ofNat 18 (s.ov.addr.getD 0), twin := false, tag := BitVec.ofNat 7 tag, pairId := 0, pseq := 0 }

/-- A RESP frame that answers a request (R307). -/
def respFrame (s : State) (h : OvHdr) (status : Nat) (data : List Byte) : OvFrame :=
  .cN 1 0x0A { s.ownHdr h.src.toNat false false h.tag.toNat with reply := true } ([byteOf status, 0] ++ data)

/-- A class 1-3 frame of this device leaves by a port: one that is not UP drops it, and a parked down port resumes idles
(R287, R314). -/
def ownOut (k : Fin 6) (f : OvFrame) (s : State) : State :=
  if s.portUp k then cNSend k f s
  else (ovDrop k s).when ((s.ov.ports[k]).state == .parked && 2 ≤ k.val) (send (.ovIdle k))

/-- Send a class 1-3 frame from this device towards its destination; a frame with no UP port on its way is dropped there. -/
def ovOut (f : OvFrame) (s : State) : State :=
  match f with
  | .c0 _ _ => s
  | .cN _ _ h _ =>
    match s.route h.dest.toNat h.root with
    | .port k => ownOut k f s
    | .self => s
    | .noWhere => s

/-- Answer a request with a status (R307, Table 13.11). -/
def ovAnswer (h : OvHdr) (status : Nat) (data : List Byte) (s : State) : State := ovOut (respFrame s h status data) s

/-- Whether a frame is a request. -/
def frameIsReq : OvFrame → Bool
  | .c0 _ _ => false
  | .cN c t _ _ => c == 1 && (t == 8 || t == 9)

/-- The recovered word clock of a port runs or has stopped; only the far side starts it (R23). -/
def ovClock (k : Fin 6) (v : Isl) (s : State) : State :=
  s.updArch (fun a => { a with islands := { a.islands with ovrath := a.islands.ovrath.set k v } })

/-- Put a port in DOWN (R284). -/
def portDown (k : Fin 6) (s : State) : State :=
  fireIf (s.ov.ports[k].state != .down) (evOf k) 3 (egDiscard k (s.updOvPort k (fun p =>
    { p with state := .down, downAt := some s.now, peer := none, errRuns := 0 })))

/-- A dropped frame of R309: the error threshold, and DOWN after ten milliseconds over it. -/
def portError (k : Fin 6) (s : State) : State :=
  let p := s.ov.ports[k]
  let old := p.errTimes.filter (fun t => s.now < t + ms 1)
  let overT := 16 < old.length + 1
  let m := s.now / 1000000
  let runs := if overT then (if p.errRuns = 0 then 1 else if p.errMs = m then p.errRuns else if p.errMs + 1 = m then p.errRuns + 1 else 1) else p.errRuns
  let t := s.updOvPort k (fun q => { q with
    errTimes := old ++ [s.now]
    errMs := if overT then m else q.errMs
    errRuns := runs
    errRun := q.errRun || overT })
  let u := fireIf (overT && !(16 < old.length)) (evOf k + 1) 0 t
  if runs ≥ 10 then portDown k u else u

/-- A port whose receiver works: it is enabled and not fenced, in a part that is not asleep (R282, R309). -/
def State.portHears (s : State) (k : Fin 6) : Bool :=
  !(s.ov.ports[k].state == .fenced || s.ov.ports[k].state == .disabled) && !(s.mode == .sleep || s.mode == .wake)

/-- A frame that has ended at a port's receiver (R288, R291): whether it is good, and the counting of one that is not. A port
that is fenced or disabled ignores every frame, and one that is not UP takes none. -/
def rx (k : Fin 6) (e : FrameEnd) (s : State) : Bool × State :=
  if !s.portHears k then (false, s)
  else match e with
    | .good => (s.portUp k, s.when (s.portUp k) (toggle (.ovFrame k)))
    | .badCrc => (false, portError k (addTally 16 1 (s.updOvPort k (fun p => { p with crc := sat255 p.crc }))))
    | _ => (false, portError k (s.updOvPort k (fun p => { p with code := sat255 p.code })))

/-- Do something with a good frame. -/
def onGood (k : Fin 6) (e : FrameEnd) (f : State → State) (s : State) : State :=
  let r := rx k e s
  if r.1 then f r.2 else r.2

/-- A relayed frame goes out of a port (R287, R291, R314): a port that is not UP drops it, a parked one with an answer to a
request, and a parked down port resumes idles; a bad one is sent on only where nothing holds it up, and ends with K30.7. -/
def relayOut (bad : Bool) (g : OvFrame) (from_ : Option (Fin 6)) (j : Fin 6) (s0 : State) : State :=
  let s := egAdvance j s0
  let p := s.ov.ports[j]
  if p.state == .parked then
    let d := ovDrop j s
    let v := creditBack g from_ (d.when (2 ≤ j.val) (send (.ovIdle j)))
    match g with
    | .cN _ _ h _ => if frameIsReq g then ovAnswer h 5 [] v else v
    | .c0 _ _ => v
  else if !s.portUp j then creditBack g from_ (ovDrop j s)
  else match g with
    | .c0 t b => if bad then send (.ovBad j g) s else c0Send j t b s
    | .cN c _ _ _ =>
      if !bad then cNPut j g from_ s
      else if p.between s.now && p.egress.isEmpty && frameSpace g ≤ p.creditsOf c then
        send (.ovBad j g) (s.updOvPort j (fun q => { (q.setCredits c (q.creditsOf c - frameSpace g)) with
          long := some ⟨g, from_, s.now + frameNs g, true⟩ }))
      else creditBack g from_ s

/-- Forward a class-0 down frame on every down port (R287, R291); its residence, the wait at the egress among it, enters CORR
with the delay of the link; the rest of the residence is a free value (log entry 58). -/
def c0Down (bad : Bool) (t : Nat) (f : Ov0) (s : State) : State :=
  s.each s.castDowns (fun k u =>
    let d := draw u
    relayOut bad (.c0 t { f with
      hops := f.hops + 1
      corr := BitVec.ofNat 16 (min 65535 (f.corr.toNat + d.1 % 65536 + (egAdvance k u).egWait k + u.ov.ports[k].delay)) }) none k d.2)

/-- Send an own class-0 down frame, as acting root. -/
def c0Root (t : Nat) (a0 a1 a2 : Nat) (s : State) : State :=
  s.each s.rootCasts (fun k u =>
    relayOut false (.c0 t { down := true, paired := false, hops := 0, src := BitVec.ofNat 18 (u.ov.addr.getD 0), twin := false,
                            arg0 := byteOf a0, arg1 := byteOf a1, arg2 := byteOf a2, corr := 0 }) none k u)

/-- A down frame that comes from the acting root: over the up port in use, from the root as last named (R297). -/
def State.fromRoot (s : State) (k : Fin 6) (src : Nat) : Bool :=
  k == s.upPort && !s.ov.acting && (match s.ov.rootAddr with | some a => a == src | none => true)

/-- The acting root is named: by ROOTCHG, by ROLE, by TIME and ENUM, or by the LINK frames of a parent that acts (log entry 29). -/
def rootNamed (src : Nat) (s : State) : State := s.updOv (fun o => { o with rootAddr := some src })

/-- A class-0 down frame goes on down, unless its HOPS would exceed 15 (R291). -/
def c0On (bad : Bool) (t : Nat) (f : Ov0) (s : State) : State :=
  if f.hops < 15 then c0Down bad t f s else dropEach s.castDowns s

/-- Act on a class-0 down frame of the acting root, after forwarding it (R302); any other is dropped. One that ends bad has been
forwarded cut-through, and its copies end with K30.7 (R291). -/
def onRoot0 (k : Fin 6) (e : FrameEnd) (t : Nat) (f : Ov0) (act : State → State) (s : State) : State :=
  let r := rx k e s
  if !s.portUp k then r.2
  else if !s.fromRoot k f.src.toNat then r.2.when r.1 (ovDrop k)
  else if r.1 then act (rootNamed f.src.toNat (c0On false t f r.2))
  else c0On true t f r.2

/-- Act on a class-0 up frame that ends at the acting root; elsewhere it goes on up, a bad one with K30.7 (R287, R291). -/
def onUp0 (k : Fin 6) (e : FrameEnd) (t : Nat) (f : Ov0) (act : State → State) (s : State) : State :=
  let r := rx k e s
  if !s.portUp k then r.2
  else if s.ov.acting then r.2.when r.1 act
  else if f.hops ≥ 15 then ovDrop k r.2
  else relayOut (!r.1) (.c0 t { f with hops := f.hops + 1 }) none s.upPort r.2

/-- Forward a broadcast class 1-3 frame on every down port (R287), a bad one with K30.7 (R291). -/
def cNDown (bad : Bool) (cls t : Nat) (h : OvHdr) (pl : List Byte) (s : State) : State :=
  if h.hops < 15 then s.each s.castDowns (relayOut bad (.cN cls t { h with hops := h.hops + 1 } pl) none)
  else dropEach s.castDowns s

/-- The duplicate window of R267: whether a message is accepted, and the window after it. -/
def dupAccept (paddr pairId n : Nat) (s : State) : Bool × State :=
  match s.pair.wins.find? (fun w => w.paddr == paddr && w.pairId == pairId) with
  | none => (true, s.updPair (fun p => { p with wins := p.wins ++ [⟨paddr, pairId, n, [n]⟩] }))
  | some w =>
    let d := (n + 65536 - w.high) % 65536
    let back := (w.high + 65536 - n) % 65536
    let put (w' : DupWin) : State := s.updPair (fun p => { p with wins := p.wins.map (fun x => if x == w then w' else x) })
    if 1 ≤ d && d ≤ 32767 then
      (true, put { w with high := n, seen := n :: w.seen.filter (fun m => (n + 65536 - m) % 65536 < 64) })
    else if back < 64 && !w.seen.contains n then (true, put { w with seen := n :: w.seen })
    else (false, addTally 18 1 s)

/-- Take a message once: PAIRED ones under the duplicate window (R308). -/
def onceOnly (paired : Bool) (src pairId pseq : Nat) (act : State → State) (s : State) : State :=
  if paired then (let r := dupAccept src pairId pseq s; if r.1 then act r.2 else r.2) else act s

/-- A device's own subtree count, itself included (R285). -/
def State.ownCount (s : State) : Nat :=
  1 + (downPorts.map (fun k => if s.portUp k && !s.toSpare k then (match s.ov.ports[k].peer with | some l => l.count | none => 0) else 0)).foldl (· + ·) 0

/-- Space that the hardware relay holds of a class, in units of 64 bytes: what waits at the ports' egress or is being sent. -/
def State.relayUsed (s : State) (cls : Nat) : Nat :=
  s.ov.ports.toList.foldl (fun a p => (p.egress ++ p.long.toList.map (fun l => (l.frame, l.relay))).foldl
    (fun b f => if (frameCls f.1) == cls && f.2.isSome then b + (frameSpace f.1) else b) a) 0

/-- The size of a hardware-relay queue of a class; 0 for any other queue. -/
def QueueCfg.relay (q : QueueCfg) (cls : Nat) : Nat := if q.cls == cls && q.owner == 3 then q.size else 0

/-- Free space of the hardware-relay queues of a class, in units of 64 bytes (R293). -/
def State.relayFree (s : State) (cls : Nat) : Nat :=
  s.cfg.queues.toList.foldl (fun a q => match q with | some x => a + x.relay cls | none => a) 0 - s.relayUsed cls

/-- The LINK frame that the device sends on a port (R284). -/
def State.linkInfo (s : State) (k : Fin 6) : LinkInfo :=
  { role := s.cfg.ov.role, downKind := 2 ≤ k.val, spareUp := k == 1 && !s.ov.upSpare, depth := s.ov.depth, addr := BitVec.ofNat 18 (s.ov.addr.getD 0),
    count := s.ownCount, credits := (s.relayFree 1, s.relayFree 2, s.relayFree 3), delayNs := s.ov.ports[k].delay,
    acting := s.ov.acting }

/-- Word alignment has been held for 1 ms: LINK frames are exchanged (R284). -/
def linkAligned (k : Fin 6) (s : State) : State :=
  let p := s.ov.ports[k]
  if s.portEn k && (p.state == .training || p.state == .down || p.state == .parked || p.state == .notAdmitted) then
    send (.ovLink k (s.linkInfo k)) (ovClock k .running (s.updOvPort k (fun q => { q with state := .training })))
  else s

/-- ASSIGN frames share TYPE 0x02 with ENUM and COUNT; the payload's first byte tells them apart (log entry 40). -/
def assignFrame (s : State) (base len : Nat) : OvFrame := .cN 1 2 (s.ownHdr 0 false false 0) ([2] ++ leBytes 4 base ++ leBytes 4 len)

/-- Refuse a port's admission (R284, R285). -/
def notAdmit (k : Fin 6) (why : Nat) (s : State) : State :=
  fireIf (s.ov.ports[k].state != .notAdmitted) (evOf k) 6 (s.updOvPort k (fun p => { p with state := .notAdmitted, why := why }))

/-- The range of a port cannot hold its subtree: a device that has its range admits nothing beyond the ranges that it keeps
(R286). -/
def State.rangeShort (s : State) (k : Fin 6) (l : LinkInfo) : Bool :=
  2 ≤ k.val && !l.spareUp && (s.ov.addr.isSome || s.ov.ports[k].len != 0) && decide (s.ov.ports[k].len < l.count)

/-- What every LINK frame of an admitted link tells: the depth, the acting root, and a second one (R284, R313). -/
def linkSeen (k : Fin 6) (l : LinkInfo) (u : State) : State :=
  let a := if k == u.upPort && u.portUp k && l.depth < 15 && !u.ov.acting then u.updOv (fun o => { o with depth := l.depth + 1 }) else u
  let b := if k == u.upPort && u.portUp k && l.acting && !u.ov.acting then rootNamed l.addr.toNat a else a
  if u.ov.acting && l.acting then b.updOv (fun o => { o with split := true }) else b

/-- A LINK frame with a good CRC (R284, R286, R310, R313). -/
def linkFrame (k : Fin 6) (l : LinkInfo) (s0 : State) : State :=
  let own := decide (2 ≤ k.val)
  let s := s0.updOvPort k (fun p => { p with peer := some l, lastLink := s0.now, delay := l.delayNs })
  let p := s.ov.ports[k]
  if p.state == .up || p.state == .spareIdle then linkSeen k l s
  else if p.state == .training then
    if s.cfg.ov.role == 1 && !own then s
    else if l.downKind == own then notAdmit k 0 s
    else
      let lower := if own then (if s.ov.depth < 15 then s.ov.depth + 1 else 0) else (if l.depth < 15 then l.depth + 1 else 0)
      if lower > 9 then notAdmit k 1 s
      else if s.rangeShort k l then notAdmit k 2 s
      else
        let st : OvPortState := if k == 1 && !s.ov.upSpare then .spareIdle else .up
        let u := linkSeen k l (s.updOvPort k (fun q => { q with state := st, downAt := none, credits := l.credits, run1 := 0, run2 := 0 }))
        if own && p.len != 0 && !l.spareUp then cNSend k (assignFrame u p.base p.len) u else u
  else s

/-- A link goes DOWN (R284). -/
def linkDown (k : Fin 6) (why : LinkLoss) (s : State) : State :=
  let p := s.ov.ports[k]
  if (p.state == .up || p.state == .spareIdle) && (why == .alignment || p.lastLink + us 300 ≤ s.now) then
    portDown k (s.when (why == .alignment) (ovClock k .stopped))
  else s

/-- The 100 us sending of LINK frames (R284). -/
def linkSend (k : Fin 6) (s : State) : State :=
  if s.portUp k || s.ov.ports[k].state == .spareIdle then send (.ovLink k (s.linkInfo k)) s else s

/-- The frame types of Table 13.5. -/
def listedType (cls t : Nat) : Bool :=
  match cls with
  | 0 => (1 ≤ t && t ≤ 5) || (0x10 ≤ t && t ≤ 0x16)
  | 1 => (1 ≤ t && t ≤ 3) || (8 ≤ t && t ≤ 0x0A) || (0x20 ≤ t && t ≤ 0x24)
  | 2 => t == 1 || t == 2
  | _ => t == 1

/-- The types that only the acting root sends (R297). -/
def rootType (cls t : Nat) : Bool := (cls == 0 && 0x10 ≤ t && t ≤ 0x16) || (cls == 1 && (t == 0x20 || (0x22 ≤ t && t ≤ 0x24)))

/-- A frame that does not end at the device (R287, R291, R292, R314). One of an unlisted type, or of a type of the acting root
that does not come from it, goes no further (R297). -/
def forwardFrame (k : Fin 6) (e : FrameEnd) (f : OvFrame) (s : State) : State :=
  let s1 := (rx k e s).2
  if !s.portUp k then s1
  else
    let bad := e != .good
    match f with
    | .c0 t b =>
      if b.hops ≥ 15 || !listedType 0 t || b.down != rootType 0 t then ovDrop k s1
      else if b.down then (if s1.fromRoot k b.src.toNat then c0Down bad t b s1 else ovDrop k s1)
      else if s1.ov.acting then ovDrop k s1
      else relayOut bad (.c0 t { b with hops := b.hops + 1 }) none s1.upPort s1
    | .cN c t h pl =>
      let g : OvFrame := .cN c t { h with hops := h.hops + 1 } pl
      if h.hops ≥ 15 || !listedType c t || (rootType c t && !s1.fromRoot k h.src.toNat) then creditBack g (some k) (ovDrop k s1)
      else if h.bcast then creditBack g (some k) (cNDown bad c t h pl s1)
      else match s1.route h.dest.toNat h.root with
        | .port j => relayOut bad g (some k) j s1
        | .self => creditBack g (some k) s1
        | .noWhere => (let v := creditBack g (some k) (ovDrop k s1); if (frameIsReq g) then ovAnswer h 3 [] v else v)

/-- Credits come back for a class (R293). -/
def creditReturn (k : Fin 6) (cls credits : Nat) (s : State) : State :=
  if s.portUp k && 1 ≤ cls && 1 ≤ credits && credits ≤ 63 then
    let t := (egAdvance k s).updOvPort k (fun p => p.setCredits cls (p.creditsOf cls + credits))
    longTry k t
  else s

/-- An ENUM frame as the device sends it on. -/
def enumFrame (s : State) : OvFrame := .cN 1 2 (s.ownHdr 0 false true 0) [0]
/-- A COUNT frame. -/
def countFrame (s : State) (n : Nat) : OvFrame := .cN 1 2 (s.ownHdr 0 true false 0) ([1] ++ leBytes 4 n)

/-- The device's N (R285): itself, and what its admitted down ports have reported. -/
def State.enumCount (s : State) : Nat :=
  1 + (downPorts.map (fun k => s.ov.ports[k].count.getD 0)).foldl (· + ·) 0

/-- What a port is assigned for: what it reported in the enumeration; in a device that was admitted later, what its LINK frame
says of it (R285, R286). -/
def State.portCount (s : State) (k : Fin 6) : Option Nat :=
  if s.ov.enumOpen then s.ov.ports[k].count
  else if s.portUp k && !s.toSpare k then s.ov.ports[k].peer.map (·.count) else none

/-- Assign a range: the device takes its base, and each down port its consecutive part (R285). A part that the range does not
hold, or above 0x3_FFFF, is range short (R285, R286). -/
def assignRange (base len : Nat) (s : State) : State :=
  let fixed := s.cfg.ov.address
  let s1 := s.updOv (fun o => { o with addr := some base, len := len, enumAt := none,
                                       mismatch := o.mismatch || (!s.cfg.ov.auto && base != fixed) })
  ((downPorts.foldl (fun (a : Nat × State) k =>
    match s.portCount k with
    | none => (a.1, a.2.updOvPort k (fun p => { p with base := 0, len := 0 }))
    | some n =>
      if a.1 + n > 0x40000 || a.1 + n > base + len then
        (a.1, notAdmit k 2 (a.2.updOvPort k (fun p => { p with base := 0, len := 0 })))
      else (a.1 + n, (let u := a.2.updOvPort k (fun p => { p with base := a.1, len := n }); cNSend k (assignFrame u a.1 n) u)))
    (base + 1, s1)).2).updOv (fun o => { o with enumOpen := false })

/-- The counts are in: the acting root assigns, any other device sends its COUNT up (R285). -/
def enumFinish (s : State) : State :=
  if (s.core .link).state != .running then s else
  let s1 := s.updOv (fun o => { o with enumAt := none })
  if s1.ov.acting then assignRange s1.cfg.ov.address s1.enumCount s1
  else if s1.portUp s1.upPort then cNSend s1.upPort (countFrame s1 s1.enumCount) s1 else s1

/-- Begin an enumeration at this device (R285, R311), once the link core runs (Table 13.12). A port that was range short takes
part in it (R286). -/
def enumBegin (s : State) : State :=
  if (s.core .link).state != .running then s.updOv (fun o => { o with enumPend := true }) else
  let s1 := s.updOv (fun o => { o with
    enumPend := false, enumOpen := true, grafts := [], enumAt := some (s.now + ms 10)
    ports := o.ports.map (fun p => { p with
      count := none
      state := if p.state == .notAdmitted && p.why == 2 then .up else p.state
      credits := if p.state == .notAdmitted && p.why == 2 then ((p.peer.map (·.credits)).getD (0, 0, 0)) else p.credits }) })
  let s2 := if s1.ov.acting then s1.each s1.rootPorts (fun k u => cNSend k (enumFrame u) u) else s1
  if s2.rootPorts.isEmpty then enumFinish s2 else s2

/-- A COUNT from a down port (R285). -/
def enumCountIn (k : Fin 6) (n : Nat) (s : State) : State :=
  if s.ov.enumAt.isSome && 2 ≤ k.val then
    let t := s.updOvPort k (fun p => { p with count := some n })
    if t.rootPorts.all (fun j => t.ov.ports[j].count.isSome) then enumFinish t else t
  else s

/-- The acting root starts an enumeration at READY or on the host's strobe. -/
def enumAtRoot (s : State) : State := if s.ov.acting then enumBegin s else s

/-- Install a graft entry, and pass the GRAFT on up (R311); the port it came over carries traffic from now on (R310). -/
def graftIn (k : Fin 6) (h : OvHdr) (base len : Nat) (s : State) : State :=
  let up (u : State) : State :=
    if u.ov.acting then u
    else if u.portUp u.upPort && h.hops < 15 then
      cNSend u.upPort (.cN 1 3 { h with hops := h.hops + 1 } ([0] ++ leBytes 4 base ++ leBytes 4 len)) u
    else ovDrop k u
  let others := s.ov.grafts.filter (fun g => !(g.1 == base && g.2.1 == len))
  if others.length ≥ 8 then ovAnswer h 2 [] s
  else up ((s.updOvPort k (fun p => { p with peer := p.peer.map (fun l => { l with spareUp := false }) })).updOv
    (fun o => { o with grafts := others ++ [(base, len, k)] }))

/-- Remove a graft entry, and pass the UNGRAFT on up (R311). -/
def graftOut (k : Fin 6) (h : OvHdr) (base len : Nat) (s : State) : State :=
  let t := s.updOv (fun o => { o with grafts := o.grafts.filter (fun g => !(g.1 == base && g.2.1 == len)) })
  if t.ov.acting then t
  else if t.portUp t.upPort && h.hops < 15 then
    cNSend t.upPort (.cN 1 3 { h with hops := h.hops + 1 } ([1] ++ leBytes 4 base ++ leBytes 4 len)) t
  else ovDrop k t

/-- Move the up traffic to OP1 (R310, R311). -/
def reroute (s : State) : State :=
  let d := match s.ov.ports[(1 : Fin 6)].peer with | some l => if l.depth < 15 then l.depth + 1 else 15 | none => 15
  let t := (s.updOvPort 1 (fun p => { p with state := .up })).updOv (fun o => { o with upSpare := true, depth := d })
  let l := send (.ovLink 1 (t.linkInfo 1)) t
  let u := match l.ov.addr with
    | some a => cNSend 1 (.cN 1 3 (l.ownHdr 0 true false 0) ([0] ++ leBytes 4 a ++ leBytes 4 l.ov.len)) l
    | none => l
  fire 158 8 (fire 156 8 u)

/-- Move the up traffic back to OP0 and send UNGRAFT over the old path (R311). -/
def unreroute (s : State) : State :=
  let t := match s.ov.addr with
    | some a => cNSend 1 (.cN 1 3 (s.ownHdr 0 true false 0) ([1] ++ leBytes 4 a ++ leBytes 4 s.ov.len)) s
    | none => s
  let d := match t.ov.ports[(0 : Fin 6)].peer with | some l => if l.depth < 15 then l.depth + 1 else 15 | none => 15
  (t.updOvPort 1 (fun p => { p with state := if p.state == .up then .spareIdle else p.state })).updOv
    (fun o => { o with upSpare := false, depth := d })

/-- A strobe of OV_CTRL is refused. -/
def ovRefuse (s : State) : State := s.updOv (fun o => { o with refused := true })

/-- A port is retrained: its island is reset and its egress discarded (R24, R306); a fenced or disabled port stays so. -/
def portRetrain (k : Fin 6) (s : State) : State :=
  let p := s.ov.ports[k]
  addTally 10 (p.egress.length + p.waiting.length + bit01 p.long.isSome) (egDiscard k (s.updOvPort k (fun q => { q with
    state := if q.state == .fenced || q.state == .disabled then q.state else .training
    peer := none, busyTill := 0, downAt := some s.now })))

/-- A mailbox transaction ends (OV_TXN_STAT). -/
def mailboxEnd (status : Nat) (data : List Byte) (s : State) : State :=
  s.updOv (fun o => { o with
    txnBusy := false
    txnDone := true
    txnStatus := status
    txnData := if o.txnWrite || status != 0 then o.txnData
      else Vector.ofFn (fun i => if i.val ≤ o.txnCount then leNat ((data.drop (2 * i.val)).take 2) else o.txnData[i]) })

/-- End a transaction by its tag. -/
def txnEnd (tag status : Nat) (data : List Byte) (s : State) : State :=
  match s.ov.txns.find? (fun t => t.tag == tag) with
  | none => s
  | some t =>
    let u := s.updOv (fun o => { o with txns := o.txns.filter (fun x => x.tag != tag) })
    if t.mailbox then mailboxEnd status data u else u

/-- The frames that wait in the queues of the cores. -/
def OvS.held (o : OvS) : Nat := (o.queues.toList.map (fun q => q.msgs.length)).foldl (· + ·) 0

/-- The queues of the cores lose what they hold, and it is counted, a frame being a word (R24, log entry 54). -/
def queuesLost (s : State) : State :=
  addTally 10 s.ov.held (s.updOv (fun o => { o with queues := o.queues.map (fun q => { q with msgs := [] }) }))

/-- A RESET that the device has forwarded, and what waits before it, leaves before the islands are reset (R306). -/
def resetOut (k : Fin 6) (s : State) : State :=
  let w := (s.ov.ports[k]).waiting
  let n := (w.zipIdx.filter (fun x => x.1.1 == 0x13)).foldl (fun a x => max a (x.2 + 1)) 0
  (s.updOvPort k (fun p => { p with waiting := w.drop n })).each (w.take n) (fun x u => send (.ov k (.c0 x.1 x.2)) u)

/-- The cascade reset at this device (R306). -/
def cascadeReset (s : State) : State :=
  let t := (s.each downPorts resetOut).each (s.ov.txns.map (·.tag)) (fun g u => txnEnd g 6 [] u)
  queuesLost (t.each (List.finRange 6) (fun k u => portRetrain k u))

/-- Put bytes in the snapshot data. -/
def SnapS.put (p : SnapS) (ofs : Nat) (bs : List Byte) : SnapS :=
  { p with data := p.data.take ofs ++ bs ++ p.data.drop (ofs + bs.length) }

/-- Every class-0 and class-1 frame that this device originated before it acted on the operation has left its up port (R303). -/
def State.opSent (s : State) : Bool := s.ov.acting || (s.ov.opC0 ≤ s.now && !s.ov.opWin && s.ov.opC1 == 0)

/-- Whether this device may acknowledge the operation in progress: its earlier frames have left, its own capture is complete,
and every UP down port has answered or the wait has ended (R303, R304). -/
def State.opReady (s : State) : Bool :=
  s.ov.opOpen && s.opSent &&
    (match s.ov.snap with | some p => p.taken && p.rails.isEmpty | none => true) &&
    (due s.now s.ov.opEnds || s.rootPorts.all (fun k => s.ov.ports[k].ack.isSome))

/-- Acknowledge the operation in progress when it is complete here (R303, R304). -/
def opTry (s : State) : State :=
  if s.opReady then
    let part := s.ov.opPartial || s.rootPorts.any (fun k => s.ov.ports[k].ack != some false)
    let t := s.updOv (fun o => { o with opOpen := false, opDone := true, opPartial := part, opEnds := none,
                                        opDur := if o.acting then min 0xFFFFFFFF (s.now - o.opAt) else o.opDur })
    let rec_ (u : State) : State :=
      match u.ov.snap with
      | some p =>
        let v := u.updOv (fun o => { o with snap := none })
        if v.ov.acting then v else ovOut (.cN 2 2 (v.ownHdr 0 true false 0) p.data) v
      | none => u
    if t.ov.acting then rec_ t
    else rec_ (if t.portUp t.upPort then
        c0Send t.upPort (if t.ov.opKind = 1 then 4 else 5)
          { down := false, paired := false, hops := 0, src := BitVec.ofNat 18 (t.ov.addr.getD 0), twin := false,
            arg0 := byteOf t.ov.opId, arg1 := byteOf (bit01 part), arg2 := 0, corr := 0 } t
      else t)
  else s

/-- When the last class-0 frame of this device that is at an egress has left it: one that waits leaves in its turn. -/
def OvPort.ownLeft (p : OvPort) (now : Nat) : Nat :=
  let n := (p.waiting.zipIdx.filter (fun x => x.1.2.hops == 0)).foldl (fun a x => max a (x.2 + 1)) 0
  if n = 0 then (if p.busyOwn then p.busyTill else now) else p.busyTill + 320 * n

/-- The class-1 frames of this device that are at an egress. -/
def OvPort.ownLong (p : OvPort) : Nat :=
  ((p.egress ++ p.long.toList.map (fun l => (l.frame, l.relay))).filter (fun f => frameCls f.1 == 1 && f.2.isNone)).length

/-- Begin a barrier (kind 1) or snapshot (kind 2) at this device; it abandons any other in progress, and notes the frames of
this device that have to leave first (R303). -/
def opBegin (kind id : Nat) (snap : Option SnapS) (s0 : State) : State :=
  let s := egAdvance s0.upPort s0
  let up := s.ov.ports[s.upPort]
  s.updOv (fun o => { o with
    opId := id, opKind := kind, opDone := false, opPartial := false, opAt := s.now, opOpen := true
    opEnds := some (s.now + ms 1), snap := snap
    opC0 := up.ownLeft s.now, opWin := up.win.isSome && up.winCount != 0, opC1 := up.ownLong
    ports := o.ports.map (fun p => { p with ack := none }) })

/-- An acknowledgement of a child (R303). -/
def opAck (k : Fin 6) (kind : Nat) (f : Ov0) (s : State) : State :=
  if s.ov.opOpen && s.ov.opKind == kind && f.arg0.toNat == s.ov.opId then
    opTry (s.updOvPort k (fun p => { p with ack := some (f.arg1 == 1) }))
  else s

/-- A rail's compensator sample at or after the capture instant (R304): VOUT in mV and Isum in 0.1 A. -/
def snapRail (r : Fin 24) (vout isum : Nat) (s : State) : State :=
  match s.ov.snap with
  | some p =>
    if p.taken && p.rails.contains r then
      opTry (s.updOv (fun o => { o with snap := some { (p.put (32 + 4 * r.val) (leBytes 2 vout ++ leBytes 2 isum)) with
        rails := p.rails.filter (· != r) } }))
    else s
  | none => s

/-- An offset found at a mark: slewed up to 10 us, stepped beyond and written to the ledger (R300). -/
def timeOffset (ofs : Int) (s : State) : State :=
  if ofs.natAbs ≤ 10000 then s.updOv (fun o => { o with slew := ofs })
  else logStep 5 0 (Config.logField 5 0 0) (ofs % 4294967296).toNat (s.updOv (fun o => { o with slew := 0, gtime := (((o.gtime : Int) + ofs).toNat) % 2 ^ 64 }))

/-- A TIME frame for the latest TMARK (R300, R301). -/
def timeFrame (mark markMs time : Nat) (s : State) : State :=
  match s.ov.tmark with
  | some (m, at_, corr) =>
    if m == mark && !s.ov.acting then
      let arrival : Int := time + corr + s.ov.ports[s.upPort].delay
      let ofs := arrival - s.ov.tmarkCnt
      let rate : Int := match s.ov.prevMark with
        | some (rt, lc) => if at_ > lc then ((arrival - rt - (at_ - lc : Nat)) * 4294967296) / ((at_ - lc : Nat) : Int) else 0
        | none => 0
      timeOffset ofs (s.updOv (fun o => { o with
        mark := mark, markMs := markMs, ofs := max (-32768) (min 32767 ofs), goodAt := s.now, timeHold := false
        prevMark := some (arrival.toNat, at_), rate := rate, tmark := none }))
    else s
  | none => s

/-- `n` nanoseconds of global time: the corrected rate, and the slew of at most 1,000 ppm (R300). -/
def passTime (n : Nat) (o : OvS) : OvS :=
  let r : Int := o.rateAcc + n * o.rate
  let acc := o.slewAcc + n
  let k : Int := (acc / 1000 : Nat)
  let sl : Int := if o.slew > 0 then min o.slew k else if o.slew < 0 then max o.slew (-k) else 0
  { o with
    gtime := (((o.gtime : Int) + n + r / 4294967296 + sl).toNat) % 2 ^ 64
    rateAcc := r % 4294967296
    slewAcc := acc % 1000
    slew := o.slew - sl }

/-- A free tag and a place among the 96 outstanding transactions (R307). -/
def OvS.freeTag (o : OvS) : Option Nat :=
  if o.txns.length ≥ 96 then none
  else (List.range 128).find? (fun i => !o.txns.any (fun t => t.tag == (o.nextTag + i) % 128)) |>.map (fun i => (o.nextTag + i) % 128)

/-- The space a message takes in its queue, in units of 64 bytes. -/
def OvMsg.space : OvMsg → Nat
  | .wrReq _ _ _ d => (d.length + 22 + 63) / 64
  | .resp _ _ _ d => (d.length + 22 + 63) / 64
  | .snaprec _ _ p => (p.length + 20 + 63) / 64
  | .imgData _ _ _ _ d => (d.length + 28 + 63) / 64
  | _ => 1

/-- The class of a message, its server's code (Table 2.19) and core. -/
def OvMsg.served : OvMsg → Nat × Nat × CoreId
  | .activate _ _ _ => (1, 2, .supervisor)
  | .evrec _ _ _ => (2, 0, .link)
  | .snaprec _ _ _ => (2, 0, .link)
  | .imgData _ _ _ _ _ => (3, 2, .supervisor)
  | _ => (1, 0, .link)

/-- The port a message came in on. -/
def OvMsg.port : OvMsg → Fin 6
  | .enum k _ | .count k _ _ | .assign k _ _ _ | .rdReq k _ _ _ | .wrReq k _ _ _ | .resp k _ _ _ | .role k _ _
  | .shareSp k _ _ | .cap k _ _ | .activate k _ _ | .evrec k _ _ | .snaprec k _ _ | .imgData k _ _ _ _ => k

/-- Space held in a queue. -/
def QueueS.fill (q : QueueS) : Nat := q.msgs.foldl (fun a m => a + m.2) 0

/-- A message that ends at this device enters the first queue of its class whose owner serves it and has room; without one it
is dropped (R293). The answer is the queue and the state. -/
def enqueue (m : OvMsg) (s : State) : Option (Fin 128) × State :=
  let sv := m.served
  let mine := (List.finRange 128).filter (fun i =>
    match s.cfg.queues[i] with | some q => q.cls == sv.1 && q.owner == sv.2.1 | none => false)
  match mine.find? (fun i => (match s.cfg.queues[i] with | some q => s.ov.queues[i].fill + m.space ≤ q.size | none => false)) with
  | some i => (some i, s.updOv (fun o => { o with queues := o.queues.upd i (fun q => { q with msgs := q.msgs ++ [(m, m.space)] }) }))
  | none =>
    let t := ovDrop m.port s
    (none, match mine.head? with
      | some i => t.updOv (fun o => { o with queues := o.queues.upd i (fun q => { q with drops := (q.drops + 1) % 65536 }) })
      | none => t)

end Sys2Proof.Machine
end

