-- ==== Sys2Proof/Machine/Exact.lean ====
section
/-! DEFINITION. Exact arithmetic on fractions: the sums, products, comparisons, medians and roundings that the rules of
chapters 4, 5, 9 and 10 state, carried at full precision (R113). -/
namespace Sys2Proof.Machine

/-- Lowest terms. -/
def Q.norm (a : Q) : Q := let g := Nat.gcd a.n.natAbs a.d; if g ≤ 1 then a else ⟨a.n / g, a.d / g⟩
def Q.ofInt (i : Int) : Q := ⟨i, 1⟩
def Q.add (a b : Q) : Q := Q.norm ⟨a.n * b.d + b.n * a.d, a.d * b.d⟩
def Q.neg (a : Q) : Q := ⟨-a.n, a.d⟩
def Q.sub (a b : Q) : Q := a.add b.neg
def Q.mul (a b : Q) : Q := Q.norm ⟨a.n * b.n, a.d * b.d⟩
def Q.abs (a : Q) : Q := ⟨(a.n.natAbs : Int), a.d⟩
def Q.lt (a b : Q) : Bool := a.n * b.d < b.n * a.d
def Q.le (a b : Q) : Bool := a.n * b.d ≤ b.n * a.d
def Q.min (a b : Q) : Q := if a.le b then a else b
def Q.max (a b : Q) : Q := if a.le b then b else a
/-- Division by a positive number. -/
def Q.divNat (a : Q) (k : Nat) : Q := Q.norm ⟨a.n, a.d * k⟩

/-- An integer fraction rounded to the nearest integer, halves away from zero (R113). -/
def roundDiv (n : Int) (d : Nat) : Int :=
  if n < 0 then -(((2 * n.natAbs + d) / (2 * d) : Nat) : Int) else (((2 * n.natAbs + d) / (2 * d) : Nat) : Int)

/-- Nearest integer, halves away from zero. -/
def Q.round (a : Q) : Int := roundDiv a.n a.d
/-- Largest integer not above. -/
def Q.floor (a : Q) : Int := a.n / a.d

/-- Sum. -/
def Q.sum (l : List Q) : Q := l.foldl Q.add ⟨0, 1⟩

/-- Insert into a rising list. -/
def Q.insert (a : Q) : List Q → List Q
  | [] => [a]
  | b :: t => if a.le b then a :: b :: t else b :: Q.insert a t
/-- A rising list. -/
def Q.sort (l : List Q) : List Q := l.foldr Q.insert []

/-- The median; the mean of the two middle values of an even number (R94). -/
def Q.median (l : List Q) : Q :=
  let t := Q.sort l
  let k := t.length
  if k % 2 = 1 then t.getD (k / 2) ⟨0, 1⟩
  else ((t.getD (k / 2 - 1) ⟨0, 1⟩).add (t.getD (k / 2) ⟨0, 1⟩)).divNat 2

/-- A published value: the number where it fits `w` bits, else a free value, since the spec states no result there (log
entry 8). `sg` is whether the code is signed. -/
def fitCode (sg : Bool) (w : Nat) (v : Int) (s : State) : Nat × State :=
  let ok := if sg then -(2 ^ (w - 1) : Int) ≤ v && v < 2 ^ (w - 1) else 0 ≤ v && v < 2 ^ w
  if ok then ((v % 2 ^ w).toNat, s) else
    let d := draw s
    (d.1 % 2 ^ w, d.2)

end Sys2Proof.Machine
end

