-- ==== Sys2Proof/Machine/PhaseOps.lean ====
section
/-! DEFINITION. The phase engines (spec/04_phase_engines.md): units and active sets, positions, the edges of a period, the
consistency check, fencing and return, and the result set. -/
namespace Sys2Proof.Machine

/-- A number as an engine. -/
def toPhase (n : Nat) : Option (Fin 64) := if h : n < 64 then some ⟨n, h⟩ else none
/-- A number as a rail. -/
def toRail (n : Nat) : Option (Fin 24) := if h : n < 24 then some ⟨n, h⟩ else none
/-- A number as a port. -/
def toPort (n : Nat) : Option (Fin 8) := if h : n < 8 then some ⟨n, h⟩ else none

/-- The rail of an engine. -/
def State.railOf (s : State) (n : Fin 64) : Option (Fin 24) := (s.phases[n].cfg).bind (fun p => toRail p.rail)

/-- The other engine of a bridge. -/
def State.partner (s : State) (n : Fin 64) : Option (Fin 64) :=
  (s.phases[n].cfg).bind (fun p => if p.mode ≥ 2 then toPhase p.partner else none)

/-- An engine and, for a bridge, its partner. -/
def State.unitOf (s : State) (n : Fin 64) : List (Fin 64) := n :: (s.partner n).toList

/-- The engines of a rail (R108). -/
def State.engines (s : State) (r : Fin 24) : List (Fin 64) :=
  (List.finRange 64).filter (fun n => match s.phases[n].cfg with | some p => p.rail == r.val | none => false)

/-- The units of a rail: its engines, a bridge named by its LEG_A engine (R108). -/
def State.units (s : State) (r : Fin 24) : List (Fin 64) :=
  (s.engines r).filter (fun n => match s.phases[n].cfg with | some p => p.mode != 3 | none => false)

/-- Engines per unit. -/
def State.unitSize (s : State) (r : Fin 24) : Nat :=
  match s.rails[r].cfg with | some c => if c.topo = 1 then 2 else 1 | none => 1

/-- The units of a rail that are not fenced. -/
def State.unfenced (s : State) (r : Fin 24) : List (Fin 64) := (s.units r).filter (fun n => s.phases[n].state != .fenced)

/-- PH_FLAGS.NOSHED of a unit. -/
def State.noshedUnit (s : State) (n : Fin 64) : Bool :=
  (s.unitOf n).any (fun i => match s.phases[i].cfg with | some p => p.noshed | none => false)

/-- The active set of a shedding entry (R109). -/
def State.entrySet (s : State) (r : Fin 24) (k : Nat) : List (Fin 64) :=
  match s.rails[r].cfg with
  | none => []
  | some c =>
    match c.shed[k]? with
    | none => s.unfenced r
    | some e =>
      let u := s.unfenced r
      let keep := u.filter s.noshedUnit
      let rest := u.filter (fun n => !s.noshedUnit n)
      let sel := keep ++ rest.take (e.nph / s.unitSize r - keep.length)
      u.filter (fun n => sel.contains n)

/-- Entries of the shedding table. -/
def State.shedN (s : State) (r : Fin 24) : Nat := match s.rails[r].cfg with | some c => c.shed.length | none => 0

/-- An entry that stands for itself: the highest of those with equal active sets (R109). -/
def State.entryStands (s : State) (r : Fin 24) (k : Nat) : Bool :=
  k + 1 ≥ s.shedN r || s.entrySet r k != s.entrySet r (k + 1)

/-- The entry at or above `k` that stands. -/
def State.entryAt (s : State) (r : Fin 24) (k : Nat) : Nat :=
  ((List.range (s.shedN r)).find? (fun j => k ≤ j && s.entryStands r j)).getD (s.shedN r - 1)
/-- The next entry up. -/
def State.entryUp (s : State) (r : Fin 24) (k : Nat) : Option Nat :=
  (List.range (s.shedN r)).find? (fun j => k < j && s.entryStands r j)
/-- The next entry down. -/
def State.entryDown (s : State) (r : Fin 24) (k : Nat) : Option Nat :=
  (List.range (s.shedN r)).reverse.find? (fun j => j < k && s.entryStands r j)

/-- A unit of the active set: switching, or of a pending shed whose last unit has not dropped (R123), or one that the hold-up
state re-lights when its pending shed completes. -/
def State.isActive (s : State) (r : Fin 24) (n : Fin 64) : Bool :=
  s.phases[n].state == .active || s.phases[n].again ||
    (s.rails[r].shedSet.contains n && (s.phases[n].state == .shedPend || s.phases[n].state == .shed))

/-- The active set of a rail, by unit. -/
def State.activeSet (s : State) (r : Fin 24) : List (Fin 64) := (s.units r).filter (s.isActive r)

/-- Vernier taps of a switching period (R89). -/
def periodTaps (fsw : Nat) : Nat := (2 * 12800000000 + fsw) / (2 * fsw)

/-- The period of a rail, in taps. -/
def State.taps (s : State) (r : Fin 24) : Nat := match s.rails[r].cfg with | some c => periodTaps c.fsw | none => 1

/-- Change every engine of a list. -/
def updPhases (l : List (Fin 64)) (f : PhaseS → PhaseS) (s : State) : State := s.each l (fun n t => t.updPhase n f)

/-- Suspend the check of a rail's engines for 4 periods (R95). -/
def suspendCheck (r : Fin 24) (s : State) : State := updPhases (s.engines r) (fun p => { p with susp := 4 }) s

/-- Suspend the check where the active set of the rail is no longer `was` (R95). -/
def suspendMoved (r : Fin 24) (was : List (Fin 64)) (s : State) : State :=
  s.when (s.activeSet r != was) (suspendCheck r)

/-- An engine that switches. -/
def PhaseS.switching (p : PhaseS) : Bool := p.state == .active || p.state == .shedPend
/-- An engine of a running rail that does not go on switching: SHED, or dropped in this period (R91). -/
def PhaseS.isOut (p : PhaseS) : Bool := p.state == .shed || p.dropping
/-- A unit of which an engine does not go on switching (R92). -/
def State.unitOut (s : State) (n : Fin 64) : Bool := (s.unitOf n).any (fun i => s.phases[i].isOut)

/-- Give the engines of the active set their target positions (R90, R92). Where P is odd, P / 2 is rounded down (log entry
111). -/
def place (r : Fin 24) (s : State) : State :=
  let p := s.taps r
  let act := s.activeSet r
  let m := act.length
  s.each (act.zip (List.range m)) (fun x t =>
    match t.partner x.1 with
    | none => t.updPhase x.1 (fun q => { q with posTgt := (2 * x.2 * p + m) / (2 * m) })
    | some b =>
      let a := (x.2 * p + m) / (2 * m)
      (t.updPhase x.1 (fun q => { q with posTgt := a })).updPhase b (fun q => { q with posTgt := (a + p / 2) % p }))

/-- Units join the switching set: each engine becomes ACTIVE, one that did not switch at its new position and in the direction
that its rail commands, which suspends its check where it is another one (R90, R93, R95, Table 4.6). -/
def joinUnits (r : Fin 24) (l : List (Fin 64)) (s : State) : State :=
  let es := l.flatMap s.unitOf
  let new := es.filter (fun n => !s.phases[n].switching)
  let t := updPhases es (fun p => { p with
    state := .active
    dropping := false
    again := false
    opened := p.opened && p.switching
    led := p.led && p.switching
    susp := if !p.switching && p.dir != p.dirCmd then 4 else p.susp
    dir := if p.switching then p.dir else p.dirCmd }) s
  updPhases new (fun p => { p with pos := p.posTgt }) (place r t)

/-- The active set has changed: new positions, and the check suspended (R90, R95). -/
def regroup (r : Fin 24) (s : State) : State := suspendCheck r (place r s)

/-- A pending shed of a rail is cancelled: the units that have not dropped go on switching, a bridge with both its engines
(R91, R92). -/
def cancelShed (r : Fin 24) (s : State) : State :=
  let es := (s.rails[r].shedSet.filter (fun n => (s.unitOf n).any (fun i => !s.phases[i].isOut))).flatMap s.unitOf
  let t := updPhases es (fun p => if p.state == .shedPend || p.state == .shed then { p with
    state := .active, dropping := false, led := p.led && p.switching } else p) s
  t.updRail r (fun x => { x with shedSet := [] })

/-- The shed of a rail completes when every announced engine has dropped: the active set changes (R123). -/
def shedCheck (r : Fin 24) (s : State) : State :=
  let l := s.rails[r].shedSet
  if !l.isEmpty && l.all (fun n => (s.unitOf n).all (fun i => s.phases[i].isOut)) then
    regroup r (s.updRail r (fun x => { x with
      shedSet := []
      entry := x.shedTo
      sheds := sat255 x.sheds }))
  else s

/-- The on-time of an engine is over: the ramp is reset (R87). -/
def PhaseS.endOn (p : PhaseS) : PhaseS := { p with onNow := false, thr := Q.ofInt p.ref }

/-- Fence one engine: tri-state, out of service (R97 step 1). -/
def fenceEngine (n : Fin 64) (why : Nat) (s : State) : State :=
  addTally 6 1 (logStep 2 1 n.val why (s.updPhase n (fun p => { p.endOn with
    state := .fenced
    pwm := .z
    dropping := false
    again := false
    opened := false
    why := why
    fences := sat255 p.fences })))

/-- What a fence of the engine `n` leaves to its rail: a pending shed of the unit is cancelled (Table 4.6), the switching units
move, and the limit changes at the next sample (R97 steps 2, 4 and 6, R109). -/
def fenceRail (r : Fin 24) (n : Fin 64) (l : List (Fin 64)) (s : State) : State :=
  let p := if s.rails[r].shedSet.any (fun i => l.contains i) then cancelShed r s else s
  let t := p.updRail r (fun x => { x with fenceDue := true })
  let u := t.updRail r (fun x => { x with entry := t.entryAt r x.entry })
  logStep 2 2 n.val (u.activeSet r).length (shedCheck r (regroup r u))

/-- Fence a phase with its partner; `raise_` is whether their sources fire (R97, R102). -/
def fencePhase (n : Fin 64) (why : Nat) (raise_ : Bool) (s : State) : State :=
  match s.railOf n with
  | none => s
  | some r =>
    let other := (s.partner n).toList.filter (fun i => s.phases[i].state != .fenced)
    let t := s.each other (fun i u => fireIf raise_ i.val 6 (fenceEngine i 6 u))
    fenceRail r n (n :: other) (fireIf raise_ n.val why (fenceEngine n why t))

/-- A fence by the check: the source fires, the twin follows, and a rail left with no unit raises its own (R96, R103). -/
def fenceByCheck (n : Fin 64) (why : Nat) (s : State) : State :=
  let t := forward (.fence n) (fencePhase n why true s)
  match s.railOf n with
  | none => t
  | some r =>
    if (t.unfenced r).isEmpty then
      fire (64 + r.val) 2 (t.updRail r (fun x => { x with cause := x.cause ||| 4 }))
    else t

/-- Return a fenced phase and its partner (R101). In a rail that is in SNUFF, which only a pattern apply reaches, it returns as
SHED (log entry 112). -/
def unfencePhase (n : Fin 64) (s : State) : State :=
  match s.railOf n with
  | none => s
  | some r =>
    let off := s.rails[r].state == .off || s.rails[r].state == .absent
    let l := (s.unitOf n).filter (fun i => s.phases[i].state == .fenced)
    let t := updPhases l (fun p => { p with
      state := if off then .off else .shed
      shedAt := s.now
      why := 0
      oobCnt := 0
      stage := false }) s
    let u := t.updRail r (fun x => { x with fenceDue := true })
    u.updRail r (fun x => { x with entry := u.entryAt r x.entry })

/-- The on-level and the off-level of an engine (Table 4.1). -/
def PhaseS.onLevel (p : PhaseS) : Pwm := if p.dir then .low else .high
/-- The off-level of an engine (Table 4.1). -/
def PhaseS.offLevel (p : PhaseS) : Pwm := if p.dir then .high else .low

/-- Values waiting for the period boundary take effect (R48); a change of CS_GAIN, SLOPE or BLANK suspends the check (R95). -/
def loadPhase (n : Fin 64) (s : State) : State :=
  s.updPhase n (fun p => match p.next with
    | none => p
    | some c =>
      let moved := match p.cfg with | some o => o.csGain != c.csGain || o.slope != c.slope || o.blank != c.blank | none => false
      { p with cfg := some c, next := none, susp := if moved then 4 else p.susp })

/-- One period's move towards the target position, at most P / 16, the shorter way round; from exactly half a period away the
periods lengthen (R90, log entry 110). -/
def stepPos (p : Nat) (pos tgt : Int) : Int :=
  let d := (tgt - pos) % (p : Int)
  let d := if 2 * d > p then d - p else d
  let m : Int := p / 16
  (pos + max (-m) (min m d)) % (p : Int)

/-- The effective threshold of the comparator, mV, `taps` after the leading edge: the reference less SLOPE × 2.0 V/us / 1,023,
held at 0 (R87). -/
def PhaseCfg.threshold (c : PhaseCfg) (ref taps : Nat) : Q :=
  Q.norm (Q.max ⟨0, 1⟩ ((Q.ofInt ref).sub ⟨c.slope * 2000 * taps, 1023 * 12800⟩))

/-- The shortest on-time of an engine, taps: the minimum on-time and the blanking (R85). -/
def PhaseCfg.tonLow (c : PhaseCfg) : Nat := max (c.tonMin * 32) (256 + 64 * c.blank)

/-- tON_MAX of an engine, taps, of a period of `p` taps (R85). -/
def PhaseCfg.tonHigh (c : PhaseCfg) (p : Nat) : Nat := (if c.mode ≥ 2 then p / 2 else p) - c.toffMin * 32

/-- A 10-bit digitiser code (Table 4.2). -/
def code10 (b : BitVec 10) : Int := b.toInt

/-- The end of an on-time: the off-level, the peak sample, and the drop of a pending shed (R83, R85, R91). The on-time lasts as
R85 says: a trip acts after the minimum on-time and the blanking, and tON_MAX ends it in any case. -/
def onTimeEnd (n : Fin 64) (why : OnEnd) (peak : BitVec 10) (ton : Nat) (s : State) : State :=
  let p := s.phases[n]
  match p.cfg, s.railOf n with
  | some c, some r =>
    if p.onNow then
      let hi := c.tonHigh (s.taps r)
      let t := match why with
        | .trip => max c.tonLow ton
        | .minOn | .blanking => c.tonLow
        | .tonMax => hi
      let full := why == .tonMax || hi < t
      let len := if full then hi else t
      shedCheck r (s.updPhase n (fun q => { q.endOn with
        pwm := q.offLevel
        thrEnd := c.threshold q.ref len
        curPk := code10 peak
        curTon := len
        curFull := full
        curTrip := !full
        lastTrip := !full
        lastPk := some ((if q.dir then -1 else 1) * code10 peak)
        noTrip := q.noTrip || full
        dropping := q.state == .shedPend }))
    else s
  | _, _ => s

/-- An on-time that the next edge or valley sample finds still open has ended at its tON_MAX (R85, R92); its peak sample is a
free value (log entry 109). -/
def endOverdue (n : Fin 64) (s : State) : State :=
  if s.phases[n].onNow then (let d := draw s; onTimeEnd n .tonMax (BitVec.ofNat 10 d.1) 0 d.2) else s

/-- The reference code and the skipping of the pulse at a leading edge (R86). The LEG_B engine of a bridge takes what its LEG_A
engine has loaded, and the lower IPK_MAX of the two records binds the code of both (R92, DEDUCED, log entry 108). -/
def State.loadCode (s : State) (n : Fin 64) (r : Fin 24) (c : PhaseCfg) : Nat × Bool :=
  let x := s.rails[r]
  let mate := s.partner n
  let clamp := match mate.bind (fun b => s.phases[b].cfg) with | some o => min c.ipkMax o.ipkMax | none => c.ipkMax
  let own := (min x.held (min clamp x.heldCl), x.held == 0)
  match mate with
  | some a => if c.mode = 3 && s.phases[a].led then (s.phases[a].ref, s.phases[a].skip) else own
  | none => own

/-- A leading edge of a switching engine: direction, reference, ramp and on-level (R86, R87, R93); with a demand code of 0 the
pulse is skipped, and a pending shed drops. -/
def leadPulse (n : Fin 64) (r : Fin 24) (c : PhaseCfg) (s : State) : State :=
  let p := s.phases[n]
  let turn := c.mode == 1 && p.state == .active && p.dir != p.dirCmd
  let p1 := if turn then { p with dir := p.dirCmd, susp := 4 } else p
  let p2 := { p1 with pos := stepPos (s.taps r) p1.pos p1.posTgt }
  if !s.rails[r].pulsed then s.updPhase n (fun _ => { p2 with pwm := .z })
  else
    let l := s.loadCode n r c
    if l.2 then
      shedCheck r (s.updPhase n (fun _ => { p2.endOn with
        pwm := p2.offLevel, led := true, skip := true, dropping := p2.state == .shedPend }))
    else s.updPhase n (fun _ => { p2 with
      pwm := p2.onLevel
      onNow := true
      led := true
      skip := false
      ref := l.1
      thr := Q.ofInt l.1
      pkClamp := p2.pkClamp || l.1 == c.ipkMax
      accClamp := p2.accClamp || l.1 == c.ipkMax })

/-- The PWM island loads the demand and the clamp that are offered to it (R19). -/
def loadDemand (r : Fin 24) (s : State) : State :=
  if s.arch.islands.pwm == .running then s.updRail r (fun x => { x with held := x.demand, heldCl := x.cl }) else s

/-- The PWM island has acknowledged the demand that is offered to it, and a demand that has merged behind it crosses (R19, R20). The
acknowledgement is there by the next leading edge of the rail at the latest (log entry 20). -/
def ackDemand (r : Fin 24) (s : State) : State :=
  let q := s.arch.toggle (.demand r)
  if q.outstanding then (ackLine (.demand r) s).when q.merged (loadDemand r) else s

/-- A fence command of the active (R264). Its cause code is a free value: the frame's arguments have no layout (log entry 3). -/
def fenceIn (n : Fin 64) (s : State) : State :=
  let d := draw s
  fencePhase n (1 + d.1 % 6) false d.2

/-- The forwarded fences and unfences of an engine act at its leading edge (R264). -/
def fwdEdge (n : Fin 64) (s : State) : State :=
  fwdTake (fun c => c == .fence n || c == .unfence n) (fun c u => if c == .fence n then fenceIn n u else unfencePhase n u) s

/-- The row PWM_LEADING_EDGE. An on-time of the engine or of its partner that is still open ends first (R92). -/
def leadingEdge (n : Fin 64) (s : State) : State :=
  if s.arch.islands.pwm == .running then
    match s.railOf n with
    | none => s
    | some r =>
      let t := loadPhase n ((s.unitOf n).foldl (fun u i => endOverdue i u) (ackDemand r s))
      let p := t.phases[n]
      let drop (st : PhState) : State := t.updPhase n (fun q => { q.endOn with
        state := st, pwm := .z, dropping := false, again := q.again && st == .shed, opened := false, shedAt := s.now })
      match p.cfg with
      | none => t
      | some c =>
        if !p.switching then t
        else if t.rails[r].state == .off then drop .off
        else if p.dropping then (if p.again then joinUnits r [n] (drop .shed) else drop .shed)
        else leadPulse n r c t
  else s

/-- Sense current in amperes: 2 mV per code over G (R94). -/
def PhaseCfg.amps (c : PhaseCfg) (code : Int) : Q := ⟨code * 2000, c.csGain⟩
/-- The floor of 16 mV / G (Table 4.4). -/
def PhaseCfg.floorA (c : PhaseCfg) : Q := ⟨16000, c.csGain⟩

/-- The check watches the engine: CHECK set, and switching. -/
def State.watched (s : State) (n : Fin 64) : Bool :=
  s.phases[n].switching && (match s.phases[n].cfg with | some c => c.check | none => false)

/-- The engine is judged by the check: watched, and a latest period known. -/
def State.checked (s : State) (n : Fin 64) : Bool := s.watched n && s.phases[n].latest.isSome

/-- The peak of an engine's latest period, A. -/
def State.peakA (s : State) (n : Fin 64) : Q :=
  match s.phases[n].cfg, s.phases[n].latest with
  | some c, some x => c.amps x.pk
  | _, _ => ⟨0, 1⟩

/-- A unit's peak: of a bridge, the mean of its two engines' (R94). -/
def State.unitPeak (s : State) (n : Fin 64) : Q :=
  match s.partner n with
  | some b => ((s.peakA n).add (s.peakA b)).divNat 2
  | none => s.peakA n

/-- |a − b| > band % of b. -/
def outOfBand (a b : Q) (band : Nat) : Bool := ((b.mul ⟨band, 100⟩)).lt ((a.sub b).abs)

/-- Criterion 2 (Table 4.4). -/
def State.critNoTrip (s : State) (r : Fin 24) (n : Fin 64) (x : Period) : Bool :=
  x.full && (s.engines r).any (fun i => i != n && s.watched i && s.phases[i].lastTrip)

/-- The output voltage of a rail, mV: the latest sensed voltage scaled by DIV (R94, R134). -/
def State.voutMv (s : State) (r : Fin 24) : Q :=
  match s.rails[r].cfg with | some c => ⟨s.rails[r].sense * c.div, 16 * 256⟩ | none => ⟨0, 1⟩

/-- The median on-time of the rail's checked phases, taps (R94). -/
def State.tonMed (s : State) (r : Fin 24) : Q :=
  Q.median (((s.engines r).filter s.checked).filterMap (fun i => (s.phases[i].latest).map (fun y => Q.ofInt y.ton)))

/-- Criterion 3 for BUCK and BIDIR: the rise differs from the predicted one (Table 4.4). mV × taps / nH is 1/12,800 A. -/
def State.critPredict (s : State) (r : Fin 24) (n : Fin 64) (c : PhaseCfg) (x : Period) : Bool :=
  let base : Q := ((s.voutMv r).mul ⟨x.ton, 12800 * c.lNh⟩)
  let med := s.tonMed r
  let p := s.taps r
  let pred : Option Q :=
    if c.mode == 1 && s.phases[n].dir then some base
    else if med.n ≤ 0 then none
    else some (base.mul (Q.norm ⟨(p : Int) * med.d - med.n, med.n.toNat⟩))
  match pred with
  | none => false
  | some d => c.floorA.le d && outOfBand (c.amps (x.pk - x.val)) d c.predBand

/-- Criterion 3 for LEG engines: the peak of the half-cycle against the partner's latest (Table 4.4). -/
def State.critSymmetry (s : State) (n : Fin 64) (c : PhaseCfg) : Bool :=
  match s.partner n with
  | none => false
  | some b =>
    match s.phases[b].cfg, s.phases[b].lastPk with
    | some o, some v => c.floorA.le (o.amps v) && outOfBand (s.peakA n) (o.amps v) c.predBand
    | _, _ => false

/-- The checked units of a rail. -/
def State.checkedUnits (s : State) (r : Fin 24) : List (Fin 64) := (s.units r).filter (fun n => (s.unitOf n).all s.checked)

/-- The share of a unit: the mean peak of the rail's other checked units (R94). -/
def State.shareOf (s : State) (r : Fin 24) (n : Fin 64) : Q :=
  let o := (s.checkedUnits r).filter (· != n)
  (Q.sum (o.map s.unitPeak)).divNat (max 1 o.length)

/-- Criterion 4 (Table 4.4), for the unit `n`. -/
def State.critShare (s : State) (r : Fin 24) (n : Fin 64) (c : PhaseCfg) : Bool :=
  let us := s.checkedUnits r
  let sh := s.shareOf r n
  -- |Ipk - share| / share of another unit, compared by cross products; units with no positive share take no part
  let dev (i : Fin 64) : Q := ((s.unitPeak i).sub (s.shareOf r i)).abs
  let beats (i : Fin 64) : Bool :=
    let a := (dev n).mul (s.shareOf r i)
    let b := (dev i).mul sh
    !(Q.lt ⟨0, 1⟩ (s.shareOf r i)) || b.lt a || (!a.lt b && n.val ≤ i.val)
  2 ≤ us.length && us.contains n && c.floorA.le sh && outOfBand (s.unitPeak n) sh c.ccBand && us.all beats

/-- The first of criteria 2 to 4 that a period meets, as a FENCE_WHY code; 0 in band (R94). -/
def State.judge (s : State) (r : Fin 24) (n : Fin 64) (c : PhaseCfg) (x : Period) : Nat :=
  let lead := if c.mode == 3 then (s.partner n).getD n else n
  if s.critNoTrip r n x then 3
  else if (if c.mode ≥ 2 then s.critSymmetry n c else s.critPredict r n c x) then 2
  else if s.critShare r lead c then 1
  else 0

/-- The check of an engine is suspended (R95). -/
def State.suspended (s : State) (r : Fin 24) (n : Fin 64) : Bool :=
  s.rails[r].state != .regulating || s.phases[n].susp > 0 ||
    ((s.activeSet r).flatMap s.unitOf).any (fun i => s.phases[i].pos != s.phases[i].posTgt)

/-- The verdict on a period (R94 to R96). `top` is whether its valley sample was the top code. -/
def verdict (n : Fin 64) (r : Fin 24) (c : PhaseCfg) (x : Period) (top : Bool) (s : State) : State :=
  let p := s.phases[n]
  let held := s.suspended r n
  let why := s.judge r n c x
  let stage := top && p.stage
  let t := s.updPhase n (fun q => { q with stage := top, susp := q.susp - 1 })
  let u :=
    if held then t
    else if why = 0 then t.updPhase n (fun q => { q with oob := false, oobCnt := 0 })
    else
      let v := addTally 5 1 (t.updPhase n (fun q => { q with
        oob := true
        cause := why
        oobCnt := min 8 (q.oobCnt + 1)
        episodes := if q.oobCnt = 0 then sat255 q.episodes else q.episodes }))
      if p.oobCnt = 0 then logStep 2 0 n.val 1 v else v
  let may := !s.paired || s.pair.role == .active || (s.pair.role == .standby && !s.pair.linkUp)
  let q := u.phases[n]
  if may && stage then fenceByCheck n 4 u
  else if may && !held && why != 0 && q.oobCnt = 8 then fenceByCheck n why u
  else u

/-- The row VALLEY_SAMPLE_CONVERSION: the sample closes a period and opens the next (R83, R94, R106). A
period whose pulse is skipped has no on-time: its peak is taken as its opening valley sample (log entry 109). -/
def valleySample (n : Fin 64) (code : BitVec 10) (s0 : State) : State :=
  let s := endOverdue n s0
  let p := s.phases[n]
  match p.cfg, s.railOf n with
  | some c, some r =>
    if p.switching && s.rails[r].pulsed then
      let sg : Int := if p.dir then -1 else 1
      let x : Period := ⟨sg * p.curPk, sg * p.openVal, p.curTon, p.curFull, p.curTrip⟩
      let nv := code10 code
      let next (q : PhaseS) : PhaseS :=
        { q with opened := true, openVal := nv, curPk := nv, curTon := 0, curFull := false, curTrip := false }
      if p.opened then
        let t := s.updPhase n (fun q => next { q with
          latest := some x
          accN := q.accN + 1
          accPk := q.accPk + p.curPk
          accVal := q.accVal + p.openVal
          accTon := q.accTon + p.curTon })
        if c.check then verdict n r c x (p.openVal == 511) t else t
      else s.updPhase n next
    else s
  | _, _ => s

/-- The row PHASE_RESULT_PUBLISH (R106). -/
def phasePublish (n : Fin 64) (s : State) : State :=
  let p := s.phases[n]
  match p.cfg with
  | some c =>
    if p.switching && p.accN ≥ 256 then
      let amp (v : Int) : Int := roundDiv (v * 40000) (p.accN * c.csGain)
      let a := fitCode true 16 (amp p.accPk) s
      let b := fitCode true 16 (amp p.accVal) a.2
      let d := fitCode false 16 (roundDiv p.accTon (4 * p.accN)) b.2
      d.2.updPhase n (fun q => { q with
        seq := (q.seq + 1) % 256
        fresh := true
        clamped := q.accClamp
        ipk := a.1
        ival := b.1
        tonRes := d.1
        accN := 0
        accPk := 0
        accVal := 0
        accTon := 0
        accClamp := false })
    else s
  | none => s

/-- PH_STAT.STATE code (Table 4.7). -/
def PhState.code : PhState → Nat
  | .absent => 0 | .off => 1 | .active => 2 | .shedPend => 3 | .shed => 4 | .fenced => 5 | .snuff => 6

/-- PH_CTRL.REFUSED is set. -/
def phRefuse (n : Fin 64) (s : State) : State := s.updPhase n (fun p => { p with refused := true })

/-- A host write of PH_CTRL.FENCE (R102). -/
def hostFence (n : Fin 64) (s : State) : State :=
  match s.railOf n with
  | none => phRefuse n s
  | some r =>
    let me := if (match s.phases[n].cfg with | some c => c.mode == 3 | none => false) then (s.partner n).getD n else n
    if s.paired && s.pair.role == .standby then phRefuse n s
    else if s.phases[n].state == .fenced then s
    else if ((s.unfenced r).filter (· != me)).isEmpty then phRefuse n s
    else forward (.fence n) (fencePhase n 5 true s)

/-- A host write of PH_CTRL.UNFENCE (R101, R102). -/
def hostUnfence (n : Fin 64) (s : State) : State :=
  match s.railOf n with
  | none => phRefuse n s
  | some r =>
    if s.paired && s.pair.role == .standby then phRefuse n s
    else if s.rails[r].state == .snuff then phRefuse n s
    else if s.phases[n].state == .fenced then forward (.unfence n) (unfencePhase n s)
    else s

/-- A write of the PH_TRIM register (Table 4.11): a BLANK above 36 is ignored whole; else the codes take effect at the
next switching-period boundary, or at once in an engine that does not switch. -/
def phTrim (n : Fin 64) (v : BitVec 16) (s : State) : State :=
  let p := s.phases[n]
  match p.cfg with
  | none => s
  | some c =>
    let b := v.toNat / 1024
    if b > 36 then s
    else
      let new := { (p.next.getD c) with slope := v.toNat % 1024, blank := b }
      if p.switching then s.updPhase n (fun q => { q with next := some new, trimmed := true })
      else s.updPhase n (fun q => { q with cfg := some new, next := none, trimmed := true })

end Sys2Proof.Machine
end

