-- ==== Sys2Proof/Machine/PairOps.lean ====
section
/-! DEFINITION. The pair's operations (spec/12_redundancy.md): numbering and dual sending, in-step judgement, grounds and
yields, and the change of ownership; and the queueing of attention records (R266, R351). -/
namespace Sys2Proof.Machine

/-- The unit acts as the PREF unit (R268): the strap, or on a clash the lower address. -/
def State.actsPref (s : State) : Bool :=
  match s.pair.twin with
  | some h => if h.pref == s.glb.straps.pref then s.glb.straps.addr.toNat < h.addr.toNat else s.glb.straps.pref
  | none => s.glb.straps.pref

/-- PADDR: the address of the pair's unit with PREF high (R308). -/
def State.paddr (s : State) : Nat :=
  if s.glb.straps.pref then s.ov.addr.getD 0
  else match s.pair.twinSt with | some t => t.twinAddr.toNat | none => s.ov.addr.getD 0

/-- Take the next pair sequence number (R266). -/
def takePseq (s : State) : Nat × State :=
  (s.pair.pseq, s.updPair (fun p => { p with pseq := (p.pseq + 1) % 65536, seenPseq := p.pseq }))

/-- The bytes of a class-0 frame body (Table 13.4). -/
def ov0Bytes (t : Nat) (f : Ov0) : List Byte :=
  [byteOf (t % 64), byteOf (bit01 f.down * 128 + bit01 f.paired * 32 + f.hops % 16)] ++
    leBytes 3 (f.src.toNat + bit01 f.twin * 262144) ++ [f.arg0, f.arg1, f.arg2] ++ leBytes 2 f.corr.toNat

/-- The bytes of a class 1-3 frame from byte 0 to the last payload byte (Table 13.3). -/
def ovNBytes (cls t : Nat) (h : OvHdr) (pl : List Byte) : List Byte :=
  [byteOf (cls * 64 + t % 64),
   byteOf (bit01 h.bcast * 128 + bit01 h.root * 64 + bit01 h.paired * 32 + bit01 h.reply * 16 + h.hops % 16)] ++
    leBytes 3 h.dest.toNat ++ leBytes 3 (h.src.toNat + bit01 h.twin * 262144) ++ [byteOf h.tag.toNat, h.pairId] ++
    leBytes 2 h.pseq.toNat ++ leBytes 2 pl.length ++ pl

/-- A frame read back from its bytes. -/
def frameOf (bs : List Byte) : OvFrame :=
  let b (i : Nat) : Nat := (bs.getD i 0).toNat
  let n (i w : Nat) : Nat := leNat ((bs.drop i).take w)
  if b 0 / 64 = 0 then
    .c0 (b 0) { down := natBit (b 1) 7, paired := natBit (b 1) 5, hops := b 1 % 16, src := BitVec.ofNat 18 (n 2 3),
                twin := natBit (n 2 3) 18, arg0 := bs.getD 5 0, arg1 := bs.getD 6 0, arg2 := bs.getD 7 0, corr := BitVec.ofNat 16 (n 8 2) }
  else
    .cN (b 0 / 64) (b 0 % 64) { bcast := natBit (b 1) 7, root := natBit (b 1) 6, paired := natBit (b 1) 5, reply := natBit (b 1) 4,
                                hops := b 1 % 16, dest := BitVec.ofNat 18 (n 2 3), src := BitVec.ofNat 18 (n 5 3),
                                twin := natBit (n 5 3) 18, tag := BitVec.ofNat 7 (b 8), pairId := bs.getD 9 0,
                                pseq := BitVec.ofNat 16 (n 10 2) } (bs.drop 14)

/-- Send a STREAM copy of a message to the twin (R266). -/
def stream (attn : Bool) (n : Nat) (bs : List Byte) (s : State) : State :=
  if s.leads then pairOut (.stream ⟨attn, BitVec.ofNat 16 n, bs⟩) s else s

/-- A unit that originates messages: every one but a standby with its link up, whose firings the active numbers and sends
(R266). A unit that has no active over its link numbers its own (log entry 150). -/
def State.originates (s : State) : Bool := !s.follows

/-- Originate an Ovrath class-0 up frame, numbered and copied in a pair (R266, R297, R308). -/
def ovUp (t a0 a1 : Nat) (s : State) : State :=
  if s.ovOn && s.originates then
    if s.paired then
      let q := takePseq s
      let f : Ov0 := { down := false, paired := true, hops := 0, src := BitVec.ofNat 18 s.paddr, twin := !s.glb.straps.pref,
                       arg0 := byteOf a0, arg1 := byteOf a1, arg2 := byteOf s.cfg.pair.pairId, corr := BitVec.ofNat 16 q.1 }
      c0Origin t f (stream false q.1 (ov0Bytes t f) q.2)
    else
      c0Origin t { down := false, paired := false, hops := 0, src := BitVec.ofNat 18 (s.ov.addr.getD 0), twin := false,
                   arg0 := byteOf a0, arg1 := byteOf a1, arg2 := 0, corr := 0 } s
  else s

/-- Send the EVREC of a firing to the acting root (R297). -/
def ovEvrec (src sub entry cause time : Nat) (s : State) : State :=
  if s.ovOn && s.originates && !s.ov.acting then
    let pl := [byteOf src, byteOf sub] ++ leBytes 2 entry ++ leBytes 8 time ++ leBytes 2 cause
    if s.paired then
      let q := takePseq s
      let h : OvHdr := { s.ownHdr 0 true false 0 with
        paired := true, src := BitVec.ofNat 18 s.paddr, twin := !s.glb.straps.pref, pairId := byteOf s.cfg.pair.pairId
        pseq := BitVec.ofNat 16 q.1 }
      ovOut (.cN 2 1 h pl) (stream false q.1 (ovNBytes 2 1 h pl) q.2)
    else ovOut (.cN 2 1 (s.ownHdr 0 true false 0) pl) s
  else s

/-- Count lost attention records. -/
def attnLose (n : Nat) (s : State) : State :=
  s.updHb (fun h => { h with lost := satAdd255 h.lost n, lostTally := satAdd255 h.lostTally n })

/-- Discard every queued attention record, counted as lost (R351, R359). An attempt in progress completes, and is not retried
(R354). -/
def attnDiscard (s : State) : State :=
  let keep := if s.hb.sending.isSome then s.hb.queue.take 1 else []
  attnLose (s.hb.queue.length - keep.length)
    (s.updHb (fun h => { h with queue := keep, backoff := none, sending := h.sending.map (fun _ => false) }))

/-- Put an attention record in the queue of 32, or count it lost (R351). -/
def attnPush (a : AttnRec) (s : State) : State :=
  if s.hb.queue.length ≥ 32 then attnLose 1 s else s.updHb (fun h => { h with queue := h.queue ++ [a] })

/-- Bytes 4 to 17 of an attention record (Table 15.3), as the STREAM copy carries them. -/
def AttnRec.body (a : AttnRec) : List Byte :=
  leBytes 2 a.seq ++ [byteOf a.source, byteOf a.sub] ++ leBytes 2 a.cause ++ leBytes 8 a.time

/-- A firing becomes an attention record (R351, R357). -/
def attnFiring (src sub cause time : Nat) (s : State) : State :=
  if s.cfg.host.attnAddr != 0 && !s.hb.fenced && !s.ev.heldBlks.contains .hostBus && !(172 ≤ src && src ≤ 174) && s.originates then
    if s.paired then
      let q := takePseq s
      let a : AttnRec := ⟨q.1, true, s.pair.own, src, sub, cause, time, 0⟩
      attnPush a (stream true q.1 a.body q.2)
    else
      attnPush ⟨s.hb.ownSeq, false, s.pair.own, src, sub, cause, time, 0⟩
        (s.updHb (fun h => { h with ownSeq := (h.ownSeq + 1) % 65536 }))
  else s

/-- The firing of a standby that its active numbers and sends: TRIP and EVREC unless F_QUIET is set, and an attention record where
its INT is enabled (R266). -/
def sendFiring (e : EvRec) (int : Bool) (s : State) : State :=
  let src := e.source.toNat
  let t := if natBit e.entry.toNat 9 then s
    else ovEvrec src e.sub.toNat e.entry.toNat e.cause.toNat e.time.toNat (ovUp 1 src e.sub.toNat s)
  if int then attnFiring src e.sub.toNat e.cause.toNat e.time.toNat t else t

/-- The set of fenced phases. -/
def State.fenceSet (s : State) : Nat := maskOf (s.phases.toList.map (fun p => p.state == .fenced))
/-- The set of snuffed rails. -/
def State.snuffSet (s : State) : Nat := maskOf (s.rails.toList.map (fun r => r.state == .snuff))

/-- SEQ_DOM_STAT.STATE code (Table 7.13). -/
def DomState.code : DomState → Nat
  | .off => 0 | .wait => 1 | .starting => 2 | .up => 3 | .stopping => 4 | .reverse => 5 | .latched => 6 | .absent => 7

/-- The active set of a rail, by number, as a mask of its units (R261). -/
def State.activeUnits (s : State) (r : Nat) : Nat :=
  match toRail r with | some i => (s.activeSet i).foldl (fun a n => a + 2 ^ n.val) 0 | none => 0

/-- A ground stands (R269). -/
def State.ground (s : State) (i : Fin 7) : Bool :=
  s.pair.grounds[i].cond || (match s.pair.grounds[i].until_ with | some t => s.now < t | none => false)
/-- PAIR_GROUND. -/
def State.grounds (s : State) : Nat := maskOf ((List.finRange 7).map s.ground)

/-- CRC of the migrated pattern image. -/
def State.patCrc (s : State) : Nat := leNat (s.ch.image.bytes.drop (s.ch.image.bytes.length - 4))

/-- A unit that cannot own (R268). -/
def State.cannotOwn (s : State) : Bool :=
  s.ch.blank || (s.core .supervisor).state == .halted || (s.core .supervisor).state == .held

/-- The twin reports itself in step (R261). -/
def State.twinStep (s : State) : Bool := s.pair.linkUp && (match s.pair.twin with | some h => h.inStep | none => false)

/-- Every domain of a mask is off, or has no record. -/
def State.domsOff (s : State) (m : Nat) : Bool :=
  (List.finRange 8).all (fun d => !natBit m d.val || s.seq.doms[d].cfg.isNone || s.seq.doms[d].state.isOff)

/-- The pattern condition of R261: the same pattern, or during the standby-first sequence the two patterns of it, with every
domain that their difference touches off (R377). -/
def State.patAgrees (s : State) : Bool :=
  match s.pair.twin with
  | some h => h.pairId.toNat == s.cfg.pair.pairId && (h.patCrc.toNat == s.patCrc ||
      (match s.upd.pairSeq with
        | some q => q.crcs.contains h.patCrc.toNat && q.crcs.contains s.patCrc && s.domsOff q.doms
        | none => false))
  | none => false

/-- Domain states and active sets equal the active's (R261). -/
def State.loopAgrees (s : State) : Bool :=
  match s.pair.twinSt with
  | some t => (List.finRange 8).all (fun d => t.domains.getD d.val 7 == (s.seq.doms[d]).state.code) &&
      (List.range 24).all (fun r => t.active.getD r 0 == s.activeUnits r)
  | none => false

/-- The fence and snuff sets equal the active's. -/
def State.fencesAgree (s : State) : Bool :=
  match s.pair.twin with | some h => h.fences.toNat == s.fenceSet && h.snuffs.toNat == s.snuffSet | none => false

/-- Every instantaneous condition of R261. -/
def State.stepCond (s : State) : Bool :=
  s.pair.role == .standby && s.pair.linkUp && s.patAgrees && s.pair.align.natAbs ≤ 13 &&
  (match s.pair.lastSync with | some t => s.now ≤ t + us 24 | none => false) &&
  s.fencesAgree && s.loopAgrees && s.grounds == 0 && s.upd.trial.isNone && !s.ch.applying

/-- Judge whether this standby is in step: every condition for the last 10 ms (R261). -/
def judgeStep (s : State) : State :=
  if s.stepCond then
    let t := s.pair.stepAt.getD s.now
    s.updPair (fun p => { p with stepAt := some t, inStep := t + ms 10 ≤ s.now })
  else s.updPair (fun p => { p with stepAt := none, inStep := false })

/-- This standby is in step now (R261). -/
def State.inStepNow (s : State) : Bool := s.pair.inStep && s.stepCond

/-- The standby's being in step follows its conditions (R261). -/
def watchStep (s : State) : State := if s.paired then judgeStep s else s

/-- Fire EV153 for each difference that begins (Table 12.7). -/
def judgeDiffs (s : State) : State :=
  if s.paired && s.pair.linkUp && s.pair.twin.isSome && (s.pair.role == .active || s.pair.role == .standby) then
    let d2 := !s.patAgrees
    let d3 := !s.fencesAgree
    let d4 := (s.pair.twinSt.isSome && !s.loopAgrees) || s.pair.align.natAbs > 13
    let new := [(2, d2), (3, d3), (4, d4)].filter (fun x => x.2 && !natBit s.pair.diffs x.1)
    let t := s.updPair (fun p => { p with diffs := bit01 d2 * 4 + bit01 d3 * 8 + bit01 d4 * 16 })
    t.each new (fun x u => fire 153 x.1 (u.updPair (fun p => { p with cause := p.cause ||| 2 ^ x.1 })))
  else s

/-- Begin a yield: YIELD over the pair link and a class-0 YIELD on Ovrath (R270). -/
def yieldBegin (ground : Bool) (s : State) : State :=
  ovUp 2 s.grounds 0 (sendCtrl .yield (s.updPair (fun p => { p with yielding := true, yieldGround := ground })))

/-- A ground has arisen; on the active, with the twin in step, a yield begins (R270). -/
def groundArose (s : State) : State :=
  if s.paired && s.pair.role == .active && s.twinStep && !s.pair.yielding && s.pair.release.isNone then yieldBegin true s else s

/-- Set the condition of a ground; a condition that begins is a ground that arises, whether or not an earlier one still stands
(R269, R270). -/
def setGround (i : Fin 7) (b : Bool) (s : State) : State :=
  let g := s.pair.grounds[i]
  if b then
    let t := s.updPair (fun p => { p with grounds := p.grounds.set i { cond := true, until_ := none } })
    if g.cond then t else groundArose t
  else if g.cond then s.updPair (fun p => { p with grounds := p.grounds.set i { cond := false, until_ := some (s.now + sec 1) } })
  else s

/-- A ground without a duration: it stands for 1 s after (R269). -/
def pulseGround (i : Fin 7) (s : State) : State :=
  groundArose (s.updPair (fun p => { p with grounds := p.grounds.set i { cond := false, until_ := some (s.now + sec 1) } }))

/-- A ground arises once more while its condition stands already (R75, R270). -/
def groundAgain (i : Fin 7) (s : State) : State :=
  if s.paired then groundArose (s.updPair (fun p => { p with grounds := p.grounds.set i { cond := true, until_ := none } })) else s

/-- TALLY_CDC_REJ has risen by more than CDC_RATE within one second (Table 12.3). -/
def State.cdcOver (s : State) : Bool := s.cfg.pair.cdcRate < (s.arch.cdcFails.filter (fun t => s.now < t + sec 1)).length

/-- Judge the grounds that are conditions of State: SCRUB, REF_XCHK, CDC_RATE, SUPPLY and CORE (Table 12.3). -/
def judgeGrounds (s : State) : State :=
  if s.paired then
    setGround 5 (s.arch.cores.toList.any (·.bad))
      (setGround 4 (s.arch.supplyOut.toList.any (·))
        (setGround 3 s.cdcOver
          (setGround 2 (s.pair.xchk ≥ 3)
            (setGround 0 (!s.ch.upset.isEmpty || !s.ch.stuck.isEmpty) s))))
  else s

/-- Assert OWN_N and enable the drivers (R271, R274, R275). -/
def ownTake (sub : Nat) (s : State) : State :=
  fire 151 sub (logBare 7 1 (s.updPair (fun p => { p with
    own := true
    drivers := true
    role := .active
    inStep := false
    stepAt := none
    handOver := none
    takeSent := false
    align := 0
    bothAt := none
    noneAt := none
    ownFired := false
    pseq := (p.seenPseq + 64) % 65536
    handovers := if sub = 0 then sat255 p.handovers else p.handovers
    takeovers := if sub = 1 then sat255 p.takeovers else p.takeovers })))

/-- Release OWN_N and the drivers, and become STANDBY (R271, R275); the module bus is the new active's (R240). -/
def ownDrop (s : State) : State :=
  (logBare 7 0 (s.updPair (fun p => { p with
    own := false
    drivers := false
    role := .standby
    release := none
    inStep := false
    stepAt := none
    holdAt := none
    bothAt := none
    noneAt := none
    ownFired := false }))).updCarts (fun x => { x with ops := [], sent := none })

/-- The reference rail: the present rail with the shortest period, the lowest number on a tie (R271). Its period in ns,
rounded up. -/
def State.refPeriod (s : State) : Nat :=
  let f := s.cfg.fswMax
  if f = 0 then 0 else (1000000000 + f - 1) / f

/-- OWN_N and PEER_OWN_N both asserted, or neither, since when (R275). -/
def watchOwn (s : State) : State :=
  if s.paired && (s.pair.role == .active || s.pair.role == .standby) then
    s.updPair (fun p => { p with
      bothAt := if p.own && p.peer then some (p.bothAt.getD s.now) else none
      noneAt := if !p.own && !p.peer then some (p.noneAt.getD s.now) else none
      ownFired := p.ownFired && ((p.own && p.peer && p.bothAt.isSome) || (!p.own && !p.peer && p.noneAt.isSome)) })
  else s

/-- A pair-link frame with a bad CRC: dropped, counted, and past 16 within 1 ms a link error (R259, R260). -/
def badPairFrame (s : State) : State :=
  let old := s.pair.badTimes.filter (fun t => s.now < t + ms 1)
  let overT := decide (16 < old.length + 1)
  let t := s.updPair (fun p => { p with crcTally := sat255 p.crcTally, badTimes := old ++ [s.now] })
  if overT && !decide (16 < old.length) && s.paired then
    fire 152 1 (t.updPair (fun p => { p with cause := p.cause ||| 2, inStep := false, stepAt := none }))
  else t

/-- A unit whose pair-link island works: in a pair, and under the blank pattern (R268, R279). -/
def State.pairLinks (s : State) : Bool := s.paired || s.ch.blank

/-- Take a pair-link frame: none with the link down; a bad CRC drops it (R259). -/
def onPair (crcOk : Bool) (f : State → State) (s : State) : State :=
  if s.pairLinks && s.pair.linkUp then
    (if crcOk then f ((toggle .pairFrame s).updPair (fun p => { p with lastGood := some s.now })) else badPairFrame s)
  else s

/-- The pair link is lost (R259, R260, Table 12.6): EV152, the standby leaves step, a hand-over that has not asserted OWN_N and a
request for one end, and so does a wait for a verdict. The words in flight are discarded (R24). -/
def linkLost (s : State) : State :=
  if s.pair.linkUp then
    fireIf s.paired 152 0 (addTally 10 s.pair.unacked.length (s.updPair (fun p => { p with
      cause := if s.paired then p.cause ||| 1 else p.cause
      linkUp := false
      inStep := false
      stepAt := none
      holdAt := none
      unacked := []
      badTimes := []
      lastGood := none
      handOver := none
      takeSent := false
      takeRevert := false
      verdicts := [] })))
  else s

/-- Take a CTRL frame: it is acknowledged, then acts (R259). -/
def onCtrl (crcOk : Bool) (seq : BitVec 8) (f : State → State) (s : State) : State :=
  onPair crcOk (fun t => f (pairOut (.ack 1 seq.toNat) t)) s

/-- A CTRL command that the standby applies to its own streams (R264). -/
def onFollow (crcOk : Bool) (seq : BitVec 8) (f : State → State) (s : State) : State :=
  onCtrl crcOk seq (fun t => if t.pair.role == .standby then f t else t) s

end Sys2Proof.Machine
end

