-- ==== Sys2Proof/Machine/RailOps.lean ====
section
/-! DEFINITION. The rails (spec/05_rails.md) with the notices of their load-link ports (R148 to R151): ramps, the
compensator, current limits and their graces, shedding, protection, PG_OUT, the checks and the result set. -/
namespace Sys2Proof.Machine

/-- The port and sub-address of a rail that its pattern serves. -/
def State.portOf (s : State) (r : Fin 24) : Option (Fin 8 × Fin 4) :=
  match s.rails[r].cfg with
  | some c =>
    match toPort c.lport with
    | some p => if h : c.lportSub < 4 then (if s.ports[p].cfg.isSome then some (p, ⟨c.lportSub, h⟩) else none) else none
    | none => none
  | none => none

/-- The rail that a port serves at a sub-address. -/
def State.railAt (s : State) (p : Fin 8) (k : Fin 4) : Option (Fin 24) :=
  (List.finRange 24).find? (fun r => s.portOf r == some (p, k))

/-- Change what a port holds for a sub-address. -/
def updSub (p : Fin 8) (k : Fin 4) (f : SubS → SubS) (s : State) : State :=
  s.updPort p (fun x => { x with subs := x.subs.upd k f })

/-- Change what the port of a rail holds for it. -/
def updNotice (r : Fin 24) (f : SubS → SubS) (s : State) : State :=
  match s.portOf r with
  | some x => updSub x.1 x.2 f s
  | none => s

/-- What a port holds for a rail. -/
def State.notice (s : State) (r : Fin 24) : SubS :=
  match s.portOf r with
  | some x => (s.ports[x.1]).subs[x.2]
  | none => {}

/-- A port raises its source with a cause bit (R158, Table 11.13). -/
def portCause (p : Fin 8) (b : Nat) (s : State) : State :=
  fire (88 + p.val) b (s.updPort p (fun x => { x with cause := x.cause ||| 2 ^ b }))

/-- Post a FAULT notice for a rail; its SETTLED and SFAIL notices are withdrawn and its transition ends (R148). -/
def faultNotice (r : Fin 24) (s : State) : State :=
  updNotice r (fun n => { n with
    fault := true, settled := false, sfail := false, pending := false, count := 0, timed := false, settleAt := none }) s

/-- LP_FLAGS bit 1 of the port of a rail (R150). -/
def State.dimPort (s : State) (r : Fin 24) : Option (Fin 8 × PortCfg) :=
  match s.portOf r with
  | some x => (s.ports[x.1].cfg).bind (fun c => if c.dimReq then some (x.1, c) else none)
  | none => none

/-- ILIM of a rail, running. -/
def State.ilim (s : State) (r : Fin 24) : Nat := match s.rails[r].cfg with | some c => c.ilim | none => 0

/-- The rail is the BATTERY rail of hold-up (R218). -/
def State.isBatt (s : State) (r : Fin 24) : Bool :=
  match s.hold.cfg with | some h => s.hold.state != .none && h.battRail == r.val | none => false

/-- A connected cartridge: IN_USE or RETIRED (R220). -/
def CartS.usable (c : CartS) : Bool := c.state == .inUse || c.state == .retired
/-- C of R221: the cartridges that BC_EN enables. -/
def State.cartsEnabled (s : State) : Nat := (s.carts.carts.toList.filter (fun c => c.state != .disabled)).length
/-- c of R221: the chargeable cartridges. -/
def State.cartsCharge (s : State) : Nat := (s.carts.carts.toList.filter (fun c => c.state == .inUse)).length
/-- d of R221: the connected cartridges. -/
def State.cartsConn (s : State) : Nat := (s.carts.carts.toList.filter (fun c => c.usable)).length

/-- The hold-up block discharges the battery. -/
def HoldS.riding (h : HoldS) : Bool := h.state == .ride || h.state == .handback

/-- The first term of R119: ILIM, or for the BATTERY rail the charge or discharge current of R221, rounded down (log entry
13). -/
def State.ilimFirst (s : State) (r : Fin 24) : Nat :=
  match s.hold.cfg with
  | some h =>
    if s.isBatt r then
      if s.hold.riding then h.disI * s.cartsConn / max 1 s.cartsEnabled else h.chgI * s.cartsCharge / max 1 s.cartsEnabled
    else s.ilim r
  | none => s.ilim r

/-- M, the monitor code to which a ride holds the bus bar (R222). -/
def State.holdTarget (s : State) : Nat :=
  match s.hold.cfg with
  | some h => ((match (Tab.get? s.watch.mons h.busMon).bind (·.cfg) with | some c => c.low | none => 0) + h.busRise) / 2
  | none => 0

/-- A fraction of ILIM, in codes of 0.1 A, rounded down (log entry 13). -/
def limitOf (ilim : Nat) (f : Option Q) : Nat := match f with | some q => (ilim * q.n.toNat) / q.d | none => ilim

/-- The limit that a first term and fractions of ILIM give a rail, and its source as LIMSRC (R119): the lowest, in the order
of R119 on a tie. -/
def limitFrom (first ilim : Nat) (fs : List (Option Q)) : Nat × Nat :=
  (fs.zip (List.range' 1 fs.length)).foldl (fun b x =>
    match x.1 with
    | some q => let l := limitOf ilim (some q); if l < b.1 then (l, x.2) else b
    | none => b) (first, 0)

/-- The enforced limit of a rail and its source (R119). -/
def State.limitNow (s : State) (r : Fin 24) : Nat × Nat :=
  let x := s.rails[r]
  limitFrom (s.ilimFirst r) (s.ilim r) [x.fence.enf, x.cap.enf, x.thermal.enf]

/-- The announced limit of a rail: the ILIM_EFF once every grace has ended (R150). -/
def State.limitAnn (s : State) (r : Fin 24) : Nat :=
  let x := s.rails[r]
  (limitFrom (s.ilimFirst r) (s.ilim r) [x.fence.ann, x.cap.ann, x.thermal.ann, x.advisory]).1

/-- A reduction by its kind. -/
def RailS.term (x : RailS) : LimitKind → Term
  | .fence => x.fence | .cap => x.cap | .thermal => x.thermal
/-- Change a reduction by its kind. -/
def RailS.setTerm (x : RailS) (k : LimitKind) (t : Term) : RailS :=
  match k with
  | .fence => { x with fence := t } | .cap => { x with cap := t } | .thermal => { x with thermal := t }

/-- Post a DIM notice if the announced limit of the rail has changed and its port takes dim requests; the dim request is
written to the ledger (R97 step 6, R150). -/
def announce (r : Fin 24) (s : State) : State :=
  let lim := s.limitAnn r
  if lim = s.rails[r].announced then s
  else
    let t := s.updRail r (fun x => { x with announced := lim })
    match t.dimPort r with
    | none => t
    | some x =>
      let id := (t.ports[x.1].dimId + 1) % 256
      logStep 3 2 r.val lim (updNotice r (fun n => { n with dim := true, dimId := some id, dimLimit := lim })
        (t.updPort x.1 (fun p => { p with dimId := id })))

/-- A fraction below another, `none` being 1. -/
def fracLt (a b : Option Q) : Bool :=
  match a, b with
  | some x, some y => x.lt y
  | some x, none => x.lt ⟨1, 1⟩
  | none, some y => Q.lt ⟨1, 1⟩ y
  | none, none => false

/-- A grace for a lower fraction than one now announced goes on for the fraction announced (R151). -/
def Term.lift (t : Term) (f : Option Q) : Term :=
  let q := f.getD ⟨1, 1⟩
  { t with pend := t.pend.map (fun p => (if p.1.lt q then q else p.1, p.2)) }

/-- A reduction of a rail changes to a fraction (R97, R150, R151): it is announced; a fall below what is enforced starts a
grace at a port that takes dim requests, and waits for the next sample at any other rail; a rise takes effect at once and
ends no grace. -/
def enterTerm (r : Fin 24) (k : LimitKind) (f : Option Q) (s : State) : State :=
  let x := s.rails[r]
  let t := x.term k
  if t.ann == f then s
  else
    let t1 : Term :=
      if fracLt f t.ann then
        match f, s.dimPort r with
        | some q, some c => { t with ann := f, pend := t.pend ++ [(q, s.now + ms c.2.grace)], fresh := t.fresh + 1 }
        | _, _ => { t with ann := f, bare := true }
      else
        let u := t.lift f
        if fracLt f t.enf then { u with ann := f } else { u with ann := f, enf := f }
    announce r (s.updRail r (fun y => y.setTerm k t1))

/-- Isum in codes of 0.1 A as shedding and the limit use it: absolute for a BATTERY rail (R121). -/
def State.isumDeci (s : State) (r : Fin 24) : Q :=
  let x := s.rails[r]
  let i := x.isum.mul ⟨10, 1⟩
  if (match x.cfg with | some c => c.topo == 2 | none => false) then i.abs else i

/-- Write the change of a rail's limit to the ledger (Table 14.5). -/
def logLimit (r : Fin 24) (s : State) : State := logStep 3 0 r.val (s.limitNow r).1 s

/-- The first enforcement of a cap or thermal limit on a rail raises EV148 or EV124 (R213, R230). -/
def firstEnforced (k : LimitKind) (r : Fin 24) (was : Option Q) (s : State) : State :=
  let on := was.isNone && ((s.rails[r].term k).enf).isSome
  match k with
  | .fence => s
  | .cap => fireIf on 148 r.val s
  | .thermal => fireIf on 124 r.val s

/-- The reductions of a kind that wait for their judgement at a sample, and the graces in progress before them. -/
def Term.split (t : Term) : List (Q × Nat) × List (Q × Nat) := t.pend.splitAt (t.pend.length - t.fresh)

/-- Judge the fresh reductions at a sample (R97 step 5, R151): each is enforced at once at a rail without a dim port, and where
Isum stands below its limit, with no grace of its own; otherwise its grace runs, and the ledger says so (R97 step 6). -/
def judgeTerm (k : LimitKind) (r : Fin 24) (s : State) : State :=
  let x := s.rails[r]
  let t := x.term k
  if t.fresh = 0 && !t.bare then s
  else
    let i := s.isumDeci r
    let below (f : Option Q) : Bool := i.lt ⟨limitOf (s.ilim r) f, 1⟩
    let p := t.split
    let wait := p.2.filter (fun q => !below (some q.1))
    let pass := p.2.filter (fun q => below (some q.1))
    let enf : Option Q := if below t.ann || (s.dimPort r).isNone then t.ann
      else pass.foldl (fun b q => if fracLt (some q.1) b then some q.1 else b) t.enf
    let u := s.updRail r (fun y => y.setTerm k { t with enf := enf, pend := p.1 ++ wait, fresh := 0, bare := false })
    let v := if enf == t.enf then u else firstEnforced k r t.enf (logLimit r u)
    if wait.isEmpty then v else logStep 3 3 r.val (limitOf (s.ilim r) t.ann) v

/-- The fence reduction (n − f) / n of a rail (R97 step 4). -/
def State.fenceFrac (s : State) (r : Fin 24) : Option Q :=
  let n := (s.units r).length
  let u := (s.unfenced r).length
  if u = n then none else some ⟨u, n⟩

/-- The limits at a compensator sample: the fence reduction that is due, then every fresh reduction, then ILIM_EFF. -/
def sampleLimits (r : Fin 24) (s : State) : State :=
  let s1 := if s.rails[r].fenceDue then
      enterTerm r .fence (s.fenceFrac r) (s.updRail r (fun x => { x with fenceDue := false }))
    else s
  let s2 := judgeTerm .thermal r (judgeTerm .cap r (judgeTerm .fence r s1))
  let l := s2.limitNow r
  announce r (s2.updRail r (fun x => { x with ilimEff := l.1, limsrc := l.2 }))

/-- The row GRACE_EXPIRY (R151): the lowest fraction whose grace has ended is enforced. -/
def graceExpiry (r : Fin 24) (k : LimitKind) (s : State) : State :=
  let t := s.rails[r].term k
  match t.pend.filter (fun p => p.2 ≤ s.now) with
  | [] => s
  | gone =>
    let enf := gone.foldl (fun b p => if fracLt (some p.1) b then some p.1 else b) t.enf
    let runs (l : List (Q × Nat)) : List (Q × Nat) := l.filter (fun p => s.now < p.2)
    let t1 := { t with enf := enf, pend := runs t.pend, fresh := (runs t.split.2).length }
    let u := firstEnforced k r t.enf (logLimit r (s.updRail r (fun x => x.setTerm k t1)))
    match u.portOf r with
    | some x => if (u.notice r).dim then portCause x.1 2 u else u
    | none => u

/-- The share offset that adds to the target of a BRIDGE rail (R227). -/
def State.shareOfs (s : State) (r : Fin 24) : Int :=
  match s.rails[r].cfg with | some c => if c.topo = 1 then s.hold.ofs else 0 | none => 0

/-- A move of Vref starts again from where it stands (R118, R147). -/
def RailS.rebase (x : RailS) : RailS := { x with rampFrom := x.vref, rampSteps := 0 }

/-- The target of a rail moves (R115, R118): in regulation Vref starts towards it from where it stands; during the on ramp it
replaces the ramp's end point, and Vref turns where the ramp has passed it. -/
def moveTarget (r : Fin 24) (v0 slew : Nat) (s : State) : State :=
  let v := ((v0 : Int) + s.shareOfs r).toNat
  s.updRail r (fun x =>
    let y := { x with vtgt := v }
    if x.state == .regulating then
      { y with slew := slew, rampVset := (match x.cfg with | some c => c.vset | none => 0) }.rebase
    else if x.state == .rampUp && (decide ((v : Int) * 8 < x.vref) || decide (x.vref < x.rampFrom)) then y.rebase
    else y)

/-- The rail's PG_OUT, protection timers and transitions end (R130, R131). -/
def RailS.quiet (x : RailS) : RailS := { x with pg := false, uvArmed := false, uvAt := none, dwellAt := none }

/-- Values waiting for the compensator sample take effect (R37, R48): a new VSET moves the target of a rail without a port
(R115), and a ramp or move goes on from where Vref stands at the slope of a new RAMP_ON or RAMP_OFF. -/
def loadRail (r : Fin 24) (s : State) : State :=
  let x := s.rails[r]
  match x.next with
  | none => s
  | some c =>
    let slope := x.cfg.map (fun o => (o.rampOn, o.rampOff, o.fsw)) != some (c.rampOn, c.rampOff, c.fsw)
    let t := s.updRail r (fun y =>
      let z := { y with cfg := some c, next := none }
      if slope then z.rebase else z)
    if c.lport = 255 && (x.state == .regulating || x.state == .rampUp) && x.cfg.map (·.vset) != some c.vset then
      moveTarget r c.vset 0 t
    else t

/-- A rail offers its demand and clamp to the PWM island, which loads them once the offering event has crossed (R19, R20). While
an acknowledgement is outstanding the offer merges and waits for it, so that the value on the lines is held. -/
def offerDemand (r : Fin 24) (s : State) : State :=
  (toggle (.demand r) s).when (!(s.arch.toggle (.demand r)).outstanding) (loadDemand r)

/-- The sensed output voltage from which Vref starts (R116, R221), at least 0. Beyond what the error ADC reads, and where the ADC
has watched the bus bar since, it is a free value (log entry 113). -/
def startVref (r : Fin 24) (s : State) : Int × State :=
  let x := s.rails[r]
  if x.away then (let d := draw s; ((d.1 % 32761 : Nat), d.2))
  else match x.clip with
    | some true => let d := draw s; (max 0 x.sense + (d.1 % 21505 : Nat), d.2)
    | some false => let d := draw s; ((d.1 % ((max 0 x.sense).toNat + 1) : Nat), d.2)
    | none => (max 0 x.sense, s)

/-- The lamplighter enables a rail: the on ramp begins with the active set of the last entry (R109, R116). -/
def railStart (r : Fin 24) (s0 : State) : State :=
  let s1 := loadRail r s0
  match s1.rails[r].cfg with
  | none => s1
  | some c =>
    if s1.rails[r].state == .off then
      let p := startVref r s1
      let s := p.2
      let t := s.updRail r (fun x => { x.quiet with
        state := .rampUp
        vtgt := ((c.vset : Int) + s.shareOfs r).toNat
        vref := p.1
        rampFrom := p.1
        rampSteps := 0
        rampVset := c.vset
        slew := 0
        pulsed := false
        demand := 0
        held := 0
        e := [0, 0, 0]
        u := [0, 0, 0]
        idx := 0
        uPast := []
        isum := ⟨0, 1⟩
        isumPrev := ⟨0, 1⟩
        inLimit := false
        shedSet := []
        holdAt := none
        xFail := 0
        vFail := 0 })
      let u := t.updRail r (fun x => { x with entry := t.entryAt r (t.shedN r - 1) })
      suspendCheck r (joinUnits r (u.entrySet r u.rails[r].entry)
        (updPhases (u.engines r) (fun p => { p with latest := none, lastTrip := false, lastPk := none }) u))
    else s1

/-- The lamplighter stops a rail: the off ramp begins (R117). A transition that has not settled stays pending (DESIGN CHOICE, log
entry 142). -/
def railStop (r : Fin 24) (s : State) : State :=
  if s.rails[r].state == .rampUp || s.rails[r].state == .regulating then
    s.updRail r (fun x => { x.quiet with
      state := .rampDown
      rampFrom := x.vref
      rampSteps := 0
      rampVset := (match x.cfg with | some c => c.vset | none => 0) })
  else s

/-- Every unfenced engine of a rail that is not in SNUFF goes to tri-state and OFF. -/
def phasesOff (r : Fin 24) (s : State) : State :=
  updPhases (s.engines r) (fun p => if p.state == .fenced || p.state == .snuff then p else
    { p.endOn with state := .off, pwm := .z, dropping := false, again := false, opened := false }) s

/-- A shut-off of a rail: every phase to tri-state at once, a FAULT notice, the rail OFF; a snuffed rail stays snuffed
(R129, R148, R176). -/
def railCut (r : Fin 24) (s : State) : State :=
  let st := s.rails[r].state
  if st == .rampUp || st == .regulating || st == .rampDown then
    faultNotice r (phasesOff r (s.updRail r (fun x => { x.quiet with state := .off, shedSet := [], holdAt := none })))
  else if st == .off then phasesOff r s
  else s

/-- The level of a snuffed engine: low, or tri-state in a BATTERY rail and while the PWM island has lost its lock (R16, R127,
R128). -/
def State.snuffLevel (s : State) (c : RailCfg) : Pwm := if c.topo = 2 || !s.arch.pllLocked then .z else .low

/-- A snuff of a rail (R127, R128, R174): every unfenced phase holds the snuff level. -/
def railSnuff (r : Fin 24) (s : State) : State :=
  match s.rails[r].cfg with
  | none => s
  | some c =>
    let t := s.updRail r (fun x => { x.quiet with state := .snuff, ovLatch := true, shedSet := [], holdAt := none })
    faultNotice r (updPhases (t.engines r) (fun p => if p.state == .fenced then p else
      { p.endOn with state := .snuff, pwm := s.snuffLevel c, dropping := false, again := false, opened := false }) t)

/-- The levels that the core holds reach the PWM island again once its PLL has relocked (R16, R21). -/
def reassertSnuff (r : Fin 24) (s : State) : State :=
  match s.rails[r].cfg with
  | none => s
  | some c => s.when (s.rails[r].state == .snuff) (updPhases (s.engines r) (fun p =>
      if p.state == .snuff then { p with pwm := s.snuffLevel c } else p))

/-- The release of a snuff: the phases go to tri-state, the rail is OFF (R129). -/
def railUnsnuff (r : Fin 24) (s : State) : State :=
  let t := s.updRail r (fun x => { x with state := .off, ovLatch := false })
  updPhases (t.engines r) (fun p => if p.state == .snuff then { p with state := .off, pwm := .z } else p) t

/-- UV is armed once the on ramp has ended and the sense voltage has exceeded UV (R130); a sample saturated below its window
does not say so. -/
def armUv (r : Fin 24) (s : State) : State :=
  s.updRail r (fun x => match x.cfg with
    | some c => if natBit c.prot 1 && x.state == .regulating && x.clip != some false && x.sense > c.uv * 8 then
        { x with uvArmed := true } else x
    | none => x)

/-- Whether the output lies above a level, from the latest sense voltage, in 1/16 mV. Where a saturated sample leaves that
open, or the error ADC watches the bus bar, the comparator's latest reading against the level `was` may still say it. -/
def RailS.above (x : RailS) (lvl : Int) (cmp : Bool) (was : Int) : Option Bool :=
  let read := if cmp && decide (lvl ≤ was) then some true else if !cmp && decide (was ≤ lvl) then some false else none
  if x.away then read else
  match x.clip with
  | none => some (decide (lvl < x.sense))
  | some true => if lvl < x.sense then some true else read
  | some false => if x.sense ≤ lvl then some false else read

/-- A comparator's reading after a change of its threshold; where nothing says it, a free value (log entry 113). -/
def readCmp (o : Option Bool) (s : State) : Bool × State :=
  match o with
  | some b => (b, s)
  | none => (let d := draw s; (decide (d.1 % 2 = 1), d.2))

/-- A UV event (R130). -/
def uvEvent (r : Fin 24) (s : State) : State :=
  fire (64 + r.val) 1 (s.updRail r (fun x => { x with cause := x.cause ||| 2, uvs := sat255 x.uvs }))

/-- The UV comparator reads below (`low`) or not: the timer of an armed rail starts. `ev` is what a UV event does (R130). -/
def uvStart (ev : State → State) (r : Fin 24) (low : Bool) (s : State) : State :=
  let x := s.rails[r]
  match x.cfg with
  | none => s
  | some c =>
    let t := s.updRail r (fun y => { y with uvCmp := low })
    if x.uvArmed && low && x.uvAt.isNone then
      if c.uvDelay = 0 then ev t else t.updRail r (fun y => { y with uvAt := some (s.now + us (10 * c.uvDelay)) })
    else t

/-- The UV comparator judged on the sense voltage: its timer starts, or clears above UV + 8 codes (R130). -/
def uvJudge (ev : State → State) (r : Fin 24) (s : State) : State :=
  let x := s.rails[r]
  match x.cfg with
  | none => s
  | some c =>
    let t := uvStart ev r (decide (x.sense < c.uv * 8)) s
    if x.sense > (c.uv + 8) * 8 then t.updRail r (fun y => { y with uvAt := none }) else t

/-- The row UV_COMPARATOR_CHANGE. -/
def uvChange (ev : State → State) (r : Fin 24) (v : Nat) (s : State) : State :=
  if s.rails[r].cfg.isSome then armUv r (uvJudge ev r (armUv r (s.updRail r (fun x => { x with sense := v * 8, clip := none, away := false })))) else s

/-- OV snuff is armed from the start of the on ramp until the phases are in tri-state (R126, R127). -/
def State.ovArmed (s : State) (r : Fin 24) : Bool :=
  match s.rails[r].cfg with
  | none => false
  | some c =>
    natBit c.prot 0 && (s.rails[r].state == .rampUp || s.rails[r].state == .regulating || s.rails[r].state == .rampDown ||
      (s.rails[r].state == .off && (s.engines r).any (fun n => s.phases[n].switching)))

/-- An OV snuff (R127). -/
def ovTrip (r : Fin 24) (s : State) : State :=
  fire (64 + r.val) 0 (forward (.snuff r) ((railSnuff r s).updRail r (fun x => { x with
    cause := x.cause ||| 1, ovs := sat255 x.ovs })))

/-- The row OV_SNUFF: the comparator judged on the sense voltage; `act` is what a trip of an armed rail does. -/
def ovChange (act : State → State) (r : Fin 24) (v : Nat) (s : State) : State :=
  match s.rails[r].cfg with
  | none => s
  | some c =>
    let t := s.updRail r (fun x => { x with sense := v * 8, clip := none, away := false, ovCmp := decide (v > c.ov) })
    if v > c.ov && t.ovArmed r then act t else t

/-- The end of the on ramp: REGULATING; a transition that waits starts its settle timer (R116, R146). -/
def rampUpEnd (r : Fin 24) (s : State) : State :=
  armUv r (s.updRail r (fun x => { x with state := .regulating, slew := 0, rampFrom := x.vref, rampSteps := 0 }))

/-- Start the settle timer of a pending transition whose target Vref has reached (R146). -/
def startSettle (r : Fin 24) (s : State) : State :=
  match s.portOf r with
  | some x =>
    let n := s.notice r
    match s.ports[x.1].cfg with
    | some c => if n.pending && !n.timed && s.rails[r].vref == s.rails[r].vtgt * 8 then
        updNotice r (fun m => { m with timed := true, settleAt := some (s.now + us (10 * c.settleTo)) }) s else s
    | none => s
  | none => s

/-- Where Vref stands `d` after the start of a move to the target, never past it (R116, R143). -/
def RailS.toward (x : RailS) (d : Nat) : Int :=
  let tgt : Int := x.vtgt * 8
  if x.rampFrom ≤ tgt then min tgt (x.rampFrom + d) else max tgt (x.rampFrom - d)

/-- The row RAMP_STEP (R116, R117). An output sensed above the target lets Vref fall to it at the ramp's slope (log entry
39), and the whole distance from the start of the ramp is rounded down to 1/16 mV (DESIGN CHOICE, log entry 114). -/
def rampStep (r : Fin 24) (s : State) : State :=
  let x := s.rails[r]
  match x.cfg with
  | none => s
  | some c =>
    let k := x.rampSteps + 1
    if x.state == .rampUp then
      let v := x.toward (x.rampVset * 8 * k / max 1 c.rampOn)
      let t := s.updRail r (fun y => { y with vref := v, rampSteps := k })
      if v == x.vtgt * 8 then startSettle r (rampUpEnd r t) else t
    else if x.state == .rampDown then
      let v := x.rampFrom - ((x.rampVset * 8 * k / max 1 c.rampOff : Nat) : Int)
      if v ≤ 0 then
        updPhases (s.engines r) (fun p => if p.state == .shed then { p with state := .off } else p)
          (s.updRail r (fun y => { y with vref := 0, rampSteps := k, state := .off, shedSet := [] }))
      else s.updRail r (fun y => { y with vref := v, rampSteps := k })
    else s

/-- Samples of a compensator interval: D of R111. -/
def RailCfg.decim (c : RailCfg) : Nat := if c.fsw ≤ 2000000 then 1 else 2

/-- How far Vref has moved since the start of a move, after `k` samples, 1/16 mV: the whole distance rounded down (R118, R143,
log entry 114). -/
def slewDone (c : RailCfg) (vset slew k : Nat) : Nat :=
  if slew = 0 then vset * 8 * c.decim * 100000 * k / (max 1 c.rampOn * max 1 c.fsw)
  else slew * 40 * c.decim * 1000000 * k / max 1 c.fsw

/-- Vref of a rail is on its way to the target: the on ramp, or a move in regulation (Table 5.10). In a ride the error ADC
watches the bus bar, and Vref stands (R222). -/
def State.slewing (s : State) (r : Fin 24) : Bool :=
  let x := s.rails[r]
  (x.state == .rampUp || x.state == .regulating) && x.vref != x.vtgt * 8 && !(s.isBatt r && s.hold.riding)

/-- Vref moves towards the target at a sample of a regulating rail, never past it. -/
def slewStep (r : Fin 24) (s : State) : State :=
  let x := s.rails[r]
  match x.cfg with
  | none => s
  | some c =>
    if x.state == .regulating && s.slewing r then
      let k := x.rampSteps + 1
      s.updRail r (fun y => { y with vref := x.toward (slewDone c x.rampVset x.slew k), rampSteps := k })
    else s

/-- Isum: the sum over the active units of (Ipk + Ival) / 2, a bridge as the mean of its engines (R121), A. -/
def State.isumNow (s : State) (r : Fin 24) : Q :=
  let one (n : Fin 64) : Q := match s.phases[n].cfg, s.phases[n].latest with
    | some c, some x => ⟨(x.pk + x.val) * 1000, c.csGain⟩
    | _, _ => ⟨0, 1⟩
  Q.sum ((s.activeSet r).map (fun n => match s.partner n with
    | some b => ((one n).add (one b)).divNat 2
    | none => one n))

/-- A measure of the latest period of a unit: of a bridge, the mean of its two engines', which R121 says of the currents and the
model of the on-times too (DEDUCED, log entry 140). -/
def State.unitMeasure (s : State) (f : PhaseCfg → Period → Q) (n : Fin 64) : Option Q :=
  match (s.unitOf n).filterMap (fun i => match s.phases[i].cfg, s.phases[i].latest with
    | some c, some x => some (f c x)
    | _, _ => none) with
  | [] => none
  | l => some ((Q.sum l).divNat l.length)

/-- Median of a measure over the active units in their latest periods (R120). -/
def State.medianOf (s : State) (r : Fin 24) (f : PhaseCfg → Period → Q) : Q :=
  Q.median ((s.activeSet r).filterMap (s.unitMeasure f))

/-- The clamp code CL (R120): G × ILIM_EFF / m + G × ΔImed / 2 + Se × tonmed, with the lowest G and Se of the units. -/
def State.clampCode (s : State) (r : Fin 24) (ilimEff : Nat) : Nat :=
  let es := (s.activeSet r).flatMap s.unitOf
  let m := (s.activeSet r).length
  let cs := es.filterMap (fun n => s.phases[n].cfg)
  match cs with
  | [] => 1023
  | c :: t =>
    let g := t.foldl (fun a x => min a x.csGain) c.csGain
    let se := t.foldl (fun a x => min a x.slope) c.slope
    let a : Q := ⟨g * ilimEff, 10000 * m⟩
    let b := ((s.medianOf r (fun p x => p.amps (x.pk - x.val))).mul ⟨g, 2000⟩)
    -- SLOPE × 2000 mV/us / 1023, over taps of 1/12800 us
    let d := ((s.medianOf r (fun _ x => Q.ofInt x.ton)).mul ⟨se * 2000, 1023 * 12800⟩)
    (max 0 (min 1023 ((a.add b).add d).round)).toNat

/-- The compensator sum (R113): coefficients Q2.14, e in 1/16 mV, u with 14 fraction bits. -/
def compSum (c : RailCfg) (e0 : Int) (e u : List Int) : Int :=
  let at_ (l : List Int) (i : Nat) : Int := l.getD i 0
  let b := c.b0 * e0 + c.b1 * at_ e 0 + c.b2 * at_ e 1 + c.b3 * at_ e 2
  let a := c.a1 * at_ u 0 + c.a2 * at_ u 1 + c.a3 * at_ u 2
  max (-8191 * 16384) (min (8191 * 16384) (roundDiv (b * 1024 + a) 16384))

/-- The demand at a sample: u[n], the code issued, and the clamp (R112, R113, R120). A u[n] halfway between two codes is rounded
away from zero (DESIGN CHOICE, log entry 141). -/
def demandStep (r : Fin 24) (e : Int) (sat : Bool) (s : State) : State :=
  let x := s.rails[r]
  match x.cfg with
  | none => s
  | some c =>
    if x.state == .rampUp || x.state == .regulating || x.state == .rampDown then
      let cl := s.clampCode r x.ilimEff
      let u := compSum c e x.e x.u
      let code := roundDiv u 16384
      let lim := max 0 (min (cl : Int) code)
      let u1 := if lim = code then u else lim * 16384
      offerDemand r (s.updRail r (fun y => { y with
        cl := cl
        demand := lim.toNat
        pulsed := y.pulsed || decide (0 < lim)
        inLimit := decide (cl < code)
        limitHit := y.limitHit || decide (cl < code)
        e := (e :: y.e).take 3
        u := (u1 :: y.u).take 3
        idx := (y.idx + 1) % 65536
        uPast := (u1 :: y.uPast).take 16
        accN := y.accN + 1
        accV := y.accV + y.sense
        accSat := y.accSat || sat
        accD := y.accD + lim.toNat
        accI := y.accI.add y.isum
        accE := max y.accE e.natAbs
        accLim := y.accLim || decide (cl < code) }))
    else s.updRail r (fun y => { y with inLimit := false })

/-- The phases of the rail are held still: the BATTERY rail in a hold-up state in which they do not switch (R220). -/
def State.holdStill (s : State) (r : Fin 24) : Bool := s.isBatt r && !(s.hold.state == .charge || s.hold.riding)

/-- Move up to an entry: every unit of its set that is not switching joins (R109, R122). -/
def moveUp (r : Fin 24) (k : Nat) (s : State) : State :=
  let t := (cancelShed r s).updRail r (fun x => { x with entry := k, dwellAt := none })
  suspendMoved r (s.activeSet r) (joinUnits r ((t.entrySet r k).filter t.unitOut) t)

/-- A unit that entered SHED within the last RELIGHT_WIN, or is on its way there (R124). -/
def State.recentShed (s : State) (c : RailCfg) (n : Fin 64) : Bool :=
  (s.unitOf n).any (fun i => s.phases[i].dropping ||
    (s.phases[i].state == .shed && s.now ≤ s.phases[i].shedAt + us (10 * c.relightWin)))

/-- The shedding hold-off of a rail starts, and its re-light is counted (R124). -/
def holdOffStart (r : Fin 24) (c : RailCfg) (s : State) : State :=
  s.updRail r (fun y => { y with holdAt := some (s.now + us (10 * c.holdoff)), relights := sat255 y.relights })

/-- A re-light trigger (R124): pending sheds are cancelled, recently shed units return, the entry follows, and the hold-off
starts. NOSHED holds the rail at its last entry (R125). Ignored outside REGULATING (Table 5.5), and where the phases are held
still (R220). -/
def relight (r : Fin 24) (s : State) : State :=
  let x := s.rails[r]
  match x.cfg with
  | none => s
  | some c =>
    if x.state == .regulating && !s.holdStill r then
      let t := cancelShed r s
      let recent := (t.units r).filter (t.recentShed c)
      let want := (t.units r).filter (fun n => t.phases[n].state == .active || recent.contains n)
      let low := (List.range (t.shedN r)).find? (fun j => t.entryStands r j && want.all (t.entrySet r j).contains)
      let k := if x.noshed then t.entryAt r (t.shedN r - 1) else low.getD (t.shedN r - 1)
      let join := recent ++ (t.entrySet r k).filter (fun n => t.unitOut n && !recent.contains n)
      let u := holdOffStart r c (t.updRail r (fun y => { y with entry := k, dwellAt := none }))
      suspendMoved r (s.activeSet r) (joinUnits r join u)
    else s

/-- A re-light of the active, as the standby applies it (R264): the rail moves up to the entry that the command names. `trig` is
whether a trigger of R124 caused it. -/
def relightIn (r : Fin 24) (k : Nat) (trig : Bool) (s : State) : State :=
  match s.rails[r].cfg with
  | none => s
  | some c =>
    if s.rails[r].state == .regulating && !s.holdStill r then
      let t := moveUp r k s
      if trig then holdOffStart r c t else t
    else s

/-- Announce the shed of every unit of the rail's entry that is not in the entry below (R91, R122). -/
def shedAnnounce (r : Fin 24) (s : State) : State :=
  let x := s.rails[r]
  match s.entryDown r x.entry with
  | none => s
  | some k =>
    let low := s.entrySet r k
    let out := (s.activeSet r).filter (fun n => !low.contains n && !s.noshedUnit n && s.phases[n].state == .active)
    let t := s.updRail r (fun y => { y with shedSet := out, shedTo := k, dwellAt := none })
    let u := forward (.shed r) (updPhases (out.flatMap t.unitOf) (fun p => { p with state := .shedPend }) t)
    if out.isEmpty then u.updRail r (fun y => { y with entry := k }) else u

/-- The row DWELL_EXPIRY (R122). -/
def dwellExpiry (r : Fin 24) (s : State) : State :=
  let x := s.rails[r]
  if !s.follows && due s.now x.dwellAt && x.state == .regulating && !x.noshed && x.shedSet.isEmpty && !(match x.holdAt with | some t => s.now < t | none => false)
  then shedAnnounce r s else s

/-- Shedding at a sample of a regulating rail (R122, R124). A standby leaves it to its active (R264). -/
def shedStep (r : Fin 24) (e : Int) (s : State) : State :=
  let x := s.rails[r]
  match x.cfg with
  | none => s
  | some c =>
    if x.state == .regulating && !s.holdStill r && !s.follows then
      let i := s.isumDeci r
      -- (Isum[n] - Isum[n-1]) / Ts > SHED_HOLD x 0.1 A/us
      let prev := if c.topo = 2 then x.isumPrev.abs else x.isumPrev
      let rise := (i.sub (prev.mul ⟨10, 1⟩)).mul ⟨c.fsw, c.decim⟩
      let trig := decide (e > c.relightMv * 16) || Q.lt ⟨c.shedHold * 1000000, 1⟩ rise
      let t := if trig then (let u := relight r s; forward (.relight r u.rails[r].entry true) u) else s
      let y := t.rails[r]
      if y.noshed then t.updRail r (fun z => { z with dwellAt := none })
      else
        let up := match t.entryUp r y.entry, c.shed[y.entry]? with
          | some k, some en => if Q.lt ⟨en.up, 1⟩ i then some k else none
          | _, _ => none
        match up with
        | some k => forward (.relight r k false) (moveUp r k t)
        | none =>
          let low := match (t.entryDown r y.entry).bind (fun k => c.shed[k]?) with
            | some en => i.lt ⟨en.down, 1⟩
            | none => false
          let hold := match y.holdAt with | some h => decide (s.now < h) | none => false
          if low && y.shedSet.isEmpty && !hold then
            t.updRail r (fun z => { z with dwellAt := some (z.dwellAt.getD (s.now + us (10 * c.dwell))) })
          else t.updRail r (fun z => { z with dwellAt := none })
    else s.updRail r (fun z => { z with dwellAt := none })

/-- PG_OUT at a sample (R131). -/
def pgStep (r : Fin 24) (e : Int) (sat : Bool) (vref : Int) (s : State) : State :=
  s.updRail r (fun x => match x.cfg with
    | some c => if x.state == .regulating then
        { x with pg := (!sat && decide ((e.natAbs : Int) * 1000 ≤ c.pgTol * vref)) }
        else { x with pg := false }
    | none => x)

/-- Settling at a sample (R145). -/
def settleStep (r : Fin 24) (e : Int) (sat : Bool) (s : State) : State :=
  let x := s.rails[r]
  let n := s.notice r
  match s.portOf r with
  | none => s
  | some a =>
    if n.pending && x.state == .regulating then
      let s0 := startSettle r s
      if x.vref == x.vtgt * 8 && !sat && e.natAbs ≤ 80 then
        if n.count + 1 ≥ 4 then
          updNotice r (fun m => { m with settled := true, tnDone := m.tn, pending := false, count := 0, timed := false, settleAt := none })
            (s0.updPort a.1 (fun p => { p with tnDone := n.tn }))
        else updNotice r (fun m => { m with count := m.count + 1 }) s0
      else updNotice r (fun m => { m with count := 0 }) s0
    else s

/-- A rail consistency check: its count of consecutive failures, and the source raised at the eighth (R132). -/
def railCheck (r : Fin 24) (bit : Nat) (s : State) : State :=
  fire (64 + r.val) bit (s.updRail r (fun x => { x with cause := x.cause ||| 2 ^ bit }))

/-- The comparator cross-check (Table 5.3) on a sense voltage in 1/16 mV. -/
def RailS.crossFails (x : RailS) (c : RailCfg) (v : Int) : Bool :=
  (x.uvCmp && decide (v > (c.uv + 12) * 8)) || (!x.uvCmp && decide (v < ((c.uv : Int) - 12) * 8)) ||
  (!x.ovCmp && decide (v > (c.ov + 12) * 8)) || (x.ovCmp && decide (v < ((c.ov : Int) - 12) * 8))

/-- The two checks of Table 5.3 at a sample. -/
def railChecks (r : Fin 24) (v : Int) (sat vsnBad : Bool) (s : State) : State :=
  let x := s.rails[r]
  match x.cfg with
  | none => s
  | some c =>
    let xf := if sat then x.xFail else if x.crossFails c v then min 8 (x.xFail + 1) else 0
    let vf := if vsnBad then min 8 (x.vFail + 1) else 0
    let t := s.updRail r (fun y => { y with xFail := xf, vFail := vf })
    let t1 := if xf = 8 && x.xFail = 7 then railCheck r 3 t else t
    if vf = 8 && x.vFail = 7 then railCheck r 4 t1 else t1

/-- VOUT of a sample, mV: (Vref − e) × DIV / 256 (Table 5.11). -/
def State.voutCode (s : State) (r : Fin 24) : Int := (s.voutMv r).round

/-- A snapshot takes its two values of a rail at the compensator sample (R304, Table 13.8). -/
def snapTake (r : Fin 24) (s : State) : State :=
  snapRail r (s.voutCode r % 65536).toNat (((s.rails[r].isum.mul ⟨10, 1⟩).round) % 65536).toNat s

/-- The loop and its checks at one sample of a rail that works (R108 to R133). -/
def compensate (r : Fin 24) (e v : Int) (sat vsnBad ride : Bool) (vref : Int) (s : State) : State :=
  let s3 := s.updRail r (fun x => { x with
    isumPrev := x.isum
    isum := s.isumNow r })
  let s4 := slewStep r (sampleLimits r s3)
  let s5 := shedStep r e (demandStep r e sat s4)
  let s6 := settleStep r e sat (pgStep r e sat vref s5)
  let s7 := railChecks r v (sat || ride) vsnBad s6
  snapTake r s7

/-- Protection levels that changed from those of `old` act on the present output (R48, Table 5.5): an OV level that it exceeds
trips, a UV level that it lies below starts the timer, and one that it lies above clears it. -/
def newLevels (uv ov : State → State) (r : Fin 24) (old : Option RailCfg) (s : State) : State :=
  match old, s.rails[r].cfg with
  | some o, some c =>
    let a := if o.uv = c.uv then (false, s) else readCmp (s.rails[r].above (c.uv * 8) (!s.rails[r].uvCmp) (o.uv * 8)) s
    let low := if o.uv = c.uv then (false, a.2) else readCmp ((s.rails[r].above (c.uv * 8 - 1) (!s.rails[r].uvCmp) (o.uv * 8 - 1)).map (!·)) a.2
    let t := if a.1 then low.2.updRail r (fun x => { x with uvCmp := false, uvAt := none })
      else if low.1 then uvStart uv r true low.2 else low.2
    let b := if o.ov = c.ov then (false, t) else readCmp (t.rails[r].above (c.ov * 8) t.rails[r].ovCmp (o.ov * 8)) t
    let u := if o.ov = c.ov then b.2 else b.2.updRail r (fun x => { x with ovCmp := b.1 })
    if b.1 && u.ovArmed r then ov u else armUv r u
  | _, _ => armUv r s

/-- The row COMPENSATOR_SAMPLE (R111 to R132). A saturated sample carries the saturated value of its sign (R110, R111). -/
def compensator (uv ov : State → State) (r : Fin 24) (e0 : Int) (sat vsnBad : Bool) (s : State) : State :=
  if s.arch.islands.errorAdc[r] == .stopped then s
  else
    let st := s.rails[r].state
    let e : Int := if sat then (if e0 < 0 then -4096 else 4080) else max (-4096) (min 4080 e0)
    -- a sample comes only from a converter that runs (R22)
    let s0 := s.updArch (fun a => { a with islands := { a.islands with errorAdc := a.islands.errorAdc.set r .running } })
    let old := if s.rails[r].next.isSome then s.rails[r].cfg else none
    let s1 := loadRail r s0
    -- in a ride the error ADC watches the bus bar against M, not the battery (R222)
    let ride := s1.isBatt r && s1.hold.riding
    let vref : Int := if ride then s1.holdTarget * 25 else s1.rails[r].vref
    let v := if ride then s1.rails[r].sense else vref - e
    let s2 := (if ride then s1.updHold (fun h => { h with bus := vref - e }) else s1).updRail r (fun x => { x with
      sat := x.sat || sat
      sense := v
      away := ride
      clip := if ride then x.clip else if sat then some (decide (e < 0)) else none })
    if st == .absent then s2
    else if st == .off then
      snapTake r (sampleLimits r (s2.updRail r (fun x => { x with inLimit := false, isum := ⟨0, 1⟩, isumPrev := ⟨0, 1⟩ })))
    else newLevels uv ov r old (compensate r e v sat vsnBad ride vref s2)

/-- The row RAIL_RESULT_PUBLISH (R134). -/
def railPublish (r : Fin 24) (s : State) : State :=
  let x := s.rails[r]
  match x.cfg with
  | some c =>
    if (x.state == .rampUp || x.state == .regulating || x.state == .rampDown) && x.accN ≥ 256 then
      let a := fitCode false 16 (roundDiv (x.accV * c.div) (4096 * x.accN)) s
      let b := fitCode true 16 ((x.accI.mul ⟨10, x.accN⟩).round) a.2
      let d := fitCode false 10 (roundDiv x.accD x.accN) b.2
      d.2.updRail r (fun y => { y with
        seq := (y.seq + 1) % 256
        fresh := true
        resSat := y.accSat
        resLim := y.accLim
        vout := a.1
        iout := b.1
        resDem := d.1
        epk := y.accE
        accN := 0
        accV := 0
        accI := ⟨0, 1⟩
        accD := 0
        accE := 0
        accSat := false
        accLim := false })
    else s
  | none => s

/-- RAIL_STAT.STATE code (Table 5.8). -/
def RailState.code : RailState → Nat
  | .absent => 0 | .off => 1 | .rampUp => 2 | .regulating => 3 | .rampDown => 4 | .snuff => 5

/-- RAIL_CTRL.REFUSED is set. -/
def railRefuse (r : Fin 24) (s : State) : State := s.updRail r (fun x => { x with refused := true })

/-- The domain of the slot that targets a rail. -/
def State.domainOf (s : State) (r : Fin 24) : Option (Fin 8) :=
  (List.finRange 48).findSome? (fun n => match s.seq.slots[n].cfg with
    | some c => if c.target = r.val then (if h : c.domain < 8 then some ⟨c.domain, h⟩ else none) else none
    | none => none)

/-- A host write of RAIL_CTRL.UNSNUFF (R129). -/
def hostUnsnuff (r : Fin 24) (s : State) : State :=
  let offDom := match s.domainOf r with | some d => s.seq.doms[d].state.isOff | none => true
  if s.rails[r].state == .snuff then
    if offDom && !s.rails[r].ovCmp then forward (.unsnuff r) (railUnsnuff r s) else railRefuse r s
  else s

/-- A host write of RAIL_CTRL.NOSHED (R125): every unfenced shed unit of a rail that runs returns at once, and the rail stands
at its last entry. -/
def hostNoshed (r : Fin 24) (on : Bool) (s : State) : State :=
  let t := s.updRail r (fun x => { x with noshed := on })
  if on && (s.rails[r].state == .regulating || s.rails[r].state == .rampUp) && !s.holdStill r then
    let u := cancelShed r t
    suspendMoved r (s.activeSet r) (joinUnits r ((u.units r).filter u.unitOut)
      (u.updRail r (fun x => { x with entry := u.entryAt r (u.shedN r - 1), dwellAt := none })))
  else t

/-- A VSET trim (R115): refused unless strictly between UV and OV; at a rail without a port it moves the target at once. -/
def trimVset (r : Fin 24) (v : Nat) (s : State) : State :=
  let x := s.rails[r]
  match x.cfg with
  | none => s
  | some c =>
    if c.uv < v && v < c.ov then
      let t := s.updRail r (fun y => { y with
        cfg := some { c with vset := v }, next := y.next.map (fun n => { n with vset := v }), trimV := true })
      if c.lport = 255 && (x.state == .regulating || x.state == .rampUp) then moveTarget r v 0 t else t
    else railRefuse r s

/-- An ILIM trim (R119): it enters ILIM_EFF at the next sample. -/
def trimIlim (r : Fin 24) (v : Nat) (s : State) : State :=
  s.updRail r (fun x => match x.cfg with
    | some c => { x with cfg := some { c with ilim := v }, next := x.next.map (fun n => { n with ilim := v }), trimI := true }
    | none => x)

end Sys2Proof.Machine
end

