-- ==== Sys2Proof/Machine/PortOps.lean ====
section
/-! DEFINITION. The load link (spec/06_load_link.md): the request CRC, the order of checks, the commands, frames and their
faults, retries, and the notices that the load or the host clears. -/
namespace Sys2Proof.Machine

/-- One byte through CRC-8, polynomial 0x07, most significant bit first (R140). -/
def crc8Bit (c : Nat) : Nat := if c ≥ 128 then ((2 * c) % 256) ^^^ 7 else 2 * c
/-- CRC-8 of bytes from an initial value (R140). -/
def crc8 (init : Nat) (bs : List Nat) : Nat := bs.foldl (fun c b => (List.range 8).foldl (fun x _ => crc8Bit x) (c ^^^ b)) init

/-- Request bytes 0 to 2 (Table 6.1). -/
def LlReq.bytes (q : LlReq) : List Nat :=
  [q.cmd % 16 * 8 + q.sub % 4 * 2 + bit01 q.tog, q.payload / 256 % 256, q.payload % 256]

/-- PENDING of a response (R144). -/
def PortS.pendingBits (p : PortS) : Nat :=
  let l := p.subs.toList
  bit01 (l.any (·.settled)) + 2 * bit01 (l.any (·.sfail)) + 4 * bit01 (l.any (·.dim)) + 8 * bit01 (l.any (·.fault))

/-- Any notice is pending: LLn_ALERT_N is asserted, where the port may drive it (R149). -/
def PortS.alert (p : PortS) : Bool := p.pendingBits != 0

/-- The conditions of R137: a record, READY and awake, and OWN_N in a pair. -/
def State.portMay (s : State) (p : Fin 8) : Bool := s.ports[p].cfg.isSome && s.running && (!s.paired || s.pair.own)

/-- A port drives its wires: under R137, and not in reset, held or fenced (R245, R247). -/
def State.portDrives (s : State) (p : Fin 8) : Bool :=
  s.portMay p && !s.blockDown (.port p) && !s.ports[p].fenced

/-- The clock of a load-link island, which the load starts and stops (R23, R138). -/
def portClock (p : Fin 8) (v : Isl) (s : State) : State :=
  s.when s.ports[p].cfg.isSome (fun t => t.updArch (fun a => { a with islands := { a.islands with
    loadLink := a.islands.loadLink.set p v } }))

/-- A bit mask of the sub-addresses that satisfy a condition. -/
def subMask (p : PortS) (f : SubS → Bool) : Nat := maskOf (p.subs.toList.map f)

/-- READ: the value of a selector (Table 6.3); `none` for SEL 8-15. -/
def llSelect (s : State) (p : Fin 8) (k : Fin 4) (sel : Nat) : Option Nat :=
  let x := s.ports[p]
  let n := x.subs[k]
  match s.railAt p k with
  | none =>
    if sel = 0 then some (subMask x (·.settled) + 16 * subMask x (·.sfail) + 256 * subMask x (·.dim) + 4096 * subMask x (·.fault))
    else if sel = 7 then some (p.val + 16 * ((x.cfg.map (·.railCnt)).getD 1 - 1) + 256)
    else none
  | some r =>
    let y := s.rails[r]
    match sel with
    | 0 => some (subMask x (·.settled) + 16 * subMask x (·.sfail) + 256 * subMask x (·.dim) + 4096 * subMask x (·.fault))
    | 1 => some (y.vtgt % 4096 + 4096 * bit01 (s.slewing r) + 8192 * y.state.code)
    | 2 => some (n.tn + 256 * n.tnDone)
    | 3 => some y.vout
    | 4 => some y.iout
    | 5 => some (n.dimId.getD 0)
    | 6 => some (if n.dimId.isSome then n.dimLimit else s.limitAnn r)
    | 7 => some (p.val + 16 * ((x.cfg.map (·.railCnt)).getD 1 - 1) + 256)
    | _ => none

/-- The first check of Table 6.4 that a request with an agreeing RCRC fails; 0 for OK. -/
def llCheck (s : State) (p : Fin 8) (k : Fin 4) (q : LlReq) : Nat :=
  let x := s.ports[p]
  let rail := s.railAt p k
  let dimReq := match x.cfg with | some c => c.dimReq | none => false
  let preOk := match x.cfg with | some c => c.preload | none => false
  let needsRail := q.cmd = 1 ∨ q.cmd = 2 ∨ q.cmd = 5 ∨ (q.cmd = 3 ∧ 1 ≤ q.payload % 16 ∧ q.payload % 16 ≤ 6)
  let st : RailState := match rail with | some r => s.rails[r].state | none => .absent
  if q.cmd = 0 ∨ 6 ≤ q.cmd ∨ (needsRail ∧ rail.isNone) then 4
  else if (q.cmd = 2 ∧ q.payload ≠ 0) ∨ (q.cmd = 3 ∧ (q.payload / 16 ≠ 0 ∨ 8 ≤ q.payload % 16)) ∨ (q.cmd = 4 ∧ q.payload / 4096 ≠ 0) ∨
      (q.cmd = 5 ∧ (q.payload / 256 ≠ 0 ∨ x.subs[k].dimId ≠ some (q.payload % 256))) then 5
  else if (q.cmd = 2 ∧ !preOk) ∨ (q.cmd = 5 ∧ !dimReq) then 7
  else if (s.ch.applying ∧ q.cmd ≠ 3) ∨ (q.cmd = 1 ∧ st == .rampDown) then 1
  else if (q.cmd = 1 ∨ q.cmd = 2) ∧ (st == .off ∨ st == .snuff) then 6
  else match rail with
    | none => 0
    | some r =>
      match s.rails[r].cfg with
      | some c => if q.cmd = 1 ∧ ¬(c.uv < q.payload % 4096 ∧ q.payload % 4096 < c.ov) then 2 else 0
      | none => 0

/-- SET_V: the transition takes the next TN, supersedes the earlier one, and moves the target (R145, R147, R118). A SETTLED or
SFAIL notice of a transition that has ended stays pending (DEDUCED, log entry 143). -/
def llSetV (p : Fin 8) (k : Fin 4) (r : Fin 24) (payload : Nat) (s : State) : Nat × State :=
  let tn := (s.ports[p].tn + 1) % 256
  let t := updSub p k (fun n => { n with tn := tn, pending := true, count := 0, timed := false, settleAt := none })
    (s.updPort p (fun x => { x with tn := tn }))
  (tn, moveTarget r (payload % 4096) (payload / 4096) t)

/-- NOTICE_ACK: the notices named in the masks are cleared (R148). -/
def llNoticeAck (p : Fin 8) (payload : Nat) (s : State) : State :=
  s.each (List.finRange 4) (fun k t => updSub p k (fun n => { n with
    settled := n.settled && !natBit payload k.val
    sfail := n.sfail && !natBit payload (4 + k.val)
    fault := n.fault && !natBit payload (8 + k.val) }) t)

/-- Execute a request that passed every check: DATA, and the state after it (Table 6.2). -/
def llExec (p : Fin 8) (k : Fin 4) (q : LlReq) (s : State) : Nat × State :=
  match q.cmd, s.railAt p k with
  | 1, some r => llSetV p k r q.payload s
  | 2, some r => (0, relight r s)
  | 3, _ => ((llSelect s p k (q.payload % 16)).getD 0, s)
  | 4, _ => (0, llNoticeAck p q.payload s)
  | 5, some _ => (0, updSub p k (fun n => { n with dim := false }) s)
  | _, _ => (0, s)

/-- Drive the response (R140, R144): PENDING after the request, SCRC seeded with RCRC. A port that does not drive its wires
sends none (R137). -/
def llRespond (p : Fin 8) (rcrc code data : Nat) (s : State) : State :=
  if s.portDrives p then
    let pend := s.ports[p].pendingBits
    s.updPort p (fun x => { x with resp := some ⟨code, pend, data,
      crc8 rcrc [16 * code + pend, data / 256 % 256, data % 256]⟩ })
  else s

/-- The port serves requests: it has a record, the device is READY and the port is not in reset, held or fenced. -/
def State.portServes (s : State) (p : Fin 8) : Bool :=
  s.ports[p].cfg.isSome && s.running && !s.blockDown (.port p) &&
    !s.ports[p].fenced

/-- Once the count of consecutive bad frames exceeds RETRY, the link is lost, and its source raised once for the loss
(R153). -/
def llLoss (p : Fin 8) (s : State) : State :=
  let x := s.ports[p]
  let lim := (x.cfg.map (·.retry)).getD 0
  if lim < x.bad && !x.badRun then portCause p 0 (s.updPort p (fun y => { y with linkUp := false, badRun := true })) else s

/-- A bad frame is counted (R153). -/
def llBad (p : Fin 8) (s : State) : State := llLoss p (s.updPort p (fun y => { y with bad := y.bad + 1 }))

/-- A request decoded at edge 34 (R141, R144, R154). -/
def llRequest (p : Fin 8) (k : Fin 4) (cmd : Nat) (tog : Bool) (payload rcrc : Nat) (s0 : State) : State :=
  let s := portClock p .running s0
  if s.portServes p then
    let q : LlReq := ⟨cmd, k.val, tog, payload⟩
    let ok := decide (crc8 0 q.bytes = rcrc)
    let s1 := s.updPort p (fun x => { x with frame := some ok, resp := none })
    if !ok then
      llRespond p rcrc 3 0 (llBad p (addTally 13 1 (s1.updPort p (fun x => { x with crcErr := sat255 x.crcErr }))))
    else
      let s2 := s1.updPort p (fun x => { x with tog := tog })
      let stored := match s.ports[p].prev with
        | some (o, code, data) => if o = q ∧ q.cmd ≠ 3 then some (code, data) else none
        | none => none
      match stored with
      | some (code, data) => llRespond p rcrc code data (s2.updPort p (fun x => { x with
          retries := sat255 x.retries
          refused := if code = 0 then x.refused else sat255 x.refused }))
      | none =>
        let code := llCheck s2 p k q
        if code = 0 then
          let x := llExec p k q s2
          llRespond p rcrc 0 x.1 (x.2.updPort p (fun y => { y with prev := some (q, 0, x.1) }))
        else
          llRespond p rcrc code 0 (s2.updPort p (fun y => { y with prev := some (q, code, 0), refused := sat255 y.refused }))
  else s

/-- The row LL_FRAME_BOUNDARY (R138, R152, R153). A boundary without an edge since the last one ends no frame. -/
def llBoundary (p : Fin 8) (edges : Nat) (startOne : Bool) (s0 : State) : State :=
  let s := portClock p .stopped s0
  if s.portServes p && edges > 0 then
    let crcOk := s.ports[p].frame
    let t := s.updPort p (fun x => { x with frame := none })
    let framing := startOne || edges != 68
    if framing then
      let u := t.updPort p (fun x => { x with framing := sat255 x.framing })
      -- a frame whose RCRC did not agree was counted as bad at edge 34
      if crcOk == some false then u else llBad p (addTally 13 1 u)
    else if crcOk == some true then
      t.updPort p (fun x => { x with good := (x.good + 1) % 65536, bad := 0, badRun := false, linkUp := true })
    else if crcOk == some false then t
    else llBad p t
  else s

/-- The row SETTLE_TIMEOUT (R146). -/
def settleTimeout (r : Fin 24) (s : State) : State :=
  match s.portOf r with
  | some x =>
    let n := s.notice r
    if n.pending && due s.now n.settleAt then
      portCause x.1 1 (updNotice r (fun m => { m with sfail := true, settleAt := none }) s)
    else s
  | none => s

/-- The host clears every notice of a port (R148). -/
def noticeClear (p : Fin 8) (s : State) : State :=
  s.updPort p (fun x => { x with subs := x.subs.map (fun n => { n with settled := false, sfail := false, dim := false, fault := false }) })

end Sys2Proof.Machine
end

