-- ==== Sys2Proof/Machine/CartOps.lean ====
section
/-! DEFINITION. The module bus and the battery cartridges (spec/10_holdup_cartridges.md, R231 to R242): transactions and
their retries, examination, authentication, counters, life and exclusion. -/
namespace Sys2Proof.Machine

/-- Whether cartridge `c` is enabled by BC_EN. -/
def State.cartOn (s : State) (c : Fin 16) : Bool := match s.carts.cfg with | some k => natBit k.bcEn c.val | none => false

/-- The unit drives the module bus: alone, or the owner of its pair (R240). -/
def State.drivesBus (s : State) : Bool := !s.paired || s.pair.own

/-- The module bus is served: the supervisor core runs, and the block is neither in reset nor held (R233, R245). -/
def State.busServed (s : State) : Bool :=
  s.drivesBus && (s.core .supervisor).state == .running && !s.blockDown .moduleBus

/-- The address at which a cartridge answers (R231). -/
def State.mbAddr (s : State) (c : Fin 16) : Nat := (match s.carts.cfg with | some k => k.mbBase | none => 0) + c.val

/-- Put a transaction in the module bus's queue. -/
def mbPut (c : Fin 16) (k : MbKind) (s : State) : State :=
  if s.drivesBus then s.updCarts (fun x => { x with ops := x.ops ++ [{ cart := c, addr := s.mbAddr c, kind := k }] }) else s

/-- A write of counters. -/
def MbKind.isCounters (k : MbKind) : Bool := match k with | .counters _ _ => true | _ => false

/-- A write of counters has not reached its cartridge yet, on a bus that is served (R237). -/
def State.countersWait (s : State) : Bool := s.busServed && s.carts.ops.any (fun o => o.kind.isCounters)

/-- The transactions of a cartridge are dropped, but for writes of its counters. -/
def dropWork (c : Fin 16) (s : State) : State :=
  s.updCarts (fun x => { x with ops := x.ops.filter (fun o => o.cart != c || o.kind.isCounters) })

/-- The transaction on the bus: the one whose bytes have gone out, else the first that does not wait for a retry. -/
def CartsS.onBus (x : CartsS) : Option (Nat × MbOp) :=
  let l := ((List.range x.ops.length).zip x.ops).filter (fun p => p.2.wait.isNone)
  match x.sent.bind (fun o => l.find? (fun p => p.2 == o)) with
  | some p => some p
  | none => l.head?

/-- Remove a transaction by its place. -/
def dropOp (i : Nat) (s : State) : State := s.updCarts (fun x => { x with ops := x.ops.eraseIdx i })

/-- CRC-8 of bytes (R232). -/
def cartCrc (bs : List Byte) : Nat := crc8 0 (bs.map (·.toNat))

/-- A counter bank as its 16 bytes (Table 10.4). -/
def Bank.bytes (b : Bank) : List Byte :=
  let d := leBytes 4 b.thru ++ leBytes 4 b.dis ++ leBytes 2 b.seq ++ [byteOf b.flags] ++ List.replicate 4 0
  d ++ [byteOf (cartCrc d)]

/-- The pointer of a transaction in the cartridge's map (Table 10.3). -/
def MbKind.pointer (k : MbKind) : Nat :=
  match k with
  | .identity => 0x00 | .banks => 0x20 | .control _ => 0x40 | .status => 0x41 | .challenge => 0x50 | .response => 0x60
  | .authPoll => 0x80 | .counters a _ => if a then 0x20 else 0x30

/-- How many bytes a read takes; none for a write. -/
def MbKind.reads (k : MbKind) : Option Nat :=
  match k with
  | .identity | .banks | .response => some 32
  | .authPoll | .status => some 1
  | .challenge | .control _ | .counters _ _ => none

/-- The data of a write. -/
def State.mbData (s : State) (o : MbOp) : List Byte :=
  match o.kind with
  | .challenge => (s.carts.carts[o.cart]).chal
  | .control v => [byteOf v]
  | .counters _ b => b.bytes
  | .identity | .banks | .response | .authPoll | .status => []

/-- What the part sends of a transaction (R232): the address and the pointer, then the address again for a read, or the data
and their CRC. -/
def State.mbBytes (s : State) (o : MbOp) : List Byte :=
  let head := [byteOf (2 * o.addr), byteOf o.kind.pointer]
  match o.kind.reads with
  | some _ => head ++ [byteOf (2 * o.addr + 1)]
  | none => let b := head ++ s.mbData o; b ++ [byteOf (cartCrc b)]

/-- The data of a read, if the CRC byte that follows them agrees (R232). -/
def State.mbRead (s : State) (o : MbOp) (d : List Byte) : Option (List Byte) :=
  match o.kind.reads with
  | none => some []
  | some n => if cartCrc (s.mbBytes o ++ d.take n) = byteAt d n then some (d.take n) else none

/-- The transaction whose bytes are on the bus: the first that does not wait, while the bus is served. -/
def State.mbNow (s : State) : Option MbOp := if s.busServed then s.carts.onBus.map (·.2) else none

/-- A transaction begins once it stands on a bus that is served: its bytes go out (R232). -/
def watchMb (s : State) : State :=
  if s.carts.sent == s.mbNow then s
  else
    let t := s.updCarts (fun x => { x with sent := s.mbNow })
    match s.mbNow with
    | some o => send (.mb (s.mbBytes o)) t
    | none => t

/-- Every enabled cartridge is ABSENT or EXCLUDED: EV149 fires when that begins (R239). -/
def judgeUsable (s : State) : State :=
  let l := s.carts.carts.toList.filter (fun c => c.state != .disabled)
  let b := !l.isEmpty && l.all (fun c => c.state == .absent || c.state == .excluded)
  fireIf (b && !s.carts.noneUse) 149 1 (s.updCarts (fun x => { x with noneUse := b }))

/-- Exclude a cartridge at once (R239). -/
def excludeNow (c : Fin 16) (why : Nat) (s : State) : State :=
  let t := s.updCart c (fun x => { x with
    state := .excluded, why := why, connected := false, authAt := none, dueWhy := none, examDue := false })
  let u := (dropWork c t).updCarts (fun x => { x with excl := sat255 x.excl })
  judgeUsable (fire (128 + c.val) why (mbPut c (.control 0) u))

/-- Exclude a cartridge that is not excluded yet; during a ride one that is unreadable or fails its authentication keeps its
paths until the ride ends (Table 10.6). -/
def exclude (c : Fin 16) (why : Nat) (s : State) : State :=
  if (s.carts.carts[c]).state == .excluded then s
  else if s.hold.riding && (s.carts.carts[c]).usable && (why == 1 || why == 4) then
    s.updCart c (fun x => { x with dueWhy := some (x.dueWhy.getD why), authAt := none })
  else excludeNow c why s

/-- Examine a cartridge: the identity block is read first (R235). During a ride one that is connected keeps its paths, and the
examination waits for the end of the ride (Table 10.6, log entry 117). -/
def examine (c : Fin 16) (s : State) : State :=
  if s.cartOn c && !(s.carts.carts[c]).fenced then
    if s.hold.riding && (s.carts.carts[c]).usable then s.updCart c (fun x => { x with examDue := true })
    else judgeUsable (mbPut c .identity ((dropWork c s).updCart c (fun x =>
      { x with state := .checking, why := 0, fails := 0, authAt := none, dueWhy := none, examDue := false })))
  else s

/-- Reserved bytes of the identity block. -/
def idReservedOk (d : List Byte) : Bool := ((d.drop 0x16).take 9).all (· == 0)

/-- Step 1 of an examination: the identity block (R235, Table 10.5). -/
def onIdentity (c : Fin 16) (d : List Byte) (s : State) : State :=
  if u16At d 0 ≠ 1 ∨ cartCrc (d.take 31) ≠ byteAt d 31 ∨ !idReservedOk d then exclude c 2 s
  else
    let t := s.updCart c (fun x => { x with
      typ := u16At d 2, serial := leNat ((d.drop 4).take 8), capAh := u16At d 12, ratedEfc := u16At d 14, ratedAh := u32At d 16 })
    let known := match s.carts.cfg with | some k => k.types.contains (u16At d 2) | none => false
    if u16At d 2 = 0 ∨ !known then exclude c 3 t else mbPut c .banks t

/-- A counter bank as read; none where its CRC fails (Table 10.4). -/
def readBank (d : List Byte) : Option Bank :=
  if cartCrc (d.take 15) = byteAt d 15 then some ⟨u32At d 0, u32At d 4, u16At d 8, byteAt d 10⟩ else none

/-- Bank B is the newer of two valid banks (R237). -/
def bNewer (a b : Bank) : Bool :=
  let d := (b.seq + 65536 - a.seq) % 65536
  1 ≤ d && d ≤ 32767

/-- The newer of the valid banks. -/
def CartS.newest (x : CartS) : Option Bank :=
  match x.bankA, x.bankB with
  | some a, some b => if bNewer a b then some b else some a
  | some a, none => some a
  | none, b => b

/-- KC and the response that the GN7720 computes (R236). -/
def cartResponse (km : List Byte) (serial typ : Nat) (chal : List Byte) : List Byte :=
  hmacSha256 (hmacSha256 km (leBytes 8 serial)) (chal ++ leBytes 8 serial ++ leBytes 2 typ)

/-- Write a fresh challenge (R236). -/
def challenge (c : Fin 16) (s : State) : State :=
  let d := draw s
  mbPut c .challenge (d.2.updCart c (fun x => { x with chal := leBytes 16 d.1 }))

/-- The last step of an examination: CONTROL (R235, R239). -/
def cartControl (c : Fin 16) (s : State) : State := mbPut c (.control (if (s.carts.carts[c]).retired then 2 else 3)) s

/-- Step 2 of an examination: both banks; then authentication or CONTROL (R235). -/
def onBanks (c : Fin 16) (d : List Byte) (s : State) : State :=
  let t := s.updCart c (fun x => { x with bankA := readBank (d.take 16), bankB := readBank (d.drop 16) })
  match (t.carts.carts[c]).newest with
  | none => exclude c 1 t
  | some b =>
    let u := t.updCart c (fun x => { x with
      thru := 10 * b.thru, dis := 10 * b.dis, thruRem := ⟨0, 1⟩, disRem := ⟨0, 1⟩, warned := natBit b.flags 0, retired := natBit b.flags 1 })
    if (match s.carts.cfg with | some k => k.auth | none => false) then challenge c u else cartControl c u

/-- The response has been read (R236). -/
def onResponse (c : Fin 16) (d : List Byte) (s : State) : State :=
  let x := s.carts.carts[c]
  let km := match s.carts.cfg with | some k => ((Tab.get? s.upd.keys k.keySlot).join).getD [] | none => []
  if d = cartResponse km x.serial x.typ x.chal then
    let t := s.updCart c (fun y => { y with authOk := true, authDone := s.now })
    if x.state == .checking then cartControl c t else t
  else exclude c 4 (s.updCart c (fun y => { y with authOk := false }))

/-- LIFE in % as a fraction (R238). -/
def CartS.life (x : CartS) : Q :=
  let a : Q := if x.capAh * x.ratedEfc = 0 then ⟨Config.lifeByZero x.dis, 1⟩ else ⟨x.dis, x.capAh * x.ratedEfc⟩
  let b : Q := if x.ratedAh = 0 then ⟨Config.lifeByZero x.thru, 1⟩ else ⟨x.thru, 10 * x.ratedAh⟩
  if a.le b then b else a

/-- The counters as the bank to be written holds them, and whether it is bank A (R237): the bank that fails its CRC, else
the older. -/
def CartS.nextBank (x : CartS) : Bool × Bank :=
  let flags := bit01 x.warned + 2 * bit01 x.retired
  let mk (n : Nat) : Bank := ⟨x.thru / 10 % 2 ^ 32, x.dis / 10 % 2 ^ 32, (n + 1) % 65536, flags⟩
  match x.bankA, x.bankB with
  | none, some b => (true, mk b.seq)
  | some a, none => (false, mk a.seq)
  | some a, some b => if bNewer a b then (true, mk b.seq) else (false, mk a.seq)
  | none, none => (true, mk 65535)

/-- A cartridge with the counter writes that wait in the queue taken as done (R237). -/
def State.banksQueued (s : State) (c : Fin 16) : CartS :=
  s.carts.ops.foldl (fun x o => if o.cart == c then (match o.kind with
    | .counters true b => { x with bankA := some b }
    | .counters false b => { x with bankB := some b }
    | _ => x) else x) (s.carts.carts[c])

/-- Write a cartridge's counters (R237). -/
def writeCounters (c : Fin 16) (s : State) : State :=
  if (s.carts.carts[c]).usable then
    let p := (s.banksQueued c).nextBank
    mbPut c (.counters p.1 p.2) s
  else s

/-- Write the counters of every connected cartridge (R225, R237). -/
def writeAllCounters (s : State) : State := s.each (List.finRange 16) (fun c t => writeCounters c t)

/-- A cartridge reaches WARN_PCT or 100 % of its life (R238). -/
def lifeCheck (c : Fin 16) (s : State) : State :=
  let x := s.carts.carts[c]
  if x.usable then
    let life := x.life
    let warn := match s.carts.cfg with | some k => k.warnPct | none => 100
    let w := !x.warned && Q.le ⟨warn, 1⟩ life
    let r := !x.retired && Q.le ⟨100, 1⟩ life
    let t := s.updCart c (fun y => { y with
      warned := y.warned || w, retired := y.retired || r, state := if r && y.state == .inUse then .retired else y.state })
    let u := fireIf r (128 + c.val) 9 (fireIf w (128 + c.val) 8 t)
    let v := if r then mbPut c (.control 2) u else u
    if w || r then writeCounters c v else v
  else s

/-- Add a share of the integral to a cartridge, in 0.001 Ah (R237). -/
def CartS.count (x : CartS) (q : Q) (dis : Bool) : CartS :=
  let a := x.thruRem.add q
  let y := { x with thru := x.thru + a.floor.toNat, thruRem := a.sub (Q.ofInt a.floor) }
  if dis then
    let b := y.disRem.add q
    { y with dis := y.dis + b.floor.toNat, disRem := b.sub (Q.ofInt b.floor) }
  else y

/-- Integrate abs(Isum) of the BATTERY rail over one sample and share it (R237). -/
def integrate (r : Fin 24) (s : State) : State :=
  match s.rails[r].cfg with
  | none => s
  | some c =>
    let dis := s.hold.riding
    if s.isBatt r && (dis || s.hold.state == .charge) then
      -- A x s / 3.6 = 0.001 Ah
      let q := (s.rails[r].isum.abs).mul ⟨10 * c.decim, 36 * max 1 c.fsw⟩
      let l := (List.finRange 16).filter (fun i =>
        if dis then (s.carts.carts[i]).usable else (s.carts.carts[i]).state == .inUse)
      let part := q.divNat (max 1 l.length)
      let t := s.each l (fun i u => u.updCart i (fun x => x.count part dis))
      let u := if dis then t.updHold (fun h => { h with rideAh := h.rideAh.add q }) else t
      u.each l (fun i v => lifeCheck i v)
    else s

/-- A cartridge becomes ABSENT at once (R235). -/
def absentNow (c : Fin 16) (s : State) : State :=
  let was := (s.carts.carts[c]).usable
  let t := s.updCart c (fun x => { x with
    state := .absent, why := 0, authOk := false, authAt := none, dueWhy := none, examDue := false, connected := false })
  judgeUsable (fireIf was (128 + c.val) 7 (t.updCarts (fun x => { x with ops := x.ops.filter (fun o => o.cart != c) })))

/-- A cartridge becomes ABSENT (R235); during a ride its paths stay as they are until the ride ends (Table 10.6). A fence holds
it EXCLUDED (Table 10.5). -/
def cartAbsent (c : Fin 16) (s : State) : State :=
  let x := s.carts.carts[c]
  if x.fenced then s
  else if s.hold.riding && x.usable then s.updCart c (fun y => { y with dueWhy := some (y.dueWhy.getD 7) })
  else absentNow c s

/-- What waited for the end of the ride: an exclusion, an absence, an examination (Table 10.6). -/
def cartAfterRide (c : Fin 16) (s : State) : State :=
  let x := s.carts.carts[c]
  match x.dueWhy with
  | some 7 => absentNow c s
  | some w => excludeNow c w s
  | none => if x.examDue then examine c s else s

/-- The end of a successful transaction (R235 to R237). A cartridge that is read in is judged by its life (R238), and one that
did not answer before is examined once it does. -/
def mbSuccess (o : MbOp) (d : List Byte) (s0 : State) : State :=
  let c := o.cart
  let was := (s0.carts.carts[c]).answered
  let s := s0.updCart c (fun x => { x with answered := true })
  match o.kind with
  | .identity => onIdentity c d s
  | .banks => onBanks c d s
  | .challenge => s.updCart c (fun x => { x with authAt := some s.now })
  | .authPoll => if byteAt d 0 = 2 then mbPut c .response (s.updCart c (fun x => { x with authAt := none })) else s
  | .response => onResponse c d s
  | .control v =>
    if (s.carts.carts[c]).state == .checking && v != 0 then
      lifeCheck c (judgeUsable (s.updCart c (fun x => { x with state := if v = 2 then .retired else .inUse, connected := true })))
    else s
  | .status =>
    let t := s.updCart c (fun x => { x with fails := 0 })
    let x := t.carts.carts[c]
    if x.state == .absent || (x.state == .excluded && x.why == 1 && !was) then examine c t
    else if natBit (byteAt d 0) 2 then exclude c 5 t
    else t
  | .counters a b =>
    if (s.carts.carts[c]).state == .disabled then s
    else s.updCart c (fun x => if a then { x with bankA := some b } else { x with bankB := some b })

/-- A transaction that still failed after its retries (R235, R237, R239). -/
def mbGiveUp (o : MbOp) (s : State) : State :=
  let c := o.cart
  match o.kind with
  | .status =>
    let n := (s.carts.carts[c]).fails + 1
    let t := s.updCart c (fun x => { x with fails := n })
    if n ≥ 3 && (t.carts.carts[c]).state != .absent then cartAbsent c t else t
  | .control v => if v = 0 then s else exclude c 1 s
  | .counters _ _ => exclude c 1 (s.updCarts (fun x => { x with ctrWr := sat255 x.ctrWr }))
  | .identity => exclude c 1 s
  | .banks => exclude c 1 s
  | .challenge => exclude c 1 s
  | .authPoll => exclude c 1 s
  | .response => exclude c 1 s

/-- A failed transaction: counted, and retried up to 3 times at 10 ms intervals (R233). -/
def mbFail (crc : Bool) (i : Nat) (o : MbOp) (s : State) : State :=
  let t := addTally 15 1 (s.updCarts (fun x => { x with
    nacks := if crc then x.nacks else sat255 x.nacks, crc := if crc then sat255 x.crc else x.crc }))
  if o.tries < 3 then
    t.updCarts (fun x => { x with ops := x.ops.set i { o with tries := o.tries + 1, busy := 0, wait := some (s.now + ms 10) } })
  else mbGiveUp o (dropOp i t)

/-- SDA stuck low at a start: SCL pulses until it is released, 9 at most, and a STOP (R233). How many it takes is a free
value. The transaction waits and starts again. -/
def mbRecover (s : State) : State :=
  let d := draw s
  fire 149 0 (send (.mbPulses (1 + d.1 % 9)) (d.2.updCarts (fun x => { x with stuck := true, sent := none })))

/-- The row MB_TRANSACTION_DONE (R232, R233). -/
def mbDone (res : MbResult) (s0 : State) : State :=
  if s0.busServed then
    match s0.carts.onBus with
    | none => s0
    | some (i, o) =>
      let s := s0.updCarts (fun x => { x with sent := none })
      match res with
      | .ok d => (match s.mbRead o d with
        | some b => mbSuccess o b (dropOp i s)
        | none => mbFail true i o s)
      | .addrNack =>
        if o.busy < 10 then
          s.updCarts (fun x => { x with ops := x.ops.set i { o with busy := o.busy + 1, wait := some (s.now + ms 1) } })
        else mbFail false i o s
      | .nack => mbFail false i o s
      | .badCrc => mbFail true i o s
      | .sdaLow => mbRecover s
  else s0

/-- A waiting transaction of a cartridge starts again once its interval has passed; `busy` tells the two kinds of retry. -/
def mbRetry (c : Fin 16) (busy : Bool) (s : State) : State :=
  if s.busServed then
    s.updCarts (fun x => { x with ops := x.ops.map (fun o =>
      if o.cart == c && due s.now o.wait && (decide (0 < o.busy) == busy) then { o with wait := none } else o) })
  else s

/-- The row MB_LOW_TIMEOUT (R233). -/
def mbLowTimeout (sdaStuck : Bool) (s : State) : State :=
  if s.busServed then
    let t := match s.carts.onBus with
      | none => s
      | some (i, o) => mbFail false i o (s.updCarts (fun x => { x with sent := none }))
    if sdaStuck then mbRecover t else t
  else s

/-- The row CARTRIDGE_STATUS_POLL (R235). -/
def statusPoll (c : Fin 16) (s : State) : State :=
  if s.cartOn c && s.running && !s.carts.ops.any (fun o => o.cart == c && o.kind == .status) then mbPut c .status s else s

/-- The row AUTH_POLL (R236). -/
def authPollNow (c : Fin 16) (s : State) : State :=
  if (s.carts.carts[c]).authAt.isSome && !s.carts.ops.any (fun o => o.cart == c && o.kind == .authPoll) then mbPut c .authPoll s else s

/-- The row AUTH_TIMEOUT (R236). -/
def authExpired (c : Fin 16) (s : State) : State :=
  match (s.carts.carts[c]).authAt with
  | some t =>
    if t + ms 100 ≤ s.now then
      exclude c 4 ((s.updCart c (fun x => { x with authAt := none, authOk := false })).updCarts (fun x =>
        { x with ops := x.ops.filter (fun o => !(o.cart == c && o.kind == .authPoll)) }))
    else s
  | none => s

/-- The row REAUTH_TIMER (R236). A failed one is not tried again while its exclusion waits for the end of a ride. -/
def reauth (c : Fin 16) (s : State) : State :=
  let x := s.carts.carts[c]
  if x.usable && (match s.carts.cfg with | some k => k.auth | none => false) && x.authDone + sec 86400 ≤ s.now && x.authAt.isNone &&
      x.dueWhy.isNone then
    challenge c s
  else s

/-- The host asks that a cartridge be examined afresh; this releases a fence, but not a held block (R235, R247, Table 10.5). -/
def rescan (c : Fin 16) (s : State) : State :=
  if s.ev.heldBlks.contains (.cartridge c) then s
  else examine c (s.updCart c (fun x => { x with fenced := false }))

/-- BC_STAT.STATE code (Table 10.10). -/
def CartState.code : CartState → Nat
  | .disabled => 0 | .absent => 1 | .checking => 2 | .inUse => 3 | .retired => 4 | .excluded => 5

end Sys2Proof.Machine
end

