-- ==== Sys2Proof/Machine/HoldOps.lean ====
section
/-! DEFINITION. Hold-up, sharing and power capping (spec/10_holdup_cartridges.md, R218 to R230). -/
namespace Sys2Proof.Machine

/-- The BATTERY rail of hold-up. -/
def State.battRail (s : State) : Option (Fin 24) :=
  if s.hold.state == .none then none else (s.hold.cfg).bind (fun h => toRail h.battRail)

/-- The BATTERY rail is enabled: its on ramp has begun and no shut-off, snuff or end of the off ramp has come. -/
def State.battOn (s : State) : Bool :=
  match s.battRail with
  | some r => s.rails[r].state == .rampUp || s.rails[r].state == .regulating || s.rails[r].state == .rampDown
  | none => false

/-- The ride comparator is powered: the BATTERY rail is not OFF (R219). -/
def State.rideOn (s : State) : Bool :=
  match s.battRail with
  | some r => s.rails[r].state != .off && s.rails[r].state != .absent
  | none => false

/-- The phases of the BATTERY rail stop switching: each drops at its next off-time, or is SHED at once where it has not
pulsed yet (R220). -/
def holdDrop (r : Fin 24) (s : State) : State :=
  let on := s.rails[r].pulsed
  let t := s.updRail r (fun x => { x with shedSet := [], dwellAt := none })
  suspendMoved r (s.activeSet r) (updPhases (t.engines r) (fun p =>
    if p.state == .active then (if on then { p with state := .shedPend } else { p with state := .shed, pwm := .z, shedAt := s.now })
    else { p with again := false }) t)

/-- The phases of the BATTERY rail start to switch, in a direction (R220, R223): a switching one turns at its next leading edge
(R93), one in tri-state starts in it, and one whose shed is pending takes it when that shed has completed and it is re-lit
(Table 4.6, log entry 116). -/
def holdSwitch (r : Fin 24) (dis : Bool) (s : State) : State :=
  let t := s.updRail r (fun x => { x with entry := s.entryAt r (s.shedN r - 1), shedSet := [], dwellAt := none })
  let u := updPhases (t.engines r) (fun p => { p with dirCmd := dis, again := p.again || p.state == .shedPend }) t
  suspendMoved r (s.activeSet r)
    (joinUnits r ((u.entrySet r (u.shedN r - 1)).filter (fun n => u.phases[n].state == .shed)) u)

/-- The end of a ride (R225): the counters are written, the result set is published, waiting exclusions, examinations and
hot-safe values take effect (Table 10.6). -/
def rideEnd (spent : Bool) (s : State) : State :=
  let t := writeAllCounters s
  let dur := (s.now - s.hold.rideAt) / 1000000
  let a := fitCode false 32 dur t
  let b := fitCode false 16 ((s.hold.rideAh.divNat 10).round) a.2
  let u := b.2.updHold (fun h => { h with
    seq := (h.seq + 1) % 256
    fresh := true
    resSpent := spent
    dur := a.1
    ah := b.1
    handAt := none
    cfg := match h.next with | some c => some c | none => h.cfg
    next := none })
  u.each (List.finRange 16) (fun c v => cartAfterRide c v)

/-- Enter CHARGE (R220, R221): the phases switch in charge, and Vref starts at the sensed battery voltage and moves to VSET at
the on-ramp slope. -/
def enterCharge (r : Fin 24) (s : State) : State :=
  let t := holdSwitch r false (s.updHold (fun h => { h with state := .charge }))
  if t.rails[r].state == .regulating || t.rails[r].state == .rampUp then
    let p := startVref r t
    let u := p.2.updRail r (fun x => ({ x with vref := p.1 } : RailS).rebase)
    moveTarget r (match u.rails[r].cfg with | some c => c.vset | none => 0) 0 u
  else t

/-- Enter IDLE (R220). -/
def enterIdle (r : Fin 24) (s : State) : State := holdDrop r (s.updHold (fun h => { h with state := .idle }))

/-- CHARGE or IDLE, as the bus bar and the cartridges allow (Table 10.1). -/
def chargeOrIdle (r : Fin 24) (s : State) : State :=
  if s.hold.busQ && s.cartsCharge > 0 then enterCharge r s else enterIdle r s

/-- A ride ends abnormally (R224). -/
def rideSpent (r : Fin 24) (b : Nat) (s : State) : State :=
  let t := s.updHold (fun h => { h with state := .spent, cause := h.cause ||| 2 ^ b })
  fire 146 b (rideEnd true (holdDrop r t))

/-- Judge the hold-up state after a change of the rail, the bus bar or the cartridges (Table 10.1, R224). -/
def holdJudge (s : State) : State :=
  match s.battRail with
  | none => s
  | some r =>
    if !s.battOn then
      let t := s.updHold (fun h => { h with state := .off, rideCmp := h.rideCmp && s.rideOn })
      if s.hold.riding then rideEnd false t else t
    else match s.hold.state with
      | .off => chargeOrIdle r s
      | .idle => if s.hold.busQ && s.cartsCharge > 0 then enterCharge r s else s
      | .charge => if s.hold.busQ && s.cartsCharge > 0 then s else enterIdle r s
      | .ride => if s.cartsConn = 0 then rideSpent r 3 s else s
      | .handback => if s.cartsConn = 0 then rideSpent r 3 s else s
      | .spent => s
      | .none => s

/-- The compensator of the BATTERY rail at the change to discharge (R222): the e history is 0, the u history the clamp code for
the discharge limit, and the first demand is the full limit. -/
def rideDemand (r : Fin 24) (s : State) : State :=
  let l := s.limitNow r
  let cl := s.clampCode r l.1
  offerDemand r (s.updRail r (fun x => { x with
    ilimEff := l.1
    limsrc := l.2
    cl := cl
    demand := cl
    pulsed := x.pulsed || decide (0 < cl)
    away := true
    e := [0, 0, 0]
    u := [(cl : Int) * 16384, (cl : Int) * 16384, (cl : Int) * 16384] }))

/-- RIDE is entered: the direction of the battery rail, and its demand at the clamp (R222, R223). -/
def enterRide (r : Fin 24) (s : State) : State :=
  rideDemand r (holdSwitch r true (s.updHold (fun h => { h with state := .ride, handAt := none })))

/-- A ride begins (R223): the count, the direction of the battery rail, the demand at its clamp, EV145, and the twin told. -/
def rideBegin (r : Fin 24) (s : State) : State :=
  fire 145 0 (forward (.direction true) (enterRide r (s.updHold (fun h => { h with
    rides := sat255 h.rides, rideAt := s.now, rideAh := ⟨0, 1⟩ }))))

/-- The row RIDE_COMPARATOR_TRIP (R219, R223): the discharge begins at the full limit (R222). The comparator is powered while
the BATTERY rail is not OFF. -/
def rideTrip (s : State) : State :=
  match s.battRail with
  | none => s
  | some r =>
    if s.rideOn then
      let t := s.updHold (fun h => { h with rideCmp := true })
      match s.hold.state with
      | .handback => t.updHold (fun h => { h with state := .ride, handAt := none })
      | .charge | .idle =>
        if s.battOn && s.hold.busQ && s.cartsConn > 0 then rideBegin r t else t
      | _ => t
    else s

/-- The row RIDE_COMPARATOR_CLEAR (R225). -/
def rideClear (s : State) : State :=
  let t := s.updHold (fun h => { h with rideCmp := false })
  if s.hold.state == .ride then t.updHold (fun h => { h with state := .handback, handAt := some s.now }) else t

/-- The row HANDBACK_EXPIRY (R225): the ride ends, and the rail changes to charge, or goes to IDLE if no cartridge is then
chargeable. -/
def handbackEnd (s : State) : State :=
  match s.battRail, s.hold.cfg, s.hold.handAt with
  | some r, some h, some t =>
    if s.hold.state == .handback && !s.hold.rideCmp && t + ms h.handback ≤ s.now then
      let u := chargeOrIdle r (rideEnd false (s.updHold (fun x => { x with state := .idle })))
      u.when (u.hold.state == .charge) (forward (.direction false))
    else s
  | _, _, _ => s

/-- The row MAX_RIDE_EXPIRY (R224). -/
def maxRide (s : State) : State :=
  match s.battRail, s.hold.cfg with
  | some r, some h => if s.hold.riding && s.hold.rideAt + sec h.maxRide ≤ s.now then rideSpent r 0 s else s
  | _, _ => s

/-- Every domain whose input is the bus bar is off (R224). -/
def State.busDomainsOff (s : State) : Bool :=
  match s.hold.cfg with
  | some h => (List.finRange 8).all (fun d => match s.seq.doms[d].cfg with
      | some c => c.input != h.busMon || s.seq.doms[d].state.isOff
      | none => true)
  | none => true

/-- A ride whose bus bar is lost and whose domains are all off ends (R224). -/
def judgeBusLost (s : State) : State :=
  match s.battRail with
  | some r => if s.hold.riding && !s.hold.busQ && s.busDomainsOff then rideSpent r 2 s else s
  | none => s

/-- A number as a monitor. -/
def toMon (n : Nat) : Option (Fin 96) := if h : n < 96 then some ⟨n, h⟩ else none

/-- A threshold code in half-microvolts (R187). -/
def thresh (c : Nat) : Nat := c * 3125

/-- The monitor samples in wick operation (R77, R190, R192). -/
def State.monWick (s : State) (m : Fin 96) : Bool :=
  match s.watch.mons[m].cfg with
  | none => false
  | some c => c.mode == 0 || s.mode == .sleep

/-- The input that a monitor judges lies below a rising threshold, or above HIGH (R53, R166): by its comparators, and in wick
operation by the level of its latest decision; in a continuous mode the level is known where a comparator has decided it (log
entry 158). -/
def State.outside (s : State) (m : Fin 96) (rise : Nat) : Bool :=
  let x := s.watch.mons[m]
  x.lowNow || x.highNow ||
    (match x.cfg with | some c => s.monWick m && (x.v < thresh rise || thresh c.high < x.v) | none => false)

/-- The rising threshold of the monitor that judges an input: BUS_RISE on the bus bar, else LOW + HYST (R166). -/
def State.riseOf (s : State) (m : Fin 96) : Nat :=
  match s.hold.cfg with
  | some h => if h.busMon == m.val then h.busRise else (s.watch.mons[m].cfg.map (fun c => c.low + c.hyst)).getD 0
  | none => (s.watch.mons[m].cfg.map (fun c => c.low + c.hyst)).getD 0

/-- The row BUS_BAR_QUALIFIED (R219, R53): SPENT ends when the bar qualifies afresh. -/
def busQualified (s : State) : State :=
  match s.hold.cfg, s.hold.qualAt with
  | some h, some t =>
    let out := match toMon h.busMon with | some m => s.outside m h.busRise | none => false
    if !s.hold.busQ && !out && !(s.hold.rideCmp && s.rideOn) && t + ms h.busQual ≤ s.now then
      let u := s.updHold (fun x => { x with busQ := true, qualAt := none })
      match u.battRail with
      | some r => if u.hold.state == .spent && u.battOn then chargeOrIdle r u else holdJudge u
      | none => u
    else s
  | _, _ => s

/-- The row BUS_BAR_ABSENT (R219, R224). -/
def busAbsent (s : State) : State :=
  if s.hold.cfg.isSome && s.hold.busQ then
    judgeBusLost (holdJudge (s.updHold (fun x => { x with busQ := false, qualAt := some s.now })))
  else s

/-- What a UV event of a rail does: EV64 + r, or in a ride the end of it (R130, R224). -/
def uvAct (r : Fin 24) (s : State) : State :=
  if s.isBatt r && s.hold.riding then
    rideSpent r 1 (s.updRail r (fun x => { x with cause := x.cause ||| 2, uvs := sat255 x.uvs }))
  else uvEvent r s

/-- The BRIDGE rails. -/
def State.bridges (s : State) : List (Fin 24) :=
  (List.finRange 24).filter (fun r => match s.rails[r].cfg with | some c => c.topo == 1 | none => false)

/-- SHARE of the HOLDUP record. -/
def State.shareMode (s : State) : Nat := match s.hold.cfg with | some h => h.share | none => 0

/-- The unit drives SHARE: SHARE = 1 or 3, awake after READY, and OWN_N in a pair (R226, R228, R240). -/
def State.drivesShare (s : State) : Bool :=
  (s.shareMode == 1 || s.shareMode == 3) && s.running && (!s.paired || s.pair.own)

/-- The row SHARE_SAMPLE (R226): `uv` is the voltage of SHARE in microvolts. -/
def shareSample (uv : Int) (s : State) : State :=
  if s.shareMode == 1 || s.shareMode == 3 then
    let bad := decide (uv < -50000) || decide (2100000 < uv)
    fireIf (bad && !s.hold.shareBad) 147 0 (s.updHold (fun h => { h with vbus := uv, shareBad := bad }))
  else s

/-- The limits of the share offset over every BRIDGE rail (R227). -/
def State.ofsOk (s : State) (o : Int) : Bool :=
  s.bridges.all (fun r => match s.rails[r].cfg with
    | some c => o.natAbs ≤ c.vset / 100 &&
        (let base : Int := (s.rails[r].vtgt : Int) - s.hold.ofs
         (c.uv : Int) + 1 < base + o && base + o + 1 < (c.ov : Int))
    | none => true)

/-- Set the share offset: the target of every BRIDGE rail moves with it (R227). -/
def setOfs (o : Int) (s : State) : State :=
  let d := o - s.hold.ofs
  let t := s.updHold (fun h => { h with ofs := o })
  if d = 0 then t else
    t.each t.bridges (fun r u => moveTarget r (((u.rails[r].vtgt : Int) + d - o).toNat) 0 u)

/-- The target fraction in use and its source, in 1/1000 (R227, R228). -/
def State.shareTarget (s : State) : Option (Q × Nat) :=
  let pin : Option (Q × Nat) := if s.hold.shareBad then none else some (Q.norm ⟨s.hold.vbus, 2000⟩, 0)
  let sp : Option (Q × Nat) := s.hold.setpoint.map (fun v => (⟨v, 1⟩, 1))
  match s.shareMode with
  | 1 => pin
  | 2 => sp
  | 3 => match pin with | some x => some x | none => sp
  | _ => none

/-- The own fraction of the shelf, in 1/1000: Isum over ILIM of the BRIDGE rails (R226). -/
def State.ownFraction (s : State) : Q :=
  let i := Q.sum (s.bridges.map (fun r => s.rails[r].isum))
  let l := (s.bridges.map s.ilim).foldl (· + ·) 0
  if l = 0 then ⟨0, 1⟩ else (i.mul ⟨10000, 1⟩).divNat l

/-- VOWN as the unit drives it on SHARE, 2.000 V times the own fraction; high impedance elsewhere (R226, R228, R240). -/
def State.vownNow (s : State) : Option Q :=
  if s.drivesShare then some (Q.norm (s.ownFraction.mul ⟨2000, 1⟩)) else none

/-- The voltage on SHARE follows the own fraction. -/
def watchShare (s : State) : State := s.updHold (fun h => { h with vown := s.vownNow })

/-- The row SHARE_LOOP_STEP (R227, R228). -/
def shareStep (s : State) : State :=
  if s.shareMode = 0 then s
  else
    let own := s.ownFraction
    let a := fitCode false 10 own.round s
    let t := a.2.updHold (fun h => { h with own := a.1 })
    let paused := s.hold.riding || s.bridges.any (fun r => s.rails[r].state != .regulating) || s.bridges.isEmpty
    match s.shareTarget with
    | none => t
    | some (tg, src) =>
      let b := fitCode false 10 tg.round t
      let u := b.2.updHold (fun h => { h with tgt := b.1, shareSrc := src })
      if paused then u
      else
        let o := if (tg.add ⟨20, 1⟩).lt own then u.hold.ofs - 1 else if (own.add ⟨20, 1⟩).lt tg then u.hold.ofs + 1 else u.hold.ofs
        if u.ofsOk o then setOfs o u else u

/-- The offset re-limited after the target or the levels of a BRIDGE rail have changed (R227, Table 10.6). -/
def reLimit (s : State) : State :=
  if s.hold.ofs = 0 || s.ofsOk s.hold.ofs then s
  else
    let k := s.hold.ofs.natAbs
    let o := ((List.range (k + 1)).reverse.find? (fun (j : Nat) => s.ofsOk (if s.hold.ofs < 0 then -(j : Int) else j))).getD 0
    setOfs (if s.hold.ofs < 0 then -(o : Int) else o) s

/-- The cap in force, W (R229). -/
def State.capW (s : State) : Nat :=
  let a := s.hold.cap
  let b := s.hold.capRoot
  10 * (if a = 0 then b else if b = 0 then a else min a b)

/-- The capped rails: the present MULTIPHASE rails (R230). -/
def State.capped (s : State) : List (Fin 24) :=
  (List.finRange 24).filter (fun r => match s.rails[r].cfg with | some c => c.topo == 0 | none => false)

/-- PNOM in units of 1/5,120,000 W (R230). -/
def State.pnom (s : State) : Nat :=
  s.capped.foldl (fun a r => match s.rails[r].cfg with | some c => a + c.vset * c.div * c.ilim | none => a) 0

/-- Fc (R230). -/
def State.capFrac (s : State) : Q :=
  let p := s.pnom
  if s.capW = 0 ∨ p = 0 then ⟨1, 1⟩
  else
    let f : Q := Q.norm ⟨s.capW * 5120000, p⟩
    if f.lt ⟨1, 10⟩ then ⟨1, 10⟩ else if Q.lt ⟨1, 1⟩ f then ⟨1, 1⟩ else f

/-- Fc and the cap limits of the capped rails are computed and announced (R230). -/
def capRecompute (s : State) : State :=
  let f := s.capFrac
  let t := s.updHold (fun h => { h with fc := f })
  t.each t.capped (fun r u => enterTerm r .cap (if f = ⟨1, 1⟩ then none else some f) u)

/-- HU_STAT.STATE code (Table 10.1). -/
def HuState.code : HuState → Nat
  | .none => 0 | .off => 1 | .idle => 2 | .charge => 3 | .ride => 4 | .handback => 5 | .spent => 6

/-- HU_STAT.STATE by code. -/
def HuState.ofCode (n : Nat) : HuState :=
  match n with | 1 => .off | 2 => .idle | 3 => .charge | 4 => .ride | 5 => .handback | 6 => .spent | _ => .none

end Sys2Proof.Machine
end

