-- ==== Sys2Proof/Machine/SeqOps.lean ====
section
/-! DEFINITION. The lamplighter (spec/07_sequencing.md): judging slots, starts, ordered stops, reverse-order shut-downs,
immediate shut-offs with links, restarts, retries and the host's strobes. -/
namespace Sys2Proof.Machine

/-- A number as a domain. -/
def toDom (n : Nat) : Option (Fin 8) := if h : n < 8 then some ⟨n, h⟩ else none
/-- The slots of a domain. -/
def State.slotsOf (s : State) (d : Fin 8) : List (Fin 48) :=
  (List.finRange 48).filter (fun n => match s.seq.slots[n].cfg with | some c => c.domain == d.val | none => false)

/-- The domain of a slot. -/
def State.slotDom (s : State) (n : Fin 48) : Option (Fin 8) := (s.seq.slots[n].cfg).bind (fun c => toDom c.domain)

/-- The rail that a slot targets. -/
def State.slotRail (s : State) (n : Fin 48) : Option (Fin 24) := (s.seq.slots[n].cfg).bind (fun c => toRail c.target)

/-- PG_INn asserted, after the polarity of SL_FLAGS bit 1. -/
def SlotS.pgIn (x : SlotS) : Bool := match x.cfg with | some c => x.pgPin != c.pgLow | none => false

/-- The MON monitor of a slot. -/
def State.slotMon (s : State) (n : Fin 48) : Option MonS :=
  (s.seq.slots[n].cfg).bind (fun c => (toMon c.mon).map (fun m => s.watch.mons[m]))

/-- The up condition of Table 7.1. -/
def State.upCond (s : State) (n : Fin 48) : Bool :=
  let x := s.seq.slots[n]
  match x.cfg with
  | none => false
  | some c =>
    match c.judge with
    | 0 => (match s.slotRail n with | some r => s.rails[r].pg | none => false)
    | 1 => (match s.slotMon n with | some m => !m.lowNow && !m.highNow | none => false)
    | 2 => x.pgIn
    | _ => x.upBy ≤ s.seq.tick

/-- The down condition of Table 7.1. -/
def State.downCond (s : State) (n : Fin 48) : Bool :=
  let x := s.seq.slots[n]
  match x.cfg with
  | none => true
  | some c =>
    match c.judge with
    | 0 => (match s.slotRail n with
        | some r => s.rails[r].state == .off &&
            (match s.rails[r].cfg with | some k => decide (s.rails[r].sense * 10 ≤ k.vset * 8) | none => true)
        | none => true)
    | 1 => (match s.slotMon n with | some m => m.lowNow | none => true)
    | 2 => !x.pgIn
    | _ => true

/-- A running-fault condition holds (R163, R164). -/
def State.runCond (s : State) (n : Fin 48) : Bool :=
  let x := s.seq.slots[n]
  match x.cfg with
  | none => false
  | some c =>
    let high := match s.slotMon n with | some m => m.highNow | none => false
    let low := match s.slotMon n with | some m => m.lowNow | none => false
    !x.pastOff && (high || (x.state == .up && (low || (c.judge == 2 && !x.pgIn))))

/-- Write a lamplighter step to the ledger (R162). -/
def logSeq (d : Fin 8) (n step : Nat) (s : State) : State := logEvent 1 d.val n (Config.logField 1 step 2) s

/-- Raise EV112 + d with a cause bit (Table 11.13). -/
def domCause (d : Fin 8) (b : Nat) (s : State) : State :=
  fire (112 + d.val) b (s.updDom d (fun x => { x with cause := x.cause ||| 2 ^ b }))

/-- The waiting values of a domain and its slots take effect at a start or a stop (Table 2.28). -/
def loadDom (d : Fin 8) (s : State) : State :=
  let t := s.updDom d (fun x => match x.next with | some c => { x with cfg := some c, next := none } | none => x)
  t.each (t.slotsOf d) (fun n u => u.updSlot n (fun x => match x.next with
    | some c => { x with cfg := some c, next := none }
    | none => x))

/-- The first tick from now on: this one where it has just come (R160). -/
def State.tickNow (s : State) : Nat := if s.now == s.seq.tickAt then s.seq.tick else s.seq.tick + 1

/-- MIN_OFF of a domain starts: its stop has ended (R179). -/
def startMinOff (d : Fin 8) (s : State) : State :=
  s.updDom d (fun x => { x with minOffAt := x.cfg.map (fun c => s.now + ms c.minOff) })

/-- A slot goes off in an immediate shut-off: SEQ_ENn low, its rail to tri-state (R176). -/
def cutSlot (n : Fin 48) (s : State) : State :=
  let t := match s.slotRail n with | some r => railCut r s | none => s
  t.updSlot n (fun x => { x with
    en := false
    pastOff := true
    falling := false
    planned := false
    state := if x.state == .downFail || x.state == .failed || x.state == .absent then x.state else .off })

/-- How an immediate shut-off came about, for the restart rules of Table 7.9: a running fault or a DOMAIN reaction, another
fault (a loss of PLL lock, the retry limit), the host, or a link. -/
inductive CutBy where
  | fault | other | host | link (host : Bool)
deriving DecidableEq, Repr

/-- The shut-off leaves the slots of a stop that are past their off points to their discharge (R174, R175, Table 7.12). -/
def CutBy.spares : CutBy → Bool
  | .fault => true | .link _ => true | .other => false | .host => false

/-- The host caused the shut-off. -/
def CutBy.isHost : CutBy → Bool
  | .host => true | .link h => h | .fault => false | .other => false

/-- What a domain becomes after an immediate shut-off (Tables 7.9 and 7.11, R175, R180). -/
def afterCut (d : Fin 8) (by_ : CutBy) (s : State) : State :=
  let x := s.seq.doms[d]
  let rst := (x.cfg.map (·.restart)).getD 0
  let off : State := s.updDom d (fun y => { y with state := .off, req := false, auto := false, restartAt := none })
  let wait : State := s.updDom d (fun y => { y with
    state := .wait, req := true, auto := true, restartAt := some (s.now + ms rst) })
  let latched : State := s.updDom d (fun y => { y with state := .latched, req := false, auto := false, restartAt := none })
  let own : State :=
    match x.after with
    | .off => off
    | .latched => latched
    | .wait => s.updDom d (fun y => { y with state := .wait, req := true, auto := false, restartAt := none })
  match x.state with
  | .starting | .up => if by_.isHost then off else if rst = 0 then off else wait
  | .reverse => latched
  | .stopping =>
    if x.after == .latched then latched
    else match by_ with
      | .link _ => own
      | .host => off
      | .fault | .other => if rst = 0 then off else wait
  | .wait =>
    if by_.isHost then off
    else if rst = 0 then s
    else s.updDom d (fun y => { y with restartAt := some (s.now + ms rst) })
  | .off | .latched | .absent => s

/-- The end of a stop once every slot is down or has failed to discharge (R171, R170). -/
def stopEnd (d : Fin 8) (s : State) : State :=
  let x := s.seq.doms[d]
  if (x.state == .stopping || x.state == .reverse) &&
      (s.slotsOf d).all (fun n => s.seq.slots[n].pastOff && !s.seq.slots[n].falling) then
    let t := startMinOff d s
    let u := t.updDom d (fun y => match y.after with
      | .off => { y with state := .off, req := false }
      | .wait => { y with state := .wait, req := true }
      | .latched => { y with state := .latched, req := false })
    judgeBusLost u
  else s

/-- An immediate shut-off of a domain is counted and goes to the ledger; a second cause in the same step finds one shut-off
(Table 7.12). -/
def countCut (d : Fin 8) (s : State) : State :=
  if s.seq.doms[d].cutAt == some s.now then s
  else logSeq d 0x3F 7 (s.updDom d (fun x => { x with shutoffs := sat255 x.shutoffs, cutAt := some s.now }))

/-- A shut-off during a stop cuts the slots that are still on; those past their off points go on to their discharge, and the
stop then ends under the restart rules of the shut-off, or its own where a link or a latch leaves them (R175, Table 7.12). -/
def cutStop (d : Fin 8) (by_ : CutBy) (s : State) : State :=
  let u := countCut d (s.each ((s.slotsOf d).filter (fun n => !s.seq.slots[n].pastOff)) cutSlot)
  let rst := (s.seq.doms[d].cfg.map (·.restart)).getD 0
  stopEnd d (u.updDom d (fun x => match by_ with
    | .fault => if x.state != .stopping || x.after == .latched then x
        else if rst = 0 then { x with after := .off }
        else { x with after := .wait, auto := true, restartAt := some (s.now + ms rst) }
    | .other | .host | .link _ => x))

/-- Immediate shut-off of one domain (R176): its slots, its end, MIN_OFF, its tally. -/
def cutDom (d : Fin 8) (by_ : CutBy) (s : State) : State :=
  let x := s.seq.doms[d]
  if x.state.isOff then afterCut d by_ s
  else if (x.state == .stopping || x.state == .reverse) && by_.spares then cutStop d by_ s
  else
    startMinOff d (afterCut d by_ (countCut d (s.each (s.slotsOf d) cutSlot)))

/-- One step of the closure over links. -/
def State.linkStep (s : State) (m : Nat) : Nat :=
  (List.finRange 8).foldl (fun a d => if natBit m d.val then a ||| ((s.seq.doms[d].cfg.map (·.link)).getD 0) else a) m

/-- Every domain connected by links to those of a mask (R176). -/
def State.linked (s : State) (m : Nat) : Nat := (List.range 8).foldl (fun a _ => s.linkStep a) m

/-- The hold-up block follows a rail or a domain that went off (R224, Table 10.6). -/
def holdFollow (s : State) : State := judgeBusLost (holdJudge s)

/-- Immediate shut-off of a mask of domains and of every domain linked to one (R176). -/
def shutOff (mask : Nat) (by_ : CutBy) (s : State) : State :=
  let all := s.linked mask
  let host := match by_ with | .host => true | _ => false
  let t := s.each ((List.finRange 8).filter (fun d => natBit all d.val && s.seq.doms[d].cfg.isSome)) (fun d u =>
    if natBit mask d.val then cutDom d by_ u
    else cutDom d (.link host) (u.updDom d (fun x => { x with cause := x.cause ||| 128 })))
  forward (.shutoff (BitVec.ofNat 8 mask)) (holdFollow t)

/-- The faults of a domain within the last RETRY_WIN minutes (R181). -/
def State.faultsIn (s : State) (d : Fin 8) : List Nat :=
  let x := s.seq.doms[d]
  let w := (x.cfg.map (·.retryWin)).getD 0
  x.faults.filter (fun t => s.now < t + sec (60 * w))

/-- A counted fault: at RETRY_LIM the domain latches, shut off first if it is not off (R181). At most 15 are kept (log entry
32). -/
def countFault (d : Fin 8) (s : State) : State :=
  let l := (s.now :: s.faultsIn d).take 15
  let t := s.updDom d (fun x => { x with faults := l })
  let lim := (s.seq.doms[d].cfg.map (·.retryLim)).getD 1
  if l.length ≥ lim && s.seq.doms[d].state != .latched && s.seq.doms[d].cfg.isSome then
    let u := if t.seq.doms[d].state.isOff then t else shutOff (2 ^ d.val) .other t
    domCause d 6 (u.updDom d (fun x => { x with state := .latched, req := false, auto := false, restartAt := none }))
  else t

/-- A standby that follows its active reports a verdict and leaves the acting to it (R265). -/
def reportVerdict (v : Verdict) (act : State → State) (s : State) : State :=
  if s.follows then sendCtrl (.verdict v) s else act s

/-- A running-fault verdict (R163, R175, R177). -/
def runFault (n : Fin 48) (s : State) : State :=
  match s.slotDom n with
  | none => s
  | some d =>
    reportVerdict (.runFault n) (fun t =>
      let u := logSeq d n.val 5 ((t.updSlot n (fun x => { x with state := .failed })).updDom d (fun x => { x with slot := n.val }))
      countFault d (shutOff (2 ^ d.val) .fault (domCause d 0 u))) s

/-- Judge running faults on slots, on states and at once (R163); two faults in one step count as two (R181). -/
def judgeRun (l : List (Fin 48)) (s : State) : State := s.each (l.filter s.runCond) runFault

/-- The slots that a monitor serves as MON. -/
def State.monSlots (s : State) (m : Fin 96) : List (Fin 48) :=
  (List.finRange 48).filter (fun n => match s.seq.slots[n].cfg with | some c => c.mon == m.val | none => false)
/-- The slots that a monitor serves as WARN. -/
def State.warnSlots (s : State) (m : Fin 96) : List (Fin 48) :=
  (List.finRange 48).filter (fun n => match s.seq.slots[n].cfg with | some c => c.warn == m.val | none => false)

/-- The low comparator of a monitor raises its source: always, or for a MON or WARN monitor only while its slot is up and
before its off point (R164). -/
def State.lowRaises (s : State) (m : Fin 96) : Bool :=
  (s.monSlots m ++ s.warnSlots m).all (fun n => s.seq.slots[n].state == .up && !s.seq.slots[n].pastOff)

/-- A WARN monitor leaves its window (R165). -/
def warnTrip (m : Fin 96) (s : State) : State :=
  s.each (s.warnSlots m) (fun n t => t.updSlot n (fun x =>
    if x.state == .up && !x.pastOff then { x with warn := true, warnCnt := sat255 x.warnCnt } else x))

/-- A domain has an input to qualify. -/
def DomS.hasInput (x : DomS) : Bool := match x.cfg with | some c => c.input != 255 | none => false

/-- The start condition (R167, R180). -/
def State.startCond (s : State) (d : Fin 8) : Bool :=
  let x := s.seq.doms[d]
  x.req && x.cfg.isSome && (!x.hasInput || x.inQ) && (match x.minOffAt with | some t => t ≤ s.now | none => true) &&
    (match x.restartAt with | some t => t ≤ s.now | none => true) && x.state == .wait &&
    (s.slotsOf d).all (fun n => match s.slotRail n with | some r => s.rails[r].state != .snuff | none => true)

/-- The qualification of a domain's input is discarded at the beginning of a stop (R173). -/
def discardInput (d : Fin 8) (s : State) : State :=
  s.updDom d (fun x => if x.hasInput then { x with inQ := false, afresh := true, qualAt := none } else x)

/-- Insert a slot by descending ON_DELAY, then descending instance (R170). -/
def insertOff (a : Nat × Fin 48) : List (Nat × Fin 48) → List (Nat × Fin 48)
  | [] => [a]
  | b :: t => if b.1 < a.1 ∨ (b.1 = a.1 ∧ b.2 < a.2) then a :: b :: t else b :: insertOff a t

/-- Insert a number into a rising list. -/
def insertNat (a : Nat) : List Nat → List Nat
  | [] => [a]
  | b :: t => if a ≤ b then a :: b :: t else b :: insertNat a t

/-- Plan the off points of a stop from a common stop tick; `assigned` gives the off-delays in reverse order (R170), else
each slot keeps its own (R160). Slots not switched on stay off. -/
def planStop (d : Fin 8) (tick : Nat) (assigned : Bool) (s : State) : State :=
  let on := (s.slotsOf d).filter (fun n => !s.seq.slots[n].pastOff)
  let own (n : Fin 48) : Nat := (s.seq.slots[n].cfg.map (·.offDelay)).getD 0
  let delays : List (Fin 48 × Nat) :=
    if assigned then
      let order := (on.map (fun n => ((s.seq.slots[n].cfg.map (·.onDelay)).getD 0, n))).foldr insertOff []
      (order.map (·.2)).zip ((on.map own).foldr insertNat [])
    else on.map (fun n => (n, own n))
  let t := s.each (s.slotsOf d) (fun n u => u.updSlot n (fun x => if x.state == .pending then { x with state := .off } else x))
  let u := t.each delays (fun p v => v.updSlot p.1 (fun x => { x with
    planned := true
    offAt := tick + p.2
    downBy := tick + p.2 + (x.cfg.map (·.downTo)).getD 0 }))
  u.updDom d (fun x => { x with stopTick := tick })

/-- An ordered stop or an abandoned start begins (R171, R172). The common stop is the first tick from now on; a start that is
abandoned finishes on the values it began with (R48). -/
def stopBegin (d : Fin 8) (after : AfterStop) (s : State) : State :=
  let x := s.seq.doms[d]
  if x.state == .up || x.state == .starting then
    let v := if x.state == .up then loadDom d s else s
    let t := discardInput d (planStop d s.tickNow (x.state == .starting) v)
    logSeq d 0x3F 8 (t.updDom d (fun y => { y with state := .stopping, after := after, req := false, auto := false }))
  else s

/-- A slot fails to come up (R170). -/
def failStart (d : Fin 8) (n : Fin 48) (s : State) : State :=
  let t := s.updSlot n (fun x => { x with state := .failed })
  let u := discardInput d (planStop d s.seq.tick true t)
  domCause d 2 (logSeq d n.val 4 (u.updDom d (fun x => { x with
    state := .reverse, after := .latched, slot := n.val, req := false, auto := false, noStarts := sat255 x.noStarts })))

/-- The slots of STARTING domains that come up at this tick (R163, R169). -/
def tickUp (d : Fin 8) (s : State) : State :=
  let rise := (s.slotsOf d).filter (fun n =>
    let x := s.seq.slots[n]
    x.state == .comingUp && !x.pastOff && x.onAt < s.seq.tick && s.seq.tick ≤ max x.upBy (x.onAt + 1) && s.upCond n)
  let t := s.each rise (fun n u => logSeq d n.val 2 ((u.updSlot n (fun x => { x with state := .up })).updDom d (fun x => { x with slot := n.val })))
  let u := judgeRun rise t
  if u.seq.doms[d].state == .starting && (u.slotsOf d).all (fun n => u.seq.slots[n].state == .up) then
    u.updDom d (fun x => { x with state := .up })
  else u

/-- The slots past their off points that are down at this tick (R163). -/
def tickDown (d : Fin 8) (s : State) : State :=
  let fall := (s.slotsOf d).filter (fun n => s.seq.slots[n].falling && s.seq.slots[n].offAt < s.seq.tick && s.downCond n)
  let t := s.each fall (fun n u => logSeq d n.val 3 ((u.updSlot n (fun x => { x with
    falling := false, state := if x.state == .goingDown then .off else x.state })).updDom d (fun x => { x with slot := n.val })))
  stopEnd d t

/-- The verdicts of a tick (R163). -/
def judgeTick (s : State) : State := s.each (List.finRange 8) (fun d u => tickDown d (tickUp d u))

/-- The next tick, `t` at the latest, at which a slot is up or down, or a stop ends (R163). -/
def State.verdictTick (s : State) (t : Nat) : Nat :=
  let k := s.seq.tick + 1
  let slot (n : Fin 48) : Nat :=
    let x := s.seq.slots[n]
    let late : Bool := match x.cfg with | some c => decide (3 ≤ c.judge) | none => false
    if x.state == .comingUp && !x.pastOff && (late || s.upCond n) then max k (max (x.onAt + 1) (if late then x.upBy else 0))
    else if x.falling && s.downCond n then max k (x.offAt + 1)
    else t
  let dom (d : Fin 8) : Nat :=
    if (s.seq.doms[d].state == .stopping || s.seq.doms[d].state == .reverse) &&
        (s.slotsOf d).all (fun n => s.seq.slots[n].pastOff && !s.seq.slots[n].falling) then k else t
  min t (((List.finRange 48).map slot ++ (List.finRange 8).map dom).foldl min t)

/-- The start condition of a domain holds, on the unit that decides for it. -/
def State.canStart (s : State) (d : Fin 8) : Bool :=
  s.running && s.startCond d && (!s.paired || s.pair.role == .active)

/-- The row DOMAIN_COMMON_START (R160, R167), at the first tick at which the start condition holds. -/
def commonStart (d : Fin 8) (s : State) : State :=
  if s.canStart d then
    let t := loadDom d s
    let u := t.each (t.slotsOf d) (fun n v => v.updSlot n (fun x => { x with
      state := .pending
      pastOff := true
      falling := false
      planned := false
      onAt := s.seq.tick + (x.cfg.map (·.onDelay)).getD 0
      upBy := s.seq.tick + (x.cfg.map (·.onDelay)).getD 0 + (x.cfg.map (·.upTo)).getD 0 }))
    let v := u.updDom d (fun x => { x with
      state := if (t.slotsOf d).isEmpty then .up else .starting
      startTick := s.seq.tick
      req := false
      restarts := if x.auto then sat255 x.restarts else x.restarts
      auto := false
      restartAt := none
      minOffAt := none
      after := .off })
    logSeq d 0x3F 9 v
  else s

/-- A slot switches on (R160): SEQ_ENn high and its rail's on ramp. -/
def slotOn (n : Fin 48) (s : State) : State :=
  let t := match s.slotRail n with
    | some r =>
      let u := railStart r s
      let v := if u.battRail == some r then holdJudge (holdDrop r u) else u
      -- OV snuff is armed from here on: a comparator that reads above OV acts at once (R127)
      if v.rails[r].ovCmp && v.ovArmed r then ovTrip r v else v
    | none => s
  let u := t.updSlot n (fun x => { x with state := .comingUp, en := true, pastOff := false, falling := false, planned := false, onAt := s.seq.tick })
  match s.slotDom n with
  | some d => logSeq d n.val 0 u
  | none => u

/-- A slot of the domain has failed to come up at this tick: that verdict comes before a switch-on (Table 7.12). -/
def State.failDue (s : State) (d : Fin 8) : Bool :=
  (s.slotsOf d).any (fun n =>
    let x := s.seq.slots[n]
    x.state == .comingUp && !x.pastOff && x.upBy ≤ s.seq.tick && x.onAt < s.seq.tick && !s.upCond n)

/-- The row SLOT_SWITCH_ON (R160, R170): the slots of the domain whose tick has come switch on in one step. -/
def switchOn (n : Fin 48) (s : State) : State :=
  match s.slotDom n with
  | none => s
  | some d =>
    let ready (i : Fin 48) : Bool := s.seq.slots[i].state == .pending && decide (s.seq.slots[i].onAt ≤ s.seq.tick)
    if s.seq.doms[d].state == .starting && ready n && !s.failDue d && !s.follows then
      let l := (s.slotsOf d).filter ready
      judgeRun l (s.each l (fun i t => forward (.lampStep i true) (slotOn i t)))
    else s

/-- A slot reaches its off point (R160): SEQ_ENn low, its rail's off ramp begins. The reverse-order shut-down of a failed start
counts as the ordered stop of R148, and posts no FAULT notice (DEDUCED, log entry 145). -/
def slotOff (n : Fin 48) (s : State) : State :=
  let t := match s.slotRail n with | some r => railStop r s | none => s
  let u := t.updSlot n (fun x => { x with
    en := false
    pastOff := true
    falling := true
    planned := false
    offAt := s.seq.tick
    state := if x.state == .failed then .failed else .goingDown })
  match s.slotDom n with
  | some d => logSeq d n.val 1 u
  | none => u

/-- A lamplighter step of the active (R264). -/
def lampIn (n : Fin 48) (on : Bool) (s : State) : State := if on then slotOn n s else slotOff n s

/-- The forwarded lamplighter steps act at a tick (R264). -/
def fwdTick (s : State) : State :=
  fwdTake (fun c => match c with | .lampStep _ _ => true | _ => false) (fun c u => match c with | .lampStep n on => lampIn n on u | _ => u) s

/-- The row LAMPLIGHTER_TICK (R159, R163). -/
def lampTick (s : State) : State :=
  if s.running then judgeTick (fwdTick { s with seq := { s.seq with tick := s.seq.tick + 1, tickAt := s.now } })
  else s

/-- The row SLOT_OFF_POINT (R160): the slots of the domain whose off points have come go off in one step. -/
def offPoint (n : Fin 48) (s : State) : State :=
  let past (i : Fin 48) : Bool := s.seq.slots[i].planned && decide (s.seq.slots[i].offAt ≤ s.seq.tick)
  match s.slotDom n with
  | none => s
  | some d =>
    if past n && !s.follows then
      s.each ((s.slotsOf d).filter past) (fun i t => forward (.lampStep i false) (slotOff i t))
    else s

/-- The row UP_TO_EXPIRY (R163, R170). A slot that fails to come up while its domain already goes down has its verdict, and the
sequence goes on. -/
def upToEnd (n : Fin 48) (s : State) : State :=
  match s.slotDom n with
  | none => s
  | some d =>
    let x := s.seq.slots[n]
    if x.state == .comingUp && !x.pastOff && x.upBy ≤ s.seq.tick && x.onAt < s.seq.tick && !s.upCond n && !s.follows then
      (match s.seq.doms[d].state with
        | .starting => failStart d n s
        | .reverse | .stopping => logSeq d n.val 4 ((s.updSlot n (fun y => { y with state := .failed })).updDom d (fun y =>
            { y with slot := n.val }))
        | .off | .wait | .up | .latched | .absent => s)
    else s

/-- The row DOWN_TO_EXPIRY (R174). -/
def downToEnd (n : Fin 48) (s : State) : State :=
  match s.slotDom n with
  | none => s
  | some d =>
    let x := s.seq.slots[n]
    if x.falling && x.downBy ≤ s.seq.tick && x.offAt < s.seq.tick && !s.downCond n && !s.follows then
      let t := match s.slotRail n, x.cfg with
        | some r, some c =>
          if c.snuffOk && (match s.rails[r].cfg with | some k => k.topo != 2 | none => false) then
            forward (.snuff r) (railSnuff r s) else s
        | _, _ => s
      let u := (t.updSlot n (fun y => { y with state := .downFail, falling := false })).updDom d (fun y =>
        { y with after := .latched, slot := n.val })
      stopEnd d (domCause d 3 (logSeq d n.val 6 u))
    else s

/-- The row PG_IN_CHANGE (R163). -/
def pgInEdge (n : Fin 48) (level : Bool) (s : State) : State :=
  judgeRun [n] (s.updSlot n (fun x => { x with pgPin := level }))

/-- The row DOMAIN_INPUT_QUALIFIED (R166, R53): an input outside its window, or below its rising threshold, does not qualify;
the bus bar lies below BUS_RISE while the ride comparator stands tripped. -/
def inputQualified (d : Fin 8) (s : State) : State :=
  let x := s.seq.doms[d]
  match x.cfg, x.qualAt with
  | some c, some t =>
    let out := (match toMon c.input with | some m => s.outside m (s.riseOf m) | none => false) ||
      ((match s.hold.cfg with | some h => h.busMon == c.input | none => false) && s.hold.rideCmp && s.rideOn)
    if x.hasInput && !x.inQ && !x.afresh && !out && t + ms c.qual ≤ s.now then
      let y := { x with inQ := true, qualAt := none }
      s.updDom d (fun _ => y)
    else s
  | _, _ => s

/-- The row DOMAIN_INPUT_LOST (R166, R171, R172). -/
def inputLost (d : Fin 8) (s : State) : State :=
  let x := s.seq.doms[d]
  if x.hasInput && x.inQ then
    let t := s.updDom d (fun y => { y with inQ := false, qualAt := some s.now, cause := y.cause ||| 32 })
    let after : AfterStop := if (match x.cfg with | some c => c.start == 1 | none => false) then .off else .wait
    stopBegin d after t
  else s

/-- The row MIN_OFF_EXPIRY (R173, R179): a qualify time that waited for it begins. -/
def minOffEnd (d : Fin 8) (s : State) : State :=
  let x := s.seq.doms[d]
  if due s.now x.minOffAt then
    s.updDom d (fun y => { y with minOffAt := none, afresh := false, qualAt := if y.afresh then some s.now else y.qualAt })
  else s

/-- The row RESTART_EXPIRY (R180). -/
def restartEnd (d : Fin 8) (s : State) : State :=
  s.updDom d (fun x => if due s.now x.restartAt then { x with restartAt := none } else x)

/-- The row RETRY_WINDOW_EXPIRY (R181). -/
def retryAge (d : Fin 8) (s : State) : State := let l := s.faultsIn d; s.updDom d (fun x => { x with faults := l })

/-- A strobe is refused (R183). -/
def seqRefuse (d : Fin 8) (s : State) : State := s.updDom d (fun x => { x with refused := true })

/-- START (Table 7.11). -/
def seqStart (d : Fin 8) (s : State) : State :=
  match s.seq.doms[d].state with
  | .off => s.updDom d (fun x => { x with state := .wait, req := true, auto := false, restartAt := none })
  | .wait => s.updDom d (fun x => { x with restartAt := none })
  | .starting | .up => s
  | .stopping | .reverse | .latched | .absent => seqRefuse d s

/-- STOP (Table 7.11). -/
def seqStop (d : Fin 8) (s : State) : State :=
  match s.seq.doms[d].state with
  | .wait => s.updDom d (fun x => { x with state := .off, req := false, auto := false, restartAt := none })
  | .starting | .up => stopBegin d .off s
  | .off | .stopping | .reverse | .latched => s
  | .absent => seqRefuse d s

/-- SHUTOFF (Table 7.11), also as FTRIP asks it (R298): an ABSENT domain refuses it; LATCHED and OFF domains stay as they
are. -/
def seqShutoff (mask : Nat) (s : State) : State :=
  let t := s.each ((List.finRange 8).filter (fun d => natBit mask d.val)) (fun d u =>
    if u.seq.doms[d].state == .absent then seqRefuse d u else u.updDom d (fun x => { x with cause := x.cause ||| 256 }))
  shutOff mask .host t

/-- A host write of SHUTOFF (Table 7.11). -/
def hostShutoff (d : Fin 8) (s : State) : State :=
  if s.seq.doms[d].state == .absent then seqRefuse d s else seqShutoff (2 ^ d.val) s

/-- UNLATCH (Table 7.11, R182): DOWN_FAIL ends. -/
def seqUnlatch (d : Fin 8) (s : State) : State :=
  if s.seq.doms[d].state == .latched then
    let t := s.updDom d (fun x => { x with state := .off, faults := [], req := false })
    t.each (t.slotsOf d) (fun n u => u.updSlot n (fun x => if x.state == .downFail then { x with state := .off } else x))
  else seqRefuse d s

/-- RETRY_CLR (Table 7.11). -/
def seqRetryClr (d : Fin 8) (s : State) : State :=
  if s.seq.doms[d].state == .absent then seqRefuse d s else s.updDom d (fun x => { x with faults := [] })

/-- The standby of a pair refuses every strobe (R183). -/
def seqStrobe (d : Fin 8) (f : State → State) (s : State) : State :=
  if s.paired && s.pair.role == .standby then seqRefuse d s else f s

/-- The slots, and the whole domains, that a source maps to (Table 7.7). -/
def State.mapsTo (s : State) (src sub : Nat) : List (Fin 48) × Nat :=
  let railSlots (r : Fin 24) : List (Fin 48) := (List.finRange 48).filter (fun n => s.slotRail n == some r)
  let everyDom : Nat := maskOf ((List.finRange 8).map (fun d => s.seq.doms[d].cfg.isSome))
  if src < 64 then
    (match toPhase src with | some n => (match s.railOf n with | some r => railSlots r | none => []) | none => [], 0)
  else if src < 88 then (match toRail (src - 64) with | some r => railSlots r | none => [], 0)
  else if src < 96 then
    (match toPort (src - 88) with
      | some p => (List.finRange 24).flatMap (fun r => match s.rails[r].cfg with
          | some c => if c.lport = p.val then railSlots r else []
          | none => [])
      | none => [], 0)
  else if src < 112 then
    match toMon (6 * (src - 96) + sub / 2) with
    | some m =>
      (s.monSlots m ++ s.warnSlots m,
        maskOf ((List.finRange 8).map (fun d => match s.seq.doms[d].cfg with | some c => c.input == m.val | none => false)))
    | none => ([], 0)
  else if src < 120 then
    (match toDom (src - 112) with
      | some d => ([], s.linked (2 ^ d.val) - 2 ^ d.val)
      | none => ([], 0))
  else ([], everyDom)

/-- The domains that a source maps to directly. -/
def State.mapDoms (s : State) (src sub : Nat) : Nat :=
  let p := s.mapsTo src sub
  maskOf ((List.finRange 8).map (fun d => natBit p.2 d.val || p.1.any (fun n => s.slotDom n == some d)))

/-- A DOMAIN reaction of EV112 + d (Table 7.7): the domains linked to SDd are shut off, never SDd itself. -/
def linksReact (src : Nat) (s : State) : State :=
  let ds := (List.finRange 8).filter (fun e => e.val + 112 != src && natBit (s.linked (2 ^ (src - 112))) e.val && s.seq.doms[e].cfg.isSome)
  let s1 := s.each ds (fun e u => cutDom e (.link false) (u.updDom e (fun x => { x with
    cause := if x.state.isOff then x.cause ||| 128 else x.cause ||| 130, src := src })))
  let s2 := if ds.any (fun e => !s.seq.doms[e].state.isOff) then addTally 2 1 s1 else s1
  if ds.isEmpty then s2
  else forward (.shutoff (BitVec.ofNat 8 (maskOf ((List.finRange 8).map (fun e => ds.contains e))))) (holdFollow s2)

/-- A DOMAIN reaction (R174 to R177): domains whose mapped slots are all past their off points in a stop record it and go
on; the others are shut off with their links. -/
def domainReact (src sub : Nat) (s : State) : State :=
  if 112 ≤ src && src < 120 then linksReact src s else
  let p := s.mapsTo src sub
  let m := s.mapDoms src sub
  let only (d : Fin 8) : Bool :=
    (s.seq.doms[d].state == .stopping || s.seq.doms[d].state == .reverse) &&
      (if natBit p.2 d.val then s.slotsOf d else p.1.filter (fun n => s.slotDom n == some d)).all (fun n => s.seq.slots[n].pastOff)
  let ds := (List.finRange 8).filter (fun d => natBit m d.val)
  let cut := maskOf ((List.finRange 8).map (fun d => natBit m d.val && !only d))
  let found := ds.any (fun d => natBit cut d.val && !s.seq.doms[d].state.isOff)
  let s1 := s.each ds (fun d u => u.updDom d (fun x => { x with src := src }))
  let s2 := s1.each (ds.filter only) (fun d u => domCause d 4 u)
  let s3 := s2.each (ds.filter (fun d => natBit cut d.val && !s.seq.doms[d].state.isOff)) (fun d u =>
    u.updDom d (fun x => { x with cause := x.cause ||| 2 }))
  let s4 := if found then addTally 2 1 s3 else s3
  if cut = 0 then s4 else shutOff cut .fault s4

/-- A firing with F_RETRY counts as a fault of every domain it maps to directly (R181). -/
def retryReact (src sub : Nat) (s : State) : State :=
  if 112 ≤ src && src ≤ 119 then s
  else
    let m := s.mapDoms src sub
    s.each ((List.finRange 8).filter (fun d => natBit m d.val)) (fun d u => countFault d (u.updDom d (fun x => { x with src := src })))

/-- An OV snuff of a rail whose slot is past its off point in a stop is recorded there (R174), unless the reaction of its
source records it. -/
def ovInStop (r : Fin 24) (s : State) : State :=
  match s.domainOf r with
  | none => s
  | some d =>
    let past := (List.finRange 48).any (fun n => s.slotRail n == some r && s.seq.slots[n].pastOff)
    let stop := s.seq.doms[d].state == .stopping || s.seq.doms[d].state == .reverse
    let f := s.cfg.react.toList.getD (64 + r.val) 0
    if past && stop && f % 16 != 5 then domCause d 4 s else s

/-- What an OV trip of an armed rail does: the snuff, the record of a stop, and the hold-up state (R127, Table 10.6). A
standby that follows reports a verdict, and its streams are unchanged (R265, Table 12.4). -/
def ovAct (r : Fin 24) (s : State) : State :=
  if s.follows then
    sendCtrl (.verdict (.ovSnuff r)) (fire (64 + r.val) 0 (s.updRail r (fun x => { x with
      cause := x.cause ||| 1, ovs := sat255 x.ovs })))
  else holdFollow (ovInStop r (ovTrip r s))

/-- A loss of PLL lock shuts off each domain with an internal rail on (R16, R177). A rail that is OFF or in SNUFF is not on: a
domain with no other internal rail is left alone (log entry 115). -/
def pllShutoff (s : State) : State :=
  let m := maskOf ((List.finRange 8).map (fun d => (s.slotsOf d).any (fun n => match s.slotRail n with
    | some r => s.rails[r].state == .rampUp || s.rails[r].state == .regulating || s.rails[r].state == .rampDown
    | none => false)))
  if m = 0 then s
  else shutOff m .other (s.each ((List.finRange 8).filter (fun d => natBit m d.val)) (fun d u =>
    u.updDom d (fun x => { x with cause := x.cause ||| 512 })))

/-- WAIT_FOR (Table 7.13). -/
def State.waitFor (s : State) (d : Fin 8) : Nat :=
  let x := s.seq.doms[d]
  if x.state != .wait then 0
  else if (match x.minOffAt with | some t => decide (s.now < t) | none => false) then 1
  else if (match x.restartAt with | some t => decide (s.now < t) | none => false) then 2
  else if x.hasInput && !x.inQ then 3 else 0

/-- SEQ_SL_STAT.STATE code (Table 7.16). -/
def SlotState.code : SlotState → Nat
  | .absent => 0 | .off => 1 | .pending => 2 | .comingUp => 3 | .up => 4 | .goingDown => 5 | .downFail => 6 | .failed => 7

end Sys2Proof.Machine
end

