-- ==== Sys2Proof/Machine/WatchOps.lean ====
section
/-! DEFINITION. Window monitors, capture timers, the self-test and the sweep (spec/08_window_monitors.md), and the beginning
of a wake from sleep (R78). -/
namespace Sys2Proof.Machine

/-- The wake request to the islands whose clocks the chip generates (R22); it cannot wake the others (R23). -/
def Islands.wake (x : Islands) : Islands :=
  let up (i : Isl) : Isl := if i == .stopped then .restarting else i
  { x with
    pwm := up x.pwm, capture := up x.capture, housekeeping := up x.housekeeping, host := up x.host
    moduleBus := up x.moduleBus, memory := up x.memory }

/-- A wake source occurs: in sleep, with its enable set, it starts the wake (R78, Table 3.6 step 1). -/
def wakeBegin (bit : Nat) (s : State) : State :=
  if s.mode == .sleep && natBit s.slp.wakeEn bit then
    { s with mode := .wake, wakeStep := 1, arch := { s.arch with islands := s.arch.islands.wake }, slp := { s.slp with woke := bit, scrubbed := false, alarmAt := none } }
  else s

/-- The monitor is powered: present, in any mode that has a pattern; in sleep only with a ROUTE bit 0 to 2 set (R77, R192). -/
def State.monRuns (s : State) (m : Fin 96) : Bool :=
  match s.watch.mons[m].cfg with
  | none => false
  | some c => if s.mode == .sleep then c.route % 8 != 0 else !(s.mode == .por || s.mode == .held || s.mode == .test || s.mode == .testWait)

/-- The response time of a continuous mode, ns (Table 8.2). -/
def respNs (mode : Nat) : Nat := if mode = 1 then 15 else if mode = 2 then 150 else 5000

/-- Waiting values take effect at the next decision (Table 2.28, R188). -/
def MonS.load (x : MonS) : MonS := match x.next with | some c => { x with cfg := some c, next := none } | none => x

/-- Waiting values of a monitor in a continuous mode take effect at once, within the 1 us of Table 2.28; under a self-test they
wait for its resume sample (Table 8.6). -/
def monLoadNow (m : Fin 96) (s : State) : State :=
  if s.monWick m || (s.watch.mons[m]).test.isSome then s else s.updMon m MonS.load

/-- Arm a capture timer (R194): modes 1 and 2 count from 0 now; mode 3 is idle. -/
def ctArm (t : Fin 16) (s : State) : State :=
  s.updCt t (fun x => { x with
    state := if x.cfg.mode = 0 then 0 else if x.cfg.mode = 3 then 1 else 2
    start := s.now
    satNow := false })

/-- The raw count of a timer at this moment (R194): 400 MHz over 2^PRESCALE. -/
def State.ctRaw (s : State) (t : Fin 16) : Nat :=
  let x := s.watch.cts[t]
  (s.now - x.start) * 2 / (5 * 2 ^ x.cfg.prescale)

/-- An edge is dropped or a count saturates: LOST, the tally and EV189 (R196). -/
def ctLost (t : Fin 16) (s : State) : State := fire 189 t.val (addTally 23 1 (s.updCt t (fun x => { x with lost := true })))

/-- The count in progress has run full and has not been marked saturated (R194). -/
def State.ctFull (s : State) (t : Fin 16) : Bool :=
  let x := s.watch.cts[t]
  x.state = 2 && (x.cfg.mode = 1 || x.cfg.mode = 3) && !x.satNow && s.ctRaw t ≥ 0xFFFFFFFF

/-- The count in progress saturates (R194, R196); once per count. -/
def ctSaturate (t : Fin 16) (s : State) : State :=
  if s.ctFull t && !s.blockDown .capture then ctLost t (s.updCt t (fun y => { y with sat := true, satNow := true }))
  else s

/-- An edge within 10 ns of the timer's previous capture (R196). -/
def CtS.tooSoon (x : CtS) (now : Nat) : Bool := match x.lastCap with | some c => decide (now < c + 10) | none => false

/-- A capture: the result set is published and written to the ledger (R195); within 10 ns of the previous one it is dropped
(R196). -/
def ctCapture (t : Fin 16) (mon comp : Nat) (s0 : State) : State :=
  let s := ctSaturate t s0
  let x := s.watch.cts[t]
  if x.tooSoon s.now then ctLost t s
  else
    let n := if x.cfg.mode = 2 then s.ctRaw t % 2 ^ 32 else min 0xFFFFFFFF (s.ctRaw t)
    let u := s.updCt t (fun y => { y with
      missed := if y.fresh then sat255 y.missed else y.missed
      lastCap := some s.now
      seq := (y.seq + 1) % 256
      fresh := true
      resSat := y.satNow
      mon := mon
      comp := comp
      count := n
      state := if y.cfg.mode = 1 then 3 else if y.cfg.mode = 3 then 1 else y.state
      satNow := if y.cfg.mode = 3 then false else y.satNow })
    logStep 4 0 t.val n u

/-- A trip edge reaches a timer (Table 8.4); `first` and `second` tell whether the monitor feeds it as its own and as its
CT_SECOND monitor. -/
def ctEdge (t : Fin 16) (mon comp : Nat) (first second : Bool) (s : State) : State :=
  let x := s.watch.cts[t]
  if s.blockDown .capture then s
  else match x.cfg.mode with
  | 1 => if first && x.state = 2 then ctCapture t mon comp s else s
  | 2 => if first && x.state = 2 then ctCapture t mon comp s else s
  | 3 =>
    if x.state = 1 && first then if x.tooSoon s.now then ctLost t s else s.updCt t (fun y => { y with state := 2, start := s.now, satNow := false })
    else if x.state = 2 && second then ctCapture t mon comp s
    else s
  | _ => s

/-- The trip edge of a monitor reaches the timers it feeds (R194). -/
def ctFeed (m : Fin 96) (comp : Nat) (s : State) : State :=
  match s.watch.mons[m].cfg with
  | none => s
  | some c => s.each (List.finRange 16) (fun t u =>
      let first := natBit c.route 3 && c.ct == t.val
      let second := u.watch.cts[t].cfg.second == m.val
      if first || second then ctEdge t m.val comp first second u else u)

/-- The inputs that a monitor qualifies become absent at its trip (R166, R189, R219). -/
def inputTrip (m : Fin 96) (comp : Nat) (s : State) : State :=
  let t := s.each ((List.finRange 8).filter (fun d => match s.seq.doms[d].cfg with | some c => c.input == m.val | none => false)) inputLost
  if comp = 0 && (match s.hold.cfg with | some h => h.busMon == m.val | none => false) then busAbsent t else t

/-- A trip edge of comparator `comp` (0 low, 1 high) and its consumers (R188, R189, R164, R165). A fence ignores ROUTE bits 0
to 2 (Table 11.4). -/
def tripEdge (m : Fin 96) (comp : Nat) (s : State) : State :=
  match s.watch.mons[m].cfg with
  | none => s
  | some c =>
    let x := s.watch.mons[m]
    let t := s.updMon m (fun y => { y with
      lowNow := y.lowNow || comp == 0
      highNow := y.highNow || comp == 1
      lowCnt := if comp = 0 then 0 else y.lowCnt
      highCnt := if comp = 1 then 0 else y.highCnt
      lowAt := if comp = 0 then none else y.lowAt
      highAt := if comp = 1 then none else y.highAt
      lowTrip := y.lowTrip || comp == 0
      highTrip := y.highTrip || comp == 1
      trips := sat255 y.trips })
    let gate := comp == 1 || s.lowRaises m
    let t1 := fireIf (natBit c.route comp && !x.fenced && gate) (96 + m.val / 6) (m.val % 6 * 2 + comp) t
    let t2 := if natBit c.route 2 && !x.fenced then wakeBegin 1 t1 else t1
    inputTrip m comp (judgeRun (t2.monSlots m) (warnTrip m (ctFeed m comp t2)))

/-- One comparator after a decision: whether it is tripped, whether this is a trip edge, and its filter count (R188). -/
def filterStep (beyond clear now : Bool) (cnt f : Nat) : Bool × Bool × Nat :=
  if now then (!clear, false, 0)
  else if beyond then (if cnt + 1 ≥ f then (true, true, 0) else (false, false, cnt + 1))
  else (false, false, 0)

/-- Whether the input lies beyond each threshold, and meets each clearing level (R188). -/
def MonCfg.beyond (c : MonCfg) (v : Nat) : Bool × Bool × Bool × Bool :=
  (v < thresh c.low, thresh (c.low + c.hyst) < v, thresh c.high < v, v + thresh c.hyst < thresh c.high)

/-- A decision of both comparators in wick operation (R188, R190). -/
def wickDecide (m : Fin 96) (v : Nat) (s0 : State) : State :=
  let s := s0.updMon m MonS.load
  let x := s.watch.mons[m]
  match x.cfg with
  | none => s
  | some c =>
    let b := c.beyond v
    let l := filterStep b.1 b.2.1 x.lowNow x.lowCnt c.filter
    let h := filterStep b.2.2.1 b.2.2.2 x.highNow x.highCnt c.filter
    let t := s.updMon m (fun y => { y with
      v := v, lowNow := l.1, highNow := h.1, lowCnt := l.2.2, highCnt := h.2.2 })
    let t1 := if l.2.1 then tripEdge m 0 t else t
    if h.2.1 then tripEdge m 1 t1 else t1

/-- A decision of both comparators in a continuous mode (R188): beyond its threshold a comparator trips at once with a filter
of 1, and otherwise starts its filter time. -/
def contDecide (m : Fin 96) (v : Nat) (s0 : State) : State :=
  let s := s0.updMon m MonS.load
  let x := s.watch.mons[m]
  match x.cfg with
  | none => s
  | some c =>
    let b := c.beyond v
    let t := s.updMon m (fun y => { y with
      v := v
      lowNow := y.lowNow && !b.2.1
      highNow := y.highNow && !b.2.2.2
      lowAt := if b.1 && !y.lowNow then some (y.lowAt.getD s.now) else none
      highAt := if b.2.2.1 && !y.highNow then some (y.highAt.getD s.now) else none })
    let t1 := if b.1 && !x.lowNow && c.filter ≤ 1 then tripEdge m 0 t else t
    if b.2.2.1 && !x.highNow && c.filter ≤ 1 then tripEdge m 1 t1 else t1

/-- A decision of the monitor in its present kind of operation. -/
def monDecide (m : Fin 96) (v : Nat) (s : State) : State := if s.monWick m then wickDecide m v s else contDecide m v s

/-- The row WICK_SAMPLE: a monitor under self-test takes its test samples instead (R198). -/
def wickSample (m : Fin 96) (v : Nat) (s : State) : State :=
  if s.monRuns m && s.monWick m && (s.watch.mons[m].test).isNone then wickDecide m v s else s

/-- The row CONTINUOUS_COMPARATOR_CHANGE. -/
def contChange (m : Fin 96) (v : Nat) (s : State) : State :=
  if s.monRuns m && !s.monWick m && (s.watch.mons[m].test).isNone then contDecide m v s else s

/-- The row CONTINUOUS_FILTER_EXPIRY (R188): the comparator trips if the input still lies beyond the threshold in force. -/
def contExpiry (m : Fin 96) (high : Bool) (s0 : State) : State :=
  let s := monLoadNow m s0
  let x := s.watch.mons[m]
  match x.cfg, (if high then x.highAt else x.lowAt) with
  | some c, some t =>
    if s.monRuns m && !s.monWick m && x.test.isNone && t + (c.filter - 1) * respNs c.mode ≤ s.now then
      (if (if high then (c.beyond x.v).2.2.1 else (c.beyond x.v).1) then tripEdge m (if high then 1 else 0) s
       else s.updMon m (fun y => if high then { y with highAt := none } else { y with lowAt := none }))
    else s
  | _, _ => s

/-- A self-test of the monitor would be refused (R199). -/
def State.testRefused (s : State) (m : Fin 96) : Bool :=
  let x := s.watch.mons[m]
  x.cfg.isNone || x.test.isSome || x.lowNow || x.highNow || x.lowCnt != 0 || x.highCnt != 0 || x.lowAt.isSome || x.highAt.isSome ||
    s.ch.applying

/-- Start a self-test (R198). -/
def testStart (m : Fin 96) (tie : Bool) (tap : Nat) (sweep : Bool) (s : State) : State :=
  s.updMon m (fun x => { x with test := some { tie := tie, tap := tap, sweep := sweep, since := s.now } })

/-- A host write of WM_CTRL.SELFTEST (R199): the kind and tap are those that WM_CTRL holds. -/
def hostSelftest (m : Fin 96) (s : State) : State :=
  let x := s.watch.mons[m]
  if s.testRefused m then s.updMon m (fun y => { y with refused := true })
  else testStart m (x.stKind == 1) x.tap false s

/-- Check samples of a self-test (Table 8.5). -/
def SelfTest.samples (t : SelfTest) : Nat := if t.tie then 4 else 1

/-- A check sample gives the expected result (Table 8.5). -/
def SelfTest.right (t : SelfTest) (low high : Bool) : Bool :=
  if !t.tie then low && high
  else match t.step with
    | 0 => low
    | 1 => !low
    | 2 => high
    | _ => !high

/-- The outcome of a self-test, written to the ledger (R198). -/
def testOutcome (m : Fin 96) (t : SelfTest) (s0 : State) : State :=
  let s := s0.updWatch (fun w => { w with stFails := if t.wrong then sat255 w.stFails else w.stFails })
  let u := s.updMon m (fun x => { x with
    stDone := true
    stFail := x.stFail || t.wrong
    test := if t.sweep && t.tie then some { tie := false, tap := t.tap, sweep := true, since := s.now } else none })
  let k := if t.wrong then 1 else 0
  fireIf t.wrong 188 m.val (logEvent 6 m.val (Config.logField 6 k 1) (Config.logField 6 k 2) u)

/-- The FILTER count of a continuous comparator was held while the monitor was under test (R198): its filter time goes on from
where it stood. -/
def MonS.unhold (x : MonS) (blind : Nat) : MonS := { x with lowAt := x.lowAt.map (· + blind), highAt := x.highAt.map (· + blind) }

/-- The row SELF_TEST_SAMPLE (R198): `low` and `high` are what the comparators read in a check sample, `v` the input at the
resume sample. -/
def testSample (m : Fin 96) (low high : Bool) (v : Nat) (s : State) : State :=
  match s.watch.mons[m].test with
  | none => s
  | some t =>
    if t.step < t.samples then
      s.updMon m (fun x => { x with test := some { t with step := t.step + 1, wrong := t.wrong || !t.right low high } })
    else
      let u := s.updMon m (fun x => { x.unhold (s.now - t.since) with
        test := if t.wrong && !t.again then some { t with step := 0, wrong := false, again := true, since := s.now } else x.test })
      let w := if t.wrong && !t.again then u else testOutcome m t u
      monDecide m v w

/-- The present monitors, ascending. -/
def State.presentMons (s : State) : List (Fin 96) := (List.finRange 96).filter (fun m => (s.watch.mons[m].cfg).isSome)

/-- The next monitor at or above a number, else the lowest (R200). -/
def State.sweepFrom (s : State) (n : Nat) : Nat :=
  match s.presentMons.find? (fun m => n ≤ m.val) with
  | some m => m.val
  | none => match s.presentMons with | m :: _ => m.val | [] => 0x7F

/-- The row SWEEP_VISIT (R200); nothing is visited while the sweep is off, asleep, or with no monitor present. -/
def sweepVisit (s : State) : State :=
  if s.watch.interval = 0 || !s.running then s
  else
    match toMon (s.sweepFrom s.watch.next) with
    | none => s
    | some m =>
      let last := s.presentMons.all (fun k => k.val ≤ m.val)
      let t := s.updWatch (fun w => { w with
        next := s.sweepFrom (if last then 0 else m.val + 1), rounds := if last then (w.rounds + 1) % 256 else w.rounds })
      if s.testRefused m then
        let n := s.watch.mons[m].skipRun
        fireIf (n == 1) 191 m.val ((t.updWatch (fun w => { w with skips := sat255 w.skips })).updMon m (fun x => { x with skipRun := min 2 (n + 1) }))
      else testStart m true s.watch.sweepTap true (t.updMon m (fun x => { x with skipRun := 0 }))

/-- The monitors have changed: a sweep that is on goes on with a present one (R200). -/
def sweepRenew (s : State) : State :=
  if s.watch.interval = 0 then s
  else s.updWatch (fun w => { w with next := s.sweepFrom (if w.next = 0x7F then 0 else w.next) })

/-- The sweep's interval and tap (Table 8.11); the reserved TAP 3 is refused, and the write changes nothing (log entry 107). -/
def sweepSet (interval tap : Nat) (s : State) : State :=
  if tap = 3 then s
  else s.updWatch (fun w => { w with
    interval := interval
    sweepTap := tap
    next := if interval = 0 then 0x7F else if w.interval = 0 then s.sweepFrom 0 else w.next })

/-- A host write of CT_CTRL.ARM (R194). -/
def hostArm (t : Fin 16) (s : State) : State :=
  if s.watch.cts[t].cfg.mode = 0 then s.updCt t (fun x => { x with refused := true }) else ctArm t s

/-- A PRESCALE trim (R197): a change of it abandons the count and arms the timer afresh. -/
def trimPrescale (t : Fin 16) (k : Nat) (s : State) : State :=
  if (s.watch.cts[t]).cfg.prescale = k then s
  else
    let u := s.updCt t (fun x => { x with cfg := { x.cfg with prescale := k }, trimmed := true })
    if s.watch.cts[t].cfg.mode = 0 then u else ctArm t u

/-- The values a monitor will have once its waiting changes have taken effect. -/
def MonS.coming (x : MonS) : Option MonCfg := match x.next with | some c => some c | none => x.cfg

/-- A trim of a monitor is admissible (Table 8.6): the thresholds leave a window, and LOW of the bus-bar monitor stays below
BUS_RISE. -/
def State.monTrimOk (s : State) (m : Fin 96) (c : MonCfg) : Bool :=
  c.low + c.hyst + c.hyst < c.high &&
    (match s.hold.cfg with | some h => h.busMon != m.val || c.low < h.busRise | none => true)

/-- A trim of thresholds, hysteresis or filter, or its refusal (Table 8.6). -/
def trimMon (m : Fin 96) (f : MonCfg → MonCfg) (s : State) : State :=
  match (s.watch.mons[m]).coming with
  | none => s
  | some c =>
    if s.monTrimOk m (f c) then monLoadNow m (s.updMon m (fun x => { x with next := some (f c), trimmed := true }))
    else s.updMon m (fun x => { x with refused := true })

/-- A TICK trim; a value outside 1 to 1,000 is ignored whole (Table 8.7). -/
def trimTick (m : Fin 96) (k : Nat) (s : State) : State :=
  match (s.watch.mons[m]).coming with
  | none => s
  | some c =>
    if 1 ≤ k && k ≤ 1000 then monLoadNow m (s.updMon m (fun x => { x with next := some { c with tick := k }, trimmed := true }))
    else s

/-- A write of WM_LOW. -/
def trimLow (m : Fin 96) (v : Nat) (s : State) : State := trimMon m (fun c => { c with low := v % 1024, hyst := v / 1024 % 32 }) s
/-- A write of WM_HIGH. -/
def trimHigh (m : Fin 96) (v : Nat) (s : State) : State :=
  trimMon m (fun c => { c with high := v % 1024, filter := v / 1024 % 8 + 1 }) s

end Sys2Proof.Machine
end

