-- ==== Sys2Proof/Machine/HkOps.lean ====
section
/-! DEFINITION. Housekeeping and thermal (spec/09_housekeeping_thermal.md): the round and its channels, sensor health, the
reported maximum, levels and verdicts, dimming, and the reference cross-check of a pair (R269). -/
namespace Sys2Proof.Machine

/-- A channel is converted (Table 9.1). -/
def State.hkOn (s : State) (ch : Nat) : Bool :=
  if ch < 16 then natBit s.hk.cfg.hsEn ch
  else if ch < 48 then natBit s.hk.cfg.xdEn (ch - 16)
  else if ch < 60 then true
  else if ch < 64 then false
  else match toMon (ch - 64) with | some m => (s.watch.mons[m].cfg).isSome | none => false

/-- The first converted channel at or above an index. -/
def State.hkFrom (s : State) (ch : Nat) : Option Nat := (List.range 160).find? (fun i => ch ≤ i && s.hkOn i)

/-- Change what the round holds for a channel. -/
def hkPut (ch : Nat) (f : HkVal → HkVal) (s : State) : State :=
  s.updHk (fun h => { h with vals := match Tab.get? h.vals ch with | some v => Tab.put h.vals ch (f v) | none => h.vals })

/-- A temperature sensor by channel. -/
def State.sensor (s : State) (ch : Nat) : Sensor := (Tab.get? s.hk.sensors ch).getD {}
/-- A sensor counts as faulty (R207, Table 11.4). -/
def Sensor.out (x : Sensor) : Bool := x.faulty || x.fenced

/-- A dropped sample: the last valid value stays, VALID is 0, and it is counted (R204); a temperature sensor has no valid
sample in this round. -/
def hkDrop (ch : Nat) (s : State) : State :=
  addTally 14 1 (hkPut ch (fun v => { v with valid := false }) (s.updHk (fun h => { h with
    dropped := sat255 h.dropped
    sensors := match Tab.get? h.sensors ch with | some x => Tab.put h.sensors ch { x with good := 0 } | none => h.sensors })))

/-- A temperature sample fails a check of R207: the sensor becomes faulty, which fires EV123 once. -/
def sensorBad (ch : Nat) (s : State) : State :=
  let was := (s.sensor ch).faulty
  let t := hkDrop ch s
  let u := t.updHk (fun h => { h with
    sensors := Tab.put h.sensors ch { (s.sensor ch) with faulty := true, good := 0 }
    sensFault := if was then h.sensFault else sat255 h.sensFault })
  fireIf (!was) 123 ch u

/-- A valid temperature sample; the second in consecutive rounds ends a fault (R207). -/
def sensorGood (ch val : Nat) (s : State) : State :=
  let x := s.sensor ch
  hkPut ch (fun _ => ⟨val, true⟩) (s.updHk (fun h => { h with
    sensors := Tab.put h.sensors ch (if x.faulty then (if x.good + 1 ≥ 2 then { x with faulty := false, good := 0 } else { x with good := x.good + 1 }) else x) }))

/-- Judge the HS results of the round against the median of the others (R207). -/
def judgeHs (s : State) : State :=
  let l := s.hk.hsRound
  let t := s.updHk (fun h => { h with hsRound := [] })
  t.each l (fun p u =>
    let others := (l.filter (fun q => q.1 != p.1)).map (fun q => Q.ofInt (signedOf 16 q.2))
    let far := !others.isEmpty && Q.lt ⟨240, 1⟩ (((Q.ofInt (signedOf 16 p.2)).sub (Q.median others)).abs)
    if far then sensorBad p.1 u else sensorGood p.1 p.2 u)

/-- The highest valid result among the enabled sensors that are not faulty, the lowest index on a tie (R208). -/
def State.ownMax (s : State) : Option (Int × Nat) :=
  (List.range 48).foldl (fun (b : Option (Int × Nat)) ch =>
    let v := (Tab.get? s.hk.vals ch).getD {}
    if s.hkOn ch && v.valid && !(s.sensor ch).out then
      let t := signedOf 16 v.val
      match b with
      | some x => if x.1 < t then some (t, ch) else b
      | none => some (t, ch)
    else b) none

/-- The maximum that a verdict judges: the active of a pair takes the higher of its own and the twin's latest (R215). -/
def State.judgedMax (s : State) (own : Int × Nat) : Int × Nat × Bool :=
  match s.pair.twinRep.bind (·.max) with
  | some r => if s.paired && s.pair.role == .active && own.1 < r.1 then (r.1, r.2, true) else (own.1, own.2, false)
  | none => (own.1, own.2, false)

/-- A level at a verdict: its state, and whether it is set by this verdict (R209). -/
def levelStep (tmax level hyst : Int) (st prev : Bool) : Bool × Bool :=
  let set := !st && level ≤ tmax && prev
  (if set then true else if tmax < level - hyst then false else st, set)

/-- The dimmed rails: every present rail but the BATTERY rail. -/
def State.dimmed (s : State) : List (Fin 24) :=
  (List.finRange 24).filter (fun r => match s.rails[r].cfg with | some c => c.topo != 2 | none => false)

/-- F in % (R212). -/
def dimF (k step : Nat) : Nat := max 10 (100 - k * step)

/-- The thermal limits for the F in force (R212, R213): entered with ENFORCE = 1, advisory with 0. With 0 no grace runs, one in
progress included (DEDUCED, log entry 146); an advisory limit that becomes an enforced one starts its grace here, without a new
notice (DESIGN CHOICE, log entry 147). -/
def applyF (s : State) : State :=
  let q : Option Q := if 100 ≤ s.hk.f then none else some (Q.norm ⟨s.hk.f, 100⟩)
  s.each s.dimmed (fun r u =>
    if u.hk.cfg.enforce = 1 then enterTerm r .thermal q (u.updRail r (fun x => { x with advisory := none }))
    else announce r (u.updRail r (fun x => { x with thermal := {}, advisory := q })))

/-- The thermal limits for the dim level in force (R212). -/
def applyDim (s : State) : State := applyF (s.updHk (fun h => { h with f := dimF h.k h.cfg.dimStep }))

/-- The grace of every thermal reduction has ended (R212, R213): none runs, and no rail that is on waits for its next
sample. -/
def State.graceOver (s : State) : Bool :=
  s.dimmed.all (fun r =>
    let x := s.rails[r]
    x.thermal.pend.isEmpty && (!x.thermal.bare || x.state == .off || x.state == .snuff))

/-- The dim level at a verdict (R212). -/
def dimStep (tmax : Int) (setNow : Bool) (s : State) : State :=
  let h := s.hk
  let late := match h.lastK with | some t => t + sec 1 ≤ s.now | none => true
  let up := (h.k = 0 && setNow) || (h.dim && h.cfg.tDim ≤ tmax && late && s.graceOver)
  let down := tmax < h.cfg.tDim - h.cfg.tHyst && h.k > 0 && late
  let k := if up && dimF h.k h.cfg.dimStep > 10 then h.k + 1 else if down then h.k - 1 else h.k
  if k = h.k then applyDim s
  else applyDim (logStep 3 1 (Config.logField 3 1 0) k (s.updHk (fun x => { x with k := k, lastK := some s.now })))

/-- A thermal verdict at the end of the thermal part (R208, R209, R212, R214). -/
def thermalVerdict (s : State) : State :=
  match s.ownMax with
  | none => s.updHk (fun h => { h with noSensor := true })
  | some own =>
    let m := s.judgedMax own
    let h := s.hk
    let w := levelStep m.1 h.cfg.tWarn h.cfg.tHyst h.warn h.warnPrev
    let d := levelStep m.1 h.cfg.tDim h.cfg.tHyst h.dim h.dimPrev
    let p := levelStep m.1 h.cfg.tTrip h.cfg.tHyst h.trip h.tripPrev
    let sub := m.2.1 + (if m.2.2 then 64 else 0)
    let t := s.updHk (fun x => { x with
      noSensor := false
      tmax := m.1
      tsrc := m.2.1
      ttwin := m.2.2
      warn := w.1
      dim := d.1
      trip := p.1
      warnPrev := h.cfg.tWarn ≤ m.1
      dimPrev := h.cfg.tDim ≤ m.1
      tripPrev := h.cfg.tTrip ≤ m.1
      warnSeen := x.warnSeen || w.2
      dimSeen := x.dimSeen || d.2
      tripSeen := x.tripSeen || p.2 })
    let u := fireIf p.2 122 sub (fireIf d.2 121 sub (fireIf w.2 120 sub t))
    let v := if (s.core .supervisor).state == .running then u.updHk (fun x => { x with
        thSeq := (x.thSeq + 1) % 256, thFresh := true, pubTmax := m.1, pubTsrc := m.2.1, pubTwin := m.2.2 }) else u
    -- a standby takes k from its active (R215), and F with the DIM_STEP in force (Table 9.5)
    if v.follows then applyDim v else dimStep m.1 d.2 v

/-- The nominal code of a reference tap, 25 uV per code (R206). -/
def tapNominal (i : Nat) : Nat := 16000 * (i + 1)

/-- The latest readings of the reference taps 56 to 58, where they are valid. -/
def State.tapReads (s : State) : List (Option Nat) :=
  (List.range 3).map (fun i => (Tab.get? s.hk.vals (56 + i)).bind (fun v => if v.valid then some v.val else none))

/-- How far a tap reads from its nominal value. -/
def tapOff (i : Nat) (v : Option Nat) : Option Nat := v.map (fun x => ((x : Int) - tapNominal i).natAbs)

/-- The largest deviation of several tap readings. -/
def tapsDev (l : List (Option Nat)) : Nat := l.zipIdx.foldl (fun a x => max a ((tapOff x.2 x.1).getD 0)) 0

/-- Judge the reference taps at the end of a round (R206). -/
def judgeTaps (s : State) : State :=
  let dev (i : Nat) : Option Nat := tapOff i (s.tapReads.getD i none)
  let out (i : Nat) : Bool := match dev i with | some d => 100 * d > tapNominal i | none => false
  let ok (i : Nat) : Bool := match dev i with | some d => 100 * d ≤ tapNominal i | none => false
  let bad := (List.range 3).filter (fun i => out i && natBit s.hk.tapOut i)
  let t := s.updHk (fun h => { h with
    tapOut := maskOf ((List.range 3).map out)
    tapDev := tapsDev s.tapReads
    refFault := if !bad.isEmpty then true else if (List.range 3).all ok then false else h.refFault })
  fireIf (!bad.isEmpty && !s.hk.refFault) 125 (56 + bad.headD 0) t

/-- The VOUT of every REGULATING rail (Table 12.2). -/
def State.regVouts (s : State) : List (Fin 24 × Nat) :=
  ((List.finRange 24).filter (fun r => s.rails[r].state == .regulating)).map (fun r => (r, s.rails[r].vout))

/-- The reference cross-check of a pair (Table 12.3, REF_XCHK): one more consecutive round, or none. -/
def judgeXchk (s : State) : State :=
  match s.pair.twinRep with
  | none => s
  | some t =>
    if s.paired && s.pair.linkUp then
      let differs := s.regVouts.any (fun p => match t.vout.find? (fun q => q.1 == p.1) with
        | some q => decide ((((p.2 : Int) - q.2).natAbs) * 1000000 > s.cfg.pair.refx * p.2 + 2000000)
        | none => false)
      s.updPair (fun p => { p with xchk := if differs && tapsDev t.taps < s.hk.tapDev then min 255 (p.xchk + 1) else 0 })
    else s

/-- Send a REPORT to the twin at the end of the thermal part of a round (Table 12.2, R215): the maximum where a verdict has
been taken, the latest reading of each reference tap, and the VOUTs. -/
def sendReport (s : State) : State :=
  if s.paired && s.pair.linkUp then
    pairOut (.report ⟨if s.hk.noSensor then none else some (s.hk.tmax, s.hk.tsrc), s.tapReads, s.regVouts⟩) s
  else s

/-- The end of a round: the taps are judged, and the set is published while the supervisor core runs (R205, R206, R214). -/
def roundEnd (s0 : State) : State :=
  let s := judgeTaps s0
  let t := s.updHk (fun h => { h with next := none, rounds := (h.rounds + 1) % 256 })
  let bad := t.hk.refFault
  let u := if (s.core .supervisor).state == .running then t.updHk (fun h => { h with
      seq := (h.seq + 1) % 256
      fresh := true
      pub := Vector.ofFn (fun (i : Fin 160) => if bad && 48 ≤ i.val then { h.vals[i] with valid := false } else h.vals[i]) }) else t
  judgeXchk u

/-- The converter moves on from a channel: HS results are judged after the last of them, the verdict is taken after index 47,
and the round ends after its last channel. -/
def hkNext (ch : Nat) (s : State) : State :=
  let n := s.hkFrom (ch + 1)
  let past (i : Nat) : Bool := ch < i && (match n with | some j => decide (i ≤ j) | none => true)
  let s1 := s.updHk (fun h => { h with next := n })
  let s2 := if past 16 then judgeHs s1 else s1
  let s3 := if past 48 then sendReport (thermalVerdict s2) else s2
  if n.isNone then roundEnd s3 else s3

/-- The housekeeping block works: not in a block reset and not held (R245, R247). -/
def State.hkWorks (s : State) : Bool :=
  s.running && !s.blockDown .housekeeping

/-- A change of ENFORCE takes effect: a limit that it no longer covers becomes advisory, and one that it now covers is entered
(R48, R213, Table 9.5). -/
def loadEnforce (n : Nat) (s : State) : State :=
  (s.updHk (fun h => { h with cfg := { h.cfg with enforce := n } })).when (n != s.hk.cfg.enforce) applyF

/-- A THERMAL record that waits for the next round takes effect; levels that changed are judged afresh (Table 9.5). -/
def loadThermal (s : State) : State :=
  match s.hk.cfgNext with
  | none => s
  | some c =>
    s.updHk (fun h => { h with
      cfg := c
      cfgNext := none
      warnPrev := h.warnPrev && c.tWarn == h.cfg.tWarn
      dimPrev := h.dimPrev && c.tDim == h.cfg.tDim
      tripPrev := h.tripPrev && c.tTrip == h.cfg.tTrip })

/-- The row HK_ROUND_START (R203): VALID is 0 until a channel gives its sample. -/
def hkStart (s0 : State) : State :=
  if s0.hkWorks && s0.hk.next.isNone then
    let s := loadThermal s0
    let n := s.hkFrom 0
    let t := s.updHk (fun h => { h with
      next := n, started := s.now, period := s.cfg.device.hkRound, late := false, hsRound := []
      vals := h.vals.map (fun v => { v with valid := false }) })
    -- with no sensor enabled the thermal part is empty
    if (match n with | some i => decide (48 ≤ i) | none => true) then sendReport (thermalVerdict t) else t
  else s0

/-- The base-emitter voltages of an XD conversion at its three currents, in microvolts, lie within 0.20 V to 0.90 V (R207). -/
def vbeOk (v : Nat × Nat × Nat) : Bool := [v.1, v.2.1, v.2.2].all (fun x => 200000 ≤ x && x ≤ 900000)

/-- The row HK_CONVERSION_DONE (R203, R204, R207). `sat` is whether the converter saturated; `vbe` is what an XD channel
converts. The result says that the request to convert has been acknowledged (R20). -/
def hkDone (ch : Nat) (val : Nat) (sat : Bool) (vbe : Nat × Nat × Nat) (s0 : State) : State :=
  if s0.hkWorks && s0.hk.next == some ch then
    let s := if s0.arch.convStart.merged then s0 else ackLine .conversionStart s0
    let t :=
      if sat then hkDrop ch s
      else if ch < 16 then
        if signedOf 16 val < -880 ∨ 2400 < signedOf 16 val then sensorBad ch s
        else s.updHk (fun h => { h with hsRound := h.hsRound ++ [(ch, val)] })
      else if ch < 48 then (if vbeOk vbe then sensorGood ch val s else sensorBad ch s)
      else hkPut ch (fun _ => ⟨val, true⟩) (if ch = 53 then s.updFeed 0 (fun x => { x with mv := some val })
        else if ch = 54 then s.updFeed 1 (fun x => { x with mv := some val }) else s)
    hkNext ch t
  else s0

/-- The row HK_CONVERSION_TIMEOUT (R204). -/
def hkTimeout (ch : Nat) (s : State) : State :=
  if s.hkWorks && s.hk.next == some ch then
    hkNext ch (hkDrop ch (if s.arch.convStart.merged then s else ackLine .conversionStart s))
  else s

/-- The row HK_ROUND_LATE (R204). -/
def hkLate (s : State) : State :=
  if s.hkWorks && s.hk.next.isSome && !s.hk.late && s.hk.started + ms (2 * s.hk.period) ≤ s.now then
    fire 126 0 (s.updHk (fun h => { h with late := true, slow := true }))
  else s

/-- A level of a THERMAL record. -/
def ThermalCfg.setLevel (c : ThermalCfg) (lvl : ThLevel) (t : Int) : ThermalCfg :=
  match lvl with
  | .warn => { c with tWarn := t } | .dim => { c with tDim := t } | .trip => { c with tTrip := t }

/-- The levels obey R40. -/
def ThermalCfg.levelsOk (c : ThermalCfg) : Bool := c.tWarn < c.tDim && c.tDim < c.tTrip && c.tTrip ≤ 2000

/-- A trim of a thermal level (R217): refused where it breaks R40, else judged from the next verdict with the two-verdict rule
applied afresh. While an applied record waits for its round, the trim holds for that record too. -/
def trimLevel (lvl : ThLevel) (v : Nat) (s : State) : State :=
  let t := signedOf 16 v
  if ((s.hk.cfgNext.getD s.hk.cfg).setLevel lvl t).levelsOk then
    s.updHk (fun h => { h with
      cfg := if (h.cfg.setLevel lvl t).levelsOk then h.cfg.setLevel lvl t else h.cfg
      cfgNext := h.cfgNext.map (fun c => c.setLevel lvl t)
      trimmed := true
      warnPrev := h.warnPrev && lvl != .warn
      dimPrev := h.dimPrev && lvl != .dim
      tripPrev := h.tripPrev && lvl != .trip })
  else s.updHk (fun h => { h with thRefused := true })

/-- The thermal state that sleep and a chip restart clear (Table 9.5): k with its limits, the level states and the sensor
faults; the change of k is written to the ledger (R212). A sensor's fence stays (Table 11.4). -/
def thermalClear (s : State) : State :=
  let t := s.updHk (fun h => { h with
    next := none, period := 0, hsRound := [], sensors := h.sensors.map (fun x => { fenced := x.fenced }), k := 0, lastK := none, f := 100
    warn := false, dim := false, trip := false, warnPrev := false, dimPrev := false, tripPrev := false })
  (t.each (List.finRange 24) (fun r u => announce r (u.updRail r (fun x => { x with thermal := {}, advisory := none })))).when
    (0 < s.hk.k) (logStep 3 1 (Config.logField 3 1 0) 0)

/-- The unit of a channel's value (Tables 9.1 and 9.7); that of a reserved channel is a free value (log entry 148). -/
def hkUnit (ch : Nat) : Nat :=
  if ch < 48 then 0 else if ch = 48 then 1 else if ch < 53 then 2 else if ch < 55 then 3 else if ch = 55 then 4
  else if ch < 60 then 1 else if ch < 64 then (Config.reservedUnit ch).toNat else 1

end Sys2Proof.Machine
end

