-- ==== Sys2Proof/Machine/MemOps.lean ====
section
/-! DEFINITION. The external memory: its cells, the regions of the layout directory, the commands of Table 3.4, and the writes
with their order and their ends (spec/03_start_and_memory.md R59 to R65). -/
namespace Sys2Proof.Machine

/-- Write one cell of an external memory, keeping its canonical form: addresses strictly rising, no cell equal to the value
that an unlisted address reads, 0xFF. -/
def cellPut : List Host.Cell → Nat → Byte → List Host.Cell
  | [], a, b => if b = 0xFF then [] else [(a, b)]
  | c :: cs, a, b =>
    if a < c.1 then (if b = 0xFF then c :: cs else (a, b) :: c :: cs)
    else if a = c.1 then (if b = 0xFF then cs else (a, b) :: cs)
    else c :: cellPut cs a b

/-- Read one cell of an external memory. -/
def cellGet : List Host.Cell → Nat → Byte
  | [], _ => 0xFF
  | c :: cs, a => if c.1 = a then c.2 else cellGet cs a

/-- The canonical form of an external memory. -/
def cellsWf : List Host.Cell → Bool
  | [] => true
  | [c] => c.2 != 0xFF
  | c :: d :: cs => c.2 != 0xFF && c.1 < d.1 && cellsWf (d :: cs)

/-- Erase `n` cells from an address: they read 0xFF again. -/
def cellErase (l : List Host.Cell) (a n : Nat) : List Host.Cell := l.filter (fun c => c.1 < a || a + n ≤ c.1)

/-- A byte of external memory; a device that is not fitted or an address beyond 2 GiB reads 0xFF. -/
def ChandlerS.memByte (c : ChandlerS) (dev a : Nat) : Byte :=
  if dev = 0 then cellGet c.dev0 a else if dev = 1 then cellGet c.dev1 a else 0xFF

/-- `n` bytes of external memory. -/
def ChandlerS.memBytes (c : ChandlerS) (dev a n : Nat) : List Byte := (List.range n).map (fun i => c.memByte dev (a + i))

/-- Write bytes to external memory from an address up (R63). -/
def memPut (dev : Nat) : Nat → List Byte → State → State
  | _, [], s => s
  | a, b :: bs, s =>
    memPut dev (a + 1) bs
      (if dev = 0 then { s with ch := { s.ch with dev0 := cellPut s.ch.dev0 a b } }
       else if dev = 1 then { s with ch := { s.ch with dev1 := cellPut s.ch.dev1 a b } } else s)

/-- Erase bytes of external memory (R63). -/
def memErase (dev a n : Nat) (s : State) : State :=
  if dev = 0 then { s with ch := { s.ch with dev0 := cellErase s.ch.dev0 a n } }
  else if dev = 1 then { s with ch := { s.ch with dev1 := cellErase s.ch.dev1 a n } } else s

/-- Program bytes: a NOR page program can only clear bits; FRAM and MRAM take the bytes (R63). -/
def memProgram (dev : Nat) (nor : Bool) (a : Nat) (bs : List Byte) (s : State) : State :=
  memPut dev a (if nor then (List.range bs.length).map (fun i => s.ch.memByte dev (a + i) &&& bs.getD i 0) else bs) s

/-- A region of the layout directory: device, byte offset, length. -/
def ChandlerS.region (c : ChandlerS) (i : Nat) : Nat × Nat × Nat :=
  match c.layout with
  | some l => l.regions.getD i (0, 0, 0)
  | none => (0, 0, 0)

/-- Whether a device is NOR flash. -/
def ChandlerS.isNor (c : ChandlerS) (dev : Nat) : Bool :=
  match c.layout with
  | some l => (if dev = 0 then l.type0 else l.type1) == 0
  | none => true

/-! ### Commands -/

/-- The bytes of an address (R59). -/
def ChandlerS.addrLen (c : ChandlerS) : Nat := match c.layout with | some l => l.addrBytes | none => 3

/-- The read command after the directory (Table 3.4): fast, quad-output or quad-I/O, with 3 or 4 address bytes. -/
def ChandlerS.readCmd (c : ChandlerS) (dev a : Nat) : MemCmd :=
  match c.layout with
  | some l =>
    let op := match l.readMode with | 0 => 0x0B | 1 => 0x6B | _ => 0xEB
    { dev := dev, op := if l.addrBytes = 4 then op + 1 else op, addr := some a, addrLen := l.addrBytes
      modeBits := if l.readMode = 2 then some 0 else none, dummy := l.dummy }
  | none => { dev := dev, op := 0x03, addr := some a, addrLen := 3 }

/-- The part reads external memory from an address on. -/
def memFetch (dev a : Nat) (s : State) : State := send (.mem (s.ch.readCmd dev a)) s

/-- The part reads a region from a byte offset on (Table 3.4); nothing is read where the region is absent. -/
def regionFetch (i o : Nat) (s : State) : State :=
  if (s.ch.region i).2.2 = 0 then s else memFetch (s.ch.region i).1 ((s.ch.region i).2.1 + o) s

/-- A program or an erase on the bus: the write enable, then the command (Table 3.4). -/
def memCommand (o : MemOp) (s : State) : State :=
  let n := s.ch.addrLen
  let op := if o.erase then (if n = 4 then 0x21 else 0x20) else (if n = 4 then 0x12 else 0x02)
  send (.mem { dev := o.dev, op := op, addr := some o.ofs, addrLen := n, data := o.data }) (send (.mem { dev := o.dev, op := 0x06 }) s)

/-- The bytes that a command writes. -/
def MemOp.len (o : MemOp) : Nat := if o.erase then 4096 else o.data.length

/-- A command begins: what it writes stands in the memory. A settings copy is none while it is written. -/
def memPerform (o : MemOp) (s : State) : State :=
  let t := memCommand o (if o.erase then memErase o.dev o.ofs 4096 s else memProgram o.dev (s.ch.isNor o.dev) o.ofs o.data s)
  match o.use, t.upd.writing with
  | .settings, some (i, _) => t.updUpd (fun u => { u with copies := u.copies.set i none })
  | _, _ => t

/-- A service-port request that waits for its memory write ends: its response reads PENDING until now (R362). -/
def spEnd (status : Nat) (s : State) : State :=
  s.updSp (fun x => if x.resp.status = 1 then { x with resp := { x.resp with status := status, payload := [] } } else x)

/-- The last command of a write is done: a settings copy stands, a service-port request is answered; an archive record ends
with its own command. -/
def memEnd (u : MemUse) (s : State) : State :=
  match u with
  | .settings => match s.upd.writing with
    | some (i, c) => s.updUpd (fun x => { x with copies := x.copies.set i (some c), writing := none })
    | none => s
  | .staging | .factory => spEnd 0 s
  | .archive => s

/-- No cell of a 4 KiB sector holds anything but 0xFF. -/
def ChandlerS.blankSector (c : ChandlerS) (dev a : Nat) : Bool :=
  !((if dev = 0 then c.dev0 else c.dev1).any (fun x => a ≤ x.1 && x.1 < a + 4096))

/-- An erase that R63 does not ask for: the device is no NOR, or the sector is erased already. A factory erase of a NOR device
is made as commanded. -/
def ChandlerS.needless (c : ChandlerS) (o : MemOp) : Bool :=
  o.erase && (!c.isNor o.dev || (o.use != .factory && c.blankSector o.dev o.ofs))

/-- The waiting commands in order: one on FRAM or MRAM is done at once, one on NOR holds the rest until the device has finished
(R63, R65). -/
def memGo : List MemOp → State → State
  | [], s => s.updCh (fun c => { c with memQ := [] })
  | o :: l, s =>
    let last (t : State) : State := if l.any (fun x => x.use == o.use) then t else memEnd o.use t
    if s.ch.needless o then memGo l (last s)
    else if s.ch.isNor o.dev then (memPerform o s).updCh (fun c => { c with memOp := some { o with started := s.now }, memQ := l })
    else memGo l (last (memPerform o s))

/-- Go on with the writes that wait, unless one is in progress. -/
def memNext (s : State) : State := if s.ch.memOp.isSome || s.blockDown .memory then s else memGo s.ch.memQ s

/-- A write begins with its commands, behind those that wait (log entry 120). -/
def memBegin (l : List MemOp) (s : State) : State := memNext (s.updCh (fun c => { c with memQ := c.memQ ++ l }))

/-- A write for a use is in progress or waits. -/
def ChandlerS.writing (c : ChandlerS) (u : MemUse) : Bool :=
  c.memOp.any (fun o => o.use == u) || c.memQ.any (fun o => o.use == u)

/-- Drop what waits of a write. -/
def ChandlerS.cancel (c : ChandlerS) (u : MemUse) : ChandlerS := { c with memQ := c.memQ.filter (fun o => o.use != u) }

/-- Bytes from an address cut at the 256-byte pages (R63); `n` bounds the number of pieces. -/
def pageSplit : Nat → Nat → List Byte → List (Nat × List Byte)
  | 0, _, _ => []
  | _, _, [] => []
  | n + 1, a, b :: bs =>
    let k := 256 - a % 256
    (a, (b :: bs).take k) :: pageSplit n (a + k) ((b :: bs).drop k)

/-- The page programs that write bytes from an address. -/
def programOps (use : MemUse) (dev a : Nat) (bs : List Byte) : List MemOp :=
  (pageSplit (bs.length / 256 + 2) a bs).map (fun x => { dev := dev, use := use, ofs := x.1, erase := false, data := x.2 })

/-- The sector erases over a stretch of memory. -/
def eraseOps (use : MemUse) (dev a n : Nat) : List MemOp :=
  (List.range ((n + 4095) / 4096)).map (fun i => { dev := dev, use := use, ofs := a + 4096 * i, erase := true })

end Sys2Proof.Machine
end

