-- ==== Sys2Proof/Machine/LedgerOps.lean ====
section
/-! DEFINITION. The ledger's operations (spec/14_ledger.md): the codec, pages, records, the last-gasp store, the archive and
the bytes of its four spaces. -/
namespace Sys2Proof.Machine

/-- The valid headers of archive records, found by a scan of the region (R334): REC_SEQ and the offset behind each. A header is
valid that has the MAGIC and a right DIR_CRC. -/
def State.archScan (s : State) : List (Nat × Nat) :=
  let reg := s.ch.region 5
  (List.range (reg.2.2 / 4096)).filterMap (fun i =>
    let h := s.ch.memBytes reg.1 (reg.2.1 + 4096 * i) 512
    if u32At h 0 = 0x4C444752 && u32At h 508 = crc32 (h.take 508) then some (u32At h 4, 4096 * (i + 1)) else none)

/-- The slot offsets of the channels (R317): on each capture ADC the channels are taken in ascending k, then in ascending j, and
each takes the lowest offset whose slots are all free. -/
def slotOffsets (chans : List LedgerChan) : List Nat :=
  let k (c : LedgerChan) : Nat := c.rate % 16
  let order := (List.range 16).flatMap (fun i => (List.range chans.length).filter (fun j => (chans[j]?).any (fun c => k c == i)))
  let taken := order.foldl (fun (a : List (Nat × LedgerChan × Nat)) j =>
    match chans[j]? with
    | none => a
    | some c =>
      let free (o : Nat) : Bool := a.all (fun x => x.2.1.rate / 32 != c.rate / 32 || o % 2 ^ k x.2.1 != x.2.2 % 2 ^ k x.2.1)
      a ++ [(j, c, ((List.range (2 ^ k c)).find? free).getD 0)]) []
  (List.range chans.length).map (fun j => ((taken.find? (fun x => x.1 == j)).map (·.2.2)).getD 0)

/-- The residuals and the reconstruction of a block (R320): the quantised residuals, and the last two reconstructed samples. -/
def codeSamples (e : Nat) : Nat → Nat → List Nat → List Int × Nat × Nat
  | x1, x2, [] => ([], x1, x2)
  | x1, x2, x :: xs =>
    let clamp (i : Int) : Int := max 0 (min 4095 i)
    let p := clamp (2 * (x1 : Int) - x2)
    let r := (x : Int) - p
    let st : Int := 2 * e + 1
    let m : Int := ((r.natAbs + e) / (2 * e + 1) : Nat)
    let q := if r < 0 then -m else m
    let xr := (clamp (p + q * st)).toNat
    let t := codeSamples e xr x1 xs
    (q :: t.1, t.2)

/-- The non-negative code of a residual (R321). -/
def zigzag (q : Int) : Nat := if 0 ≤ q then (2 * q).toNat else (-2 * q - 1).toNat

/-- The bits of a block's residuals in Rice coding, with parameter `k`. -/
def riceLen (k : Nat) (us : List Nat) : Nat := us.foldl (fun a u => a + u / 2 ^ k + 1 + k) 0

/-- The Rice parameter of least length, the lower on a tie (R322). -/
def bestK (us : List Nat) : Nat :=
  (List.range 14).foldl (fun b k => if riceLen k us < riceLen b us then k else b) 0

/-- Append a field of `len` bits to a bit string. -/
def putBits (b : Nat × Nat) (v len : Nat) : Nat × Nat := (b.1 * 2 ^ len + v % 2 ^ len, b.2 + len)

/-- The code of E in a block header (Table 14.3). -/
def ecOf (e : Nat) : Nat := if e = 8 then 4 else if e = 4 then 3 else e

/-- A coded block (R321, R322): its bits, its length, and the last two reconstructed samples. -/
def codeBlock (e x1 x2 : Nat) (flags : Nat) (xs : List Nat) : (Nat × Nat) × Nat × Nat :=
  let c := codeSamples e x1 x2 xs
  let us := c.1.map zigzag
  let k := bestK us
  let raw := 13 * xs.length < riceLen k us
  let hd := putBits (0, 0) ((if raw then 14 else k) * 4096 + ecOf e * 512 + flags) 16
  let body :=
    if raw then c.1.foldl (fun b q => putBits b (q % 8192).toNat 13) hd
    else us.foldl (fun b u => putBits (putBits b ((2 ^ (u / 2 ^ k) - 1) * 2) (u / 2 ^ k + 1)) u k) hd
  (body, c.2)

/-- Payload bits of a page (R318). -/
def pageBits : Nat := 8080

/-- Pages of the sample memory (R318). -/
def pageCount : Nat := 8192

/-- Whether a page lies in a window, with the block that it takes over from the page before. -/
def Page.inWin (p : Page) (a b : Nat) : Bool := p.since ≤ b && a ≤ p.tEnd

/-- The pages that a record holds: fixed at its close, and those in its window while it is open (R325, R327). -/
def Record.pagesOf (r : Record) (live : List Page) : List Nat :=
  if r.state == .opened then (live.filter (fun p => p.inWin r.start r.endAt)).map (·.num) else r.pages

/-- Every page held by some record. -/
def LedgerS.heldPages (l : LedgerS) : List Nat :=
  l.dir.toList.flatMap (fun r => match r with | some x => x.pagesOf l.pages | none => [])

/-- The open record. -/
def LedgerS.openSlot (l : LedgerS) : Option (Fin 16) :=
  (List.finRange 16).find? (fun i => match l.dir[i] with | some r => r.state == .opened | none => false)

/-- The number of the page that a channel takes, and the blocks dropped with it: a free page, else the oldest that is
neither held nor in progress (R319). -/
def LedgerS.pageToTake (l : LedgerS) : Option (Nat × Nat) :=
  match (List.range pageCount).find? (fun n => !l.pages.any (fun p => p.num == n)) with
  | some n => some (n, 0)
  | none =>
    (l.pages.find? (fun p => !l.heldPages.contains p.num && !l.chans.toList.any (fun c => c.page == some p.num))).map
      (fun p => (p.num, p.blocks))

/-- A channel takes a new page, which begins with bits carried over from the block at `since`, if any (R319). -/
def takePage (j : Fin 64) (t since : Nat) (carry : Nat × Nat) (s : State) : State :=
  match s.lg.pageToTake with
  | none => s
  | some (n, dropped) =>
    let c := s.lg.chans[j]
    let p : Page := { num := n, ch := j.val, seq := c.seq % 4, t0 := t, pred1 := c.x1, pred2 := c.x2, firstBit := carry.2,
                      gap := c.gap, tEnd := t, bits := carry.1, used := carry.2, since := since }
    addTally 22 dropped { s with lg := { s.lg with
      pages := s.lg.pages.filter (fun q => q.num != n) ++ [p]
      chans := s.lg.chans.set j { c with seq := (c.seq + 1) % 4, page := some n, gap := false } } }

/-- Change a page by number. -/
def updPage (n : Nat) (f : Page → Page) (s : State) : State :=
  { s with lg := { s.lg with pages := s.lg.pages.map (fun p => if p.num == n then f p else p) } }

/-- A page at its next block: the header fields of the first block that begins in it. -/
def Page.begin (p : Page) (t0 x1 x2 tEnd : Nat) : Page :=
  if p.begun then { p with blocks := p.blocks + 1, tEnd := tEnd }
  else { p with begun := true, t0 := t0, pred1 := x1, pred2 := x2, firstBit := p.used, blocks := 1, tEnd := tEnd }

/-- Release the record of a directory entry (R327). -/
def releaseSlot (i : Fin 16) (s : State) : State := { s with lg := { s.lg with dir := s.lg.dir.set i none } }

/-- The oldest record that satisfies a condition, by REC_SEQ. -/
def LedgerS.oldest (l : LedgerS) (f : Record → Bool) : Option (Fin 16) :=
  ((List.finRange 16).foldl (fun (b : Option (Nat × Fin 16)) i =>
    match l.dir[i] with
    | some r => if f r then (match b with | some x => if r.recSeq < x.1 then some (r.recSeq, i) else b | none => some (r.recSeq, i)) else b
    | none => b) none).map (·.2)

/-- Make room by releasing an old record, a flushed one first; an unflushed release fires EV168 (R327). -/
def makeRoom (s : State) : State :=
  match s.lg.oldest (fun r => r.state == .flushed) with
  | some i => releaseSlot i s
  | none =>
    match s.lg.oldest (fun r => r.state != .opened) with
    | none => s
    | some i =>
      let t := releaseSlot i s
      fire 168 0 { t with
        lg := { t.lg with
          unflushed := sat255 t.lg.unflushed, dropHeld := true
          flush := if t.lg.flush == some i then none else t.lg.flush }
        ch := if t.lg.flush == some i then t.ch.cancel .archive else t.ch }

/-- E and LOSSLESS in force: a change waits for the ledger core while it restarts (R26, Table 1.4). -/
def State.codec (s : State) : Nat × Nat := s.lg.codec.getD (s.cfg.ledger.e, s.cfg.ledger.lossless)

/-- Set a bit of a flag byte. -/
def setBit (n i : Nat) : Nat := if natBit n i then n else n + 2 ^ i

/-- The log entries that can be read: those that no double-bit error has made unreadable (R330). -/
def LedgerS.readable (l : LedgerS) : List (Nat × LogEntry) := l.log.filter (fun e => !l.badIndex.contains e.1)

/-- A record as its directory entry reads: the pages, the events and the flags of an open one are those of its window now
(R328 to R330). -/
def LedgerS.shown (l : LedgerS) (r : Record) : Record :=
  if r.state == .opened then
    let pgs := r.pagesOf l.pages
    let n := (l.readable.filter (fun e => r.start ≤ e.2.time && e.2.time ≤ r.endAt)).length
    let f := if n > 1024 then setBit r.flags 1 else r.flags
    { r with
      pages := pgs
      events := min 1024 n
      flags := if l.pages.any (fun p => p.damaged && pgs.contains p.num) then setBit f 2 else f }
  else r

/-- Close the open record of a slot at a global time (R325); the channels have still to write their blocks up to then. -/
def closeSlot (i : Fin 16) (t : Nat) (creset : Bool) (s : State) : State :=
  let f (r : Record) : Record :=
    let x := s.lg.shown { r with endAt := t }
    { x with
      state := .closed
      flags := if creset then setBit x.flags 3 else x.flags
      late := (List.range x.chans.length).filter (fun j => (Tab.get? s.lg.chans j).any (fun c => c.page.isSome)) }
  s.updLg (fun l => { l with dir := l.dir.upd i (·.map f), prevEnd := t })

/-- Close the open record, if any, at this moment (R331, R338). -/
def closeOpen (creset : Bool) (s : State) : State :=
  match s.lg.openSlot with
  | some i => closeSlot i s.ov.gtime creset s
  | none => s

/-- Release old records until the held pages are within the limit (R327); `n` bounds the number of releases. -/
def shrinkTo : Nat → State → State
  | 0, s => s
  | n + 1, s => if s.lg.heldPages.eraseDups.length > 6144 then shrinkTo n (makeRoom s) else s

/-- The pages that a record keeps at the limit of R327: those in which a block begins, the newest 6,144. -/
def LedgerS.withinLimit (l : LedgerS) (pages : List Nat) : List Nat :=
  let x := pages.filter (fun n => l.pages.any (fun p => p.num == n && p.begun))
  x.drop (x.length - 6144)

/-- Enforce the limit of 6,144 pages: an open record that alone would exceed it closes with SPAN_CAP, and old ones are released
(R327). -/
def limitPages (s : State) : State :=
  let t := match s.lg.openSlot with
    | none => s
    | some i =>
      if s.lg.dir[i].any (fun r => (r.pagesOf s.lg.pages).length > 6144) then
        (closeSlot i s.ov.gtime false s).updLg (fun l => { l with
          dir := l.dir.upd i (·.map (fun r => { r with flags := setBit r.flags 4, late := [], pages := l.withinLimit r.pages })) })
      else s
  shrinkTo 16 t

/-- One higher than the highest REC_SEQ in the directory and the last-gasp store, and in the archive as far as it is known
(Table 14.6). -/
def LedgerS.nextSeq (l : LedgerS) : Nat :=
  let d := l.dir.toList.foldl (fun a r => match r with | some x => max a x.recSeq | none => a) l.archSeq
  l.banks.toList.foldl (fun a b => match b with | some x => max a x.record.recSeq | none => a) d + 1

/-- REC_SEQ of a record that opens now: one higher than the highest in the directory, the archive and the last-gasp store
(Table 14.6). The archive counts as it stands in the memory (log entry 160). -/
def State.nextSeq (s : State) : Nat := s.archScan.foldl (fun a x => max a (x.1 + 1)) s.lg.nextSeq

/-- Open a record (R325); `count` is 1 for a firing and 0 for the host. -/
def openRecord (kind src sub count : Nat) (s : State) : State :=
  let s1 := if s.lg.dir.toList.all (·.isSome) then makeRoom s else s
  match (List.finRange 16).find? (fun i => s1.lg.dir[i].isNone) with
  | none => s1
  | some i =>
    let l := s1.cfg.ledger
    let t := s1.ov.gtime
    let oldest := s1.lg.pages.foldl (fun a p => min a p.t0) t
    let start := max (t - ms l.pre) (max s1.lg.prevEnd oldest)
    limitPages { s1 with lg := { s1.lg with
      badIndex := s1.lg.badIndex.filter (· != 7680 + i.val)
      dir := s1.lg.dir.set i (some
        { recSeq := s1.nextSeq, kind := kind, flags := bit01 (t < ms l.pre || t - ms l.pre < start), src := src, sub := sub,
          start := start, trig := t, endAt := t + ms l.post, trigs := count, post := ms l.post, lossless := s.codec.2,
          moments := [t], chans := l.chans, e := l.e, patSeq := s1.ch.seq }) } }

/-- What a firing does to the records (R325): it counts in an open one and moves its END, quiet or not (log entry 123), or opens
a record unless it is quiet. One that finds END at its limit sets SPAN_CAP. -/
def ledgerFiring (src sub : Nat) (quiet : Bool) (s : State) : State :=
  match s.lg.openSlot with
  | none => if quiet then s else openRecord 0 src sub 1 s
  | some i =>
    let t := s.ov.gtime
    let f (r : Record) : Record :=
      let cap := r.trig + 4 * r.post
      { r with
        trigs := min 65535 (r.trigs + 1)
        endAt := max r.endAt (min cap (t + r.post))
        moments := r.moments ++ [t]
        flags := if r.endAt == cap then setBit r.flags 4 else r.flags }
    s.updLg (fun l => { l with dir := l.dir.upd i (·.map f) })

/-- Whether a block of a channel is coded losslessly: it lies within LOSSLESS blocks from the block that holds a moment, or
within Lpre blocks before it (R326). `d` is the length of a block, ns. -/
def LedgerS.lossless (l : LedgerS) (channels t0 d : Nat) : Bool :=
  l.dir.toList.any (fun r => match r with
    | none => false
    | some x => x.moments.any (fun m =>
        let j : Int := ((m : Int) - t0) / (d : Int)
        let pre := min x.lossless (1024 / max 1 channels)
        j ≤ pre && -(x.lossless : Int) < j))

/-- The flags and POS of a block header (R321); `free` stands for POS where the first sample at or after the moment lies in the
next block, which the spec leaves open. -/
def LedgerS.blockFlags (l : LedgerS) (t0 d free : Nat) : Nat :=
  let inB (m : Nat) : Bool := t0 ≤ m && m < t0 + d
  let trg := (l.dir.toList.filterMap (fun r => r.map (·.trig))).filter inB
  let ev := ((l.log.filter (fun e => e.2.kind == 0)).map (·.2.time)).filter inB
  match trg ++ ev with
  | [] => 0
  | m :: rest =>
    let first := rest.foldl min m
    let p := (32 * (first - t0) + d - 1) / d
    bit01 (!trg.isEmpty) * 256 + bit01 (!ev.isEmpty) * 128 + (if p < 32 then p else free % 32)

/-- A block of a channel that is coded after a record has closed belongs to the record still where it lies in its window, and its
page is held; the channel owes no more blocks once one lies past END (R325, R326). -/
def holdLate (j : Fin 64) (n t0 d : Nat) (s : State) : State :=
  let f (r : Record) : Record :=
    if r.late.contains j.val then
      { r with
        pages := if t0 ≤ r.endAt && r.start ≤ t0 + d && !r.pages.contains n && r.pages.length < 6144 then r.pages ++ [n] else r.pages
        late := if r.endAt < t0 + d then r.late.filter (· != j.val) else r.late }
    else r
  s.updLg (fun l => { l with dir := l.dir.map (·.map f) })

/-- A page is held by a closed record that has no more blocks of the channel to come: it does not change until it is released
(R337). -/
def LedgerS.sealed (l : LedgerS) (j : Fin 64) (n t0 : Nat) : Bool :=
  l.dir.toList.any (fun r => match r with
    | some x => x.state != .opened && x.pages.contains n && !(x.late.contains j.val && t0 ≤ x.endAt)
    | none => false)

/-- The page in progress takes a block, or a new page where there is none or the one in progress is sealed (R319, R337). -/
def pageFor (j : Fin 64) (t0 : Nat) (s : State) : State :=
  match s.lg.chans[j].page with
  | some n => if s.lg.sealed j n t0 then takePage j t0 t0 (0, 0) s else s
  | none => takePage j t0 t0 (0, 0) s

/-- The page that takes the end of a block belongs to the closed records whose windows the block lies in (R325, R326). -/
def holdTail (j : Fin 64) (t0 d : Nat) (page : Option Nat) (s : State) : State :=
  match page with
  | none => s
  | some m => { s with lg := { s.lg with dir := s.lg.dir.map (·.map (fun r =>
      if r.late.contains j.val && t0 ≤ r.endAt && r.start ≤ t0 + d && !r.pages.contains m && r.pages.length < 6144 then
        { r with pages := r.pages ++ [m] } else r)) } }

/-- Write a coded block to its channel's pages (R318, R319): to a new page where the one in progress is sealed. -/
def putBlock (j : Fin 64) (t0 d : Nat) (blk : Nat × Nat) (x1 x2 : Nat) (s0 : State) : State :=
  let c := s0.lg.chans[j]
  let s1 := pageFor j t0 s0
  match s1.lg.chans[j].page with
  | none => s1
  | some n =>
    match s1.lg.pages.find? (fun p => p.num == n) with
    | none => s1
    | some p =>
      let room := pageBits - p.used
      let len := min room blk.2
      let rest := blk.2 - len
      let s2 := updPage n (fun q => { q.begin t0 c.x1 c.x2 (t0 + d) with bits := q.bits * 2 ^ len + blk.1 / 2 ^ rest, used := q.used + len }) s1
      let s3 := s2.updLg (fun l => { l with chans := l.chans.upd j (fun y => { y with x1 := x1, x2 := x2 }) })
      if len < room then limitPages (holdLate j n t0 d s3)
      else
        let s4 := takePage j (t0 + d) t0 (blk.1 % 2 ^ rest, rest) s3
        limitPages (holdLate j n t0 d (holdTail j t0 d (if rest = 0 then none else s4.lg.chans[j].page) s4))

/-- Code a block and write it to its channel's page (R320 to R322, R326). -/
def codeOne (j : Fin 64) (ch : LedgerChan) (t0 : Nat) (samples : List Nat) (s : State) : State :=
  let d := 2000 * 2 ^ (ch.rate % 16)
  let c := s.lg.chans[j]
  let e := if s.lg.lossless s.cfg.ledger.chans.length t0 d then 0 else s.codec.1
  let dr := draw s
  let blk := codeBlock e c.x1 c.x2 (s.lg.blockFlags t0 d dr.1) samples
  putBlock j t0 d blk.1 blk.2.1 blk.2.2 dr.2

/-- The blocks of a channel leave its delay line, oldest first, until it holds `keep` of them (R326); `n` bounds their number. -/
def codeLine (j : Fin 64) (ch : LedgerChan) (keep : Nat) : Nat → State → State
  | 0, s => s
  | n + 1, s =>
    match s.lg.chans[j].line with
    | [] => s
    | b :: rest =>
      if rest.length < keep then s
      else codeLine j ch keep n (codeOne j ch b.1 b.2 (s.updLg (fun l => { l with chans := l.chans.upd j (fun c => { c with line := rest }) })))

/-- The delay of a channel's encoder, in blocks (R326). -/
def State.lpre (s : State) : Nat := min s.codec.2 (1024 / max 1 s.cfg.ledger.chans.length)

/-- The row LEDGER_BLOCK_WRITE (R326): the block just captured enters its channel's delay line, and the one that is Lpre blocks
behind it is coded and written. Nothing is recorded before READY (R331). -/
def ledgerBlock (j : Fin 64) (samples : List Nat) (t0 : Nat) (s : State) : State :=
  match s.cfg.ledger.chans[j.val]? with
  | none => s
  | some ch =>
    if s.running && s.arch.islands.capture == .running && !s.blockDown .capture && samples.length == 32 then
      let t := s.updLg (fun l => { l with chans := l.chans.upd j (fun c => { c with line := c.line ++ [(t0, samples)] }) })
      codeLine j ch t.lpre 1025 t
    else s

/-- Sampling is interrupted: what the delay lines hold is coded and written, since nothing else is lost (R323, DEDUCED, log entry
159). -/
def emptyLines (s : State) : State :=
  s.each (List.finRange 64) (fun j u => match u.cfg.ledger.chans[j.val]? with | some ch => codeLine j ch 0 1025 u | none => u)

/-- Every channel starts a new page with GAP and the predictor at 2,048 (R319). No block of a closed record is outstanding. -/
def gapPages (s : State) : State :=
  s.updLg (fun l => { l with
    chans := l.chans.map (fun c => { c with x1 := 2048, x2 := 2048, page := none, gap := true, line := [] })
    dir := l.dir.map (·.map (fun r => { r with late := [] })) })

/-- Sampling is interrupted (R319): what was captured is written, and GAP pages follow. -/
def ledgerGap (s : State) : State := gapPages (emptyLines s)

/-- A pattern apply interrupts sampling, and the channels take their slots of the capture ADCs (R317, R319). A structural change
of the LEDGER record in service closes an open record and frees the live pages (R338). -/
def ledgerApply (struct : Bool) (s : State) : State :=
  let t := if struct then closeOpen false s else s
  gapPages (t.updLg (fun l => { l with
    offs := slotOffsets t.cfg.ledger.chans
    pages := if struct then l.pages.filter (fun p => l.heldPages.contains p.num) else l.pages }))

/-- Padding to a whole field. -/
def zeros (n : Nat) : List Byte := List.replicate n 0

/-- The bytes of an event entry (Table 14.5). -/
def LogEntry.bytes (e : LogEntry) : List Byte :=
  leBytes 8 e.time ++ [byteOf e.kind, byteOf e.a] ++ leBytes 2 e.b ++ leBytes 4 e.c

/-- The bytes of a page (Table 14.2). Payload bits not yet written read 0 (log entry 30). -/
def Page.bytes (p : Page) (held : Bool) : List Byte :=
  leBytes 8 p.t0 ++ leBytes 3 (p.pred1 + 4096 * p.pred2) ++ leBytes 2 (p.firstBit + bit01 p.gap * 8192 + p.seq % 4 * 16384) ++
    [byteOf (p.ch + bit01 held * 64 + bit01 p.damaged * 128)] ++
    (leBytes 1010 (p.bits * 2 ^ (pageBits - p.used))).reverse

/-- The bytes of a directory entry (Table 14.6). -/
def Record.bytes (r : Record) (pages recCrc : Nat) : List Byte :=
  let b := leBytes 4 0x4C444752 ++ leBytes 4 r.recSeq ++ [byteOf r.kind, byteOf r.flags, byteOf r.src, byteOf r.sub] ++
    leBytes 8 r.start ++ leBytes 8 r.trig ++ leBytes 8 r.endAt ++ leBytes 2 pages ++ leBytes 2 r.events ++ leBytes 2 r.trigs ++
    [byteOf r.chans.length, byteOf r.e] ++ leBytes 4 r.patSeq ++ zeros 16 ++
    ((r.chans.flatMap (fun c => [byteOf c.source, byteOf c.rate])) ++ zeros (2 * (64 - r.chans.length))).take 128 ++
    leBytes 4 recCrc ++ zeros 312
  b ++ leBytes 4 (crc32 b)

/-- The events of a record's window, oldest first, at most 1,024 (R328). -/
def LedgerS.eventsOf (l : LedgerS) (r : Record) : List LogEntry :=
  ((l.readable.filter (fun e => r.start ≤ e.2.time && e.2.time ≤ r.endAt)).map (·.2)).reverse.take 1024

/-- Byte `o` of the sample memory (space 0). A free page holds 0xFF in byte 13 (R318). -/
def LedgerS.sampleByte (l : LedgerS) (o : Nat) : Byte :=
  match l.pages.find? (fun p => p.num == o / 1024) with
  | some p => (p.bytes (l.heldPages.contains p.num)).getD (o % 1024) 0
  | none => if o % 1024 = 13 then 0xFF else 0

/-- The unit of the index memory that an uncorrectable error makes unreadable: an entry of the log, or one of the directory
(R330). -/
def indexCell (o : Nat) : Nat := if o < 122880 then o / 16 else 7680 + (o - 122880) / 512

/-- Byte `o` of the index memory (space 1); a byte of an unreadable entry is a free value (R330). -/
def LedgerS.indexByte (l : LedgerS) (free o : Nat) : Byte :=
  if l.badIndex.contains (indexCell o) then byteOf (Config.freeNat (free + o))
  else if o < 122880 then
    match l.log.find? (fun e => e.1 == o / 16) with
    | some e => e.2.bytes.getD (o % 16) 0
    | none => 0
  else
    match (Tab.get? l.dir ((o - 122880) / 512)).join with
    | some r => let x := l.shown r; (x.bytes x.pages.length 0).getD ((o - 122880) % 512) 0
    | none => 0

/-- The bytes of a last-gasp bank (Table 14.7), without its trailing reserved bytes. -/
def LgsBank.bytes (b : LgsBank) : List Byte :=
  leBytes 4 b.marker ++ [byteOf b.crCount, 0, 0, 0] ++ b.record.bytes b.pages.length 0 ++
    (b.events.flatMap LogEntry.bytes ++ zeros (16 * (128 - b.events.length))).take 2048 ++
    b.pages.flatMap (fun p => p.bytes (b.held.contains p.num))

/-- Where a byte of a bank stands in the order of a write (R332): the marker, the event area and the pages, the directory entry.
The reserved bytes behind them are not written. -/
def lgsOrder (o : Nat) : Option Nat :=
  if o < 8 then some o else if o < 520 then some (30720 + o) else if o < 31240 then some (o - 512) else none

/-- The bytes that a write of a bank writes. -/
def lgsTotal : Nat := 31240

/-- Byte `o` of a bank of which a write has written the first `n` bytes in its order: new there, and old elsewhere (R332). -/
def LgsBank.byteAfter (b : LgsBank) (n o : Nat) : Byte :=
  if (lgsOrder o).any (fun k => decide (k < n)) then b.bytes.getD o 0 else b.old.getD o 0

/-- Byte `o` of the last-gasp store (space 2). How far a write under way has come is a free value (R332). -/
def LedgerS.lgsByte (l : LedgerS) (free o : Nat) : Byte :=
  match (Tab.get? l.banks (o / 32768)).join with
  | some b => b.byteAfter (if b.complete then lgsTotal else b.stop.getD (Config.freeNat free)) (o % 32768)
  | none => 0

/-- The bytes of a bank as they stand. -/
def LedgerS.bankBytes (l : LedgerS) (free : Nat) (i : Fin 2) : List Byte :=
  (List.range 32768).map (fun o => l.lgsByte free (32768 * i.val + o))

/-- The newest complete bank (R332). -/
def LedgerS.newestBank (l : LedgerS) : Option (Fin 2) :=
  (List.finRange 2).foldl (fun b i =>
    match l.banks[i] with
    | some x => if x.complete then
        (match b with
         | some k => (match l.banks[k] with | some y => if x.record.recSeq > y.record.recSeq then some i else b | none => some i)
         | none => some i)
      else b
    | none => b) none

/-- The open record. -/
def LedgerS.openRec (l : LedgerS) : Option Record := l.openSlot.bind (fun k => l.dir[k])

/-- The directory entry of a last-gasp image: the newest history and the trigger `o` of the record that was open, if any;
without one its trigger is a free value (Table 14.7, log entry 124). -/
def lgsRecord (creset : Bool) (o : Option Record) (events : Nat) (pages : List Page) (s : State) : Record :=
  { state := .closed
    recSeq := s.nextSeq
    kind := 2
    flags := bit01 creset * 8
    src := (o.map (·.src)).getD (Config.freeNat s.free)
    sub := (o.map (·.sub)).getD (Config.freeNat (s.free + 1))
    start := pages.foldl (fun a p => min a p.t0) s.ov.gtime
    trig := (o.map (·.trig)).getD (Config.freeNat (s.free + 2))
    endAt := s.ov.gtime
    trigs := (o.map (·.trigs)).getD 0
    events := events
    pages := pages.map (·.num)
    post := 0
    lossless := 0
    chans := s.cfg.ledger.chans
    e := s.cfg.ledger.e
    patSeq := s.ch.seq }

/-- The pages of a last-gasp image: of each of the first channels the newest, the page in progress among them (Table 14.7). -/
def State.lgsPages (s : State) : List Page :=
  let n := min (max 1 s.cfg.ledger.chans.length) 4
  (List.range n).flatMap (fun j => (s.lg.pages.reverse.filter (fun p => p.ch == j)).take (28 / n))

/-- Start a write of the last-gasp store, into the bank that does not hold the newest valid image (R332). `cr` names the
source of a CRESET and `o` is the record that was open. A feed loss during a write leaves that write to end (R338). -/
def lgsStart (cr : Option Nat) (o : Option Record) (s : State) : State :=
  if s.lg.lgsWrite.isSome && cr.isNone then s
  else
    let i : Fin 2 := match s.lg.newestBank with | some 0 => 1 | _ => 0
    let last := s.lg.newestBank.bind (fun k => s.lg.banks[k])
    let pages := s.lgsPages
    let events := (s.lg.readable.take 128).map (·.2)
    let r := lgsRecord cr.isSome o events.length pages s
    let held := pages.filter (fun p => s.lg.heldPages.contains p.num)
    let b : LgsBank :=
      { marker := r.recSeq
        crCount := if cr.isSome then sat255 s.ev.crCount else s.ev.crCount
        crSrc := cr.getD ((last.map (·.crSrc)).getD 255)
        complete := false
        record := r
        events := events
        pages := pages
        held := held.map (·.num)
        old := s.lg.bankBytes (s.free + 3) i }
    { s with free := s.free + 4, lg := { s.lg with
        banks := s.lg.banks.set i (some b), lgsWrite := some i
        lgsOld := if s.lg.lgsWrite.isSome then s.lg.lgsOld else s.lg.banks[i] } }

/-- The last-gasp write ends, completely or not (R332). How far an incomplete one has come is a free value; one that has changed
no byte of the marker leaves the bank as it was. -/
def lgsDone (complete : Bool) (s : State) : State :=
  match s.lg.lgsWrite with
  | none => s
  | some i =>
    if complete then
      s.updLg (fun l => { l with lgsWrite := none, lgsOld := none, banks := l.banks.upd i (·.map (fun x => { x with complete := true, old := [] })) })
    else
      let p := draw s
      let n := p.1 % lgsTotal
      let same (b : LgsBank) : Bool := n ≤ 8 && b.bytes.take n == b.old.take n
      p.2.updLg (fun l => { l with
        lgsWrite := none
        lgsOld := none
        banks := l.banks.upd i (fun b => match b with
          | some x => if same x then l.lgsOld else some { x with stop := some n }
          | none => none) })

/-- Up to a whole number of 4 KiB sectors. -/
def sectors (n : Nat) : Nat := (n + 4095) / 4096 * 4096

/-- The size of a record in the archive (R334). -/
def archSizeOf (events pages : Nat) : Nat := sectors (16 * events) + sectors (1024 * pages) + 4096

/-- Where a record of `size` bytes goes in the archive region: behind the latest, or at the start where it would not fit (R334). -/
def State.archPlace (s : State) (size : Nat) : Nat := if s.lg.archPtr + size > (s.ch.region 5).2.2 then 0 else s.lg.archPtr

/-- The commands that write a record to the archive region: on NOR the erases first, then the event area, the pages and the
header sector last (R63, R334). The padding of the event area is left as the memory has it. -/
def archOps (r : Record) (events : List LogEntry) (pages : List Page) (held : List Nat) (s : State) : List MemOp :=
  let reg := s.ch.region 5
  let size := archSizeOf events.length pages.length
  let base := reg.2.1 + s.archPlace size
  let evb := events.flatMap LogEntry.bytes
  let pgb := pages.flatMap (fun p => p.bytes (held.contains p.num))
  let pad := sectors evb.length - evb.length
  let area := evb ++ (if s.ch.isNor reg.1 then List.replicate pad 0xFF else s.ch.memBytes reg.1 (base + evb.length) pad) ++ pgb
  let hd := r.bytes pages.length (crc32 area)
  eraseOps .archive reg.1 base size ++ programOps .archive reg.1 base evb ++
    programOps .archive reg.1 (base + sectors evb.length) pgb ++
    programOps .archive reg.1 (base + sectors evb.length + sectors pgb.length) (hd ++ zeros (4096 - hd.length))

/-- Where a record of `size` bytes ends in the archive region, and the write pointer moves to (R334). -/
def archPast (r : Record) (size : Nat) (s : State) : State :=
  let p := s.archPlace size
  s.updLg (fun l => { l with archPtr := p + size, archSeq := max l.archSeq r.recSeq })

/-- Write a record to the archive region (R333, R334). -/
def archWrite (r : Record) (events : List LogEntry) (pages : List Page) (held : List Nat) (s : State) : State :=
  let l := archOps r events pages held s
  memBegin l (archPast r (archSizeOf events.length pages.length) s)

/-- A pattern that flushes to an archive region shorter than ARCH_SIZE x 64 KiB (R62). -/
def State.archShort (s : State) (im : Image) : Bool :=
  im.cfg.ledger.archive == 1 && (s.ch.region 5).2.2 < im.cfg.ledger.archSize * 65536

/-- Whether the archive can take records (R62, R334). -/
def State.archiveOn (s : State) : Bool := s.cfg.ledger.archive == 1 && (s.ch.region 5).2.2 != 0 && !s.archShort s.ch.image

/-- Examine both last-gasp banks at a start (R333): an incomplete one fires EV169. -/
def lgsExamine (s : State) : State :=
  s.each (List.finRange 2) (fun i t =>
    match t.lg.banks[i] with
    | some b => if b.complete then t else fire 169 i.val (t.updLg (fun l => { l with lgsIncomplete := true }))
    | none => t)

/-- The newest complete bank goes to the archive once its write pointer is found, unless a header there has its REC_SEQ already
(R333, log entry 125). -/
def lgsCopy (s : State) : State :=
  match s.lg.newestBank.bind (fun k => s.lg.banks[k]) with
  | some b =>
    if s.archiveOn && !s.archScan.any (fun x => x.1 == b.record.recSeq) then archWrite b.record b.events b.pages b.held s else s
  | none => s

/-- The pages of a record that the sample memory holds. -/
def LedgerS.pagesIn (l : LedgerS) (r : Record) : List Page := l.pages.filter (fun p => r.pages.contains p.num)

/-- The headers of the archive's sectors are read (R334). -/
def archRead (s : State) : State := s.each (List.range ((s.ch.region 5).2.2 / 4096)) (fun i u => regionFetch 5 (4096 * i) u)

/-- The ledger core finds its place in the archive, after the newest record, and copies the newest last-gasp image to it (R333,
R334). -/
def archFind (s0 : State) : State :=
  if !s0.archiveOn || s0.blockDown .memory then s0 else
  let s := archRead s0
  let l := s.archScan
  let q := l.foldl (fun a x => max a x.1) 0
  lgsCopy (s.updLg (fun g => { g with
    archKnown := true
    archSeq := q, archPtr := match l.find? (fun x => x.1 == q) with | some x => x.2 | none => 0 }))

/-- The writes of a record's flush begin, from its first sector (R334, R338). -/
def flushWrite (i : Fin 16) (s : State) : State :=
  match s.lg.dir[i] with
  | some r => memBegin (archOps r (s.lg.eventsOf r) (s.lg.pagesIn r) r.pages s) s
  | none => s

/-- The oldest closed record that the index memory can still show (R330, R334). -/
def LedgerS.flushNext (l : LedgerS) : Option (Fin 16) :=
  (List.finRange 16).foldl (fun (b : Option (Fin 16)) i =>
    match l.dir[i] with
    | some r =>
      if r.state == .closed && !l.badIndex.contains (7680 + i.val) then
        (match b.bind (fun k => l.dir[k]) with | some x => if r.recSeq < x.recSeq then some i else b | none => some i)
      else b
    | none => b) none

/-- At most one flush per second: the oldest closed record begins flushing, once its last blocks are written (R334, R335). -/
def flushStart (s0 : State) : State :=
  let s := s0.when (!s0.lg.archKnown && s0.mode == .ready && s0.coreUp .ledger) archFind
  if s.archiveOn && s.lg.archKnown && s.lg.flush.isNone && !s.lg.flushHold && s.mode == .ready && s.coreUp .ledger &&
      !s.ch.writing .archive && (match s.lg.lastFlush with | some t => t + sec 1 ≤ s.now | none => true) then
    match s.lg.flushNext with
    | none => s
    | some i =>
      match s.lg.dir[i] with
      | none => s
      | some r =>
        let size := archSizeOf (s.lg.eventsOf r).length (s.lg.pagesIn r).length
        if !r.late.isEmpty then s
        else if size > (s.ch.region 5).2.2 then
          fire 170 1 (s.updLg (fun l => { l with archFail := true, dir := l.dir.set i (some { r with state := .flushFail }) }))
        else flushWrite i (s.updLg (fun l => { l with
          flush := some i, lastFlush := some s.now, flushLen := size, dir := l.dir.set i (some { r with state := .flushing }) }))
  else s

/-- A flush completes, once its header sector is written (R334). -/
def flushDone (s : State) : State :=
  match s.lg.flush with
  | none => s
  | some i =>
    match s.lg.dir[i] with
    | none => s
    | some r =>
      if s.coreUp .ledger && !s.ch.writing .archive then
        (archPast r s.lg.flushLen s).updLg (fun l => { l with
          flush := none, archCnt := (l.archCnt + 1) % 65536, dir := l.dir.set i (some { r with state := .flushed }) })
      else s

/-- The flush in progress stops with the ledger core, and starts again from its first sector after the core's restart (R338). -/
def flushPause (s : State) : State := if s.lg.flush.isSome then s.updCh (fun c => c.cancel .archive) else s

/-- A flush write is abandoned: EV170, and a retry up to 3 times (R335). -/
def flushAbandon (s : State) : State :=
  match s.lg.flush with
  | none => s
  | some i =>
    let f (r : Record) : Record := { r with retries := r.retries + 1, state := if r.retries < 3 then .closed else .flushFail }
    fire 170 0 { s with lg := { s.lg with archFail := true, flush := none, dir := s.lg.dir.upd i (·.map f) } }

/-- A double-bit error in a page being flushed: the page is flushed as read, and the header, unless it is being written already,
gets DAMAGED (Table 14.8). -/
def flushDamaged (s : State) : State :=
  match s.lg.flush with
  | none => s
  | some i =>
    match s.lg.dir[i] with
    | none => s
    | some r =>
      let reg := s.ch.region 5
      let size := archSizeOf (s.lg.eventsOf r).length (s.lg.pagesIn r).length
      let at0 := reg.2.1 + s.archPlace size + size - 4096
      let mine (o : MemOp) (k : Nat) : Bool := o.use == .archive && !o.erase && o.ofs == at0 + k
      match s.ch.memQ.find? (mine · 0) with
      | none => s
      | some o =>
        let hd := r.bytes (s.lg.pagesIn r).length (u32At o.data 192)
        let f (x : MemOp) : MemOp :=
          if mine x 0 then { x with data := hd.take 256 } else if mine x 256 then { x with data := hd.drop 256 } else x
        s.updCh (fun c => { c with memQ := c.memQ.map f })

/-- An ECC error (R330). -/
def eccErr (site : EccSite) (double : Bool) (s : State) : State :=
  if !double then s.updLg (fun l => { l with eccCorr := sat255 l.eccCorr })
  else
    match site with
    | .page p =>
      let t := updPage p (fun q => { q with damaged := true }) s
      let f (r : Record) : Record := if (r.pagesOf t.lg.pages).contains p then { r with flags := setBit r.flags 2 } else r
      fire 171 0 (flushDamaged (t.updLg (fun l => { l with uncorr := true, dir := l.dir.map (·.map f) })))
    | .index o => fire 171 1 (s.updLg (fun l => { l with
        uncorr := true, badIndex := indexCell o :: l.badIndex.filter (· != indexCell o) }))

/-- LG_DEPTH (R324): 0.1 ms per code, saturating. -/
def State.lgDepth (s : State) : Nat :=
  let l := s.cfg.ledger
  let f := (l.chans.map (fun c => 2 ^ (10 - c.rate % 16))).foldl (· + ·) 0
  if f = 0 then 0
  else min 65535 ((pageCount - s.lg.heldPages.eraseDups.length - l.chans.length) * pageBits * 20000 / (27 * 15625 * f))

/-- The host opens a record (R325); with one open, the strobe is refused. -/
def lgTrigger (s : State) : State :=
  match s.lg.openSlot with
  | some _ => { s with lg := { s.lg with refused := true } }
  | none => openRecord 1 255 0 0 s

/-- The host releases a record; an open one refuses (R338), and an empty entry stays empty. -/
def lgRelease (s : State) : State :=
  match (Tab.get? s.lg.dir s.lg.recSel).join with
  | some r =>
    if r.state == .opened then { s with lg := { s.lg with refused := true } }
    else { s with
      lg := { s.lg with dir := Tab.put s.lg.dir s.lg.recSel none, flush := s.lg.flush.filter (fun i => i.val != s.lg.recSel) }
      ch := if s.lg.flush.any (fun i => i.val == s.lg.recSel) then s.ch.cancel .archive else s.ch }
  | none => s

/-- LG_REC_INFO.STATE code. -/
def RecState.code : RecState → Nat
  | .opened => 1 | .closed => 2 | .flushing => 3 | .flushed => 4 | .flushFail => 5

/-- The bytes of the record set of the selected entry (Table 14.10), with SEQ and FRESH. What an unreadable entry shows is a free
value (R330). -/
def LedgerS.recSet (l : LedgerS) (seq : Nat) (fresh : Bool) (free : Nat) : List Byte :=
  let sf := seq + bit01 fresh * 256
  if l.badIndex.contains (7680 + l.recSel) then
    leBytes 2 (sf + Config.freeNat free % 32 * 512) ++ (List.range 32).map (fun i => byteOf (Config.freeNat (free + 1 + i)))
  else
    match (Tab.get? l.dir l.recSel).join with
    | none => leBytes 2 sf ++ zeros 32
    | some x =>
      let r := l.shown x
      leBytes 2 (sf + r.state.code * 512 + r.kind * 4096) ++ [byteOf r.flags, byteOf r.src] ++
        leBytes 4 r.recSeq ++ leBytes 8 r.trig ++ leBytes 8 r.start ++ leBytes 8 r.endAt ++ leBytes 2 r.pages.length

end Sys2Proof.Machine
end

