-- ==== Sys2Proof/Machine/SetOps.lean ====
section
/-! DEFINITION. What the supervisor core keeps and what the cores do: the settings store, traps, core restarts, and memory
writes with their timeouts (spec/01_architecture.md R25 to R27, spec/03_start_and_memory.md R63 to R65,
spec/16_update.md R372). -/
namespace Sys2Proof.Machine

/-- The number of a core (Table 16.5). -/
def coreNum : CoreId → Fin 3
  | .supervisor => 0 | .ledger => 1 | .link => 2

/-- The records of a copy after its header (R372): the type, the version and the body of each, until one does not fit; `n`
bounds their number. -/
def setRecords : Nat → List Byte → List SetRec
  | 0, _ => []
  | n + 1, b =>
    let len := 4 * u16At b 2
    if len = 0 || b.length < len then [] else ⟨b.getD 0 0, b.getD 1 0, (b.take len).drop 4⟩ :: setRecords n (b.drop len)

/-- An entry of the fault history (Table 16.6): 12 bytes in settings version 1, 16 from version 2 on. -/
def trapOf (ver : Nat) (b : List Byte) : Trap :=
  if ver ≤ 1 then ⟨byteAt b 8, 0, leNat (b.take 8), 0, 0⟩ else ⟨byteAt b 8, byteAt b 9, leNat (b.take 8), u16At b 10, u16At b 12⟩

/-- The content of a copy that this unit did not write (R372, log entry 155): the fault history and the records of other types
as their bytes say, the rest as the supervisor reads its records. -/
def storedSet (ver : Nat) (l : List SetRec) : SetData :=
  let body (t : Nat) : List Byte := match l.find? (fun r => r.type.toNat == t) with | some r => r.body | none => []
  let nat (k t : Nat) : Nat := (Config.setField k (body t)).headD 0
  let header (k : Nat) : Option (List Byte) :=
    let v := Config.setField k (body 3)
    if v.isEmpty then none else some ((List.range 256).map (fun i => byteOf (v.getD i 0)))
  let e := if ver ≤ 1 then 12 else 16
  let hist := body 4
  { pat := { proved := Config.setField 0 (body 1), failed := Config.setField 1 (body 1), inProof := (Config.setField 2 (body 1)).head? }
    fw := Vector.ofFn (fun (i : Fin 3) => (Config.setField 3 (body 2)).getD i.val 0 % 2 == 1)
    trial := (Config.setField 4 (body 2)).head?.map (fun n => if n % 3 = 0 then .supervisor else if n % 3 = 1 then .ledger else .link)
    newSlot := (Config.setField 5 (body 2)).head?.map (fun n => n % 2 == 1)
    verPat := header 6
    verFw := header 7
    sched := (Config.setField 8 (body 3)).head?.map (fun n =>
      ⟨n % 2 ^ 32, nat 9 3 % 2 ^ 32, nat 10 3 % 600 + 1, nat 11 3 % 2 ^ 64, nat 12 3 % 2 == 1⟩)
    history := (List.range (hist.length / e)).map (fun i => trapOf ver (hist.drop (e * i)))
    interval := nat 13 5
    tap := nat 14 5
    others := l.filter (fun r => r.type.toNat == 0 || 5 < r.type.toNat) }

/-- Where a copy of the settings store begins, one in each half of the region (R372). -/
def ChandlerS.copyAt (c : ChandlerS) (i : Fin 2) : Nat := (c.region 4).2.1 + i.val * ((c.region 4).2.2 / 2)

/-- A copy of the settings store as its bytes stand in the memory (R372): MAGIC, a length that fits its half, and the CRC-32 in
the last word. -/
def State.setCopy (s : State) (i : Fin 2) : Option SetCopy :=
  let r := s.ch.region 4
  let a := s.ch.copyAt i
  let h := s.ch.memBytes r.1 a 16
  let n := u32At h 12
  if r.2.2 = 0 || u32At h 0 != 0x53455454 || n < 20 || n % 4 != 0 || r.2.2 / 2 < n then none
  else
    let b := s.ch.memBytes r.1 a n
    if crc32 (b.take (n - 4)) != u32At b (n - 4) then none
    else match s.upd.copies[i] with
      | some c => if c.bytes = b then some c else some ⟨u16At h 4, u32At h 8, storedSet (u16At h 4) (setRecords n ((b.take (n - 4)).drop 16)), b⟩
      | none => some ⟨u16At h 4, u32At h 8, storedSet (u16At h 4) (setRecords n ((b.take (n - 4)).drop 16)), b⟩

/-- The newest copy of the settings store among those that satisfy a condition, and its half (R372). -/
def State.newestCopy (s : State) (ok : SetCopy → Bool) : Option (Fin 2 × SetCopy) :=
  match (s.setCopy 0).filter ok, (s.setCopy 1).filter ok with
  | some a, some b => if b.seq ≤ a.seq then some (0, a) else some (1, b)
  | some a, none => some (0, a)
  | none, some b => some (1, b)
  | none, none => none

/-- The settings version of the supervisor's image (R372): 3 is the current one. -/
def State.setVer (s : State) : Nat :=
  3 - Config.setVerBack (u16At (s.ch.memBytes (s.ch.region (2 + bit01 s.upd.fw[(0 : Fin 3)])).1
    ((s.ch.region (2 + bit01 s.upd.fw[(0 : Fin 3)])).2.1 + 256) 32) 12) % 3

/-- `n` free values. -/
def drawList : Nat → State → List Nat × State
  | 0, s => ([], s)
  | n + 1, s => let p := draw s; let q := drawList n p.2; (p.1 :: q.1, q.2)

/-- A record of the settings store with its header: LEN counts the header word (R32, R372). -/
def SetRec.encode (r : SetRec) : List Byte := [r.type, r.ver] ++ leBytes 2 ((r.body.length + 3) / 4 + 1) ++ r.body

/-- An entry of the fault history of settings version 2 or 3 (Table 16.6). -/
def Trap.encode (t : Trap) (f : Nat) : List Byte :=
  leBytes 8 t.time ++ [byteOf t.source, byteOf t.sub] ++ leBytes 2 t.entry ++ leBytes 2 t.cause ++ leBytes 2 f

/-- The records that a supervisor of a settings version writes (R372). What the spec does not lay out, which is the record
versions and the bodies other than the fault history, is free (log entry 120); version 1 has 12-byte history entries, and the
sweep record comes with version 3. -/
def SetData.encode (d : SetData) (ver : Nat) (f : List Nat) : List SetRec :=
  let g (i : Nat) : Nat := f.getD i 0
  let free (t i : Nat) : SetRec := ⟨byteOf t, byteOf (g i), leBytes (4 * (g (i + 1) % 160)) (g (i + 1) / 160)⟩
  let entry (t : Trap) : List Byte := if ver ≤ 1 then (t.encode (g 8)).take 9 ++ leBytes 3 (g 8) else t.encode (g 8)
  [free 1 0, free 2 2, free 3 4, ⟨4, byteOf (g 6), d.history.flatMap entry⟩] ++ (if 3 ≤ ver then [free 5 9] else []) ++ d.others

/-- The bytes of a copy (R372); the two bytes that it does not name are free. -/
def setBytes (ver seq : Nat) (d : SetData) (f : List Nat) : List Byte :=
  let body := (d.encode ver f).flatMap SetRec.encode
  let b := leBytes 4 0x53455454 ++ leBytes 2 ver ++ leBytes 2 (f.getD 7 0) ++ leBytes 4 seq ++ leBytes 4 (body.length + 20) ++ body
  b ++ leBytes 4 (crc32 b)

/-- The settings region exists. -/
def State.hasStore (s : State) : Bool := (s.ch.region 4).2.2 != 0

/-- The half that the next copy goes to: the one without the newest copy that this supervisor can use, or without the one that
is kept (R372). -/
def State.setHalf (s : State) : Fin 2 :=
  match s.upd.keep, s.newestCopy (fun c => c.ver ≤ s.setVer) with
  | some i, _ => 1 - i
  | none, some c => 1 - c.1
  | none, none => 0

/-- Write the settings as they stand as a new copy (R372). Where a copy is being written, the new one follows it. The oldest
history is left out where the half has no room for it; a copy that does not fit even so is a failed write. -/
def writeSet (s : State) : State :=
  if s.hasStore && s.coreUp .supervisor && s.upd.setRead then
    if s.upd.writing.isSome then s.updUpd (fun u => { u with dirty := true })
    else
      let reg := s.ch.region 4
      let i := s.setHalf
      let room := (reg.2.2 / 2 - 4096) / 16
      let d := { s.upd.set with history := s.upd.set.history.drop (s.upd.set.history.length - room) }
      let q := match s.newestCopy (fun _ => true) with | some c => c.2.seq + 1 | none => 1
      let p := drawList 11 s
      let b := setBytes s.setVer q d p.1
      if reg.2.2 / 2 < b.length then fire 183 2 p.2
      else
        memBegin (eraseOps .settings reg.1 (s.ch.copyAt i) b.length ++ programOps .settings reg.1 (s.ch.copyAt i) b)
          (p.2.updUpd (fun u => { u with writing := some (i, ⟨s.setVer, q, d, b⟩), dirty := false }))
  else s

/-- Migration of the settings from one version to another (Table 16.6). -/
def migrateSet (ver new : Nat) (d : SetData) : SetData :=
  let a := if ver ≤ 1 && 2 ≤ new then { d with history := d.history.map (fun t => { t with sub := 0xFF, entry := 0, cause := 0 }) } else d
  if ver ≤ 2 && 3 ≤ new then { a with interval := 0, tap := 1, verPat := none, verFw := none, sched := none } else a

/-- A copy follows where the settings have changed while the one before was written. -/
def setAgain (s : State) : State := if s.upd.dirty && s.upd.writing.isNone then writeSet s else s

/-- Change the settings, and write them to the store. While the supervisor core restarts, the write waits (Table 1.4). -/
def saveSet (f : SetData → SetData) (s : State) : State := writeSet (s.updUpd (fun u => { u with set := f u.set }))

/-- Deliver the traps that wait to the supervisor core, which records them in the fault history (R27, Table 11.3). -/
def deliverTraps (s : State) : State :=
  if s.coreUp .supervisor && !s.arch.traps.isEmpty then
    let l := s.arch.traps
    saveSet (fun d => { d with history := d.history ++ l }) (s.updArch (fun a => { a with traps := [] }))
  else s

/-- A TRAP reaction: the trap is delivered, or held while the supervisor core does not run (R27). -/
def trap (src sub entry cause time : Nat) (s : State) : State :=
  deliverTraps (s.updArch (fun a => { a with traps := a.traps ++ [⟨src, sub, time, entry, cause⟩] }))

/-- A core begins a restart (R26). A core that is off or held stays so. -/
def coreRestart (c : CoreId) (s : State) : State :=
  if s.coreUp c || (s.core c).state == .halted then
    ((s.updCore c (fun x => { x with state := .restarting })).when (c == .ledger) flushPause).when (c == .link)
      (fun t => t.updHb (fun h => { h with sending := h.sending.map (fun _ => false) }))
  else s

/-- What a write that stops half way leaves where it wrote is a free value (log entry 3). -/
def memSpoil (o : MemOp) (s : State) : State := let p := draw s; memPut o.dev o.ofs (leBytes o.len p.1) p.2

/-- A memory write is abandoned with all that waits of it (R65). -/
def memAbandon (s : State) : State :=
  match s.ch.memOp with
  | none => s
  | some o =>
    let u := fire 182 1 (addTally 12 1 ((memSpoil o s).updCh (fun c => { c.cancel o.use with memOp := none, wrFail := true })))
    setAgain (memNext (match o.use with
      | .settings => fire 183 2 (u.updUpd (fun x => { x with writing := none }))
      | .archive => flushAbandon u
      | .staging | .factory => spEnd 8 u))

/-- The row MEM_WRITE_TIMEOUT (R65, Table 3.5). -/
def memTimeout (s : State) : State :=
  match s.ch.memOp with
  | none => s
  | some o => if s.mode != .sleep && o.started + ms (if o.erase then 400 else 5) < s.now then memAbandon s else s

/-- The row MEM_STATUS_POLL (R63, R65): the status is read, and once the device is no longer busy, the command is complete and
the next begins. -/
def memPoll (busy : Bool) (s : State) : State :=
  match s.ch.memOp with
  | none => s
  | some o =>
    let t := send (.mem { dev := o.dev, op := 0x05 }) s
    if s.mode == .sleep then s
    else if busy then t
    else
      let u := t.updCh (fun c => { c with memOp := none })
      setAgain (memNext (if u.ch.memQ.any (fun x => x.use == o.use) then u else memEnd o.use u))

/-- The staging is ABANDONED (R367). -/
def stageAbandon (s : State) : State :=
  if s.upd.staging.isSome then s.updUpd (fun u => { u with stage := .abandoned, staging := none, why := 14 }) else s

/-- The session of the service port closes (R365); a staging of its own is ABANDONED (R367). -/
def closeSession (s : State) : State :=
  if s.sp.mode.isSome then
    let t := s.updSp (fun p => { p with mode := none, badRun := 0 })
    if (match t.upd.staging with | some g => !g.ov | none => false) then stageAbandon t else t
  else s

end Sys2Proof.Machine
end

