-- ==== Sys2Proof/Machine/StartOps.lean ====
section
/-! DEFINITION. Start-up, the pattern's apply, feeds, scrub and sleep (spec/01_architecture.md, spec/03_start_and_memory.md;
R47, R48, R420 and the apply rules of each block's chapter). -/
namespace Sys2Proof.Machine

/-- The part is held in reset, where it judges nothing and records nothing (R56). -/
def State.resetHeld (s : State) : Bool := s.mode == .por || s.mode == .held

/-- The index of the other feed. -/
def otherFeed (f : Fin 2) : Fin 2 := if f = 0 then 1 else 0

/-- The qualify time of a feed, ms (R54). -/
def State.auxQual (s : State) : Nat := match s.hold.cfg with | some c => c.auxQual | none => 10

/-- The falling threshold of a feed, 0.1 V (R54). -/
def auxFallOf (c : Option HoldupCfg) : Nat := match c with | some x => x.auxFall | none => 90

/-- The rising threshold of a feed, 0.1 V (R54). -/
def State.auxRise (s : State) : Nat := match s.hold.cfg with | some c => c.auxRise | none => 100

/-- The gates follow the qualification of the feeds and their difference (R52). -/
def judgeGates (s : State) : State :=
  { s with feeds := Vector.ofFn (fun i : Fin 2 =>
      let x := s.feeds[i]
      { x with gate := x.qual && !(x.below && (s.feeds[otherFeed i]).qual) }) }

/-- A qualified feed becomes absent (R52, R55): EV144, and where it was the last, HU_CAUSE.LAST_FEED and the last-gasp write. -/
def feedLost (f : Fin 2) (s : State) : State :=
  let t := judgeGates (s.updFeed f (fun x => { x with qual := false, gate := false, lost := true, since := some s.now }))
  let u := fire 144 (4 + f.val) t
  wakeBegin 6 (if (s.feeds[otherFeed f]).qual then u
    else lgsStart none u.lg.openRec (u.updHold (fun h => { h with cause := h.cause ||| 16 })))

/-- The feed comparators are armed from step 2 of Table 3.1. -/
def State.feedsOn (s : State) : Bool := !(s.mode == .por || s.mode == .held || s.mode == .creset)

/-- The row FEED_QUALIFIED (R53, R54): the feed has stayed at or above its rising threshold, at which it stands now. -/
def feedQual (x : FeedSense) (s0 : State) : State :=
  let s := s0.updFeed x.feed (fun y => { y with mv := some x.mv })
  match (s.feeds[x.feed]).since with
  | some t =>
    if s.feedsOn && !(s.feeds[x.feed]).qual && 100 * s.auxRise ≤ x.mv && t + ms s.auxQual ≤ s.now then
      wakeBegin 6 (judgeGates (s.updFeed x.feed (fun y => { y with qual := true, since := none })))
    else s
  | none => s

/-- The row FEED_ABSENT (R52): the feed has stayed below its falling threshold. -/
def feedGone (x : FeedSense) (s0 : State) : State :=
  let s := s0.updFeed x.feed (fun y => { y with mv := some x.mv })
  if (s.feeds[x.feed]).qual && x.mv < 100 * auxFallOf s.hold.cfg then feedLost x.feed s else s

/-- The feeds judged afresh against an AUX_FALL in force that has changed (R54): a qualified feed stays so at or above it. Its
sense voltage is the latest that a feed command or a housekeeping conversion has brought (log entry 118). -/
def watchFeeds (s : State) : State :=
  let fall := auxFallOf s.hold.cfg
  if fall = s.hold.fall then s
  else
    let t := s.updHold (fun h => { h with fall := fall })
    if fall < s.hold.fall then t
    else t.each (List.finRange 2) (fun f u =>
      match (u.feeds[f]).mv with
      | some v => if (u.feeds[f]).qual && v < 100 * fall then feedLost f u else u
      | none => u)

/-- The rows FEED_GATE_OFF and FEED_GATE_ON (R52): `b` is whether the feed lies more than 0.5 V below the other. -/
def feedBelow (f : Fin 2) (b : Bool) (s : State) : State :=
  if s.feedsOn then judgeGates (s.updFeed f (fun x => { x with below := b })) else s

/-- The row INPUT_QUALIFY_RESTART (R53): an input that has not qualified starts its qualify time again. -/
def qualifyRestart (i : QualInput) (s : State) : State :=
  match i with
  | .feed f => s.updFeed f (fun x => if !x.qual && x.since.isSome then { x with since := some s.now } else x)
  | .busBar => s.updHold (fun h => if !h.busQ && h.qualAt.isSome then { h with qualAt := some s.now } else h)
  | .domain d => s.updDom d (fun x => if !x.inQ && x.qualAt.isSome then { x with qualAt := some s.now } else x)

/-- A record of a pattern, by type and instance. -/
def Image.record (im : Image) (type inst : Nat) : Option RawRec := im.recs.find? (fun r => (recKeys r).contains (type, inst))

/-- Two patterns agree in the structural fields of a record, or both lack it. -/
def sameStruct (old new : Image) (type inst : Nat) : Bool :=
  match old.record type inst, new.record type inst with
  | some a, some b => structPart a == structPart b
  | none, none => true
  | _, _ => false

/-- Every trim is discarded (R49, R74): the fields return to their pattern values under Table 2.28. -/
def discardTrims (s : State) : State :=
  let c := s.cfg
  let t := s.each (List.finRange 64) (fun n u => u.updPhase n (fun p => if p.trimmed then { p with trimmed := false, next := c.phases[n] } else p))
  let t1 := t.each (List.finRange 24) (fun r u => u.updRail r (fun x =>
    if x.trimV || x.trimI then { x with trimV := false, trimI := false, next := c.rails[r] } else x))
  let t2 := t1.each (List.finRange 96) (fun m u => u.updMon m (fun x => if x.trimmed then { x with trimmed := false, next := c.mons[m] } else x))
  let t2 := t2.each (List.finRange 96) monLoadNow
  let t3 := t2.each (List.finRange 16) (fun k u =>
    if (u.watch.cts[k]).trimmed then (trimPrescale k (c.cts[k]).prescale u).updCt k (fun x => { x with trimmed := false }) else u)
  t3.updHk (fun h => if h.trimmed then { h with trimmed := false, cfgNext := some c.thermal } else h)

/-- A fenced phase that a pattern apply takes out of its rail leaves the rail's limit to change at the next sample (R101). -/
def leaveFence (n : Fin 64) (s : State) : State :=
  match s.railOf n with
  | some r => s.when (s.phases[n].state == .fenced) (fun t => t.updRail r (fun x => { x with fenceDue := true }))
  | none => s

/-- A phase at an apply (R48, R101). A structural change leaves it OFF; in a rail that is in SNUFF it goes on holding its level
(R129). -/
def applyPhase (old new : Image) (n : Fin 64) (s : State) : State :=
  match new.cfg.phases[n] with
  | none => (leaveFence n s).updPhase n (fun _ => {})
  | some c =>
    if s.phases[n].cfg.isSome && sameStruct old new 2 n.val then
      s.updPhase n (fun p => { p with next := some c, trimmed := false })
    else
      let stays := s.phases[n].state == .snuff && (match toRail c.rail with | some r => s.rails[r].state == .snuff | none => false)
      (leaveFence n s).updPhase n (fun p => { p with
        cfg := some c
        next := none
        trimmed := false
        state := if stays then .snuff else .off
        pwm := if stays then p.pwm else .z
        dir := c.mode == 1 && p.dir
        dirCmd := c.mode == 1 && p.dirCmd
        why := 0
        oobCnt := 0
        latest := none
        lastTrip := false
        lastPk := none })

/-- The comparators of a rail that takes new levels with no sample to wait for read the present output against them. -/
def recompare (r : Fin 24) (old c : RailCfg) (s : State) : State :=
  let x := s.rails[r]
  let a := if old.uv = c.uv then (!x.uvCmp, s) else readCmp (x.above (c.uv * 8 - 1) (!x.uvCmp) (old.uv * 8 - 1)) s
  let b := if old.ov = c.ov then (x.ovCmp, a.2) else readCmp (x.above (c.ov * 8) x.ovCmp (old.ov * 8)) a.2
  b.2.updRail r (fun y => { y with uvCmp := !a.1, ovCmp := b.1 })

/-- A rail at an apply (R48). -/
def applyRail (old new : Image) (r : Fin 24) (s : State) : State :=
  match new.cfg.rails[r] with
  | none => s.updRail r (fun _ => {})
  | some c =>
    let x := s.rails[r]
    match x.cfg with
    | none =>
      let t := s.updRail r (fun _ => { cfg := some c, state := .off, uvCmp := decide (0 < c.uv) })
      t.updRail r (fun y => { y with announced := t.limitAnn r, ilimEff := (t.limitNow r).1, limsrc := (t.limitNow r).2 })
    | some o =>
      let wait := x.state != .off && x.state != .snuff && sameStruct old new 3 r.val
      let t := s.updRail r (fun y => { y with
        trimV := false
        trimI := false
        cfg := if wait then y.cfg else some c
        next := if wait then some c else none })
      announce r (if wait then t else recompare r o c (t.updRail r (fun y => { y with
        ilimEff := (t.limitNow r).1, limsrc := (t.limitNow r).2 })))

/-- A load-link port at an apply (R420). A sub-address that is no longer served loses its latest TN and DIM_ID with its notices
(DESIGN CHOICE, log entry 144). -/
def applyPort (new : Image) (p : Fin 8) (s : State) : State :=
  match new.cfg.ports[p] with
  | none => s.updPort p (fun _ => {})
  | some c =>
    if s.ports[p].cfg.isNone then s.updPort p (fun _ => { cfg := some c })
    else
      let served (k : Fin 4) : Bool := new.cfg.rails.toList.any (fun r => match r with
        | some x => x.lport == p.val && x.lportSub == k.val
        | none => false)
      llLoss p (s.updPort p (fun x => { x with
        cfg := some c
        fenced := false
        subs := Vector.ofFn (fun k : Fin 4 => if served k then x.subs[k] else {}) }))

/-- A domain at an apply (R182, Tables 2.28 and 7.9); RETRY_LIM is no timing and holds from the apply. A domain that is off starts on its START condition: at a chip start
the READY step asks for it. -/
def applyDom (old new : Image) (start : Bool) (d : Fin 8) (s : State) : State :=
  match new.cfg.doms[d] with
  | none => s.updDom d (fun _ => {})
  | some c =>
    let x := s.seq.doms[d]
    let t := if x.cfg.isNone then s.updDom d (fun _ => { cfg := some c, state := .off, qualAt := some s.now })
      else if sameStruct old new 7 d.val then
        s.updDom d (fun y => { y with
          next := some c, faults := [], cfg := y.cfg.map (fun (k : DomCfg) => { k with retryLim := c.retryLim }) })
      else s.updDom d (fun y => { y with
        cfg := some c, next := none, faults := [], inQ := false, qualAt := some s.now })
    if !start && !s.ev.crHold && c.start != 1 && t.seq.doms[d].state == .off then
      t.updDom d (fun y => { y with state := .wait, req := true, auto := false, restartAt := none })
    else t

/-- A slot at an apply (R182); SL_FLAGS are no timing and hold from the apply (Table 2.28). -/
def applySlot (old new : Image) (n : Fin 48) (s : State) : State :=
  match new.cfg.slots[n] with
  | none => s.updSlot n (fun x => { pgPin := x.pgPin })
  | some c =>
    let x := s.seq.slots[n]
    if (match x.cfg with | some o => o.domain == c.domain | none => false) then
      if sameStruct old new 8 n.val then s.updSlot n (fun y => { y with
          next := some c, cfg := y.cfg.map (fun (k : SlotCfg) => { k with snuffOk := c.snuffOk, pgLow := c.pgLow }) })
      else s.updSlot n (fun y => { y with cfg := some c, next := none })
    else s.updSlot n (fun y => { pgPin := y.pgPin, warn := y.warn, warnCnt := y.warnCnt, cfg := some c, state := .off })

/-- A monitor at an apply (R188, Table 8.6). -/
def applyMon (new : Image) (m : Fin 96) (s : State) : State :=
  match new.cfg.mons[m] with
  | none => s.updMon m (fun _ => {})
  | some c =>
    let x := s.watch.mons[m]
    if (match x.cfg with | some o => o.mode == c.mode | none => false) then
      monLoadNow m (s.updMon m (fun y => { y with next := some c, trimmed := false, test := none, fenced := false }))
    else s.updMon m (fun y => { y with
      cfg := some c, next := none, trimmed := false, test := none, fenced := false
      lowNow := false, highNow := false, lowCnt := 0, highCnt := 0, lowAt := none, highAt := none })

/-- A capture timer at an apply (R194, R197): one with a record takes its values and is armed; one without is off, with its
registers at their reset values. -/
def applyCt (new : Image) (k : Fin 16) (s : State) : State :=
  if (new.record 0x13 k.val).isSome then ctArm k (s.updCt k (fun x => { x with cfg := new.cfg.cts[k], trimmed := false }))
  else s.updCt k (fun _ => {})

/-- Hold-up at an apply (R228, R229, Table 10.6). The share offset is kept, whatever becomes of SHARE or of the HOLDUP record
(DESIGN CHOICE, log entry 149). -/
def applyHold (old new : Image) (s : State) : State :=
  let t := s.updHold (fun h => { h with cap := (new.cfg.holdup.map (·.cap)).getD 0, capRoot := 0, setpoint := none })
  match new.cfg.holdup with
  | none => t.updHold (fun h => { h with cfg := none, next := none, state := .none, busQ := false, qualAt := none })
  | some c =>
    if t.hold.cfg.isSome && sameStruct old new 0x0B 0 then
      t.updHold (fun h => if h.riding then { h with next := some c } else { h with cfg := some c })
    else t.updHold (fun h => { h with
      cfg := some c, next := none, state := if c.battRail = 255 then .none else .off, busQ := false, qualAt := some s.now })

/-- The cartridges at an apply (R235): each enabled one is examined, and fences end. Writes of counters that wait are still
sent (R237). -/
def applyCarts (new : Image) (s : State) : State :=
  let t := s.updCarts (fun x => { x with cfg := new.cfg.cart })
  t.each (List.finRange 16) (fun c u =>
    if u.cartOn c then examine c (u.updCart c (fun x => { x with fenced := false, answered := false }))
    else (dropWork c u).updCart c (fun _ => {}))

/-- The Ovrath cascade at an apply (Table 13.12, R309): a changed ROLE or ADDRESS leaves nothing of the old place in the tree. -/
def applyOv (old new : Image) (start : Bool) (s : State) : State :=
  let c := new.cfg.ov
  let moved := start || !sameStruct old new 0x0E 0
  let fresh := start || old.cfg.ov.role != c.role || old.cfg.ov.address != c.address
  let t := s.updOv (fun o => { o with
    acting := if fresh then c.role == 1 else o.acting
    depth := if fresh then (if c.role == 1 then 0 else 15) else o.depth
    addr := if fresh then none else o.addr
    len := if fresh then 0 else o.len
    rootAddr := if fresh then none else o.rootAddr
    upSpare := if fresh then false else o.upSpare
    split := if fresh then false else o.split
    lostPorts := if fresh then [] else o.lostPorts
    grafts := if fresh then [] else o.grafts
    enumAt := if fresh then none else o.enumAt
    enumOpen := if fresh then false else o.enumOpen
    tmark := if fresh then none else o.tmark
    prevMark := if fresh then none else o.prevMark
    ports := if fresh then o.ports.map (fun p => { p with base := 0, len := 0 }) else o.ports })
  t.each (List.finRange 6) (fun k u =>
    let on := c.role != 0 && natBit c.portEn k.val
    let q := u.ov.ports[k]
    if !on then u.updOvPort k (fun _ => {})
    else if q.state == .disabled || q.state == .fenced then
      portRetrain k (u.updOvPort k (fun p => { p with state := .training }))
    else if moved then portRetrain k u else u)

/-- Held blocks are released (R247): each block's record of resets is cleared, a held core restarts, a held port retrains,
and a held cartridge is examined, as every one is where the module bus was held. -/
def releaseBlocks (s : State) : State :=
  let l := s.ev.heldBlks
  let t := s.updEv (fun e => { e with heldBlks := [], resets := e.resets.filter (fun r => !l.contains r.block) })
  t.each l (fun b u => match b with
    | .supervisorCore => u.updCore .supervisor (fun x => if x.state == .held then { x with state := .restarting } else x)
    | .ledgerCore => u.updCore .ledger (fun x => if x.state == .held then { x with state := .restarting } else x)
    | .linkCore => u.updCore .link (fun x => if x.state == .held then { x with state := .restarting } else x)
    | .ovPort k => portRetrain k (u.updOvPort k (fun p => if p.state == .fenced then { p with state := .training } else p))
    | .cartridge c => examine c (u.updCart c (fun x => { x with fenced := false }))
    | .memory => setAgain (memNext u)
    | .moduleBus => u.each (List.finRange 16) (fun c v => examine c v)
    | .port _ | .housekeeping | .pairLink | .hostBus | .servicePort | .chandler | .capture => u)

/-- A reaction entry includes INT (R250). -/
def hasInt (e : Nat) : Bool := e % 16 == 1 || natBit e 4

/-- Sources, reactions and FAULT_N at an apply (R245, R247, R250, R251). -/
def applyEvents (old new : Image) (s : State) : State :=
  let om := old.cfg.device.faultnMode
  let nm := new.cfg.device.faultnMode
  let t := releaseBlocks s
  t.updEv (fun e => { e with
    src := Vector.ofFn (fun i : Fin 192 => { e.src[i] with
      ien := hasInt (new.cfg.react[i]) })
    latched := if nm = 0 then false else if om = 0 then e.faultOn else e.latched
    faultOn := if nm = 0 && om = 1 then e.latched && (match e.lastErr with | some x => decide (s.now < x + ms 10) | none => false) else e.faultOn })

/-- The segments that the scrub visits (R72): the header, every record that the image holds, END and the skipped ones included
(DEDUCED, log entry 121: each is a record instance written into the cells), and the trim overlay. -/
def Image.segments (im : Image) : Nat := im.recs.length + 2

/-- The CRC of every pattern segment (R72). -/
def Image.segCrcs (im : Image) : List Nat :=
  (List.range (im.recs.length + 1)).map (fun i => match segmentBytes im i with | some b => crc32 b | none => 0)

/-- The islands that the pattern in force uses (Table 1.3): one whose clock the chip generates and that was stopped gets a wake
request (R22), and one whose clock comes from outside runs when that clock does (R23). -/
def applyIslands (s : State) : State :=
  s.updArch (fun a => { a with islands := { a.islands with
    errorAdc := Vector.ofFn (fun r : Fin 24 => if (s.rails[r]).cfg.isNone then .stopped
      else if a.islands.errorAdc[r] == .running then .running else .restarting)
    ovrath := Vector.ofFn (fun k : Fin 6 => if s.portEn k then a.islands.ovrath[k] else .stopped)
    pairLink := if s.cfg.pair.role = 1 || s.ch.blank then (if a.islands.pairLink == .running then .running else .restarting) else .stopped
    loadLink := Vector.ofFn (fun p : Fin 8 => if (s.ports[p]).cfg.isSome then a.islands.loadLink[p] else .stopped) } })

/-- A pattern is applied (R47, R48, Table 2.28 and the apply rules of each block). `start` is the apply of a chip start. -/
def applyImage (im : Image) (slot : Nat) (blank start : Bool) (s0 : State) : State :=
  let old := s0.ch.image
  let s := (emptyLines s0).updLg (fun l =>
    { l with codec := if (s0.core .ledger).state == .restarting then some s0.codec else none })
  let p := draw s
  let s1 := p.2.updCh (fun c => { c with
    image := im
    slot := slot
    seq := im.hdr.seq
    migrated := im.migrated
    srcFmt := if blank then 3 else byteAt im.stored 4
    blank := blank
    applying := false
    segCrc := im.segCrcs
    trimCrc := p.1
    upset := []
    stuck := []
    seen := []
    scrubAt := s0.now })
  let s2 := s1.each (List.finRange 64) (applyPhase old im)
  let s3 := s2.each (List.finRange 24) (applyRail old im)
  let s4 := s3.each (List.finRange 64) (fun n u => if u.phases[n].state == .fenced then unfencePhase n u else u)
  let s5 := s4.each (List.finRange 8) (applyPort im)
  let s6 := sweepRenew (s5.each (List.finRange 96) (applyMon im))
  let s7 := s6.each (List.finRange 16) (applyCt im)
  let s8 := s7.each (List.finRange 48) (applySlot old im)
  let s9 := s8.each (List.finRange 8) (applyDom old im start)
  let s10 := (if start then s9.updHk (fun h => { h with cfg := im.cfg.thermal })
    else loadEnforce im.cfg.thermal.enforce (s9.updHk (fun h => { h with cfgNext := some im.cfg.thermal }))).updHk (fun h => { h with
      trimmed := false
      sensors := h.sensors.map (fun x => { x with fenced := false }) })
  let s11 := applyCarts im (applyHold old im s10)
  let s12 := applyEvents old im (applyOv old im start s11)
  let s13 := ((ledgerApply (!start && !sameStruct old im 0x10 0) s12).updHb (fun h => { h with fenced := false })).when
    (im.cfg.host.attnAddr == 0) attnDiscard
  let s14 := (if (match s13.sp.mode with
      | some 0 => !im.cfg.sp.readout
      | some 1 => !im.cfg.sp.update
      | _ => false) then closeSession s13 else s13)
  let s15 := if !start && old.cfg.pair.role != im.cfg.pair.role then
      s14.updPair (fun x => { x with
        role := if im.cfg.pair.role = 1 then .undecided else .single
        own := im.cfg.pair.role != 1 && !blank
        drivers := im.cfg.pair.role != 1 && !blank
        inStep := false, stepAt := none, readyAt := s.now, linkUp := false, align := 0, lastGood := none
        noneAt := none, bothAt := none, ownFired := false, release := none, yielding := false, verdicts := [], diffs := 0
        handOver := none, takeSent := false, takeRevert := false, holdAt := none, unacked := [], fwd := [] })
    else if !start && blank then s14.updPair (fun x => { x with own := false, drivers := false }) else s14
  let s16 := logBare 8 0 s15
  fireIf (s16.ch.layout.isSome && s16.archShort im) 182 0 (fireIf blank 180 2 (capRecompute (reLimit (holdJudge (applyIslands s16)))))

/-- A directory copy (Table 3.2), accepted under R61 and R62. -/
def parseDir (bs : List Byte) : Option Layout :=
  let reg (i : Nat) : Nat × Nat × Nat :=
    let o := u32At bs (12 + 8 * i)
    (o / 2 ^ 31, o % 2 ^ 31, u32At bs (16 + 8 * i))
  let l : Layout :=
    { csCount := byteAt bs 5, readMode := byteAt bs 6, dummy := byteAt bs 7, clkDiv := byteAt bs 8, addrBytes := byteAt bs 9
      type0 := byteAt bs 10, type1 := byteAt bs 11, regions := (List.range 6).map reg }
  let fits (r : Nat × Nat × Nat) : Bool :=
    r.2.2 == 0 || (r.2.1 % 4096 == 0 && r.2.2 % 4096 == 0 && (r.1 == 0 || l.csCount == 2) && (r.1 == 1 || 8192 ≤ r.2.1))
  let apart (a b : Nat × Nat × Nat) : Bool :=
    a.2.2 == 0 || b.2.2 == 0 || a.1 != b.1 || a.2.1 + a.2.2 ≤ b.2.1 || b.2.1 + b.2.2 ≤ a.2.1
  let len (i : Nat) : Nat := (l.regions.getD i (0, 0, 0)).2.2
  if u32At bs 0 = 0x4C415954 ∧ byteAt bs 4 = 1 ∧ crc32 (bs.take 60) = u32At bs 60 ∧
      (l.csCount = 1 ∨ l.csCount = 2) ∧ l.readMode ≤ 2 ∧ l.dummy ≤ 15 ∧ 1 ≤ l.clkDiv ∧ l.clkDiv ≤ 8 ∧
      (l.addrBytes = 3 ∨ l.addrBytes = 4) ∧ l.type0 ≤ 2 ∧ (if l.csCount = 1 then l.type1 = 255 else l.type1 ≤ 2) ∧
      l.regions.all fits ∧
      (List.range 6).all (fun i => (List.range i).all (fun j => apart (l.regions.getD i (0, 0, 0)) (l.regions.getD j (0, 0, 0)))) ∧
      (len 2 = 0 ∨ 790528 ≤ len 2) ∧ (len 3 = 0 ∨ 790528 ≤ len 3) ∧ (len 4 = 0 ∨ 16384 ≤ len 4) then some l
  else none

/-- Bytes of a region. -/
def State.regionBytes (s : State) (i ofs n : Nat) : List Byte :=
  let r := s.ch.region i
  s.ch.memBytes r.1 (r.2.1 + ofs) n

/-- The pattern that a slot holds from its first byte, as far as its TOTAL_LEN says, and the header at least. -/
def State.slotBytes (s : State) (i : Nat) : List Byte :=
  let h := s.regionBytes i 0 32
  s.regionBytes i 0 (max 32 (min (min (u32At h 8) (s.ch.region i).2.2) 262144))

/-- The bundle version of a firmware slot, where it holds an image header (Table 16.4). -/
def State.bundleVersion (s : State) (i : Nat) : Option Nat :=
  let h := s.regionBytes (2 + i) 0 256
  if (s.ch.region (2 + i)).2.2 ≠ 0 ∧ u32At h 0 = 0x474E494D then some (u16At h 20) else none

/-- The version of the running bundle: the lowest among the slots from which the cores run (R369); 0 where none holds a
header. -/
def State.fwVersion (s : State) : Nat :=
  let l := (s.upd.fw.toList.map bit01).filterMap s.bundleVersion
  match l with
  | [] => 0
  | x :: xs => xs.foldl min x

/-- A pattern slot is a candidate (R66). -/
def State.candidate (s : State) (i : Nat) : Bool :=
  let h := s.regionBytes i 0 32
  (s.ch.region i).2.2 != 0 && u32At h 0 == 0x4E477720 && u16At h 20 == 0x7720 &&
    (byteAt h 4 == 1 || byteAt h 4 == 2 || byteAt h 4 == 3) && !s.upd.set.pat.failed.contains (u32At h 12)

/-- SEQ in the header of a pattern slot. -/
def State.slotSeq (s : State) (i : Nat) : Nat := u32At (s.regionBytes i 0 32) 12

/-- The candidates in the order in which they are taken (R66). -/
def State.candOrder (s : State) : List Nat :=
  let a := s.candidate 0
  let b := s.candidate 1
  if a && b then (if s.slotSeq 1 > s.slotSeq 0 then [1, 0] else [0, 1])
  else if a then [0] else if b then [1] else []

/-- The reason code of a slot. -/
def setReason (slot code ofs : Nat) (s : State) : State :=
  s.updCh (fun c => { c with
    reasonA := if slot = 0 then code else c.reasonA
    reasonB := if slot = 1 then code else c.reasonB
    ofs := if 7 ≤ code && code < 0xFE then ofs else c.ofs })

/-- Check a pattern slot (R45): the image, or its rejection with EV180. -/
def checkSlot (slot : Nat) (s0 : State) : State :=
  let s := regionFetch slot 0 s0
  match checkPattern (s.ch.region slot).2.2 s.fwVersion (s.slotBytes slot) with
  | .ok im => (setReason slot 0 0 s).updCh (fun c => { c with cand := some im, candSlot := slot })
  | .error e => fire 180 slot ((setReason slot e.1 e.2 s).updCh (fun c => { c with cand := none }))

/-- The islands that run from step 2 of Table 3.1 (Table 1.3); the PWM island waits for its PLL. -/
def startIslands : Islands := { memory := .running, pwm := .restarting, housekeeping := .running, capture := .running }

/-- Steps 1 and 2 of Table 3.1: straps, the feed comparators, the lock request (R56, R57). -/
def beginStart (straps : Straps) (s : State) : State :=
  { s with
    mode := .start
    step := 2
    feeds := s.feeds.map (fun x => { x with since := some s.now })
    glb := { s.glb with straps := straps }
    arch := { s.arch with islands := startIslands } }

/-- A memory write under way is cut by a reset: what its command leaves is a free value. A settings copy that was being written
is none. -/
def cutWrite (s : State) : State :=
  match s.ch.memOp with
  | none => s
  | some o => memSpoil o s

/-- What a restart leaves of the ledger while VKEEP holds (R318, R330): each channel goes on with its page numbers, and global time
begins again (R384), so that no record before lies on its count. -/
def keptLedger (l : LedgerS) : LedgerS :=
  { chans := l.chans.map (fun c => { seq := c.seq })
    pages := l.pages
    log := l.log
    dir := l.dir.map (·.map (fun r => { r with state := if r.state == .flushing then .closed else r.state, late := [] }))
    badIndex := l.badIndex
    banks := l.banks
    archSeq := l.archSeq }

/-- A chip restart (R56, R248, R253, R330, R331, R384): every register takes its reset value. `warm` is RESET_N or CRESET;
`keep` is whether VKEEP held the ledger memories. -/
def chipReset (warm creset keep : Bool) (m : Mode) (s0 : State) : State :=
  let s := lgsDone false (closeOpen creset (emptyLines (cutWrite s0)))
  let bank := s.lg.newestBank.bind (fun k => s.lg.banks[k])
  { now := s.now
    free := s.free
    pending := s.pending
    outbox := s.outbox
    mode := m
    arch := { supplyOut := s.arch.supplyOut, refClk := s.arch.refClk }
    ch := { dev0 := s.ch.dev0, dev1 := s.ch.dev1 }
    seq := { slots := s.seq.slots.map (fun x => { pgPin := x.pgPin }) }
    ev := {
      tallies := (Tab.all 24 0).set 4 (if warm then s.ev.tallies[(4 : Fin 24)] else 0)
      crCount := (match bank with | some b => b.crCount | none => 0)
      crSrc := (match bank with | some b => b.crSrc | none => 255)
      crTimes := if warm then s.ev.crTimes else []
      crHold := creset && s.ev.crHold
      testBad := if warm then s.ev.testBad else 0 }
    glb := { straps := s.glb.straps, resetLow := s.glb.resetLow, porAt := if warm then s.glb.porAt else s.now }
    pair := { peer := s.pair.peer }
    lg := if keep then keptLedger s.lg else { banks := s.lg.banks }
    upd := { copies := s.upd.copies, keys := s.upd.keys } }

/-- The row POR_ASSERT (R396, R330). -/
def porAsserted (k : Fin 5) (s : State) : State := chipReset false false (k.val != 4) .por s

/-- The row POR_RELEASE (R57): while RESET_N is low the states of R56 are held (Table 18.18). -/
def porReleased (straps : Straps) (s : State) : State :=
  if s.mode != .por then s else if s.glb.resetLow then { s with mode := .held } else beginStart straps s

/-- The row RESET_N_ASSERT (R56): the reset states return after 1 us. A shorter low, down to 100 ns, is a full reset or none, as a
free value says (R401). -/
def resetAsserted (lowNs : Nat) (s : State) : State :=
  let d := draw s
  let t := if 1000 ≤ lowNs then s else d.2
  if 1000 ≤ lowNs || (100 ≤ lowNs && d.1 % 2 = 1) then
    (let u := t.updGlb (fun g => { g with resetLow := true }); if u.mode == .por then u else chipReset true false true .held u)
  else if 100 ≤ lowNs then t else s

/-- The row RESET_N_RELEASE (R56). -/
def resetReleased (straps : Straps) (s : State) : State :=
  let t := s.updGlb (fun g => { g with resetLow := false })
  if s.mode == .held then beginStart straps t else t

/-- The row CRESET_RESTART (R248). -/
def cresetRestarted (straps : Straps) (s : State) : State :=
  if s.mode == .creset then beginStart straps (chipReset true true true .start (lgsDone true s)) else s

/-- Every island that the chip was restarting runs (R22, Table 3.6 step 2). -/
def Islands.up (x : Islands) : Islands :=
  let up (i : Isl) : Isl := if i == .restarting then .running else i
  { x with
    pwm := up x.pwm, errorAdc := x.errorAdc.map up, capture := up x.capture, housekeeping := up x.housekeeping
    host := up x.host, moduleBus := up x.moduleBus, memory := up x.memory, pairLink := up x.pairLink }

/-- The demands offered to the PWM island while it had no lock are loaded (R19), and the held levels reach it (R21). -/
def pwmReload (s : State) : State :=
  s.each (List.finRange 24) (fun r t =>
    let q := t.arch.toggle (.demand r)
    reassertSnuff r (if q.outstanding || q.merged then
      loadDemand r (t.updArch (fun a => a.setToggle (.demand r) {})) else t))

/-- The PLL has locked or relocked: the island reloads every timebase (R16, R22). -/
def pllLock (s : State) : State :=
  let t := pwmReload { s with
    arch := { s.arch with pllLocked := true, holdover := none, islands := { s.arch.islands with pwm := .running } }
    phases := s.phases.map (fun p => { p with pos := p.posTgt }) }
  if s.mode == .start && s.step = 2 then
    (if s.glb.straps.testN then { t with step := 3 }
     else { t with step := 3, mode := .testWait })
  else if s.mode == .wake && s.wakeStep = 1 then { t with wakeStep := 2, arch := { t.arch with islands := t.arch.islands.up } }
  else t

/-- The row PLL_LOCK_ACQUIRED. -/
def pllAcquired (s : State) : State :=
  if s.arch.pllLocked || s.mode == .por || s.mode == .held || s.mode == .creset || s.mode == .sleep then s else pllLock s

/-- A loss of PLL lock (R16): every PWM output in tri-state, EV186, and each affected domain shut off. -/
def pllLost (s : State) : State :=
  if s.arch.pllLocked then
    let t := { s with
      arch := { s.arch with pllLocked := false, holdover := none, islands := { s.arch.islands with pwm := .restarting } }
      phases := s.phases.map (fun p => { p.endOn with pwm := .z, opened := false }) }
    holdFollow (pllShutoff (fire 186 1 t))
  else s

/-- The row REF_CLK_LOSS (R17). -/
def refLost (s : State) : State :=
  if s.arch.refClk then
    fire 186 0 (s.updArch (fun a => { a with refClk := false, holdover := if a.pllLocked then some (s.now + ms 1) else none }))
  else s

/-- The row REF_CLK_RETURN (R17). -/
def refBack (s : State) : State :=
  if s.arch.refClk then s else s.updArch (fun a => { a with refClk := true, holdover := none })

/-- The row REF_CLK_HOLDOVER_EXPIRY (R17). -/
def refHoldEnd (s : State) : State := if due s.now s.arch.holdover then pllLost s else s

/-- The directory is accepted: steps 4 to 6 of Table 3.1 go on with it, or with none (R61, R66 to R68): the settings store, the
header of the firmware slots that it selects, and the headers of the pattern slots are read. A trial or a proof that was open
has failed: each core starts from its old image (R67, R370). -/
def takeLayout (l : Layout) (mirror : Bool) (s : State) : State :=
  let t0 := s.updCh (fun c => { c with layout := some l, dirMirror := mirror, tried := 0, cand := none })
  let copy := if t0.hasStore then t0.newestCopy (fun _ => true) else none
  let d : SetData := match copy with | some c => c.2.data | none => {}
  let reads := (if t0.hasStore then [4] else []) ++ (d.fw.toList.map (fun b => 2 + bit01 b)).eraseDups ++ [0, 1]
  let t := t0.each reads (fun i u => regionFetch i 0 u)
  let pat : PatState := match d.pat.inProof with
    | some q => { d.pat with failed := d.pat.failed ++ [q], inProof := none }
    | none => d.pat
  let lost := bit01 d.trial.isSome + bit01 d.pat.inProof.isSome
  let u := fireIf d.trial.isSome 178 0 ((t.updUpd (fun x => { x with
    set := { pat := pat, fw := d.fw, newSlot := d.newSlot }, fw := d.fw, rollbacks := lost })).updCh (fun c => { c with setRdFail := copy.isNone }))
  let skip (i : Nat) (v : State) : State := if (v.ch.region i).2.2 != 0 && !v.candidate i then setReason i 0xFE 0 v else v
  { skip 1 (skip 0 u) with step := if u.candOrder.isEmpty then 8 else 6 }

/-- No directory is accepted (R61, R68): EV182, no pattern-state record, and the blank pattern at step 9. -/
def noLayout (s : State) : State :=
  fire 182 0 { s with step := 8, ch := { s.ch with layout := none, dirMirror := false, cand := none, setRdFail := true } }

/-- The directory copies of the device on MEM_CS0_N (R60). -/
def State.dirCopy (s : State) (mirror : Bool) : Option Layout := parseDir (s.ch.memBytes 0 (if mirror then 0x1000 else 0) 64)

/-- The row LAYOUT_DIRECTORY_READ: steps 4 to 6 of Table 3.1 (R60 to R62, R66 to R68). -/
def readLayout (s0 : State) : State :=
  if s0.mode == .start && s0.step = 3 then
    let s := memFetch 0 0 (s0.updCh (fun c => { c with layout := none }))
    match s.dirCopy false with
    | some l => takeLayout l false s
    | none =>
      let t := memFetch 0 0x1000 s
      match t.dirCopy true with
      | some l => takeLayout l true t
      | none => noLayout t
  else s0

/-- The accepted pattern shows that the directory breaks R62: it counts as not accepted, and the mirror is tried (R61). -/
def layoutAgain (s : State) : State :=
  match s.dirCopy true with
  | some l => if s.ch.dirMirror then noLayout s else takeLayout l true (memFetch 0 0x1000 (s.updCh (fun c => { c with layout := none })))
  | none => noLayout s

/-- FALLBACK: the first candidate, or a higher-SEQ slot, was rejected or skipped. -/
def State.fellBack (s : State) (slot : Nat) : Bool :=
  s.ch.tried ≥ 1 || ((s.ch.region (1 - slot)).2.2 != 0 && u32At (s.regionBytes (1 - slot) 0 32) 0 == 0x4E477720 &&
    !s.candidate (1 - slot) && s.slotSeq (1 - slot) > s.slotSeq slot)

/-- The row PATTERN_CANDIDATE_CHECK: steps 7 and 8 of Table 3.1, or the check of an activation (R45, R374). -/
def candidateCheck (s : State) : State :=
  if s.mode == .start && (s.step = 6 || s.step = 7) then
    match s.candOrder[s.ch.tried]? with
    | none => { s with step := 8 }
    | some i =>
      let t := checkSlot i s
      match t.ch.cand with
      | some im =>
        if t.archShort im then layoutAgain t
        else { t with step := 8, ch := { t.ch with fallback := s.fellBack i } }
      | none => { t with
        step := if s.ch.tried + 1 < s.candOrder.length then 7 else 8
        ch := { t.ch with tried := s.ch.tried + 1, fallback := true } }
  else if s.ch.applying && s.ch.cand.isNone && !s.blockDown .chandler && !s.blockDown .memory then
    let t := checkSlot s.ch.candSlot s
    if t.ch.cand.isSome then t else t.updCh (fun c => { c with applying := false })
  else s

/-- Step 9 of Table 3.1: the accepted pattern, or the blank one, is applied (R57, R69). -/
def startApply (s : State) : State :=
  let t := match s.ch.cand with
    | some im => applyImage im s.ch.candSlot false true s
    | none => applyImage blankImage 0 true true s
  { t with step := 9, ch := { t.ch with cand := none } }

/-- The row CORE_IMAGE_CHECK: step 10 of Table 3.1 (R57, Table 16.5). -/
def coreImageOk (s : State) (c : Fin 3) : Bool :=
  let i := 2 + bit01 s.upd.fw[c]
  let e := s.regionBytes i (256 + 32 * c.val) 12
  let len := u32At e 4
  (s.ch.region i).2.2 != 0 && len != 0 && u32At e 0 + len ≤ 786432 && crc32 (s.regionBytes i (256 + u32At e 0) len) == u32At e 8

/-- Step 10: the core images are read and checked. -/
def coresChecked (s0 : State) : State :=
  if s0.mode == .start && s0.step = 9 then
    let s := s0.each (List.finRange 3) (fun i t => regionFetch (2 + bit01 t.upd.fw[i]) 256 t)
    { s with step := 10, arch := { s.arch with cores := Vector.ofFn (fun i : Fin 3 => { s.arch.cores[i] with imageOk := coreImageOk s i }) } }
  else s0

/-- One core at step 11: it runs, or is halted with EV187 (R58). -/
def coreBoot (c : CoreId) (ok : Bool) (s : State) : State :=
  if (s.core c).imageOk && ok then s.updCore c (fun x => { x with state := .running, bad := false })
  else fire 187 (coreNum c).val (s.updCore c (fun x => { x with state := .halted, bad := true }))

/-- The row CORE_START: step 11 of Table 3.1. -/
def coresStart (sup led lnk : Bool) (s : State) : State :=
  if s.mode == .start && s.step = 10 then
    let t := coreBoot .link lnk (coreBoot .ledger led (coreBoot .supervisor sup s))
    let u := { t with step := 11, arch := { t.arch with islands := { t.arch.islands with
      host := .running, moduleBus := .running } } }
    deliverTraps (if u.coreUp .ledger then lgsExamine u else u)
  else s

/-- The row SETTINGS_STORE_READ: step 12 of Table 3.1 (R71, R372). The traps delivered since step 11 stay in the fault history
(R27). `migrates` is whether a migration that is due succeeds: one that fails fails the supervisor's self-test, and the built-in
values stand (log entry 119). -/
def settingsRead (readable migrates : Bool) (s : State) : State :=
  if s.mode == .start && s.step = 11 then
    let t0 := { s with step := 12 }
    if !t0.coreUp .supervisor then t0
    else
      let t := if t0.hasStore && !t0.blockDown .memory then regionFetch 4 0 t0 else t0
      let now := t.upd.set
      let go (d : SetData) (u : State) : State := u.updUpd (fun x => { x with
        set := { d with pat := now.pat, fw := now.fw, trial := none, newSlot := now.newSlot, history := d.history ++ now.history }
        setRead := true })
      let save (b : Bool) (u : State) : State := if b || !now.history.isEmpty then writeSet u else u
      let any := t.hasStore && readable && !t0.blockDown .memory && (t.newestCopy (fun _ => true)).isSome
      deliverTraps (
        if !any then fire 183 0 (save false (go {} t))
        else match t.newestCopy (fun c => c.ver ≤ t.setVer) with
          | none => fire 183 3 (save false (go {} t))
          | some (_, c) =>
            if c.ver < t.setVer && !migrates then coreBoot .supervisor false (fire 183 1 (go {} t))
            else save (c.ver < t.setVer || c.data.pat != now.pat || c.data.trial.isSome) (go (migrateSet c.ver t.setVer c.data) t))
  else s

/-- The handshake stall (R14): a pulse of the ground HS_STALL, the tally and EV185. -/
def handshakeStalled (s : State) : State :=
  if s.resetHeld then s else
    let t := fire 185 0 (addTally 7 1 s)
    if t.paired then pulseGround 1 t else t

/-- The row CDC_ACCEPT_FAILURE (R18): the tally, and the rate that R269 judges over the last second; the ground stands while
the rate exceeds CDC_RATE. -/
def cdcRejected (s : State) : State :=
  if s.resetHeld then s else
  let l := s.arch.cdcFails.filter (fun t => s.now < t + sec 1)
  let t := addTally 8 1 (s.updArch (fun a => { a with cdcFails := l ++ [s.now] }))
  if l.length ≤ s.cfg.pair.cdcRate && s.cfg.pair.cdcRate < l.length + 1 then
    fire 187 3 t
  else t

/-- The row CDC_TOGGLE_ACK (R20): a merged event is sent, and acts now. A merged frame-received notice has no effect of its
own, since its frame has crossed under R18 or through a queue; a merged offer of a demand is loaded by the island (R19). -/
def toggleAck (l : ToggleLine) (s : State) : State :=
  if (s.arch.toggle l).outstanding then
    let t := ackLine l s
    if (s.arch.toggle l).merged then
      match l with
      | .conversionStart => if t.hkWorks && t.hk.next.isNone then hkStart t else t
      | .timerWrap k => ctSaturate k t
      | .demand r => loadDemand r t
      | .frameReceived _ | .ovFrame _ | .pairFrame | .spFrame => t
    else t
  else s

/-- Change the clock state of an island. -/
def setIsland (i : Island) (v : Isl) (s : State) : State :=
  s.updArch (fun a => { a with islands :=
    let x := a.islands
    match i with
    | .pwm => { x with pwm := v }
    | .errorAdc r => { x with errorAdc := x.errorAdc.set r v }
    | .capture => { x with capture := v }
    | .housekeeping => { x with housekeeping := v }
    | .host => { x with host := v }
    | .moduleBus => { x with moduleBus := v }
    | .servicePort => { x with servicePort := v }
    | .memory => { x with memory := v }
    | .ovrath k => { x with ovrath := x.ovrath.set k v }
    | .pairLink => { x with pairLink := v }
    | .loadLink p => { x with loadLink := x.loadLink.set p v } })

/-- The clock state of an island. -/
def State.island (s : State) : Island → Isl
  | .pwm => s.arch.islands.pwm
  | .errorAdc r => s.arch.islands.errorAdc[r]
  | .capture => s.arch.islands.capture
  | .housekeeping => s.arch.islands.housekeeping
  | .host => s.arch.islands.host
  | .moduleBus => s.arch.islands.moduleBus
  | .servicePort => s.arch.islands.servicePort
  | .memory => s.arch.islands.memory
  | .ovrath k => s.arch.islands.ovrath[k]
  | .pairLink => s.arch.islands.pairLink
  | .loadLink p => s.arch.islands.loadLink[p]

/-- The row ISLAND_RESTART_DONE (R22). The PWM island has restarted once its PLL has relocked. -/
def islandUp (i : Island) (s : State) : State :=
  if s.island i == .restarting then (if i == .pwm then pllAcquired s else setIsland i .running s) else s

/-- The row CORE_WATCHDOG_EXPIRY (R26, EV187). -/
def coreWatchdog (c : CoreId) (s : State) : State :=
  if s.coreUp c then fire 187 (coreNum c).val ((coreRestart c s).updCore c (fun x => { x with bad := true })) else s

/-- The supervisor runs again: its settings are written. One on trial whose settings version is newer than the store's migrates
the store into the other half, and keeps the old copy until its trial confirms (R372). -/
def supTakes (s : State) : State :=
  match s.newestCopy (fun _ => true) with
  | some (i, c) =>
    if c.ver < s.setVer && (match s.upd.trial with | some t => t.core == .supervisor | none => false) then
      writeSet (s.updUpd (fun u => { u with keep := some i, set := migrateSet c.ver s.setVer u.set }))
    else writeSet s
  | none => writeSet s

/-- A core's restart has ended (R26): it runs and takes up its paused functions, or its self-test has failed. -/
def coreBack (c : CoreId) (ok : Bool) (s : State) : State :=
  if ok then
    let t := s.updCore c (fun x => { x with state := .running, bad := false })
    if c == .supervisor then deliverTraps (supTakes t)
    else if c == .ledger then
      (let u := (t.updLg (fun l => { l with codec := none })).when (t.running && !t.lg.archKnown) archFind
       match u.lg.flush with | some i => flushWrite i u | none => u)
    else if t.ov.enumPend then enumBegin t
    else if due t.now t.ov.enumAt then enumFinish t
    else t
  else fire 187 (coreNum c).val (s.updCore c (fun x => { x with state := .halted, bad := true }))

/-- The row SUPPLY_RANGE_EXIT (R13, R396). -/
def supplyExit (k : Fin 5) (s : State) : State :=
  if s.arch.supplyOut[k] then s
  else fire 184 k.val (s.updArch (fun a => { a with supplyOut := a.supplyOut.set k true }))

/-- The row SUPPLY_RANGE_CLEAR (R396). -/
def supplyClear (s : State) : State := s.updArch (fun a => { a with supplyOut := Tab.all 5 false })

/-- A mismatch in the trim-overlay segment discards every trim (R74); the CRC of the emptied overlay is a free value. -/
def trimMismatch (s : State) : State :=
  let p := draw (discardTrims s)
  fire 181 1 (addTally 11 1 (p.2.updCh (fun c => { c with trimDrop := true, trimCrc := p.1 })))

/-- The row SCRUB_SEGMENT_CHECK (R72 to R75): `crc` is what the scrub has computed from the cells. Every segment is visited once
in each period of SCRUB. A segment whose mismatch stands is not counted and raised again (DEDUCED, log entry 122). -/
def scrubCheck (seg crc : Nat) (s : State) : State :=
  let n := s.ch.image.segments
  let period := ms s.cfg.device.scrub
  let fresh := s.ch.scrubAt + period ≤ s.now
  let seen := if fresh then [] else s.ch.seen
  if s.running && !s.blockDown .chandler && seg < n && !seen.contains seg then
    let t := s.updCh (fun c => { c with
      scrubAt := if fresh then s.now - (s.now - c.scrubAt) % period else c.scrubAt
      seen := seg :: seen
      passes := if seen.length + 1 = n then (c.passes + 1) % 256 else c.passes })
    if seg + 1 = n then
      if crc = t.ch.trimCrc % 2 ^ 32 then t
      else trimMismatch t
    else if crc = t.ch.segCrc.getD seg 0 then t.updCh (fun c => { c with
      upset := c.upset.filter (· != seg), stuck := c.stuck.filter (· != seg) })
    else if t.ch.upset.contains seg || t.ch.stuck.contains seg then t
    else groundAgain 0 (fire 181 0 (addTally 11 1 (t.updCh (fun c => { c with upset := c.upset ++ [seg] }))))
  else s

/-- The chandler rereads the pattern in force: it can be read, and its CRC is right (R73). The blank pattern is built in. -/
def State.rereadOk (s : State) : Bool :=
  s.ch.blank || (s.ch.layout.isSome && !s.blockDown .memory &&
    (match checkPattern (s.ch.region s.ch.slot).2.2 s.fwVersion (s.slotBytes s.ch.slot) with
      | .ok _ => true
      | .error e => e.1 != 1 && e.1 != 2 && e.1 != 3))

/-- The read of the reread (R73). -/
def rereadFetch (s : State) : State :=
  if s.ch.blank || s.ch.layout.isNone then s else regionFetch s.ch.slot 0 s

/-- The row SCRUB_REPAIR (R73): the segment is rewritten, or stays as found with UNREPAIRED and EV180. In a pair, the active
yields first (R75). -/
def scrubRepaired (s : State) : State :=
  match s.ch.upset with
  | [] => s
  | seg :: rest =>
    if s.blockDown .chandler || (s.paired && s.pair.role == .active && s.pair.yielding) then s
    else if s.rereadOk then (rereadFetch s).updCh (fun c => { c with upset := rest, repaired := true })
    else fire 180 3 ((rereadFetch s).updCh (fun c => { c with upset := rest, stuck := c.stuck ++ [seg], unrepaired := true }))

/-- A block reset of the chandler (Table 11.4): every segment is rewritten from the pattern in force. -/
def chandlerReread (s : State) : State :=
  if s.rereadOk then (rereadFetch s).updCh (fun c => { c with
    repaired := c.repaired || !(c.upset ++ c.stuck).isEmpty, upset := [], stuck := [] })
  else fire 180 3 ((rereadFetch s).updCh (fun c => { c with stuck := c.stuck ++ c.upset, upset := [], unrepaired := true }))

/-- Every domain is off and no ramp runs. -/
def State.allOff (s : State) : Bool :=
  s.seq.doms.toList.all (fun x => x.cfg.isNone || x.state.isOff) &&
    s.rails.toList.all (fun x => x.state != .rampUp && x.state != .rampDown)

/-- R76's grounds to refuse a sleep request. -/
def State.sleepRefused (s : State) : Bool :=
  !s.allOff || s.upd.proof.isSome || s.upd.trial.isSome || s.sp.mode.isSome || s.cfg.ov.role == 1 || s.cfg.ov.role == 2

/-- A request to sleep (R76): accepted, the counters are written first (R237), or refused. -/
def requestSleep (s : State) : State :=
  if s.mode != .ready then s
  else if s.sleepRefused then s.updSlp (fun x => { x with refused := true })
  else { writeAllCounters s with mode := .toSleep }

/-- The host's request to sleep (R76): SLEEP_POLICY 0 refuses it. -/
def hostSleep (s : State) : State :=
  if s.mode == .ready && s.cfg.device.sleepPolicy = 0 then s.updSlp (fun x => { x with refused := true }) else requestSleep s

/-- The row SLEEP_IDLE_EXPIRY (R76): SLEEP_IDLE seconds with every domain off. -/
def idleSleep (s : State) : State :=
  match s.slp.idleAt with
  | some t => if s.cfg.device.sleepPolicy = 2 && s.cfg.device.sleepIdle ≠ 0 && t + sec s.cfg.device.sleepIdle ≤ s.now then requestSleep s else s
  | none => s

/-- Since when every domain is off. -/
def watchIdle (s : State) : State :=
  if s.mode == .ready then
    if s.seq.doms.toList.all (fun x => x.cfg.isNone || x.state.isOff) then
      (if s.slp.idleAt.isSome then s else s.updSlp (fun x => { x with idleAt := some s.now }))
    else s.updSlp (fun x => { x with idleAt := none })
  else s

/-- The queues lose what they hold when the part goes to sleep: the neighbours learn of it, and reductions, self-tests, captures,
waiting starts and attention records end (R77). -/
def sleepQuiet (s : State) : State :=
  let a := thermalClear (s.each ((List.finRange 6).filter s.portUp) (fun k u => send (.ovPark k) u))
  let b := a.each (List.finRange 96) (fun m u => u.updMon m (fun x => { x with test := none, lowAt := none, highAt := none }))
  let c := b.each (List.finRange 16) (fun t u => u.updCt t (fun x => { x with state := 0, satNow := false }))
  let d := c.each (List.finRange 8) (fun i u => u.updDom i (fun x =>
    if x.state == .wait then { x with state := .off, req := false, auto := false, restartAt := none } else x))
  ledgerGap (attnDiscard (d.updHb (fun h => { h with sending := none })))

/-- The cores halt and the island clocks stop (R77). -/
def sleepHalt (s : State) : State :=
  { s with
    mode := .sleep
    wakeStep := 0
    arch := { s.arch with
      islands := {}
      pllLocked := false
      cores := s.arch.cores.map (fun x => if x.state == .running || x.state == .restarting then { x with state := .off } else x) }
    pair := { s.pair with
      linkUp := false, inStep := false, stepAt := none, handOver := none, takeSent := false, takeRevert := false
      verdicts := [], lastGood := none, fwd := [] }
    slp := { s.slp with alarmAt := if s.slp.alarm = 0 then none else some (s.now + sec s.slp.alarm), idleAt := none } }

/-- The row SLEEP_ENTRY (R77), once a flush has ended and the counters are written (R237). -/
def sleepEnter (s : State) : State :=
  if s.mode == .toSleep && (s.lg.flush.isNone || !s.coreUp .ledger) && !s.countersWait then
    if s.sleepRefused then { s with mode := .ready, slp := { s.slp with refused := true } }
    else sleepHalt (sleepQuiet s)
  else s

/-- The row SLP_ALARM_EXPIRY (R78). -/
def alarmDue (s : State) : State :=
  if s.mode == .sleep && due s.now s.slp.alarmAt then wakeBegin 7 (s.updSlp (fun x => { x with alarmAt := none })) else s

/-- A wake source occurs (R78). -/
def wakeOn (src : Fin 8) (s : State) : State := wakeBegin src.val s

/-- A wake's scrub pass that leaves no mismatch (R79). -/
def wakePassed (s : State) : State :=
  { s with wakeStep := 3, slp := { s.slp with scrubbed := true }, ch := { s.ch with passes := (s.ch.passes + 1) % 256 } }

/-- The segments `l` of a wake's scrub pass do not match: each counts and fires, a paired unit has a ground, and the pattern
is read again for the repair (R73, R75, R79). -/
def wakeReread (l : List Nat) (s : State) : State :=
  let t := s.each l (fun _ u => fire 181 0 (addTally 11 1 u))
  rereadFetch (t.when t.paired (pulseGround 0))

/-- A mismatch that the chandler cannot repair restarts the device from step 4 of Table 3.1, with the pattern read again (R79);
the feeds stay as they are, and what has fired stays to be carried out. -/
def wakeRestart (s : State) : State :=
  let u := chipReset true false true .start s
  { u with
    step := 3
    arch := { u.arch with pllLocked := true, islands := { startIslands with pwm := .running } }
    feeds := s.feeds
    ev := { u.ev with fireQ := s.ev.fireQ } }

/-- The row WAKE_SCRUB_PASS: step 3 of Table 3.6 (R79). -/
def wakeScrub (bad : List Nat) (s : State) : State :=
  if s.mode == .wake && s.wakeStep = 2 then
    let n := s.ch.image.segments
    let l := bad.filter (fun i => i + 1 < n)
    let b := s.when (bad.any (fun i => i + 1 == n)) trimMismatch
    if l.isEmpty then wakePassed b
    else
      let t := wakeReread l b
      if t.rereadOk then wakePassed (t.updCh (fun c => { c with repaired := true })) else wakeRestart t
  else s

/-- The domains that start on a wake (Table 7.9), unless a held CRESET keeps them OFF (R248). -/
def wakeDomains (s : State) : State :=
  s.each (List.finRange 8) (fun i u =>
    if !u.ev.crHold && (match u.seq.doms[i].cfg with | some x => x.start == 2 | none => false) && u.seq.doms[i].state == .off then
      u.updDom i (fun x => { x with state := .wait, req := true, auto := false, inQ := false, qualAt := some u.now })
    else u)

/-- A continuous monitor counts afresh after a sleep (R188). -/
def wakeMonitors (s : State) : State :=
  s.each (List.finRange 96) (fun m u => u.updMon m (fun x =>
    if (match x.cfg with | some k => k.mode != 0 | none => false) then { x with lowCnt := 0, highCnt := 0 } else x))

/-- The clocks and the cores run again after a wake (R79). -/
def wakeUp (s : State) : State :=
  { s with
    mode := .ready
    wakeStep := 4
    arch := { s.arch with
      islands := s.arch.islands.up
      cores := s.arch.cores.map (fun (x : Core) => if x.state == CoreState.off then { x with state := .running } else x) }
    slp := { s.slp with lastWake := s.slp.woke } }

/-- The links begin again after a wake: what waited on them is lost, and they train (R79). -/
def wakeLinks (s : State) : State :=
  (queuesLost (addTally 10 s.pair.unacked.length (s.updPair (fun p => { p with unacked := [] })))).each (List.finRange 6)
    (fun k u => if u.portEn k then portRetrain k u else u)

/-- The end of a wake is reported, with what woke the part (R79). -/
def wakeReport (s : State) : State := fire 190 s.slp.woke (deliverTraps (applyIslands s))

/-- What runs begins again after a wake: the links train, monitors and captures start afresh, cartridges are examined, domains
that start on a wake wait, and the wake is reported (R79, Table 7.9). -/
def wakeResume (s : State) : State :=
  let a := (wakeMonitors (wakeLinks s)).each (List.finRange 16) ctArm
  wakeReport (wakeDomains (ledgerGap (a.each (List.finRange 16) (fun i u => examine i u))))

/-- The row WAKE_COMPLETE: step 4 of Table 3.6 (R79, Table 7.9). -/
def wakeDone (s : State) : State :=
  if s.mode == .wake && s.wakeStep = 3 then wakeResume (wakeUp s) else s

end Sys2Proof.Machine
end

