-- ==== Sys2Proof/Machine/UpdOps.lean ====
section
/-! DEFINITION. Field update (spec/16_update.md): staging and its checks, firmware trials, pattern activation, proof and
rollback, the standby-first sequence of a pair, and schedules. -/
namespace Sys2Proof.Machine

/-- The cores run from both firmware slots. -/
def State.mixed (s : State) : Bool := s.upd.fw.toList.any (·) && !s.upd.fw.toList.all (·)

/-- An activation, trial or proof is in progress. -/
def State.updBusy (s : State) : Bool :=
  s.upd.trial.isSome || !s.upd.back.isEmpty || s.upd.proof.isSome || s.upd.patAct || s.upd.pairSeq.isSome || s.upd.rollback.isSome || s.ch.applying

/-- The newer firmware slot is slot B: the one that the latest activation went to, or before any, the one of higher VERSION
(R370). -/
def State.newerSlot (s : State) : Bool :=
  s.upd.set.newSlot.getD (match s.bundleVersion 0, s.bundleVersion 1 with
    | some a, some b => decide (a < b)
    | none, some _ => true
    | _, _ => false)

/-- The region that an image of a kind is staged into: the pattern slot not in force, or the firmware slot from which no core
runs (R367). Under the blank pattern it is slot A. -/
def State.stageRegion (s : State) (kind : Nat) : Nat :=
  if kind = 1 then (if s.ch.blank then 0 else 1 - s.ch.slot)
  else if s.upd.fw[(0 : Fin 3)] then 2 else 3

/-- The slots hold an image of an IMG_ID in firmware slot B, rather than in slot A: by the headers, or where they do not tell, by
the slot of the latest activation (R370). -/
def State.newFwSlot (s : State) (imgId : Nat) : Bool :=
  let holds (b : Nat) : Bool :=
    (let h := s.regionBytes (2 + b) 0 16
     (s.ch.region (2 + b)).2.2 != 0 && u32At h 0 == 0x474E494D && u32At h 8 == imgId)
  if !s.mixed then !s.upd.fw[(0 : Fin 3)]
  else if holds 1 && !holds 0 then true
  else if holds 0 && !holds 1 then false
  else s.newerSlot

/-- The region that holds the verified image of a header (R367). -/
def State.heldIn (s : State) (h : List Byte) : Nat :=
  if byteAt h 4 = 1 then s.stageRegion 1 else 2 + bit01 (s.newFwSlot (u32At h 8))

/-- The checks of an image header against its slot (R367 step 2). -/
def State.headerOk (s : State) (h : List Byte) : Bool :=
  let kind := byteAt h 4
  let len := u32At h 12
  let room := (s.ch.region (s.stageRegion kind)).2.2
  h.length == 256 && u32At h 0 == 0x474E494D && u16At h 6 == 0x7720 && len != 0 &&
    ((kind == 1 && len ≤ 262144 && len ≤ room) || (kind == 2 && len ≤ 786432 && len + 256 ≤ room))

/-- The verified header of a kind is dropped. -/
def dropVerified (kind : Nat) (d : SetData) : SetData :=
  if kind = 1 then { d with verPat := none } else { d with verFw := none }

/-- Begin a staging (R367): the response status, and the state. An activation, an apply, a rollback or a standby-first sequence
under way refuses it as a trial and a proof do, since it uses the slot (DEDUCED, log entry 129). -/
def stageBegin (h : List Byte) (ov : Bool) (s : State) : Nat × State :=
  if !s.headerOk h then (4, s)
  else if (match s.upd.staging with | some g => g.ov != ov | none => false) || s.updBusy then
    (7, s.updUpd (fun u => { u with why := 3 }))
  else if s.mixed then (7, s.updUpd (fun u => { u with why := 6 }))
  else
    let kind := byteAt h 4
    let reg := s.ch.region (s.stageRegion kind)
    let t := saveSet (dropVerified kind) s
    let t2 := memBegin (eraseOps .staging reg.1 reg.2.1 reg.2.2 ++ (if kind = 2 then programOps .staging reg.1 reg.2.1 h else [])) t
    (0, t2.updUpd (fun u => { u with
      stage := .staging
      kind := kind
      imgId := u32At h 8
      why := 0
      chk := 0
      staging := some ⟨kind, h, ov, u32At h 8, u32At h 12, 256, reg.1, reg.2.1, s.now⟩ }))

/-- Image data in ascending order without gaps (R367 step 4): the response status, and the state. -/
def stageData (ofs : Nat) (data : List Byte) (ov : Bool) (s : State) : Nat × State :=
  match s.upd.staging with
  | none => (4, s)
  | some g =>
    if g.ov != ov || s.upd.stage != .staging || ofs ≠ g.next || data.isEmpty || g.next + data.length > 256 + g.len then (4, s)
    else
      let a := g.ofs + (if g.kind = 2 then g.next else g.next - 256)
      let t := memBegin (programOps .staging g.dev a data) s
      let n := g.next + data.length
      (0, t.updUpd (fun u => { u with
        staging := some { g with next := n, last := s.now }
        stage := if n = 256 + g.len then .checking else .staging }))

/-- IMG_DATA frames dropped. -/
def stageDrop (s : State) : State := s.updUpd (fun u => { u with dropped := sat255 u.dropped })

/-- The key of the customer (R365). -/
def State.customerKey (s : State) : Option (List Byte) := s.upd.keys[(4 : Fin 5)]

/-- The checks of steps 5 and 6 of R367 on a staged image: UPD_REASON.WHY, the code of Table 2.26 with the byte offset of the
record at fault, and whether a pattern's change is hot-safe. -/
def imageJudge (h : List Byte) (region : Nat) (s : State) : Nat × Nat × Nat × Bool :=
  let kind := byteAt h 4
  let len := u32At h 12
  let body := s.regionBytes region (if kind = 2 then 256 else 0) len
  let dig := sha256 (h.take 64 ++ body)
  let sig (o : Nat) : List Byte := (h.drop o).take 64
  let cust := s.cfg.sp.custKey = 1
  if crc32 body ≠ u32At h 16 then (10, 0, 0, true)
  else if !p256Verify (beBytes 64 Config.vendorKey.toNat) (sig 64) dig then (11, 0, 0, true)
  else if cust && (match s.customerKey with | some k => !p256Verify k (sig 128) dig | none => true) then (12, 0, 0, true)
  else if kind = 1 then
    match checkPattern (s.ch.region region).2.2 s.fwVersion body with
    | .error e => (13, e.1, e.2, true)
    | .ok im =>
      if im.hdr.seq ≤ s.ch.seq || s.upd.set.pat.failed.contains im.hdr.seq then (9, 0, 0, true)
      else (0, 0, 0, hotSafe s.ch.image im)
  else (0, 0, 0, true)

/-- The chandler has checked a pattern in a slot outside a start: its reason code, and EV180 for one that it rejects (R45). -/
def chandlerResult (slot code ofs : Nat) (s : State) : State := fireIf (code != 0) 180 slot (setReason slot code ofs s)

/-- The result of the checks of an image (R45, R367). EV177 names the reason; a SEQ that is not newer or has failed is part of the
pattern check of step 6, whose sub-index is 13 (DEDUCED, log entry 128). -/
def imageResult (h : List Byte) (region : Nat) (r : Nat × Nat × Nat × Bool) (s : State) : State :=
  let kind := byteAt h 4
  let c := if kind = 1 && (r.1 = 0 || r.1 = 9 || r.1 = 13) then chandlerResult region r.2.1 r.2.2.1 s else s
  let t := c.updUpd (fun u => { u with
    stage := if r.1 = 0 then .verified else .failed
    staging := none
    kind := kind
    imgId := u32At h 8
    why := r.1
    chk := r.2.1
    hot := if kind = 1 then r.2.2.2 else u.hot })
  if r.1 = 0 then saveSet (fun d => if kind = 1 then { d with verPat := some h } else { d with verFw := some h }) t
  else fire 177 (if r.1 = 9 then 13 else r.1) (saveSet (dropVerified kind) t)

/-- An image of a header is read from its region and checked (R367). -/
def imageCheck (h : List Byte) (region : Nat) (s : State) : State :=
  let t := regionFetch region 0 s
  imageResult h region (imageJudge h region t) t

/-- The images verified before a restart are checked again at READY (R367); where the supervisor core or the memory is down then,
the checks wait for the next IMAGE_VERIFY (log entry 128). -/
def recheckImages (s : State) : State :=
  let one (h : Option (List Byte)) (t : State) : State := match h with
    | some x => imageCheck x (t.heldIn x) t
    | none => t
  if s.coreUp .supervisor && !s.blockDown .memory then
    one s.upd.set.verPat (one s.upd.set.verFw (s.updUpd (fun u => { u with recheck := false })))
  else s.updUpd (fun u => { u with recheck := true })

/-- The row IMAGE_VERIFY (R367), once the last byte of the image is written. -/
def imageVerified (s0 : State) : State :=
  let s := if s0.upd.recheck then recheckImages s0 else s0
  match s.upd.staging with
  | some g =>
    if s.upd.stage == .checking && s.coreUp .supervisor && !s.blockDown .memory && !s.ch.writing .staging then
      imageCheck g.header (s.stageRegion g.kind) s
    else s
  | none => s

/-- The verified image of an IMG_ID. -/
def State.verified (s : State) (imgId : Nat) : Option (List Byte) :=
  match s.upd.set.verPat, s.upd.set.verFw with
  | some h, f => if u32At h 8 = imgId then some h else f.bind (fun x => if u32At x 8 = imgId then some x else none)
  | none, f => f.bind (fun x => if u32At x 8 = imgId then some x else none)

/-- The domains of the slots that target a rail. -/
def Cfg.railDoms (c : Cfg) (r : Nat) : Nat :=
  c.slots.toList.foldl (fun a x => match x with | some k => if k.target = r then a ||| 2 ^ k.domain else a | none => a) 0

/-- The domains whose INPUT is a monitor. -/
def Cfg.inputDoms (c : Cfg) (m : Nat) : Nat :=
  (List.finRange 8).foldl (fun b d => match c.doms[d] with | some k => if k.input = m then b ||| 2 ^ d.val else b | none => b) 0

/-- The domains of the slots and inputs that a monitor serves. -/
def Cfg.monDoms (c : Cfg) (m : Nat) : Nat :=
  c.inputDoms m ||| c.slots.toList.foldl (fun a x => match x with
    | some k => if k.mon = m ∨ k.warn = m then a ||| 2 ^ k.domain else a
    | none => a) 0

/-- The domains touched by a structural difference, seen from one of the two patterns (Table 16.7). -/
def touchedIn (old new : Image) (c : Cfg) : Nat :=
  let diff (t i : Nat) : Bool := !sameStruct old new t i
  let ph := (List.finRange 64).foldl (fun a n => if diff 2 n.val then (match c.phases[n] with | some p => a ||| c.railDoms p.rail | none => a) else a) 0
  let ra := (List.range 24).foldl (fun a r => if diff 3 r then a ||| c.railDoms r else a) ph
  let po := (List.range 8).foldl (fun a p =>
    if diff 5 p then (List.finRange 24).foldl (fun b r => match c.rails[r] with
      | some k => if k.lport = p then b ||| c.railDoms r.val else b
      | none => b) a
    else a) ra
  let sl := (List.finRange 48).foldl (fun a n => if diff 8 n.val then (match c.slots[n] with | some k => a ||| 2 ^ k.domain | none => a) else a) po
  let dm := (List.finRange 8).foldl (fun a d => if diff 7 d.val && (c.doms[d]).isSome then a ||| 2 ^ d.val else a) sl
  let mo := (List.range 96).foldl (fun a m => if diff 6 m then a ||| c.monDoms m else a) dm
  let hu := if diff 0x0B 0 then (match c.holdup with | some h => mo ||| c.railDoms h.battRail ||| c.inputDoms h.busMon | none => mo) else mo
  if diff 0x0D 0 then (List.finRange 8).foldl (fun a d => if (c.doms[d]).isSome then a ||| 2 ^ d.val else a) hu else hu

/-- The domains that a change to a pattern touches (Table 16.7). -/
def State.touched (s : State) (new : Image) : Nat :=
  let old := s.ch.image
  let re := (List.finRange 192).foldl (fun a i =>
    if notWeaker old.cfg.react[i] new.cfg.react[i] then a
    else (List.range 12).foldl (fun b k => b ||| s.mapDoms i.val k) a) 0
  touchedIn old new old.cfg ||| touchedIn old new new.cfg ||| re

/-- A pattern may be applied now: hot-safe, or with every touched domain off (R373). -/
def State.mayApply (s : State) (im : Image) : Bool := hotSafe s.ch.image im || s.domsOff (s.touched im)

/-- The directory entry of a core in a firmware slot (Table 16.5). -/
def State.bundleEntry (s : State) (slot : Bool) (c : Fin 3) : List Byte := s.regionBytes (2 + bit01 slot) (256 + 32 * c.val) 32

/-- The version of a core's image in a slot. -/
def State.coreVersion (s : State) (slot : Bool) (c : Fin 3) : Nat := u16At (s.bundleEntry slot c) 12

/-- A core's entry admits the version of another core (R368, R369). -/
def admits (e : List Byte) (c o : Fin 3) (v : Nat) : Bool :=
  let first := if c = 0 then o = 1 else o = 0
  let k := if first then 16 else 20
  u16At e k ≤ v && v ≤ u16At e (k + 2)

/-- A combination of slots is allowed (R369). -/
def State.comboOk (s : State) (fw : Tab 3 Bool) : Bool :=
  (List.finRange 3).all (fun c => (List.finRange 3).all (fun o =>
    o == c || admits (s.bundleEntry fw[c] c) c o (s.coreVersion fw[o] o)))

/-- The combinations that an activation passes through (R370). -/
def State.combosOk (s : State) (slot : Bool) : Bool :=
  let a := s.upd.fw.set (0 : Fin 3) slot
  let b := a.set (1 : Fin 3) slot
  let c := b.set (2 : Fin 3) slot
  s.comboOk a && s.comboOk b && s.comboOk c

/-- A core by its number. -/
def coreOf (i : Fin 3) : CoreId := if i = 0 then .supervisor else if i = 1 then .ledger else .link

/-- The image of a standby-first sequence has been activated on this unit, or an activation of a unit on its own is complete: its
verified header is dropped then, and in a sequence once that ends (R376, R378). -/
def actDone (imgId : Nat) (f : SetData → SetData) (s : State) : State :=
  if s.upd.pairSeq.isSome then s.updUpd (fun u => { u with ran := imgId })
  else saveSet f (s.updUpd (fun u => { u with stage := .none }))

/-- The next core of a firmware activation begins its trial, or the activation is complete (R370). The firmware-state record
names the core on trial. -/
def trialNext (imgId confirm : Nat) (todo : List CoreId) (s : State) : State :=
  let new := match s.upd.trial with | some t => s.upd.fw[coreNum t.core] | none => false
  match todo.filter (fun c => s.upd.fw[coreNum c] != new && s.coreVersion new (coreNum c) != s.coreVersion s.upd.fw[coreNum c] (coreNum c)) with
  | [] => actDone imgId (fun d => { d with verFw := none }) (s.updUpd (fun u => { u with trial := none }))
  | c :: rest =>
    (coreRestart c (saveSet (fun d => { d with trial := some c }) s)).updUpd (fun u => { u with
      fw := u.fw.set (coreNum c) new
      trial := some { imgId := imgId, confirm := confirm, core := c, ends := s.now + sec confirm, todo := rest } })

/-- Begin the activation of a firmware image, from the first unconfirmed core (R370). -/
def fwActivate (imgId confirm : Nat) (s : State) : State :=
  let new := s.newFwSlot imgId
  let todo := (List.finRange 3).filter (fun c => s.upd.fw[c] != new && s.coreVersion new c != s.coreVersion s.upd.fw[c] c)
  match todo with
  | [] => trialNext imgId confirm [] s
  | c :: rest =>
    (coreRestart (coreOf c) (saveSet (fun d => { d with newSlot := some new, trial := some (coreOf c) }) s)).updUpd (fun u => { u with
      fw := u.fw.set c new
      trial := some { imgId := imgId, confirm := confirm, core := coreOf c, ends := s.now + sec confirm, todo := rest.map coreOf } })

/-- Begin the apply of a pattern slot in service: CHD_STAT.STATE reads APPLYING (R374). -/
def applyBegin (slot : Nat) (s : State) : State := (writeAllCounters s).updCh (fun c => { c with applying := true, cand := none, candSlot := slot })

/-- Begin the activation of a verified image on this unit. -/
def activateHere (h : List Byte) (confirm : Nat) (s : State) : State :=
  if byteAt h 4 = 1 then
    applyBegin (s.stageRegion 1) (s.updUpd (fun u => { u with patAct := true, patPrev := if s.ch.blank then none else some s.ch.slot }))
  else fwActivate (u32At h 8) confirm s

/-- The image that an activation of a pattern would apply, or what R45 finds at fault with it. -/
def State.stagedPattern (s : State) : Except (Nat × Nat) Image :=
  checkPattern (s.ch.region (s.stageRegion 1)).2.2 s.fwVersion (s.slotBytes (s.stageRegion 1))

/-- ACTIVATE of an IMG_ID resumes a sequence that halted (R378). -/
def State.resumes (s : State) (imgId : Nat) : Bool := match s.upd.halted with | some q => q.imgId == imgId | none => false

/-- The twin can follow the standby-first sequence of an image (R376 step 1): it is in step and has the image verified; where a
halted sequence resumes, it has the image verified or runs it (DEDUCED, log entry 157). -/
def State.twinReady (s : State) (imgId : Nat) : Bool :=
  s.pair.role == .active && s.pair.linkUp &&
  (match s.pair.twin with
    | some t => if s.resumes imgId then t.staged.toNat == imgId || t.ran.toNat == imgId else s.twinStep && t.staged.toNat == imgId
    | none => false)

/-- Why an activation would be refused now, as UPD_REASON.WHY; 0 where it would be accepted (R370, R373, R376 to R378). -/
def State.activateWhy (s : State) (imgId : Nat) : Nat :=
  if !s.coreUp .supervisor then 8
  else if s.updBusy then 3
  else match s.verified imgId with
    | none => 1
    | some h =>
      if s.paired && !s.twinReady imgId then 5
      else if s.paired && s.resumes imgId && s.upd.ran = imgId then 0
      else if byteAt h 4 = 1 then
        match s.stagedPattern with
        | .error _ => 13
        | .ok im =>
          if im.hdr.seq ≤ s.ch.seq || s.upd.set.pat.failed.contains im.hdr.seq then 9
          else if !s.mayApply im then 4 else 0
      else if !s.combosOk (s.newFwSlot imgId) then 2 else 0

/-- The pattern-state record marks a SEQ as proved. -/
def markProved (q : Nat) (s : State) : State :=
  saveSet (fun d => { d with pat := { d.pat with
    proved := if d.pat.proved.contains q then d.pat.proved else d.pat.proved ++ [q]
    inProof := none } }) s

/-- The proof of the pattern in force begins: its window opens, or without a PROOF record it counts as proved (R43, R374). A
SEQ that is recorded as proved is not proved again. -/
def proofBegin (prev : Option Nat) (hot : Bool) (s : State) : State :=
  let q := s.ch.seq
  if s.upd.set.pat.proved.contains q then s else
  match s.cfg.proof with
  | none => markProved q s
  | some c =>
    let base (k : ProofCond) : Nat := if k.kind = 4 then (match Tab.get? s.ev.tallies k.inst with | some n => n | none => 0) else 0
    saveSet (fun d => { d with pat := { d.pat with inProof := some q } })
      (s.updUpd (fun u => { u with proof := some ⟨q, s.ch.slot, prev, hot, s.now + sec c.window, c.conds.map base, false, false⟩ }))

/-- An activation is refused: UPD_REASON shows why, with what R45 finds at fault with a pattern (R45, R382). -/
def activateRefused (w : Nat) (s : State) : State :=
  let t := s.updUpd (fun u => { u with why := w })
  match w, s.stagedPattern with
  | 13, .error e => chandlerResult (s.stageRegion 1) e.1 e.2 (t.updUpd (fun u => { u with chk := e.1 }))
  | _, _ => t

/-- A phase of the standby-first sequence with the two patterns that it goes between, and the domains that their difference
touches (R377). -/
def State.seqFor (s : State) (h : List Byte) (confirm : Nat) (ph : PairPhase) : PairSeq :=
  let q : PairSeq := { phase := ph, imgId := u32At h 8, confirm := confirm, deadline := some (s.now + sec (confirm + 10)) }
  if byteAt h 4 = 1 then
    match s.stagedPattern with
    | .ok im => { q with crcs := [s.patCrc, leNat (im.bytes.drop (im.bytes.length - 4))], doms := s.touched im }
    | .error _ => q
  else q

/-- The sequence ends: its image is verified no more (R376). -/
def seqEnd (s : State) : State :=
  match s.upd.pairSeq with
  | some q => saveSet (fun d => { d with
      verPat := d.verPat.filter (fun h => u32At h 8 != q.imgId)
      verFw := d.verFw.filter (fun h => u32At h 8 != q.imgId) })
    (s.updUpd (fun u => { u with pairSeq := none, stage := if u.stage == .verified && u.imgId == q.imgId then .none else u.stage }))
  | none => s

/-- The proof is done with: the new active waits until the old one has come back into step on the image (R376, R378). -/
def seqFinish (q : PairSeq) (s : State) : State :=
  s.updUpd (fun u => { u with pairSeq := some { q with phase := .finishing, deadline := some (s.now + sec (q.confirm + 10)) } })

/-- The new active proves the pattern of the sequence, unless it is proved already or needs no proof (R43, R376 step 4). -/
def seqProve (q : PairSeq) (s : State) : State :=
  if s.upd.set.pat.proved.contains s.ch.seq || s.ch.blank then seqFinish q s
  else
    let t := proofBegin s.upd.patPrev s.upd.hot (s.updUpd (fun u => { u with pairSeq := some { q with phase := .proving, deadline := none } }))
    if t.upd.proof.isNone then seqFinish q t else t

/-- Activate an image now (R370, R373 to R376): in a pair, the standby-first sequence begins, or resumes where it halted
(R378). -/
def activateNow (imgId confirm : Nat) (s : State) : Nat × State :=
  let w := s.activateWhy imgId
  if w ≠ 0 then (w, activateRefused w s)
  else match s.verified imgId with
    | none => (1, s)
    | some h =>
      let t := s.updUpd (fun u => { u with why := 0, pairHalt := false, halted := none })
      if !s.paired then (0, activateHere h confirm t)
      else if s.resumes imgId && s.upd.ran = imgId then
        (0, seqProve ((s.upd.halted.getD (s.seqFor h confirm .proving))) t)
      else
        let q := s.seqFor h confirm .waitTwin
        let r := match s.upd.halted with | some o => if o.imgId = imgId then { q with crcs := o.crcs, doms := o.doms } else q | none => q
        (0, t.updUpd (fun u => { u with ran := 0, pairSeq := some r }))

/-- Schedule an activation (R379): one is pending at a time. -/
def scheduleAt (d : Sched) (s : State) : Nat × State :=
  if s.upd.set.sched.isSome then (3, s.updUpd (fun u => { u with why := 3 }))
  else if (s.verified d.imgId).isNone then (1, s.updUpd (fun u => { u with why := 1 }))
  else (0, saveSet (fun x => { x with sched := some d }) s)

/-- A schedule is skipped (R380): the reason, and EV179. -/
def skipSched (why : Nat) (s : State) : State := fire 179 why (s.updUpd (fun u => { u with why := why }))

/-- The row SCHEDULED_ACTIVATION (R380): at the first tick of the lamplighter at or after AT. -/
def schedDue (s : State) : State :=
  match s.upd.set.sched with
  | none => s
  | some d =>
    if s.mode != .ready || s.ov.gtime < d.at_ || (s.arch.refClk && (s.now - s.seq.tickAt) % us 10 != 0) then s
    else
      let t := saveSet (fun x => { x with sched := none }) s
      let p := activateNow d.imgId d.confirm t
      if p.1 = 0 then p.2 else skipSched p.1 p.2

/-- An ACTIVATE frame (R379, R380): one of the pending schedule's ACT_ID, or of the latest taken, is ignored. -/
def activateFrame (a : ActivateCmd) (s : State) : State :=
  let id := a.actId.toNat
  if s.paired && s.pair.role == .standby then s
  else if s.upd.lastAct = some id || (match s.upd.set.sched with | some d => d.ov && d.actId = id | none => false) then s
  else
    let t := s.updUpd (fun u => { u with lastAct := some id })
    if a.atTime.toNat < s.ov.gtime then skipSched 7 t
    else saveSet (fun x => { x with sched := some ⟨id, a.imgId.toNat, a.confirm.toNat, a.atTime.toNat, true⟩ }) t

/-- Cancel the pending schedule (R379); without one, a CANCEL during the proof window cancels the proof (R375). -/
def cancelSched (s : State) : State := saveSet (fun x => { x with sched := none }) s

/-- A condition judged throughout the window has failed (Table 2.25, kinds 1, 4 and 5). -/
def State.condBroken (s : State) (k : ProofCond) (base : Nat) : Bool :=
  match k.kind with
  | 1 => (match toRail k.inst with | some r => !s.rails[r].pg | none => false)
  | 4 => (match Tab.get? s.ev.tallies k.inst with | some n => decide (base + k.value < n) | none => false)
  | 5 => decide ((k.value : Int) < s.hk.pubTmax)
  | _ => false

/-- A condition judged at the end of the window holds (Table 2.25, kinds 2, 6, 7 and 8). -/
def State.condEnds (s : State) (k : ProofCond) (confirmed : Bool) : Bool :=
  match k.kind with
  | 2 => (match toDom k.inst with | some d => s.seq.doms[d].state == .up | none => true)
  | 6 => s.twinStep
  | 7 => (match Tab.get? s.ov.ports k.inst with | some p => p.state == .up | none => true)
  | 8 => confirmed
  | _ => true

/-- The conditions of the proof, with the tallies at the start. -/
def State.proofConds (s : State) : List (ProofCond × Nat) :=
  match s.upd.proof, s.cfg.proof with
  | some p, some c => c.conds.zip p.bases
  | _, _ => []

/-- The rollback's apply begins once every domain it stops is off (R375), unless the supervisor core is restarting (R26). -/
def rollbackStep (s : State) : State :=
  match s.upd.rollback with
  | some r =>
    if s.coreUp .supervisor && !s.ch.applying && r.doms.all (fun d => s.seq.doms[d].cfg.isNone || s.seq.doms[d].state.isOff) then
      applyBegin r.slot s
    else s
  | none => s

/-- The pattern that a slot number names: 2 stands for the blank pattern. -/
def State.imageAt (s : State) (slot : Nat) : Image :=
  if slot = 2 then blankImage
  else match checkPattern (s.ch.region slot).2.2 s.fwVersion (s.slotBytes slot) with
    | .ok im => im
    | .error _ => blankImage

/-- Roll the pattern back (R375): SEQ recorded as failed, EV178 and EV180, the ordered stops of a structural change, then
the previous pattern. -/
def rollBack (s : State) : State :=
  match s.upd.proof with
  | none => s
  | some p =>
    let slot := p.prevSlot.getD 2
    let doms := if p.hot then [] else
      (List.finRange 8).filter (fun d => natBit (s.touched (s.imageAt slot)) d.val && !s.seq.doms[d].state.isOff)
    let t := saveSet (fun d => { d with pat := { d.pat with failed := d.pat.failed ++ [p.seq], inProof := none } })
      (s.updUpd (fun u => { u with proof := none, ran := 0, rollbacks := sat255 u.rollbacks, rollback := some ⟨slot, doms⟩ }))
    rollbackStep (fire 180 4 (fire 178 1 (t.each doms (fun d u => stopBegin d .off u))))

/-- The standby-first sequence halts (R378): each unit keeps the images it runs. -/
def pairHalt (why : Nat) (s : State) : State :=
  if s.upd.pairSeq.isSome then
    fire 178 2 (s.updUpd (fun u => { u with pairSeq := none, halted := u.pairSeq, pairHalt := true, why := why }))
  else s

/-- A proof fails: in the standby-first sequence the new active yields back first where its twin is in step (R376 step 6). -/
def proofFail (s : State) : State :=
  match s.upd.pairSeq with
  | some q =>
    if q.phase == .proving && s.twinStep then
      yieldBegin false (s.updUpd (fun u => { u with pairSeq := some { q with phase := .backYield } }))
    else if q.phase == .backYield then s
    else rollBack (s.updUpd (fun u => { u with pairSeq := none }))
  | none => rollBack s

/-- The proof succeeds: the SEQ is proved, and a sequence goes on until the old active is back in step (R374, R376 step 5). -/
def proofPass (s : State) : State :=
  match s.upd.proof with
  | none => s
  | some p =>
    let t := markProved p.seq (s.updUpd (fun u => { u with proof := none }))
    match t.upd.pairSeq with
    | some q => seqFinish q t
    | none => t

/-- The row PROOF_WINDOW_END (R374); it waits while the supervisor core does not run (R26). -/
def proofEnd (s : State) : State :=
  match s.upd.proof with
  | none => s
  | some p =>
    if p.ends ≤ s.now && s.coreUp .supervisor then
      (if s.proofConds.all (fun k => s.condEnds k.1 p.confirmed && !s.condBroken k.1 k.2) then proofPass s else proofFail s)
    else s

/-- A condition has failed: the rollback begins (R375), or once the supervisor core runs again (R26). -/
def proofBroken (s : State) : State :=
  if s.coreUp .supervisor then proofFail s
  else s.updUpd (fun u => { u with proof := u.proof.map (fun p => { p with broken := true }) })

/-- Judge the conditions that hold throughout the window: the first failure begins the rollback (R375). -/
def judgeProof (s : State) : State :=
  if s.proofConds.any (fun k => s.condBroken k.1 k.2) || (s.upd.proof.any (·.broken) && s.coreUp .supervisor) then proofBroken s else s

/-- A firing breaks a condition of kind 3. -/
def proofFired (src : Nat) (s : State) : State :=
  if s.proofConds.any (fun k => k.1.kind = 3 && k.1.inst = src) then proofBroken s else s

/-- The confirmation of PROOF kind 0x08 (R374). -/
def confirmProof (s : State) : State :=
  s.updUpd (fun u => { u with proof := u.proof.map (fun p => { p with confirmed := true }) })

/-- An apply in service has ended (R374 to R376). In a sequence the standby's pattern is proved once it owns, and the old active
records the proof result of its twin. -/
def afterApply (hot : Bool) (s : State) : State :=
  let t := s.updUpd (fun u => { u with patAct := false })
  if t.upd.rollback.isSome then t.updUpd (fun u => { u with rollback := none })
  else if s.upd.patAct then
    let id := match s.upd.set.verPat with | some h => u32At h 8 | none => 0
    let u := actDone id (fun d => { d with verPat := none }) t
    match u.upd.pairSeq with
    | some q => if q.phase == .oldActivating then markProved u.ch.seq u else u.updUpd (fun x => { x with hot := hot })
    | none => proofBegin u.upd.patPrev hot u
  else t

/-- The apply of an accepted candidate in service (R47, R373, R374); one that has become inadmissible is given up. -/
def serviceApply (s : State) : State :=
  match s.ch.cand with
  | none => s
  | some im =>
    let blank := s.ch.candSlot == 2
    if s.upd.rollback.isNone && !s.mayApply im then
      s.updUpd (fun u => { u with patAct := false, why := 4 }) |>.updCh (fun c => { c with applying := false, cand := none })
    else
      let hot := hotSafe s.ch.image im
      let t := applyImage im (if blank then 0 else s.ch.candSlot) blank false s
      afterApply hot (t.updCh (fun c => { c with cand := none }))

/-- The row PATTERN_APPLY: step 9 of Table 3.1, or the apply of an activation, before which the counters have been written
(R237). -/
def patternApplied (s : State) : State :=
  if s.mode == .start then (if s.step = 8 then startApply s else s)
  else if s.ch.applying && !s.countersWait then serviceApply s else s

/-- The row PATTERN_CANDIDATE_CHECK; a rollback to the blank pattern needs no check. -/
def patternChecked (s : State) : State :=
  if s.mode != .start && s.ch.applying && s.ch.cand.isNone && s.ch.candSlot = 2 then s.updCh (fun c => { c with cand := some blankImage })
  else
    let t := candidateCheck s
    if s.ch.applying && !t.ch.applying then t.updUpd (fun u => { u with patAct := false, rollback := none }) else t

/-- A supervisor that falls back uses the settings copy that was kept: changes written during its trial are lost (R372). -/
def supFallsBack (s : State) : State :=
  let t := s.updUpd (fun u => { u with keep := none })
  match s.upd.keep.bind s.setCopy with
  | some c => t.updUpd (fun u => { u with set := c.data })
  | none => t

/-- A core's trial has failed (R370): it returns to its old image, and EV178 fires. -/
def trialFail (s : State) : State :=
  match s.upd.trial with
  | none => s
  | some t =>
    let u := (coreRestart t.core (s.when (t.core == .supervisor) supFallsBack)).updUpd (fun x => { x with
      fw := x.fw.set (coreNum t.core) x.set.fw[coreNum t.core]
      trial := none
      rollbacks := sat255 x.rollbacks })
    fire 178 0 (saveSet (fun d => { d with trial := none }) u)

/-- The row CORE_TRIAL_TIMEOUT (R370): the trial of another core than the supervisor ends once the supervisor runs (R26). -/
def coreTrialEnd (c : CoreId) (s : State) : State :=
  match s.upd.trial with
  | some t => if t.core == c && t.ends ≤ s.now && (c == .supervisor || s.coreUp .supervisor) then trialFail s else s
  | none => s

/-- A core is on trial. -/
def State.onTrial (s : State) (c : CoreId) : Bool := match s.upd.trial with | some t => t.core == c | none => false

/-- The next core of a REVERT returns to the other slot and restarts (R370). -/
def revertNext (s : State) : State :=
  match s.upd.back with
  | [] => s
  | c :: rest =>
    let f (t : Tab 3 Bool) : Tab 3 Bool := t.upd (coreNum c) (!·)
    coreRestart c (saveSet (fun d => { d with fw := f s.upd.fw }) (s.updUpd (fun u => { u with fw := f u.fw, back := rest })))

/-- The row PAIR_SEQUENCE_HALT (R378). -/
def seqLate (s : State) : State :=
  match s.upd.pairSeq with
  | some q => if due s.now q.deadline && s.coreUp .supervisor then pairHalt 5 s else s
  | none => s

/-- The supervisor core is back: the update steps that came due meanwhile are taken up (R26). -/
def updAgain (s : State) : State :=
  let t := seqLate (proofEnd s)
  match t.upd.trial with
  | some x => coreTrialEnd x.core t
  | none => t

/-- The row CORE_RESTART_DONE (R26, R370, R371). -/
def coreRestarted (c : CoreId) (ok : Bool) (s : State) : State :=
  if (s.core c).state != .restarting then s
  else if s.onTrial c && !ok then
    trialFail (fire 187 (coreNum c).val (s.updCore c (fun x => { x with state := .halted, bad := true })))
  else
    let t := (coreBack c ok s).when (c == .supervisor && ok) updAgain
    if t.arch.cores.toList.any (fun x => x.state == .restarting) then t else revertNext t

/-- The row CORE_CONFIRM (R370): the firmware-state record names the new slot; the old settings copy is kept no longer (R372). -/
def coreConfirmed (c : CoreId) (s : State) : State :=
  match s.upd.trial with
  | some t =>
    if t.core == c && s.coreUp c then
      trialNext t.imgId t.confirm t.todo
        (saveSet (fun d => { d with fw := d.fw.set (coreNum c) s.upd.fw[coreNum c], trial := none })
          (s.updUpd (fun u => { u with keep := if c = .supervisor then none else u.keep })))
    else s
  | none => s

/-- REVERT of the firmware (R370): every core that runs from the newer slot returns to the older one, one after the other. -/
def revertFw (s : State) : Nat × State :=
  if s.updBusy then (3, s.updUpd (fun u => { u with why := 3 }))
  else
    let newer := s.newerSlot
    let l := ([2, 1, 0] : List (Fin 3)).filter (fun c => s.upd.fw[c] == newer)
    let path := l.foldl (fun (a : Bool × Tab 3 Bool) (c : Fin 3) => let f := a.2.set c (!newer); (a.1 && s.comboOk f, f)) (true, s.upd.fw)
    if !path.1 then (2, s.updUpd (fun u => { u with why := 2 }))
    else (0, revertNext (s.updUpd (fun u => { u with back := l.map coreOf })))

/-- REVERT of the pattern: during the window it rolls back (R375); outside it, it is refused (log entry 50). -/
def revertPat (s : State) : Nat × State :=
  if s.upd.proof.isSome then (0, proofFail s) else (1, s.updUpd (fun u => { u with why := 1 }))

/-- The sequence follows a change of ownership (R376, R378): it halts at one that is not its own yield. `byYield` is whether this
change came of a yield. -/
def seqOwned (byYield : Bool) (s : State) : State :=
  match s.upd.pairSeq with
  | none => s
  | some q =>
    match q.phase with
    | .activating => if byYield && s.pair.role == .active then seqProve q s else pairHalt 15 s
    | .yielding =>
      if byYield && s.pair.role == .standby then s.updUpd (fun u => { u with pairSeq := some { q with phase := .oldWaits, deadline := none } })
      else pairHalt 15 s
    | .backYield =>
      if byYield && s.pair.role == .standby then rollBack (s.updUpd (fun u => { u with pairSeq := none })) else pairHalt 15 s
    | .oldWaits => if byYield && s.pair.role == .active then seqEnd s else pairHalt 15 s
    | .waitTwin | .proving | .oldActivating | .finishing => pairHalt 15 s

/-- The standby carries out what the active's sequence asks of it (R376 step 2): it activates the image, or where a sequence that
halted resumes, goes on with what it has activated (R378). An image that the active has proved is activated as in step 5. -/
def seqOrder (h : Health) (s : State) : State :=
  let id := h.order.toNat
  if !(s.paired && s.pair.role == .standby && h.role = 1 && id ≠ 0 && !s.updBusy) then s
  else
    let done := s.resumes id && s.upd.ran = id
    let ph : PairPhase := if h.ran.toNat = id then .oldActivating else .activating
    match s.verified id with
    | none => s
    | some i =>
      let q := s.seqFor i h.confirm.toNat ph
      match s.upd.halted with
      | some o =>
        if done then s.updUpd (fun u => { u with halted := none, pairSeq := some { o with phase := ph, deadline := q.deadline } })
        else activateHere i q.confirm (s.updUpd (fun u => { u with halted := none, ran := 0, pairSeq := some q }))
      | none => activateHere i q.confirm (s.updUpd (fun u => { u with ran := 0, pairSeq := some q }))

/-- The sequence follows the twin's HEALTH (R376): the active yields once the standby is back in step on the image, the old
active activates once the new one has succeeded, and the sequence ends once it is in step again. The order to the standby goes
in HEALTH, since Table 12.2 has no frame for it (log entry 51). The supervisor core's restart pauses it (R26). -/
def seqHealth (h : Health) (s : State) : State :=
  if !s.coreUp .supervisor then s
  else match s.upd.pairSeq with
  | some q =>
    match q.phase with
    | .waitTwin =>
      if h.ran.toNat = q.imgId && s.twinStep && !h.busyWin then
        yieldBegin false (s.updUpd (fun u => { u with pairSeq := some { q with phase := .yielding } }))
      else s
    | .oldWaits =>
      if h.role ≠ 1 then s
      else if h.ran.toNat ≠ q.imgId then seqEnd s
      else if h.proved && !h.busyWin then
        match s.verified q.imgId with
        | some i => activateHere i q.confirm (s.updUpd (fun u => { u with
            pairSeq := some { q with phase := .oldActivating, deadline := some (s.now + sec (q.confirm + 10)) } }))
        | none => s
      else s
    | .oldActivating => if s.upd.ran = q.imgId && s.inStepNow then seqEnd s else s
    | .finishing => if h.ran.toNat = q.imgId && s.twinStep && !h.busyWin then seqEnd s else s
    | .yielding | .activating | .proving | .backYield => s
  | none => seqOrder h s

/-- What this unit's sequence asks of the twin, for HEALTH: the image to activate (R376 step 2, R378). -/
def State.seqAsks (s : State) : Option PairSeq :=
  s.upd.pairSeq.filter (fun q => s.pair.role == .active && (q.phase == .waitTwin || q.phase == .finishing))

/-- A ground that makes the active yield during the sequence halts it (Table 16.10). -/
def seqGround (s : State) : State :=
  if s.upd.pairSeq.isSome && s.pair.yielding && s.pair.yieldGround then pairHalt 15 s else s

/-- UPD_STAT.STAGE code. -/
def Stage.code : Stage → Nat
  | .none => 0 | .staging => 1 | .checking => 2 | .verified => 3 | .failed => 4 | .abandoned => 5

/-- UPD_STAT (Table 16.11). -/
def State.updStat (s : State) : Nat :=
  let u := s.upd
  u.stage.code + bit01 (u.kind == 2) * 8 + bit01 u.trial.isSome * 16 + bit01 u.proof.isSome * 32 + bit01 u.set.sched.isSome * 64 +
    bit01 s.mixed * 128 + bit01 u.pairSeq.isSome * 256 + bit01 u.pairHalt * 512 + bit01 s.sp.mode.isSome * 1024 +
    s.sp.mode.getD 0 * 2048

/-- UPD_REASON. -/
def State.updReason (s : State) : Nat := s.upd.why % 16 + (if s.upd.why = 13 then s.upd.chk % 256 else 0) * 16

/-- UPD_FW. -/
def State.updFw (s : State) : Nat := maskOf s.upd.fw.toList

/-- CHD_STAT.STATE (Table 3.7). -/
def State.chdState (s : State) : Nat :=
  match s.mode with
  | .sleep => 4
  | .ready | .toSleep => if s.ch.applying then 3 else if s.ch.blank then 2 else 1
  | _ => 0

/-- CHD_STAT (Table 3.7). -/
def State.chdStat (s : State) : Nat :=
  let c := s.ch
  s.chdState + c.slot * 8 + bit01 c.fallback * 16 + bit01 c.migrated * 32 + c.srcFmt % 4 * 64 + bit01 c.dirMirror * 256 +
    bit01 s.upd.proof.isSome * 512 + bit01 c.setRdFail * 1024

/-- READY starts each domain whose START asks for it, unless a held CRESET keeps them OFF (R248, Table 7.9). -/
def readyDomains (s : State) : State :=
  if s.ev.crHold then s
  else s.each (List.finRange 8) (fun d u =>
    if (match u.seq.doms[d].cfg with | some c => c.start != 1 | none => false) && u.seq.doms[d].state == .off then
      u.updDom d (fun x => { x with state := .wait, req := true, auto := false })
    else u)

/-- READY decides the pair role (R268): a unit of no pair owns and drives at once; a blank one does not; one that sees
PEER_OWN_N asserted stands by. -/
def readyRole (s : State) : State :=
  s.updPair (fun p => { p with
    role := if s.cfg.pair.role = 1 && !s.ch.blank then (if p.peer then .standby else .undecided) else .single
    own := s.cfg.pair.role != 1 && !s.ch.blank
    drivers := s.cfg.pair.role != 1 && !s.ch.blank
    readyAt := s.now })

/-- READY enumerates the tree at its root, and starts the capture and the sweep. -/
def readyServices (s : State) : State :=
  let d := if s.ov.acting then enumAtRoot (s.updOv (fun o => { o with gtime := 0 })) else s
  let e := ledgerGap (sweepSet d.upd.set.interval d.upd.set.tap d)
  if e.coreUp .ledger then archFind e else e

/-- READY begins the proof of a pattern not proved yet (R367, R374). -/
def readyProof (s : State) : State :=
  if !s.ch.blank && s.upd.proof.isNone && !s.upd.set.pat.proved.contains s.ch.seq then
    let prev := if s.candidate (1 - s.ch.slot) then some (1 - s.ch.slot) else none
    proofBegin prev (hotSafe (s.imageAt (prev.getD 2)) s.ch.image) s
  else s

/-- The row READY: step 13 of Table 3.1 (R58, R268, R299, R367, R374, Table 7.9). -/
def readyNow (s : State) : State :=
  if s.mode == .start && s.step = 12 then
    readyProof (recheckImages (readyServices (readyRole (readyDomains { s with mode := .ready, step := 13 }))))
  else s

end Sys2Proof.Machine
end

