-- ==== Sys2Proof/Machine/RegStat.lean ====
section
/-! DEFINITION. The registers as they read (spec/17_register_map.md Tables 17.2 to 17.10, with the field tables of each
chapter): every 16-bit register by its address, and the contents of every wider value and result set. Addresses that hold no
register read 0 (R343), and so does every reserved bit (R384). -/
namespace Sys2Proof.Machine

/-- Words as bytes, each low byte first (R5). -/
def packW (l : List Nat) : List Byte := l.flatMap (leBytes 2)

/-- PH_STAT (Table 4.8); an absent engine reads its reset value (R385). -/
def PhaseS.stat (p : PhaseS) : Nat :=
  match p.cfg with
  | none => 0
  | some c =>
    p.state.code + bit01 p.dir * 8 + bit01 (!c.check) * 16 + bit01 c.noshed * 32 + bit01 p.pkClamp * 64 + bit01 p.noTrip * 128 +
      bit01 p.oob * 256 + p.why % 8 * 512 + p.oobCnt % 16 * 4096

/-- A register of an engine by its offset (Tables 4.8 to 4.11). -/
def PhaseS.reg (p : PhaseS) (o : Nat) : Nat :=
  match p.cfg, o with
  | none, 2 => bit01 p.refused * 8   -- R102 refuses a write to an absent phase with this flag (R385)
  | none, _ => 0
  | some _, 0 => p.stat
  | some _, 2 => bit01 p.refused * 8
  | some c, 12 => c.slope + c.blank * 1024
  | some _, 14 => p.episodes + p.fences * 256
  | some _, _ => 0

/-- RAIL_STAT (Table 5.8). -/
def RailS.stat (x : RailS) (grace : Bool) : Nat :=
  match x.cfg with
  | none => 0
  | some c =>
    x.state.code + bit01 x.pg * 8 + bit01 x.inLimit * 16 + bit01 x.limitHit * 32 + bit01 grace * 64 + bit01 x.holdAt.isSome * 128 +
      bit01 x.ovLatch * 256 + bit01 x.uvAt.isSome * 512 + bit01 x.sat * 1024 + bit01 (c.decim == 2) * 2048 +
      (if c.shed.isEmpty then 15 else x.entry % 16) * 4096

/-- A reduced limit of a rail waits for the end of its grace. -/
def RailS.inGrace (x : RailS) : Bool := !x.fence.pend.isEmpty || !x.cap.pend.isEmpty || !x.thermal.pend.isEmpty

/-- A register of a rail by its offset (Tables 5.8 to 5.12). -/
def State.railReg (s : State) (r : Fin 24) (o : Nat) : Nat :=
  let x := s.rails[r]
  match x.cfg, o with
  | none, _ => 0
  | some _, 0x00 => x.stat x.inGrace
  | some _, 0x02 => x.cause
  | some _, 0x04 => bit01 x.refused * 2 + bit01 x.noshed * 8
  | some c, 0x06 => c.vset
  | some _, 0x08 => x.vtgt % 4096 + bit01 (s.slewing r) * 4096
  | some c, 0x0A => c.ilim
  | some _, 0x0C => x.ilimEff % 65536
  | some _, 0x0E => s.activeUnits r.val % 32 + (s.unfenced r).length % 32 * 32 + x.limsrc % 8 * 1024
  | some _, 0x1A => x.sheds + x.relights * 256
  | some _, 0x1C => x.ovs + x.uvs * 256
  | some _, _ => 0

/-- A register of a load-link port by its offset (Tables 6.9 to 6.11). -/
def State.portReg (s : State) (p : Fin 8) (o : Nat) : Nat :=
  let x := s.ports[p]
  match x.cfg, o with
  | none, _ => 0
  | some _, 0x00 =>
    bit01 x.linkUp + bit01 (x.alert && s.portDrives p) * 2 + bit01 x.tog * 4 + bit01 (s.portMay p) * 8 +
      subMask x (fun k => k.settled) * 16 + subMask x (fun k => k.fault) * 256 + subMask x (fun k => k.sfail) * 4096
  | some _, 0x02 => x.cause
  | some _, 0x06 => x.tn % 256 + x.tnDone % 256 * 256
  | some _, 0x08 => subMask x (fun k => k.dim) + x.dimId % 256 * 256
  | some _, 0x0A => x.good % 65536
  | some _, 0x0C => x.crcErr + x.framing * 256
  | some _, 0x0E => x.refused + x.retries * 256
  | some _, _ => 0

/-- A register of a domain by its offset (Tables 7.13 to 7.15). -/
def State.domReg (s : State) (d : Fin 8) (o : Nat) : Nat :=
  let x := s.seq.doms[d]
  match o with
  | 0x0 => x.state.code + bit01 x.inQ * 8 + s.waitFor d * 16 + bit01 x.req * 64 + x.slot % 64 * 256
  | 0x2 => x.cause
  | 0x4 => bit01 x.refused * 64
  | 0x6 => min 15 (s.faultsIn d).length + x.restarts * 256
  | 0x8 => x.src % 256
  | 0xA => x.shutoffs + x.noStarts * 256
  | _ => 0

/-- SEQ_SL_STAT (Table 7.16). -/
def State.slotReg (s : State) (n : Fin 48) : Nat :=
  let x := s.seq.slots[n]
  match x.cfg with
  | none => 0
  | some _ =>
    x.state.code + bit01 x.en * 8 + bit01 x.pgIn * 16 + bit01 x.warn * 32 +
      bit01 (match s.slotMon n with | some m => !m.lowNow && !m.highNow | none => false) * 64 + x.warnCnt * 256

/-- WM_STAT (Table 8.7). -/
def MonS.stat (x : MonS) : Nat :=
  bit01 x.lowNow + bit01 x.highNow * 2 + bit01 x.lowTrip * 4 + bit01 x.highTrip * 8 + bit01 x.test.isSome * 16 +
    bit01 x.stDone * 32 + bit01 x.stFail * 64 + x.trips * 256

/-- A register of a monitor by its offset (Tables 8.7 and 8.8). -/
def MonS.reg (x : MonS) (o : Nat) : Nat :=
  match x.coming, o with
  | none, 2 => bit01 x.refused * 32
  | none, _ => 0
  | some _, 0 => x.stat
  | some c, 2 => x.stKind * 2 + x.tap * 4 + bit01 x.refused * 32 + c.tick * 64
  | some c, 4 => c.low + c.hyst * 1024
  | some c, 6 => c.high + (c.filter - 1) * 1024
  | some _, _ => 0

/-- CT_STAT (Table 8.9). -/
def CtS.stat (x : CtS) : Nat := x.state + bit01 x.sat * 4 + bit01 x.lost * 8 + x.missed * 256

/-- TH_STAT (Table 9.8). -/
def HkS.thStat (h : HkS) : Nat :=
  bit01 h.warn + bit01 h.dim * 2 + bit01 h.trip * 4 + bit01 h.noSensor * 8 + bit01 h.refFault * 16 + bit01 h.warnSeen * 32 +
    bit01 h.dimSeen * 64 + bit01 h.tripSeen * 128

/-- The mask of the sensors counted as faulty from a channel up. -/
def HkS.faultMask (h : HkS) (lo n : Nat) : Nat := maskOf ((List.range n).map (fun i => match Tab.get? h.sensors (lo + i) with
  | some x => x.out | none => false))

/-- FEED_STAT (Table 3.11). -/
def State.feedStat (s : State) : Nat :=
  let a := s.feeds[(0 : Fin 2)]
  let b := s.feeds[(1 : Fin 2)]
  bit01 a.qual + bit01 b.qual * 2 + bit01 a.gate * 4 + bit01 b.gate * 8 + bit01 a.lost * 16 + bit01 b.lost * 32 +
    bit01 s.hold.cfg.isNone * 64

/-- MEM_STAT (Table 3.9). -/
def State.memStat (s : State) : Nat :=
  (match s.ch.layout with
    | some l => l.type0 % 4 + l.type1 % 4 * 4 + bit01 (l.addrBytes == 4) * 16 + l.readMode % 4 * 32 + l.clkDiv % 16 * 256
    | none => 0) + bit01 s.ch.wrFail * 4096

/-- SCR_STAT (Table 3.10). -/
def State.scrStat (s : State) : Nat :=
  bit01 s.ch.repaired + bit01 s.ch.unrepaired * 2 + bit01 s.ch.trimDrop * 4 + s.ch.passes % 256 * 256

/-- SLP_STAT (Table 3.12). -/
def State.slpStat (s : State) : Nat := bit01 s.slp.refused + s.slp.lastWake % 16 * 16

/-- A protected path is open: unlocked, with trims enabled (R389). -/
def State.pathOpen (s : State) (p : LockPath) : Bool := p.unlocked && s.cfg.device.trimEn != 0

/-- GLB_LOCK (Table 17.12). -/
def State.glbLock (s : State) : Nat :=
  let h := s.glb.lockHost
  let o := s.glb.lockOv
  bit01 (s.pathOpen h) + bit01 h.armed * 2 + bit01 (s.pathOpen o) * 4 + bit01 o.armed * 8 + bit01 (s.cfg.device.trimEn == 0) * 16 +
    (if s.pathOpen h then (h.usedAt + sec 10 - s.now) / 1000000000 else 0) % 256 * 256

/-- FAULT_N is asserted (R251). -/
def State.faultN (s : State) : Bool :=
  (match s.mode with
    | .por | .creset | .held | .start | .testWait | .test => true
    | .ready | .toSleep | .sleep | .wake => s.ch.blank) ||
  (if s.cfg.device.faultnMode = 1 then s.ev.latched else s.ev.faultOn)

/-- A source whose reaction in force includes INT, pending and enabled (R250). -/
def State.intSource (s : State) (n : Fin 192) : Bool := (s.ev.src[n]).pend && (s.ev.src[n]).ien && hasInt (s.cfg.react[n])

/-- INT_N is asserted (R250). -/
def State.intN (s : State) : Bool := (List.finRange 192).any (fun n => s.intSource n)

/-- A block is held by R247. -/
def State.blockHeld (s : State) (b : Block) : Bool := s.ev.heldBlks.contains b

/-- A sub-index as a cartridge or a monitor of its group. -/
def toCart (n : Nat) : Option (Fin 16) := if h : n < 16 then some ⟨n, h⟩ else none
/-- A number as an Ovrath port. -/
def toOvPort (n : Nat) : Option (Fin 6) := if h : n < 6 then some ⟨n, h⟩ else none

/-- The unit that a firing's FENCE acts on is fenced by a FENCE reaction, and not merely held by its resets (Table 11.4, R247). -/
def State.unitFenced (s : State) (src sub : Nat) : Bool :=
  if src < 64 then (match toPhase src with | some n => s.phases[n].state == .fenced && s.phases[n].why != 5 | none => false)
  else if 88 ≤ src && src ≤ 95 then (match toPort (src - 88) with | some p => (s.ports[p]).fenced | none => false)
  else if 96 ≤ src && src ≤ 111 then (match toMon (6 * (src - 96) + sub / 2) with
    | some m => (s.watch.mons[m]).fenced | none => false)
  else if src = 123 then (match Tab.get? s.hk.sensors sub with | some x => x.fenced | none => false)
  else if 128 ≤ src && src ≤ 143 then (match toCart (src - 128) with
    | some c => (s.carts.carts[c]).fenced && !s.ev.heldBlks.contains (.cartridge c) | none => false)
  else if 156 ≤ src && src ≤ 167 then (match toOvPort ((src - 156) / 2) with
    | some k => (s.ov.ports[k]).state == .fenced && !s.ev.heldBlks.contains (.ovPort k) | none => false)
  else if 172 ≤ src && src ≤ 175 then s.hb.fenced
  else if 176 ≤ src && src ≤ 179 then s.sp.fenced
  else false

/-- EV_DEGR (Table 11.11): which kinds of unit are degraded now (R249). -/
def State.degraded (s : State) : Nat :=
  let held := s.ev.heldBlks
  maskOf [s.phases.toList.any (fun p => p.state == .fenced),
    s.ports.toList.any (fun p => p.fenced) || held.any (fun b => match b with | .port _ => true | _ => false),
    s.watch.mons.toList.any (fun m => m.fenced),
    s.hk.sensors.toList.any (fun x => x.out),
    s.carts.carts.toList.any (fun c => c.state == .excluded),
    s.ov.ports.toList.any (fun p => p.state == .fenced),
    s.hb.fenced || held.contains .hostBus,
    s.sp.fenced || held.contains .servicePort,
    s.arch.cores.toList.any (fun c => c.state == .halted || c.state == .held),
    !held.isEmpty]

/-- A supply is out of range (R396). -/
def State.supplyBad (s : State) : Bool := s.arch.supplyOut.toList.any id

/-- The clock condition stands: REF_CLK or the PLL lock is lost (R16, R17). -/
def State.clockBad (s : State) : Bool := !s.arch.refClk || !s.arch.pllLocked

/-- EV_CHIP_STAT (Table 11.11). -/
def State.chipStat (s : State) : Nat :=
  bit01 s.faultN + bit01 (!s.ev.heldBlks.isEmpty) * 2 + bit01 s.ev.crHold * 4 + bit01 (s.mode == .test) * 8 +
    bit01 s.supplyBad * 16 + bit01 (s.clockBad && s.step ≥ 3) * 32 + s.ev.last % 256 * 256

/-- The source that EV_SEL names. -/
def State.evSel (s : State) : Option (Fin 192) := if h : s.ev.sel < 192 then some ⟨s.ev.sel, h⟩ else none

/-- EV_INFO (Table 11.10). -/
def State.evInfo (s : State) : Nat :=
  match s.evSel with
  | none => 0
  | some n =>
    let x := s.ev.src[n]
    x.count + x.sub % 128 * 256 +
      bit01 (x.fired && s.unitFenced n.val x.sub && (64 ≤ n.val || x.fence)) * 32768

/-- HU_STAT (Table 10.8). -/
def State.huStat (s : State) : Nat :=
  let h := s.hold
  h.state.code + bit01 h.busQ * 8 + bit01 h.rideCmp * 16 + bit01 h.shareBad * 32 + h.shareSrc % 2 * 64 + h.rides * 256

/-- BC_STAT of a cartridge (Table 10.10). -/
def CartS.stat (x : CartS) : Nat :=
  x.state.code + (if x.state == .excluded then x.why % 8 else 0) * 8 + bit01 x.warned * 64 + bit01 x.authOk * 128 +
    (if x.newest.isSome then min 255 (x.life.floor).toNat else 0) * 256

/-- The cartridge that BC_CTRL.INDEX names. -/
def State.cartSel (s : State) : CartS := match Tab.get? s.carts.carts s.carts.index with | some c => c | none => {}

/-- MB_STAT (Table 10.11). -/
def State.mbStat (s : State) : Nat := bit01 s.carts.stuck + bit01 ((s.core .supervisor).state == .restarting) * 2

/-- PAIR_STAT.ROLE_NOW. -/
def PairRole.code : PairRole → Nat
  | .single => 0 | .active => 1 | .standby => 2 | .undecided => 3

/-- PAIR_STAT (Table 12.7). -/
def State.pairStat (s : State) : Nat :=
  let p := s.pair
  p.role.code + bit01 p.own * 4 + bit01 p.peer * 8 + bit01 p.linkUp * 16 + bit01 s.inStepNow * 32 + bit01 s.twinStep * 64 +
    bit01 s.glb.straps.pref * 128 + bit01 p.prefClash * 256 + bit01 p.yieldBlocked * 512 + bit01 p.hoForced * 1024 +
    bit01 p.takeStale * 2048 + bit01 p.wrRefused * 4096

/-- PAIR_HOLD.LEFT: whole seconds left of the revert hold-off. -/
def State.pairHold (s : State) : Nat :=
  match s.pair.holdAt with | some d => min 0xFFFE ((d - s.now) / 1000000000) | none => 0xFFFF

/-- A register of the pair (Tables 12.7 to 12.9). -/
def State.pairReg (s : State) (a : Nat) : Nat :=
  let p := s.pair
  match a with
  | 0x1100 => s.pairStat
  | 0x1102 => p.cause
  | 0x1104 => bit01 p.noRevert * 8 + bit01 p.refused * 32
  | 0x1106 => s.grounds
  | 0x1108 => p.ySrc % 256 + p.yields * 256
  | 0x110A => s16 p.align
  | 0x110C => min 15 p.reverts.length
  | 0x110E => s.pairHold
  | 0x1110 => p.crcTally + p.retx * 256
  | 0x1112 => p.handovers + p.takeovers * 256
  | _ => 0

/-- OV_PORT_STAT.STATE code. -/
def OvPortState.code : OvPortState → Nat
  | .disabled => 0 | .training => 1 | .up => 2 | .down => 3 | .fenced => 4 | .parked => 5 | .notAdmitted => 6 | .spareIdle => 7

/-- OV_PORT_STAT of a port (Table 13.14). -/
def OvPort.stat (p : OvPort) : Nat :=
  p.state.code + (if p.state == .notAdmitted then p.why % 4 else 0) * 8 + bit01 p.merged * 32 + bit01 p.errRun * 64 +
    min 255 p.delay * 256

/-- The port that OV_PORT_SEL names; 6 and 7 read 0 in every field. -/
def State.ovSel (s : State) : OvPort := match Tab.get? s.ov.ports s.ov.portSel with | some p => p | none => {}

/-- OV_STAT (Table 13.13). -/
def State.ovStat (s : State) : Nat :=
  let o := s.ov
  s.cfg.ov.role % 4 + bit01 o.acting * 4 + bit01 o.addr.isSome * 8 + bit01 o.mismatch * 16 + bit01 o.timeHold * 32 +
    bit01 o.upSpare * 64 + bit01 o.split * 128 + o.depth % 16 * 256

/-- A signed value saturated to 16 bits. -/
def sat16 (i : Int) : Nat := s16 (if i > 32767 then 32767 else if i < -32768 then -32768 else i)

/-- The queue that Q_SEL names. -/
def State.qSelS (s : State) : QueueS := match Tab.get? s.ov.queues s.ov.qSel with | some q => q | none => {}

/-- Q_STAT.FILL of the selected queue (Table 13.16). The hardware relay fills its queues of a class in their order. -/
def State.qFill (s : State) : Nat :=
  match Tab.opt s.cfg.queues s.ov.qSel with
  | some c =>
    if c.owner == 3 then
      let before := (s.cfg.queues.toList.take s.ov.qSel).foldl (fun a q => match q with | some x => a + x.relay c.cls | none => a) 0
      min c.size (s.relayUsed c.cls - before)
    else s.qSelS.fill
  | none => 0

/-- Q_CFG (Table 13.16). -/
def State.qCfg (s : State) : Nat :=
  match Tab.opt s.cfg.queues s.ov.qSel with
  | some c => c.cls % 4 + c.owner % 4 * 4
  | none => 16

/-- A register of the Ovrath region (Tables 13.13 to 13.16). -/
def State.ovReg (s : State) (a : Nat) : Nat :=
  let o := s.ov
  match a with
  | 0x1200 => s.ovStat
  | 0x1202 => bit01 o.refused * 128
  | 0x1208 => o.mark % 65536
  | 0x120A => sat16 o.ofs
  | 0x120C => o.opId % 256 + o.opKind % 4 * 256 + bit01 o.opDone * 1024 + bit01 o.opPartial * 2048
  | 0x120E => o.opLead % 256
  | 0x1230 => o.portSel
  | 0x1232 => s.ovSel.stat
  | 0x1234 => s.ovSel.crc + s.ovSel.code * 256
  | 0x1236 => s.ovSel.merges % 65536
  | 0x1240 => s.ovSel.drops % 65536
  | 0x1254 => o.txnAddr
  | 0x1256 => bit01 o.txnWrite * 2 + o.txnCount % 8 * 4 + bit01 o.txnRefused * 32
  | 0x1258 => bit01 o.txnBusy + bit01 o.txnDone * 2 + o.txnStatus % 8 * 4 + o.txnTag % 128 * 32
  | 0x1280 => o.qSel
  | 0x1282 => s.qFill % 8192
  | 0x1284 => s.qSelS.drops % 65536
  | 0x1286 => s.qCfg
  | _ => if 0x1260 ≤ a && a < 0x1270 then (Tab.get? o.txnData ((a - 0x1260) / 2)).getD 0 else 0

/-- LG_STAT (Table 14.9). -/
def State.lgStat (s : State) : Nat :=
  let l := s.lg
  bit01 l.openSlot.isSome + bit01 l.flush.isSome * 2 + bit01 l.newestBank.isSome * 4 + bit01 l.lgsIncomplete * 8 +
    bit01 l.dropHeld * 16 + bit01 l.archFail * 32 + bit01 l.uncorr * 64 + (l.dir.toList.filter Option.isSome).length * 256

/-- HB_ATTN_STAT (Table 15.8); ATTEMPT is the number of the head record's latest attempt. -/
def State.attnStat (s : State) : Nat :=
  s.hb.queue.length % 64 + bit01 s.hb.sending.isSome * 64 + bit01 (s.hb.fenced || s.blockHeld .hostBus) * 128 +
    (match s.hb.queue with | a :: _ => (a.attempts + bit01 s.hb.sending.isSome) % 16 | [] => 0) * 256

/-- A register of the ledger, host-bus and update regions (Tables 14.9 to 14.11, 15.7, 15.8, 16.11 and 16.12). -/
def State.serviceReg (s : State) (a : Nat) : Nat :=
  let l := s.lg
  let h := s.hb
  let u := s.upd
  match a with
  | 0x1400 => s.lgStat
  | 0x1402 => bit01 l.flushHold * 4 + bit01 l.refused * 16
  | 0x1404 => l.recSel
  | 0x1406 => l.winSel
  | 0x140C => l.archCnt % 65536
  | 0x140E => s.lgDepth % 65536
  | 0x1414 => l.eccCorr + l.unflushed * 256
  | 0x1500 => h.stat % 1024
  | 0x1502 => if s.step < 2 then 0 else 0x58 + s.glb.straps.addr.toNat
  | 0x1504 => bit01 h.refused * 8
  | 0x1506 => s.attnStat
  | 0x1508 => h.lastSeq % 65536
  | 0x150A => h.abandoned + h.lostTally * 256
  | 0x150C => h.busyTally + h.timeouts * 256
  | 0x1600 => s.updStat
  | 0x1602 => s.updReason
  | 0x1604 => bit01 u.kindSel * 16 + bit01 u.refused * 32 + u.confirmS * 64
  | 0x1606 => s.updFw
  | 0x160C => u.dropped + u.rollbacks * 256
  | 0x1780 => bit01 s.ev.tallyRef * 2
  | _ => 0

/-- A register of the identity region (Table 17.2). -/
def State.globalReg (s : State) (a : Nat) : Nat :=
  match a with
  | 0x0000 => 0x7720
  | 0x0002 => Config.devRev.toNat
  | 0x000C => s.glb.straps.addr.toNat + bit01 s.glb.straps.pref * 8 + bit01 s.glb.straps.testN * 16
  | 0x0016 => s.glbLock
  | 0x0018 => s.glb.scratch
  | 0x0020 => s.chdStat
  | 0x0022 => s.ch.reasonA % 256 + s.ch.reasonB % 256 * 256
  | 0x002C => s.memStat
  | 0x002E => s.scrStat
  | 0x0030 => s.feedStat
  | 0x0034 => s.slpStat
  | 0x0036 => s.slp.wakeEn
  | 0x0040 => s.glb.prbSel + s.glb.prbPage * 16
  | _ => 0

/-- A register of the event region (Table 17.3). -/
def State.eventReg (s : State) (a : Nat) : Nat :=
  if a < 0x0118 then
    maskOf ((List.range 16).map (fun j => match Tab.get? s.ev.src (8 * (a - 0x0100) + j) with | some x => x.pend | none => false))
  else if 0x0120 ≤ a && a < 0x0138 then
    maskOf ((List.range 16).map (fun j => match Tab.get? s.ev.src (8 * (a - 0x0120) + j) with | some x => x.ien | none => false))
  else match a with
  | 0x0140 => s.ev.sel
  | 0x0142 => (match s.evSel with | some n => s.cfg.react[n] | none => 0)
  | 0x0150 => bit01 s.ev.refused * 32
  | 0x0152 => s.chipStat
  | 0x0154 => min 255 s.ev.crCount + s.ev.crSrc % 256 * 256
  | 0x0156 => s.degraded
  | _ => 0

/-- Publication is paused by a supervisor restart: results read FRESH = 0 (R205, Table 1.4). -/
def State.pausedHk (s : State) : Bool := (s.core .supervisor).state == .restarting

/-- A register of the housekeeping, thermal and sweep registers (Tables 8.11 and 9.6 to 9.9). -/
def State.hkReg (s : State) (a : Nat) : Nat :=
  let h := s.hk
  match a with
  | 0x0F00 => h.rounds % 256 + bit01 s.pausedHk * 256 + bit01 h.slow * 512
  | 0x0F04 => h.sel
  | 0x0F0A => ((Tab.get? h.snap h.sel).getD {}).val
  | 0x0F0C => bit01 ((Tab.get? h.snap h.sel).getD {}).valid + (if h.sel < 160 && s.hb.snaps.any (fun x => x.1 == 0x0F08) then hkUnit h.sel else 0) * 2
  | 0x0F0E => h.dropped + h.sensFault * 256
  | 0x0F16 => h.thStat
  | 0x0F18 => bit01 h.thRefused
  | 0x0F1A => h.k % 32 + bit01 (s.rails.toList.any (fun x => x.thermal.enf.isSome)) * 32 + h.f % 128 * 128
  | 0x0F1C => h.faultMask 0 16
  | 0x0F24 => s16 h.cfg.tWarn
  | 0x0F26 => s16 h.cfg.tDim
  | 0x0F28 => s16 h.cfg.tTrip
  | 0x0F30 => s.watch.interval + s.watch.sweepTap * 256
  | 0x0F32 => s.watch.next % 128 + s.watch.rounds % 256 * 256
  | 0x0F34 => s.watch.stFails + s.watch.skips * 256
  | _ => 0

/-- A register of hold-up, sharing and cartridges (Tables 10.8 to 10.11). -/
def State.huReg (s : State) (a : Nat) : Nat :=
  let h := s.hold
  match a with
  | 0x1000 => s.huStat
  | 0x1002 => h.cause
  | 0x1006 => h.cap % 65536
  | 0x1008 => h.capRoot % 65536
  | 0x100A => ((Q.mul h.fc ⟨100, 1⟩).floor).toNat % 128
  | 0x100C => h.own % 1024
  | 0x100E => h.tgt % 1024
  | 0x1010 => s16 h.ofs
  | 0x1020 => s.carts.index
  | 0x1022 => s.cartSel.stat
  | 0x1024 => s.cartSel.typ % 65536
  | 0x1030 => s.mbStat
  | 0x1032 => s.carts.nacks + s.carts.crc * 256
  | 0x1034 => s.carts.excl + s.carts.ctrWr * 256
  | _ => 0

/-- The 16-bit register at an even address, where no wider value or result set lies (R383, R385). -/
def State.reg (s : State) (a : Nat) : Nat :=
  if a < 0x0100 then s.globalReg a
  else if a < 0x0200 then s.eventReg a
  else if a < 0x0600 then
    (match toPhase ((a - 0x0200) / 16) with | some n => (s.phases[n]).reg ((a - 0x0200) % 16) | none => 0)
  else if a < 0x0900 then
    (match toRail ((a - 0x0600) / 32) with | some r => s.railReg r ((a - 0x0600) % 32) | none => 0)
  else if a < 0x0A00 then
    (match toPort ((a - 0x0900) / 32) with | some p => s.portReg p ((a - 0x0900) % 32) | none => 0)
  else if a < 0x0A80 then
    (match toDom ((a - 0x0A00) / 16) with | some d => s.domReg d ((a - 0x0A00) % 16) | none => 0)
  else if a < 0x0C00 then
    (if h : (a - 0x0A80) / 2 < 48 then s.slotReg ⟨(a - 0x0A80) / 2, h⟩ else 0)
  else if a < 0x0F00 then
    (match toMon ((a - 0x0C00) / 8) with | some m => (s.watch.mons[m]).reg ((a - 0x0C00) % 8) | none => 0)
  else if a < 0x0F40 then s.hkReg a
  else if a < 0x1000 then
    (match toCart ((a - 0x0F40) / 12) with
      | some t =>
        let x := s.watch.cts[t]
        (match (a - 0x0F40) % 12 with
          | 0 => x.stat
          | 2 => bit01 x.refused * 4 + x.cfg.prescale * 16
          | _ => 0)
      | none => 0)
  else if a < 0x1100 then s.huReg a
  else if a < 0x1200 then s.pairReg a
  else if a < 0x1400 then s.ovReg a
  else s.serviceReg a

/-- The wider values and result sets outside the phase, rail, capture and tally blocks: address and length in bytes (R5,
R106, R256). HK_RES stands alone: its snapshot is of all 160 channels (R214). -/
def wideValues : List (Nat × Nat) :=
  [(0x0004, 8), (0x0010, 4), (0x0024, 4), (0x0028, 4), (0x0038, 4), (0x0044, 4), (0x0144, 10), (0x0F08, 2), (0x0F10, 6),
   (0x0F20, 4), (0x1014, 8), (0x1028, 8), (0x1204, 4), (0x1210, 4), (0x1218, 8), (0x1220, 8), (0x1238, 4), (0x123C, 4),
   (0x1250, 4), (0x1408, 4), (0x1410, 4), (0x1420, 34), (0x1608, 4), (0x1610, 8)]

/-- The wider value or result set that holds an address: where it begins, and its length (R5, R106). -/
def setAt (a : Nat) : Option (Nat × Nat) :=
  if 0x0200 ≤ a && a < 0x0600 then
    (if 4 ≤ a % 16 && a % 16 < 12 then some (a - a % 16 + 4, 8) else none)
  else if 0x0600 ≤ a && a < 0x0900 then
    (if 0x10 ≤ a % 32 && a % 32 < 0x1A then some (a - a % 32 + 0x10, 10) else none)
  else if 0x0F40 ≤ a && a < 0x1000 then
    (if 4 ≤ (a - 0x0F40) % 12 then some (a - (a - 0x0F40) % 12 + 4, 8) else none)
  else if 0x1700 ≤ a && a < 0x1780 then some (a - a % 4, 4)
  else wideValues.find? (fun x => x.1 ≤ a && a < x.1 + x.2)

/-- PRB_LEN (R391). -/
def State.prbLen (s : State) : Nat :=
  if s.step < 9 then 0
  else if s.glb.prbSel = 0 then (if s.ch.blank then 0 else s.ch.image.stored.length) else s.ch.image.bytes.length

/-- The record that LG_REC_SEL names, as its state is known. -/
def LedgerS.recNow (l : LedgerS) : Option Record := (Tab.get? l.dir l.recSel).join.map l.shown

/-- LG_REC_INFO.FRESH: the state of the record has not been read before. -/
def LedgerS.recFresh (l : LedgerS) : Bool := l.recNow != (l.recSeen.find? (fun x => x.1 == l.recSel)).map (·.2)

/-- The contents of a wider value or result set now, from its lowest byte (R5, R106). -/
def State.setBytes (s : State) (base : Nat) : List Byte :=
  if 0x0200 ≤ base && base < 0x0600 then
    (match toPhase ((base - 0x0200) / 16) with
      | some n =>
        let p := s.phases[n]
        packW [p.seq % 256 + bit01 p.fresh * 256 + bit01 p.clamped * 512, p.ipk, p.ival, p.tonRes]
      | none => zeros 8)
  else if 0x0600 ≤ base && base < 0x0900 then
    (match toRail ((base - 0x0600) / 32) with
      | some r =>
        let x := s.rails[r]
        packW [x.seq % 256 + bit01 x.fresh * 256 + bit01 x.resSat * 512 + bit01 x.resLim * 1024, x.vout, x.iout, x.resDem, x.epk]
      | none => zeros 10)
  else if 0x0F40 ≤ base && base < 0x1000 then
    (match toCart ((base - 0x0F40) / 12) with
      | some t =>
        let x := s.watch.cts[t]
        packW [x.seq % 256 + bit01 x.fresh * 256 + bit01 x.resSat * 512, x.mon % 128 + x.comp % 2 * 128] ++ leBytes 4 x.count
      | none => zeros 8)
  else if 0x1700 ≤ base && base < 0x1780 then leBytes 4 ((Tab.get? s.ev.tallies ((base - 0x1700) / 4)).getD 0)
  else match base with
  | 0x0004 => leBytes 8 Config.devUid.toNat
  | 0x0010 => leBytes 4 s.rtc
  | 0x0024 => leBytes 4 s.ch.ofs
  | 0x0028 => leBytes 4 s.ch.seq
  | 0x0038 => leBytes 4 s.slp.alarm
  | 0x0044 => leBytes 4 s.prbLen
  | 0x0144 => leBytes 8 (match s.evSel with | some n => (s.ev.src[n]).time | none => 0) ++ leBytes 2 s.evInfo
  | 0x0F08 => leBytes 2 (s.hk.seq % 256 + bit01 (s.hk.fresh && !s.pausedHk) * 256)
  | 0x0F10 => packW [s.hk.thSeq % 256 + bit01 (s.hk.thFresh && !s.pausedHk) * 256, s16 s.hk.pubTmax, s.hk.pubTsrc % 64 + bit01 s.hk.pubTwin * 128]
  | 0x0F20 => leBytes 4 (s.hk.faultMask 16 32)
  | 0x1014 => packW [s.hold.seq % 256 + bit01 s.hold.fresh * 256 + bit01 s.hold.resSpent * 512, s.hold.ah] ++ leBytes 4 s.hold.dur
  | 0x1028 => leBytes 8 s.cartSel.serial
  | 0x1204 => leBytes 4 (s.ov.addr.getD 0)
  | 0x1210 => leBytes 4 s.ov.opDur
  | 0x1218 => leBytes 8 s.ov.gtime
  | 0x1220 => leBytes 8 s.ov.timeSet
  | 0x1238 => leBytes 4 s.ovSel.base
  | 0x123C => leBytes 4 s.ovSel.len
  | 0x1250 => leBytes 4 (s.ov.txnDest + bit01 s.ov.txnRoot * 0x80000000)
  | 0x1408 => leBytes 4 s.lg.winOfs
  | 0x1410 => leBytes 4 s.lg.archPtr
  | 0x1420 => s.lg.recSet ((if s.lg.recFresh then s.lg.recSeqNo + 1 else s.lg.recSeqNo) % 256) s.lg.recFresh s.free
  | 0x1608 => leBytes 4 s.upd.imgId
  | 0x1610 => leBytes 8 s.upd.at_
  | _ => []

/-- The source's cause register at a firing (Table 11.2, R360, Table 15.3); 0 for a source without one. -/
def State.causeOf (s : State) (src sub : Nat) : Nat :=
  let r := s.reg
  if src < 64 then r (0x0200 + 16 * src)
  else if src < 88 then r (0x0602 + 32 * (src - 64))
  else if src < 96 then r (0x0902 + 32 * (src - 88))
  else if src < 112 then r (0x0C00 + 8 * (6 * (src - 96) + sub / 2))
  else if src < 120 then r (0x0A02 + 16 * (src - 112))
  else if src < 128 then r 0x0F16
  else if src < 144 then (match toCart (src - 128) with | some c => (s.carts.carts[c]).stat | none => 0)
  else if src = 144 then r 0x0030
  else if src < 149 then r 0x1002
  else if src = 149 then r 0x1030
  else if src < 156 then r 0x1100
  else if src < 168 then (match toOvPort ((src - 156) / 2) with | some k => (s.ov.ports[k]).stat | none => 0)
  else if src < 172 then r 0x1400
  else if src = 173 then s.hb.abSource
  else if src < 176 then r 0x1500
  else if src < 180 then r 0x1600
  else if src = 180 then r 0x0020
  else if src = 181 then r 0x002E
  else if src = 182 then r 0x002C
  else if src = 183 then r 0x1600
  else if src = 185 then (s.ev.tallies[(7 : Fin 24)]) % 65536
  else if src < 188 then r 0x0152
  else if src = 188 then r (0x0C00 + 8 * sub)
  else if src = 189 then r (0x0F40 + 12 * sub)
  else if src = 190 then r 0x0034
  else if src = 191 then r 0x0F34
  else 0

end Sys2Proof.Machine
end

