-- ==== Sys2Proof/Machine/Events.lean ====
section
/-! DEFINITION. Firings and reactions (spec/11_faults.md R243 to R251, R269 to R271): what a firing records, the reactions in
their order, the block resets and holds of R247, the chip reset of R248, and what every command ends with. -/
namespace Sys2Proof.Machine

/-- Earlier in the order of R243: a lower source, and within a source a lower sub-index. -/
def Firing.lt (a b : Firing) : Bool := a.source < b.source || (a.source == b.source && a.sub < b.sub)

/-- The next firing to be carried out (R243); of equal ones the first raised. -/
def firstFiring : List Firing → Option Firing
  | [] => none
  | a :: l => match firstFiring l with
    | none => some a
    | some b => if b.lt a then some b else some a

/-- A firing taken from the list. -/
def dropFiring (f : Firing) : List Firing → List Firing
  | [] => []
  | a :: l => if a == f then l else a :: dropFiring f l

/-- A reaction entry includes TRAP (Table 2.13). -/
def hasTrap (e : Nat) : Bool := e % 16 == 2 || natBit e 5
/-- A reaction entry includes ERRPIN (Table 2.13). -/
def hasErr (e : Nat) : Bool := e % 16 == 7 || natBit e 6
/-- A reaction entry asks for more than NONE (Table 11.3). -/
def hasReaction (e : Nat) : Bool := e % 16 != 0 || natBit e 4 || natBit e 5 || natBit e 6

/-- The block that a BRESET of a source resets (Table 11.4). -/
def blockOf (src sub : Nat) : Option Block :=
  if 88 ≤ src && src ≤ 95 then (toPort (src - 88)).map Block.port
  else if 120 ≤ src && src ≤ 127 then some .housekeeping
  else if 128 ≤ src && src ≤ 143 then (toCart (src - 128)).map Block.cartridge
  else if src = 149 then some .moduleBus
  else if 150 ≤ src && src ≤ 155 then some .pairLink
  else if 156 ≤ src && src ≤ 167 then (toOvPort ((src - 156) / 2)).map Block.ovPort
  else if 168 ≤ src && src ≤ 171 then some .ledgerCore
  else if 172 ≤ src && src ≤ 175 then some .hostBus
  else if 176 ≤ src && src ≤ 179 then some .servicePort
  else if src = 180 || src = 181 then some .chandler
  else if src = 182 || src = 183 then some .memory
  else if 184 ≤ src && src ≤ 186 then some .supervisorCore
  else if src = 187 then (if sub = 1 then some .ledgerCore else if sub = 2 then some .linkCore else some .supervisorCore)
  else if 188 ≤ src && src ≤ 191 then some .capture
  else none

/-- Fence an Ovrath port (R309): it sends idles only and holds its range. -/
def fenceOvPort (k : Fin 6) (s : State) : State :=
  if (s.ov.ports[k]).state == .fenced || (s.ov.ports[k]).state == .disabled then s
  else fire (evOf k) 4 (egDiscard k ((ovClock k .stopped s).updOvPort k (fun p =>
    { p with state := .fenced, downAt := some (p.downAt.getD s.now) })))

/-- Fence a cartridge: EXCLUDED with WHY 6 (Table 11.4). -/
def fenceCart (c : Fin 16) (s : State) : State :=
  let x := s.carts.carts[c]
  let t := s.updCart c (fun y => { y with fenced := true })
  if x.fenced || x.state == .disabled then s
  else if x.state == .excluded then t.updCart c (fun y => { y with why := 6 })
  else holdJudge (excludeNow c 6 t)

/-- A FENCE reaction (Table 11.4). The fence of a phase is R97's own. -/
def fenceUnit (src sub : Nat) (s : State) : State :=
  if 88 ≤ src && src ≤ 95 then (match toPort (src - 88) with
    | some p => s.updPort p (fun x => { x with fenced := true, frame := none, resp := none }) | none => s)
  else if 96 ≤ src && src ≤ 111 then (match toMon (6 * (src - 96) + sub / 2) with
    | some m => s.updMon m (fun x => { x with fenced := true }) | none => s)
  else if src = 123 then s.updHk (fun h => { h with sensors :=
    (if hs : sub < 48 then Tab.upd h.sensors ⟨sub, hs⟩ (fun (x : Sensor) => { x with fenced := true }) else h.sensors) })
  else if 128 ≤ src && src ≤ 143 then (match toCart (src - 128) with | some c => fenceCart c s | none => s)
  else if 156 ≤ src && src ≤ 167 then (match toOvPort ((src - 156) / 2) with | some k => fenceOvPort k s | none => s)
  else if 172 ≤ src && src ≤ 175 then (if s.hb.fenced then s else attnDiscard (s.updHb (fun h => { h with fenced := true })))
  else if 176 ≤ src && src ≤ 179 then (if s.sp.fenced then s else closeSession (s.updSp (fun p => { p with fenced := true })))
  else s

/-- A load-link port's logic is reset (Table 11.4): notices cleared, TN and DIM_ID from 1 again, LINK_UP cleared. -/
def portReset (p : Fin 8) (s : State) : State :=
  s.updPort p (fun x =>
    { cfg := x.cfg, cause := x.cause, fenced := x.fenced, good := x.good, crcErr := x.crcErr, framing := x.framing,
      refused := x.refused, retries := x.retries })

/-- Examine every enabled cartridge afresh (R235). -/
def examineAll (s : State) : State := s.each (List.finRange 16) (fun c u => examine c u)

/-- The pair-link island is reset or held: the link is lost (R260, Table 11.4). -/
def pairLinkCut (s : State) : State := linkLost s

/-- What a block reset does at its start (Table 11.4). -/
def blockStart (b : Block) (s : State) : State :=
  match b with
  | .port p => portReset p s
  | .housekeeping => s.updHk (fun h => { h with next := none, hsRound := [] })
  | .cartridge c => holdJudge ((s.updCart c (fun x => { state := .checking, fenced := x.fenced })).updCarts (fun x =>
      { x with ops := x.ops.filter (fun o => o.cart != c) }))
  | .moduleBus => s.updCarts (fun x => { x with ops := [] })
  | .pairLink => pairLinkCut s
  | .ovPort k => portRetrain k s
  | .ledgerCore => coreRestart .ledger s
  | .linkCore => coreRestart .link s
  | .supervisorCore => coreRestart .supervisor s
  | .hostBus => s.updHb (fun h => { h with lone := [], sdaStuck := false, backoff := none, sending := none })
  | .servicePort => closeSession s
  | .chandler => s
  | .memory => memAbandon s
  | .capture => ledgerGap (s.each (List.finRange 16) (fun t u => ctArm t u))

/-- Hold a block stopped (R247): in the state of its fence where Table 11.4 allows one, in reset otherwise. -/
def blockHold (b : Block) (s : State) : State :=
  let t := s.updEv (fun e => { e with heldBlks := e.heldBlks ++ [b] })
  match b with
  | .port p => t.updPort p (fun x => { x with frame := none, resp := none })
  | .cartridge c => fenceCart c t
  | .ovPort k => fenceOvPort k t
  | .hostBus => attnDiscard t
  | .servicePort => closeSession t
  | .ledgerCore => flushPause (t.updCore .ledger (fun x => { x with state := .held }))
  | .linkCore => t.updCore .link (fun x => { x with state := .held })
  | .supervisorCore => t.updCore .supervisor (fun x => { x with state := .held })
  | .housekeeping | .moduleBus | .pairLink | .chandler | .memory | .capture => blockStart b t

/-- A BRESET reaction on a block (R245, R247): nothing more while it is in reset or held; the fourth within 10 min holds it. -/
def blockReset (b : Block) (s : State) : State :=
  if s.blockDown b then s
  else
    let old := (match s.ev.resets.find? (fun (r : BlockRec) => r.block == b) with | some r => r.times | none => []).filter
      (fun t => s.now < t + sec 600)
    if old.length ≥ 3 then blockHold b s
    else
      let rs : List BlockRec := ⟨b, old ++ [s.now]⟩ :: s.ev.resets.filter (fun (r : BlockRec) => r.block != b)
      blockStart b (addTally 3 1 (s.updEv (fun e => { e with inReset := e.inReset ++ [b], resets := rs })))

/-- The row BLOCK_RESET_COMPLETE (Table 11.4). -/
def blockDone (b : Block) (s : State) : State :=
  if s.ev.inReset.contains b then
    let t := s.updEv (fun e => { e with inReset := e.inReset.filter (· != b) })
    match b with
    | .cartridge c => examine c t
    | .moduleBus => examineAll t
    | .chandler => chandlerReread t
    | .memory => setAgain (memNext t)
    | .port _ | .housekeeping | .pairLink | .ovPort _ | .ledgerCore | .linkCore | .supervisorCore | .hostBus | .servicePort
    | .capture => t
  else s

/-- The outputs of R56: every PWM in tri-state, every SEQ_ENn low, every PG_OUTn deasserted, OWN_N and the drivers released. -/
def resetOutputs (s : State) : State :=
  { s with
    phases := s.phases.map (fun p => { p.endOn with pwm := .z, opened := false })
    rails := s.rails.map (fun x => { x with pg := false })
    seq := { s.seq with slots := s.seq.slots.map (fun x => { x with en := false }) }
    pair := { s.pair with own := false, drivers := false } }

/-- A CRESET reaction (R248): the states of R56, the count, the write of the last-gasp store; the restart is a command of its
own. The fourth within 60 min by the real-time clock holds the start. -/
def cresetFire (src : Nat) (s : State) : State :=
  let old := s.ev.crTimes.filter (fun t => s.rtc < t + 3600)
  let t := addTally 4 1 (s.updEv (fun e => { e with crTimes := old ++ [s.rtc], crHold := e.crHold || 3 ≤ old.length }))
  lgsStart (some src) t.lg.openRec { resetOutputs (closeOpen true t) with mode := .creset }

/-- A standby that follows reports a DOMAIN reaction as verdicts (R265, Table 12.4). -/
def domainVerdicts (src sub : Nat) (s : State) : State :=
  let m := s.mapDoms src sub
  s.each ((List.finRange 8).filter (fun d => natBit m d.val)) (fun d u => sendCtrl (.verdict (.domain d)) u)

/-- Carry out FENCE, BRESET, DOMAIN or CRESET, and F_RETRY (Table 11.3, R181). -/
def carryOut (src sub : Nat) (e : Nat) (s : State) : State :=
  let t := match e % 16 with
    | 3 => fenceUnit src sub s
    | 4 => (match blockOf src sub with | some b => blockReset b s | none => s)
    | 5 => domainReact src sub s
    | 6 => cresetFire src s
    | _ => s
  if natBit e 8 then retryReact src sub t else t

/-- The same on a unit of a pair: a standby that follows its active only reports DOMAIN, and leaves the retries to it. -/
def carryOutHere (src sub : Nat) (e : Nat) (s : State) : State :=
  if s.follows then (if e % 16 = 5 then domainVerdicts src sub s else carryOut src sub (e % 16) s) else carryOut src sub e s

/-- A firing that is a ground (Table 12.3): F_YIELD is set, or it is the firing of a ground's own condition: a segment left
unrepaired, a scrub mismatch, the supply range, a handshake stall, the core health or the CDC rate. -/
def groundFiring (n sub e : Nat) : Bool :=
  natBit e 7 || (n == 180 && sub == 3) || n == 181 || n == 184 || n == 185 || n == 187

/-- Whether a firing's FENCE, BRESET, DOMAIN or CRESET is held back (R270, Table 12.6): during a yield, every one of a
firing that is a ground, and every one but DOMAIN of the others. -/
def State.holdsBack (s : State) (n sub e : Nat) : Bool :=
  s.pair.yielding && (e % 16 == 3 || e % 16 == 4 || e % 16 == 6 || (e % 16 == 5 && groundFiring n sub e))

/-- What a firing records (R243): the pending bit, the count, the time stamp and sub-index, the tally, the log entry. -/
def recordFiring (n : Fin 192) (sub e cause : Nat) (s : State) : State :=
  let t := addTally 0 1 ((s.updSrc n (fun x =>
    { x with pend := true, fired := true, fence := e % 16 == 3, count := sat255 x.count, sub := sub, time := s.ov.gtime })).updEv (fun v => { v with last := n.val }))
  if n.val = 168 then logRaw ⟨t.ov.gtime, 0, 168, sub, e + cause * 65536⟩ t
  else logEvent 0 n.val sub (e + cause * 65536) t

/-- The trigger freeze and the Ovrath frames of a firing, unless F_QUIET is set (R243, R297, R325); a standby reports it to its
active (R266). -/
def announceFiring (n : Fin 192) (sub e cause : Nat) (s : State) : State :=
  let t := ledgerFiring n.val sub (natBit e 9) s
  if s.follows then
    sendCtrl (.verdict (.firing ⟨byteOf n.val, byteOf sub, BitVec.ofNat 16 e, BitVec.ofNat 64 s.ov.gtime, BitVec.ofNat 16 cause⟩
      (hasInt e && (s.ev.src[n]).ien))) t
  else if natBit e 9 then t else ovEvrec n.val sub e cause s.ov.gtime (ovUp 1 n.val sub t)

/-- FAULT_N at an ERRPIN firing (R251). -/
def errFiring (s : State) : State :=
  addTally 1 1 (s.updEv (fun v => { v with
    lastErr := some s.now
    faultOn := true
    latched := v.latched || s.cfg.device.faultnMode == 1 }))

/-- A firing resets the supervisor core: its own trap is held until the restart is over (Table 11.5). -/
def trapsAfter (n : Fin 192) (sub e : Nat) : Bool := e % 16 == 4 && blockOf n.val sub == some .supervisorCore

/-- INT, TRAP and ERRPIN of a firing, which act at once (R244, R246). -/
def softReactions (n : Fin 192) (sub e cause : Nat) (s : State) : State :=
  let a := if hasInt e && (s.ev.src[n]).ien then attnFiring n.val sub cause s.ov.gtime s else s
  let b := if hasTrap e && !trapsAfter n sub e then trap n.val sub e cause s.ov.gtime a else a
  if hasErr e then errFiring b else b

/-- The self-diagnosis ground F_YIELD (Table 12.3). -/
def yieldGround (n : Nat) (e : Nat) (s : State) : State :=
  if natBit e 7 && s.paired then pulseGround 6 (s.updPair (fun p => { p with ySrc := n })) else s

/-- One firing (R243 to R248). While a CRESET waits for its restart, a firing is only recorded. -/
def fireOne (n : Fin 192) (sub : Nat) (s : State) : State :=
  let e := s.cfg.react[n]
  let cause := s.causeOf n.val sub
  let a := announceFiring n sub e cause (recordFiring n sub e cause s)
  if s.mode == .creset then a
  else
    let b := yieldGround n.val e (softReactions n sub e cause a)
    let c := if b.holdsBack n.val sub e then b.updPair (fun p => { p with held := p.held ++ [(n.val, sub, e)] })
      else carryOutHere n.val sub e b
    let d := if hasTrap e && trapsAfter n sub e then trap n.val sub e cause s.ov.gtime c else c
    let w := if s.mode == .sleep && hasReaction e then wakeBegin 0 d else d
    proofFired n.val w

/-- Carry out every waiting firing, and those that they raise, in order (R243). The bound is above every chain the sources
can form: each condition fires once at its occurrence. -/
def drain : Nat → State → State
  | 0, s => s
  | k + 1, s =>
    match firstFiring s.ev.fireQ with
    | none => s
    | some f =>
      let t := s.updEv (fun e => { e with fireQ := dropFiring f e.fireQ })
      drain k (if h : f.source < 192 then fireOne ⟨f.source, h⟩ f.sub t else t)

/-- The firings carried out in one command at most. -/
def drainLimit : Nat := 4096

/-- Carry out the reactions that a yield has held back, by the entries at their firings (R244, R270). -/
def carryHeld (s : State) : State :=
  let l := s.pair.held
  (s.updPair (fun p => { p with held := [] })).each l (fun x u => carryOut x.1 x.2.1 x.2.2 u)

/-- A yield has ended without a hand-over: YIELD_BLOCKED, and the held reactions are carried out (R270). -/
def yieldBlock (s : State) : State :=
  carryHeld (s.updPair (fun p => { p with yielding := false, yieldGround := false, yieldBlocked := true }))

/-- A yield whose link is lost before the twin has taken over ends so (R270). -/
def watchYield (s : State) : State := if s.pair.yielding && s.pair.release.isNone && !s.pair.linkUp then yieldBlock s else s

/-- A standby that follows keeps PG_OUT asserted while its active asserts it (R257). -/
def watchPg (s : State) : State :=
  if s.follows then { s with rails := s.rails.map (fun x => { x with pg := x.pg || (x.cfg.isSome && natBit x.peer 3) }) } else s

/-- A bank as a STATE frame shows it. -/
def Bank.tuple (b : Bank) : Nat × Nat × Nat × Nat := (b.thru, b.dis, b.seq, b.flags)

/-- A cartridge as a STATE frame shows it (R240). -/
def CartS.twin (c : CartS) : TwinCart :=
  { state := c.state.code, why := c.why, warned := c.warned, retired := c.retired, authOk := c.authOk, serial := c.serial
    typ := c.typ, capAh := c.capAh, ratedEfc := c.ratedEfc, ratedAh := c.ratedAh, bankA := c.bankA.map Bank.tuple
    bankB := c.bankB.map Bank.tuple, authDone := c.authDone, dueWhy := c.dueWhy, fenced := c.fenced, examDue := c.examDue }

/-- A port as a STATE frame shows it (R155). -/
def PortS.twin (p : PortS) : TwinPort :=
  { settled := BitVec.ofNat 4 (subMask p (·.settled)), sfail := BitVec.ofNat 4 (subMask p (·.sfail))
    dim := BitVec.ofNat 4 (subMask p (·.dim)), fault := BitVec.ofNat 4 (subMask p (·.fault)), tn := byteOf p.tn
    dimId := byteOf p.dimId, tns := p.subs.toList.map (fun n => (n.tn, n.tnDone))
    dims := p.subs.toList.map (fun n => (n.dimId, n.dimLimit))
    stored := p.prev.map (fun x => ⟨x.1.cmd, x.1.sub, x.1.tog, x.1.payload, x.2.1, x.2.2⟩) }

/-- What a stop ends in, by number. -/
def AfterStop.code : AfterStop → Nat
  | .off => 0 | .wait => 1 | .latched => 2

/-- What a STATE frame holds (Table 12.2). -/
def State.shared (s : State) : TwinShared :=
  { clock := s.now
    tick := s.seq.tick
    ports := s.ports.toList.map PortS.twin
    huState := s.hold.state.code
    rideAt := s.hold.rideAt
    rideAh := (s.hold.rideAh.n, s.hold.rideAh.d)
    carts := s.carts.carts.toList.map CartS.twin
    counters := s.carts.carts.toList.map (fun c => (c.thru, c.dis))
    cap := BitVec.ofNat 16 s.hold.cap
    capRoot := BitVec.ofNat 16 s.hold.capRoot
    dimK := s.hk.k
    domains := s.seq.doms.toList.map (fun d => d.state.code)
    plans := s.seq.doms.toList.map (fun d => 
      ⟨d.after.code, d.req, d.auto, d.minOffAt, d.restartAt, d.faults, d.inQ, d.afresh, d.qualAt⟩)
    slots := s.seq.slots.toList.map (fun x =>
      ⟨x.state.code, x.onAt, x.upBy, x.offAt, x.downBy, x.pastOff, x.falling, x.planned⟩)
    active := (List.range 24).map s.activeUnits
    degr := BitVec.ofNat 16 s.degraded
    twinAddr := BitVec.ofNat 18 (s.ov.addr.getD 0) }

/-- A STATE frame but for the clock and the tick that its times refer to, and the charge of a ride in progress. -/
def steady (t : TwinShared) : TwinShared := { t with clock := 0, tick := 0, rideAh := (0, 1) }

/-- Send a STATE frame in full (R259). -/
def sendState (s : State) : State :=
  let x := s.shared
  pairOut (.state x) (s.updPair (fun p => { p with stateSent := some x }))

/-- A change of the shared state is sent to the twin (Table 12.2, R249). -/
def watchShared (s : State) : State :=
  if s.paired && s.pair.linkUp && s.running && s.pair.stateSent.map steady != some (steady s.shared) then sendState s else s

/-- A change of EV_DEGR is written to the ledger (R249). -/
def watchDegr (s : State) : State :=
  let d := s.degraded
  if d = s.ev.degr then s
  else logEvent 7 (Config.logField 7 2 0) (Config.logField 7 2 1) d (s.updEv (fun e => { e with degr := d }))

/-- What every command ends with: the feeds under a changed threshold, the firings and their reactions, the grounds, the proof,
the rollback and the standby-first sequence, EV_DEGR, the share offset within its limits, the shared state, the idle time,
SHARE, the module bus, and a barrier or snapshot that may be acknowledged now. -/
def settle (s : State) : State :=
  if s.resetHeld then s else
  let a := drain drainLimit (judgeGrounds (watchFeeds s))
  let b := drain drainLimit (seqGround (rollbackStep (judgeProof (watchYield a))))
  let c := drain drainLimit (watchDegr b)
  opTry (watchMb (watchShare (watchIdle (watchShared (watchStep (watchPg (reLimit c)))))))

/-- The queue and the clock stay the command's own, and no firing is left waiting. -/
def finish (s t : State) : State :=
  { t with
    pending := s.pending
    now := s.now
    ev := { t.ev with fireQ := [] } }

/-- A command carried out: the lines start empty, its body acts without sight of the commands that wait, and everything
that follows from it settles. -/
def run (f : State → State) (s : State) : Host.Outcome State Fault Refusal :=
  .next (finish s (settle (f { s with outbox := [], pending := [] })))

/-- Whether the island clocks run (R56, R77, R248): not in reset, and not in sleep until step 2 of Table 3.6. -/
def State.clocked (s : State) : Bool :=
  match s.mode with
  | .por | .held | .creset | .sleep => false
  | .wake => 2 ≤ s.wakeStep
  | .start | .testWait | .test | .ready | .toSleep => true

/-- Every class-0 frame whose turn has come leaves its egress (R288), and a barrier or snapshot that waited for it is
acknowledged (R303, R304). -/
def egressAll (s : State) : State := if s.clocked then opTry (s.each (List.finRange 6) egAdvance) else s

/-- `n` nanoseconds pass (log entry 11): the model's clock counts and, while the island clocks run, global time advances at its
corrected rate (R300). -/
def State.elapse (s : State) (n : Nat) : State :=
  { s with now := s.now + n, ov := if s.clocked then passTime n s.ov else s.ov }

/-- One nanosecond with no command waiting (log entry 11). -/
def idleTick (s : State) : State := egressAll (State.elapse { s with outbox := [] } 1)

/-- A wait until a moment of the model's clock, if there is one to wait for. -/
def State.waitTill (s : State) (d : Option Nat) : State :=
  match d with
  | some t => s.elapse (t - s.now)
  | none => s

/-- A wait, in `n` parts at most, until global time reaches `t`; it does not pass a moment that its slew or its rate brings on
early by more than 1/500 of a part. -/
def State.waitG (t : Nat) : Nat → State → State
  | 0, s => s
  | n + 1, s =>
    if t ≤ s.ov.gtime || !s.clocked then s
    else let d := t - s.ov.gtime; State.waitG t n (s.elapse (d - d / 500))

/-- A wait until a moment of global time, if there is one to wait for. -/
def State.waitGlobal (s : State) (d : Option Nat) : State :=
  match d with
  | some t => State.waitG t 512 s
  | none => s

/-- Ticks pass up to tick `u`, 10 us apart (R159); a tick that is overdue comes at once. -/
def State.tickJump (s : State) (u : Nat) : State :=
  let k := u - s.seq.tick
  let t := s.elapse (if s.now < s.seq.tickAt + us 10 then s.seq.tickAt + us (10 * k) - s.now else us (10 * (k - 1)))
  { t with seq := { t.seq with tick := u, tickAt := t.now } }

/-- Ticks pass up to tick `t`, each with its verdicts (R163). The bound is above the verdicts that one wait can hold. -/
def tickTo (t : Nat) : Nat → State → State
  | 0, s => s
  | n + 1, s =>
    if t ≤ s.seq.tick || !s.running then s
    else
      let v := s.tickJump (s.verdictTick t)
      let w := settle (holdFollow (judgeTick (fwdTick v)))
      tickTo t n { w with ev := { w.ev with fireQ := [] } }

/-- A command of a slot at a tick of the lamplighter (R159): the ticks up to it pass first, with their verdicts. -/
def runTick (d : State → Option Nat) (f : State → State) (s : State) : Host.Outcome State Fault Refusal :=
  let s0 := { s with outbox := [], pending := [] }
  let w := match d s with | some t => tickTo t 128 s0 | none => s0
  .next (finish { w with pending := s.pending } (settle (f (egressAll w))))

/-- A command that is the end of a wait, such as a timer's expiry: its coming says that the time has passed, so the wait `w`
passes first, and then the command is carried out (log entry 11). -/
def runAfter (w : State → State) (f : State → State) (s : State) : Host.Outcome State Fault Refusal :=
  run (fun u => f (egressAll u)) (w s)

end Sys2Proof.Machine
end

