-- ==== Sys2Proof/Machine/OvHost.lean ====
section
/-! DEFINITION. The cascade's own actions (spec/13_ovrath.md): the strobes of OV_CTRL, the mailbox, the marks, the global
operations that the acting root starts, and the timers of a device. -/
namespace Sys2Proof.Machine

/-- A snapshot's lead at the acting root (R304, Table 13.15): LEAD raised to depth x tHOP0 + tACT. The greatest depth of the
tree is not held by the root; it is 0 with no down port UP, else a free value from 1 to 9 (log entry 3). -/
def snapLead (s : State) : Nat × State :=
  if s.rootPorts.isEmpty then (max 1 s.ov.opLead, s)
  else
    let d := draw s
    (min 255 (max s.ov.opLead ((((1 + d.1 % 9) * 620 + 250) + 999) / 1000)), d.2)

/-- OV_CTRL.ENUM (R285). -/
def ovHostEnum (s : State) : State := if s.ov.acting then enumAtRoot s else ovRefuse s

/-- OV_CTRL.BARRIER (R303); refused while a barrier or snapshot is in progress (Table 13.12). -/
def ovHostBarrier (s : State) : State :=
  if s.ov.acting && !s.ov.opOpen then
    let id := (s.ov.opId + 1) % 256
    opTry (opBegin 1 id none (c0Root 0x11 id 0 0 s))
  else ovRefuse s

/-- OV_CTRL.SNAP (R304). -/
def ovHostSnap (s : State) : State :=
  if s.ov.acting && !s.ov.opOpen then
    let id := (s.ov.opId + 1) % 256
    let d := snapLead s
    opTry (opBegin 2 id (some { capAt := s.ov.gtime + us d.1, late := false }) (c0Root 0x12 id d.1 0 d.2))
  else ovRefuse s

/-- OV_CTRL.RESET (R306). -/
def ovHostReset (s : State) : State := if s.ov.acting then cascadeReset (c0Root 0x13 0 0 0 s) else ovRefuse s

/-- OV_CTRL.REROUTE (R310). -/
def ovHostReroute (s : State) : State :=
  if s.ovOn && !s.ov.upSpare && (s.ov.ports[(1 : Fin 6)]).state == .spareIdle then reroute s else ovRefuse s

/-- OV_CTRL.RETURN (R311), once OP0 is UP. -/
def ovHostReturn (s : State) : State := if s.ov.upSpare && s.portUp 0 then unreroute s else ovRefuse s

/-- OV_CTRL.RECLAIM (R312): the root tells the deputy with ROLE, and broadcasts ROOTCHG. -/
def ovHostReclaim (s : State) : State :=
  if s.cfg.ov.role = 1 then
    let t := s.updOv (fun o => { o with acting := true, lostPorts := [], split := false, depth := 0, rootAddr := o.addr })
    let u := t.each (t.upDowns.filter (fun k => (t.ov.ports[k]).peer.any (fun l => l.role == 2))) (fun k v =>
      cNSend k (.cN 1 0x21 (v.ownHdr 0 false false 0) [1]) v)
    c0Root 0x16 0 0 0 u
  else ovRefuse s

/-- A frame's request: RD_REQ or WR_REQ (Table 13.5). -/
def txnFrame (s : State) (tag : Nat) : OvFrame :=
  let o := s.ov
  let n := 2 * (o.txnCount + 1)
  let h := s.ownHdr o.txnDest o.txnRoot false tag
  if o.txnWrite then .cN 1 9 h (leBytes 2 o.txnAddr ++ (o.txnData.toList.flatMap (leBytes 2)).take n)
  else .cN 1 8 h (leBytes 2 o.txnAddr ++ leBytes 2 n)

/-- The message of a request to this device itself, which its own queue takes. -/
def txnMsg (s : State) (tag : Nat) : OvMsg :=
  let o := s.ov
  let n := 2 * (o.txnCount + 1)
  let h := s.ownHdr o.txnDest o.txnRoot false tag
  if o.txnWrite then .wrReq 0 h o.txnAddr ((o.txnData.toList.flatMap (leBytes 2)).take n) else .rdReq 0 h o.txnAddr n

/-- OV_TXN_CTRL.GO (R307): refused while BUSY; NOT_SENT without a tag or with the link core restarting; NO_DEV without a
route; ASLEEP towards a parked neighbour (R314). -/
def ovGo (s : State) : State :=
  if s.ov.txnBusy then s.updOv (fun o => { o with txnRefused := true })
  else
    match s.ov.freeTag with
    | none => mailboxEnd 7 [] s
    | some g =>
      if !s.coreUp .link then mailboxEnd 7 [] s
      else if !s.ovOn then mailboxEnd 3 [] s
      else
        let t := s.updOv (fun o => { o with
          txnBusy := true, txnTag := g, nextTag := (g + 1) % 128
          txns := o.txns ++ [⟨g, o.txnWrite, true, s.now⟩] })
        match t.route t.ov.txnDest t.ov.txnRoot with
        | .noWhere => txnEnd g 3 [] t
        | .self => (enqueue (txnMsg t g) t).2
        | .port k =>
          if (t.ov.ports[k]).state == .parked then txnEnd g 5 [] (ownOut k (txnFrame t g) t)
          else ovOut (txnFrame t g) t

/-- The row OV_TXN_TIMEOUT (R307). -/
def txnTimeout (tag : Nat) (s : State) : State :=
  if s.ov.txns.any (fun x => x.tag == tag && decide (x.at_ + ms 50 ≤ s.now)) then txnEnd tag 6 [] s else s

/-- A root's next mark is due: MARK after its latest, the first at once (R300). -/
def State.markDue (s : State) : Option Nat :=
  if s.ov.acting && s.running then some (match s.ov.markLast with | some t => t + ms s.cfg.ov.mark | none => s.now) else none

/-- The row OV_MARK_TIMER (R300): TMARK, then the TIME frame that names it. -/
def markTimer (s : State) : State :=
  if due s.now s.markDue then
    let n := s.ov.markNext % 65536
    let t := c0Root 0x10 (n % 256) (n / 256) 0
      (s.updOv (fun o => { o with mark := n, markNext := (n + 1) % 65536, markLast := some s.now }))
    t.each t.rootPorts (fun k u => cNSend k (.cN 1 0x20 (u.ownHdr 0 false true 0)
      (leBytes 2 n ++ leBytes 2 u.cfg.ov.mark ++ leBytes 8 (u.ov.gtime + (egAdvance k s).egWait k))) u)
  else s

/-- The row OV_TIME_HOLD (R301). -/
def timeHold (s : State) : State :=
  if s.ovOn && !s.ov.acting && s.running && s.ov.goodAt + ms (3 * s.markMs) ≤ s.now then s.updOv (fun o => { o with timeHold := true })
  else s

/-- The row OV_BARRIER_TIMEOUT (R303). -/
def barrierTimeout (s : State) : State := if due s.now s.ov.opEnds then opTry s else s

/-- The row OV_SNAP_CAPTURE (R304, Table 13.8): every field but those of the rails. -/
def snapCapture (s : State) : State :=
  match s.ov.snap with
  | some p =>
    if !p.taken && p.capAt ≤ s.ov.gtime then
      let head := leBytes 4 (s.ov.addr.getD 0) ++
        [byteOf s.ov.opId, byteOf (bit01 (s.paired && s.pair.role == .active) + bit01 p.late * 2)] ++ leBytes 2 s.degraded ++
        leBytes 8 p.capAt ++ s.seq.doms.toList.map (fun d => byteOf d.state.code) ++ leBytes 2 (s16 s.hk.pubTmax) ++
        [byteOf s.hk.pubTsrc, byteOf s.hk.k, byteOf s.hold.state.code, 0, 0, 0]
      let present := (List.finRange 24).filter (fun r => (s.rails[r]).cfg.isSome)
      opTry (s.updOv (fun o => { o with snap := some { p with taken := true, rails := present, data := head ++ zeros 96 } }))
    else s
  | none => s

/-- The row OV_AUTO_REROUTE (R310). -/
def autoReroute (s : State) : State :=
  if s.ovOn && s.cfg.ov.spare = 1 && !s.ov.upSpare && !s.portUp 0 &&
      due s.now (((s.ov.ports[(0 : Fin 6)]).downAt).map (· + ms 1)) && (s.ov.ports[(1 : Fin 6)]).state == .spareIdle then reroute s
  else s

/-- The row OV_DEPUTY_TAKEOVER (R312). -/
def deputyTakeover (s : State) : State :=
  if s.cfg.ov.role = 2 && !s.ov.acting && !s.portUp 0 && due s.now (((s.ov.ports[(0 : Fin 6)]).downAt).map (· + ms 10)) &&
      s.ov.tmarkAt + ms (3 * s.markMs) ≤ s.now then
    c0Root 0x16 0 0 0 (s.updOv (fun o => { o with acting := true, depth := 0, rootAddr := o.addr, timeHold := false, markLast := none }))
  else s

/-- The row OV_PARK (R314): a neighbour sleeps; its port is PARKED. -/
def parkPort (k : Fin 6) (s : State) : State :=
  let p := s.ov.ports[k]
  if p.state == .up || p.state == .spareIdle then
    fire (evOf k) 5 (s.updOvPort k (fun q => { q with state := .parked, downAt := some (q.downAt.getD s.now) }))
  else s

/-- The row OV_COUNT_TIMEOUT (R285). -/
def countTimeout (s : State) : State := if due s.now s.ov.enumAt then enumFinish s else s

/-- Global time is set by the host, in the acting root or with ROLE = NONE (R299). -/
def timeSet (v : Nat) (s : State) : State :=
  if s.ov.acting || !s.ovOn then s.updOv (fun o => { o with gtime := v % 2 ^ 64, timeSet := v % 2 ^ 64, slew := 0 }) else s

end Sys2Proof.Machine
end

