-- ==== Sys2Proof/Machine/Regs.lean ====
section
/-! DEFINITION. Writes of registers (spec/15_two_wire.md R344 to R349, spec/17_register_map.md R387 to R389, and the field
tables of each chapter): what a write of each register does, the protected writes, the UNLOCK sequence, and the busy
conditions. The host bus and the Ovrath transactions go through the same operations (R307). -/
namespace Sys2Proof.Machine

/-! ### The standby, and the trims -/

/-- Writes that change what the shelf does are accepted only by the active of a pair (R264). -/
def State.passive (s : State) : Bool := s.paired && s.pair.role != .active

/-- A write is ignored on the standby (R264). -/
def twinRefuse (s : State) : State := s.updPair (fun p => { p with wrRefused := true })

/-- A write that only the active accepts (R264). -/
def asActive (f : State → State) (s : State) : State := if s.passive then twinRefuse s else f s

/-- The instance number and offset of an address in a block of registers. -/
def slotOf (a base stride : Nat) : Nat × Nat := ((a - base) / stride, (a - base) % stride)

/-- The RWP bits of the register at an address (R49, Tables 17.4 to 17.6). -/
def rwpMask (a : Nat) : Nat :=
  if 0x0200 ≤ a && a < 0x0600 then (if a % 16 = 12 then 0xFFFF else 0)
  else if 0x0600 ≤ a && a < 0x0900 then (if a % 32 = 6 then 0xFFF else if a % 32 = 10 then 0xFFFF else 0)
  else if 0x0C00 ≤ a && a < 0x0F00 then (if a % 8 = 2 then 0xFFC0 else if a % 8 = 4 then 0x7FFF else if a % 8 = 6 then 0x1FFF else 0)
  else if a = 0x0F24 || a = 0x0F26 || a = 0x0F28 then 0xFFFF
  else if 0x0F40 ≤ a && a < 0x1000 then (if (a - 0x0F40) % 12 = 2 then 0xF0 else 0)
  else 0

/-- The instance that a trim register belongs to is present (R385). -/
def State.rwpHere (s : State) (a : Nat) : Bool :=
  if 0x0200 ≤ a && a < 0x0600 then (match toPhase ((a - 0x0200) / 16) with | some n => (s.phases[n]).cfg.isSome | none => false)
  else if 0x0600 ≤ a && a < 0x0900 then (match toRail ((a - 0x0600) / 32) with | some r => (s.rails[r]).cfg.isSome | none => false)
  else if 0x0C00 ≤ a && a < 0x0F00 then (match toMon ((a - 0x0C00) / 8) with | some m => (s.watch.mons[m]).cfg.isSome | none => false)
  else if 0x0F40 ≤ a && a < 0x1000 then
    (match toCart ((a - 0x0F40) / 12) with | some t => (s.ch.image.record 0x13 t.val).isSome | none => false)
  else true

/-- A trim of the fields of the register at an address (Tables 4.11, 5.10, 8.7 to 8.9, 9.9). -/
def applyTrim (a v : Nat) (s : State) : State :=
  if 0x0200 ≤ a && a < 0x0600 then
    (match toPhase ((a - 0x0200) / 16) with | some n => phTrim n (BitVec.ofNat 16 v) s | none => s)
  else if 0x0600 ≤ a && a < 0x0900 then
    (match toRail ((a - 0x0600) / 32) with
      | some r => if a % 32 = 6 then capRecompute (reLimit (trimVset r (v % 4096) s)) else capRecompute (trimIlim r v s)
      | none => s)
  else if 0x0C00 ≤ a && a < 0x0F00 then
    (match toMon ((a - 0x0C00) / 8) with
      | some m => if a % 8 = 2 then trimTick m (v / 64 % 1024) s else if a % 8 = 4 then trimLow m (v % 32768) s else trimHigh m (v % 8192) s
      | none => s)
  else if a = 0x0F24 then trimLevel .warn v s
  else if a = 0x0F26 then trimLevel .dim v s
  else if a = 0x0F28 then trimLevel .trip v s
  else if 0x0F40 ≤ a && a < 0x1000 then
    (match toCart ((a - 0x0F40) / 12) with | some t => trimPrescale t (v / 16 % 16) s | none => s)
  else s

/-- The bits written for the RWP fields differ from the values in force (R349). -/
def State.rwpDiffers (s : State) (a v : Nat) : Bool := (v &&& rwpMask a) != (s.reg a &&& rwpMask a)

/-- A path of protected writes. -/
def State.lockPath (s : State) : Path → LockPath
  | .host => s.glb.lockHost
  | .ovrath _ => s.glb.lockOv

/-- Change a path of protected writes. -/
def updLock (p : Path) (f : LockPath → LockPath) (s : State) : State :=
  match p with
  | .host => s.updGlb (fun g => { g with lockHost := f g.lockHost })
  | .ovrath _ => s.updGlb (fun g => { g with lockOv := f g.lockOv })

/-- The path is open for this requester (R387). -/
def State.openFor (s : State) : Path → Bool
  | .host => s.pathOpen s.glb.lockHost
  | .ovrath src => s.pathOpen s.glb.lockOv && s.glb.lockOv.who == src

/-- The RWP fields of a write: ignored on the standby, applied on an open path, and else kept, with LOCKED_WR and EV175 on
the host bus where the bits differ (R264, R349, R387). An accepted trim restarts the 10 s of its path, is forwarded to the
twin, and changes the stored CRC of the trim overlay, which is a free value (log entry 3). -/
def trimWrite (p : Path) (a v : Nat) (s : State) : State :=
  if rwpMask a = 0 || !s.rwpHere a then s
  else if s.passive then (if s.rwpDiffers a v then twinRefuse s else s)
  else if s.openFor p then
    let t := applyTrim a v s
    if t.rwpDiffers a v then t
    else
      let d := draw (forward (.trim a (v &&& rwpMask a)) (updLock p (fun l => { l with usedAt := s.now }) t))
      d.2.updCh (fun c => { c with trimCrc := d.1 })
  else if s.rwpDiffers a v then
    (match p with
      | .host => fire 175 8 (s.updHb (fun h => { h with stat := h.stat ||| 256 }))
      | .ovrath _ => s)
  else s

/-! ### The UNLOCK sequence -/

/-- A break of the sequence (R349, R388): locked and unarmed, BAD_UNLOCK and EV175. -/
def breakLock (p : Path) (s : State) : State :=
  fire 175 9 ((updLock p (fun _ => {}) s).updHb (fun h => { h with stat := h.stat ||| 512 }))

/-- KEY1 of R387. -/
def key1 : Nat := 0x7720
/-- KEY2 of R387. -/
def key2 : Nat := 0x88DF

/-- The requester of a path; 0 for the host bus. -/
def pathWho : Path → BitVec 18
  | .host => 0
  | .ovrath src => src

/-- An armed path still waits for KEY2: 1 ms has not passed (R387). -/
def LockPath.waits (l : LockPath) (now : Nat) : Bool := l.armed && now ≤ l.armedAt + ms 1

/-- A write of GLB_UNLOCK (R387, R388, Table 17.15). On the Ovrath path a second requester is refused while another holds
the unlock, and KEY2 from another than the one that armed it breaks the sequence. -/
def unlockWrite (p : Path) (v : Nat) (s : State) : State :=
  let l := s.lockPath p
  let armed := l.waits s.now
  if (l.unlocked || armed) && l.who != pathWho p && v != 0 then (if l.unlocked then s else breakLock p s)
  else if v = 0 then updLock p (fun _ => {}) s
  else if armed && v = key2 then updLock p (fun x => { x with armed := false, unlocked := true, usedAt := s.now }) s
  else if !armed && v = key1 then updLock p (fun x => { x with armed := true, armedAt := s.now, who := pathWho p }) s
  else breakLock p s

/-- The row UNLOCK_DISARM_TIMEOUT (R388). -/
def disarmDue (ov : Bool) (s : State) : State :=
  let p : Path := if ov then .ovrath 0 else .host
  let l := s.lockPath p
  if l.armed && l.armedAt + ms 1 ≤ s.now then updLock p (fun x => { x with armed := false }) s else s

/-- The row UNLOCK_IDLE_LOCK (R389). -/
def idleLockDue (ov : Bool) (s : State) : State :=
  let p : Path := if ov then .ovrath 0 else .host
  let l := s.lockPath p
  if l.unlocked && l.usedAt + sec 10 ≤ s.now then updLock p (fun x => { x with unlocked := false }) s else s

/-! ### The pair's and the update's strobes -/

/-- PAIR_CTRL.REFUSED. -/
def pairRefuse (s : State) : State := s.updPair (fun p => { p with refused := true })

/-- PAIR_CTRL.YIELD (R277). -/
def pairHostYield (s : State) : State :=
  if s.paired && s.pair.role == .active && s.twinStep then
    (if s.pair.yielding || s.pair.release.isSome then s else yieldBegin false s)
  else pairRefuse s

/-- PAIR_CTRL.TAKE (R277). -/
def pairHostTake (s : State) : State :=
  let t := judgeStep s
  if t.paired && t.pair.role == .standby && t.pair.inStep then
    sendCtrl .takeReq (t.updPair (fun p => { p with takeSent := true, takeRevert := false }))
  else pairRefuse t

/-- UPD_CTRL.REFUSED. -/
def updRefuse (s : State) : State := s.updUpd (fun u => { u with refused := true })

/-- An operation of update that may be refused with a reason. -/
def updTry (r : Nat × State) : State := if r.1 = 0 then r.2 else updRefuse r.2

/-- UPD_CTRL.ACTIVATE (R379): at UPD_AT, or now if it is 0. -/
def updHostActivate (s : State) : State :=
  let u := s.upd
  if u.at_ = 0 then updTry (activateNow u.imgId u.confirmS s)
  else if s.paired && s.pair.role != .active then updRefuse (s.updUpd (fun x => { x with why := 5 }))
  else updTry (scheduleAt ⟨0, u.imgId, u.confirmS, u.at_, false⟩ s)

/-- CANCEL, from the host or the service port: the pending schedule, or without one the proof (R375, R379). -/
def cancelNow (s : State) : State :=
  if s.upd.set.sched.isSome then cancelSched s else if s.upd.proof.isSome then proofFail s else s

/-- UPD_CTRL.REVERT of the kind in KIND_SEL. -/
def updHostRevert (s : State) : State := updTry (if s.upd.kindSel then revertFw s else revertPat s)

/-! ### EV_CTRL -/

/-- EV_CTRL.REFUSED. -/
def evRefuse (s : State) : State := s.updEv (fun e => { e with refused := true })

/-- EV_CTRL.FAULTN_CLR (R251): in FAULTN_MODE 1 FAULT_N is released unless an ERRPIN firing waits in the same step. -/
def faultnClr (s : State) : State :=
  if s.cfg.device.faultnMode = 1 then
    if s.ev.fireQ.any (fun f => hasErr (s.cfg.react.toList.getD f.source 0)) then evRefuse s
    else s.updEv (fun e => { e with latched := false, faultOn := false })
  else s

/-- A fenced unit returns to service (Table 11.4). -/
def unfenceUnit (src sub : Nat) (s : State) : State :=
  if 88 ≤ src && src ≤ 95 then (match toPort (src - 88) with
    | some p => s.updPort p (fun x => { x with fenced := false }) | none => s)
  else if 96 ≤ src && src ≤ 111 then (match toMon (6 * (src - 96) + sub / 2) with
    | some m => s.updMon m (fun x => { x with fenced := false }) | none => s)
  else if src = 123 then s.updHk (fun h => { h with sensors :=
    (if hs : sub < 48 then Tab.upd h.sensors ⟨sub, hs⟩ (fun (x : Sensor) => { x with fenced := false }) else h.sensors) })
  else if 156 ≤ src && src ≤ 167 then (match toOvPort ((src - 156) / 2) with
    | some k => s.updOvPort k (fun p => { p with state := .training }) | none => s)
  else if 172 ≤ src && src ≤ 175 then s.updHb (fun h => { h with fenced := false })
  else if 176 ≤ src && src ≤ 179 then s.updSp (fun x => { x with fenced := false })
  else s

/-- A source whose fence another register releases: phases (PH_CTRL) and cartridges (BC_CTRL.RESCAN), Table 11.4. -/
def fencedElsewhere (src : Nat) : Bool := src < 64 || (128 ≤ src && src ≤ 143)

/-- EV_CTRL.UNFENCE (R245): the unit that the latest firing of source EV_SEL fenced. A held block is released by BLK_RELEASE
only, and the service port cannot be released over Ovrath (Table 11.4). -/
def evUnfence (p : Path) (s : State) : State :=
  match s.evSel with
  | none => evRefuse s
  | some n =>
    let sub := (s.ev.src[n]).sub
    let held := match blockOf n.val sub with | some b => s.blockHeld b | none => false
    let remote := match p with | .host => false | .ovrath _ => decide (176 ≤ n.val && n.val ≤ 179)
    if fencedElsewhere n.val || held || remote || !s.unitFenced n.val sub then evRefuse s else unfenceUnit n.val sub s

/-- TALLY_CTRL.CLR_ALL (R253): refused while a proof window is open. -/
def talliesClear (s : State) : State :=
  if s.upd.proof.isSome then s.updEv (fun e => { e with tallyRef := true }) else s.updEv (fun e => { e with tallies := Tab.all 24 0 })

/-! ### What a write of each register does -/

/-- Apply a change for each bit of a value that is set, in rising order. -/
def strobes (v : Nat) (l : List (Nat × (State → State))) (s : State) : State :=
  l.foldl (fun t x => if natBit v x.1 then x.2 t else t) s

/-- A flag that a 1 written to its bit clears. -/
def w1c (old : Bool) (v i : Nat) : Bool := old && !natBit v i

/-- A write of a phase register (Tables 4.8 to 4.11). -/
def wPhase (p : Path) (n : Fin 64) (a v : Nat) (s : State) : State :=
  match a % 16 with
  | 0 => s.updPhase n (fun x => { x with pkClamp := w1c x.pkClamp v 6, noTrip := w1c x.noTrip v 7 })
  | 2 =>
    strobes v [(0, fun t => if t.passive then phRefuse n (twinRefuse t) else hostFence n t),
      (1, fun t => if t.passive then phRefuse n (twinRefuse t) else hostUnfence n t),
      (2, fun t => t.updPhase n (fun x => { x with episodes := 0, fences := 0 }))]
      (s.updPhase n (fun x => { x with refused := w1c x.refused v 3 }))
  | 12 => trimWrite p a v s
  | _ => s

/-- A write of NOSHED: a change of it acts, and reaches the twin as a forwarded write (R125, R264). -/
def noshedWrite (r : Fin 24) (a : Nat) (on : Bool) (s : State) : State :=
  if (s.rails[r]).cfg.isNone || (s.rails[r]).noshed == on then s
  else asActive (fun t => forward (.trim a (bit01 on * 8)) (hostNoshed r on t)) s

/-- A write of a rail register (Tables 5.8 to 5.12). -/
def wRail (p : Path) (r : Fin 24) (a v : Nat) (s : State) : State :=
  match a % 32 with
  | 0 => s.updRail r (fun x => { x with limitHit := w1c x.limitHit v 5, sat := w1c x.sat v 10 })
  | 2 => s.updRail r (fun x => { x with cause := natBits x.cause 0 5 &&& (31 - natBits v 0 5) })
  | 4 =>
    strobes v [(0, asActive (fun t => holdFollow (hostUnsnuff r t))),
      (2, fun t => t.updRail r (fun x => { x with sheds := 0, relights := 0, ovs := 0, uvs := 0 }))]
      (noshedWrite r a (natBit v 3) (s.updRail r (fun x => { x with refused := w1c x.refused v 1 })))
  | 6 | 10 => trimWrite p a v s
  | _ => s

/-- A write of a load-link port register (Tables 6.9 to 6.11). -/
def wPort (p : Fin 8) (a v : Nat) (s : State) : State :=
  match a % 32 with
  | 2 => s.updPort p (fun x => { x with cause := natBits x.cause 0 3 &&& (7 - natBits v 0 3) })
  | 4 => strobes v [(0, fun t => t.updPort p (fun x => { x with good := 0, crcErr := 0, framing := 0, refused := 0, retries := 0 })),
      (1, asActive (noticeClear p))] s
  | _ => s

/-- A strobe of SEQ_DOM_CTRL: the standby refuses it (R183, R264). -/
def domStrobe (d : Fin 8) (f : State → State) (s : State) : State :=
  if s.passive then twinRefuse (seqRefuse d s) else seqStrobe d f s

/-- A write of a domain register (Tables 7.13 to 7.15). -/
def wDom (d : Fin 8) (a v : Nat) (s : State) : State :=
  match a % 16 with
  | 2 => s.updDom d (fun x => { x with cause := natBits x.cause 0 10 &&& (1023 - natBits v 0 10) })
  | 4 =>
    holdFollow (strobes v [(0, domStrobe d (seqStart d)), (1, domStrobe d (seqStop d)), (2, domStrobe d (hostShutoff d)),
      (3, domStrobe d (seqUnlatch d)), (4, domStrobe d (seqRetryClr d)),
      (5, fun t => t.updDom d (fun x => { x with shutoffs := 0, noStarts := 0 }))]
      (s.updDom d (fun x => { x with refused := w1c x.refused v 6 })))
  | _ => s

/-- The kind and tap that a write of WM_CTRL leaves; the reserved TAP 3 sets REFUSED (log entry 107). -/
def wmKeep (m : Fin 96) (v : Nat) (s : State) : State :=
  s.updMon m (fun x => { x with
    refused := x.refused || natBits v 2 2 = 3
    stKind := if x.cfg.isSome then natBits v 1 1 else x.stKind
    tap := if x.cfg.isSome && natBits v 2 2 != 3 then natBits v 2 2 else x.tap })

/-- WM_CTRL.SELFTEST in a write: with the reserved TAP 3 it starts nothing. -/
def wmSelftest (m : Fin 96) (v : Nat) (s : State) : State := if natBits v 2 2 = 3 then s else hostSelftest m s

/-- A write of a monitor register (Tables 8.7 and 8.8). A write of the reserved TAP 3 leaves TAP as it was, sets REFUSED, and
starts no self-test (log entry 107). -/
def wMon (p : Path) (m : Fin 96) (a v : Nat) (s : State) : State :=
  match a % 8 with
  | 0 => s.updMon m (fun x => { x with
      lowTrip := w1c x.lowTrip v 2, highTrip := w1c x.highTrip v 3, stDone := w1c x.stDone v 5, stFail := w1c x.stFail v 6 })
  | 2 =>
    strobes v [(0, wmSelftest m v),
      (4, fun t => t.when (t.watch.mons[m]).cfg.isSome (fun u =>
        (u.updMon m (fun x => { x with trips := 0 })).updWatch (fun w => { w with stFails := 0, skips := 0 })))]
      (trimWrite p a v (wmKeep m v (s.updMon m (fun x => { x with refused := w1c x.refused v 5 }))))
  | _ => trimWrite p a v s

/-- A write of a capture-timer register (Tables 8.9 and 8.10). -/
def wCt (p : Path) (t : Fin 16) (a v : Nat) (s : State) : State :=
  match (a - 0x0F40) % 12 with
  | 0 => s.updCt t (fun x => { x with sat := w1c x.sat v 2, lost := w1c x.lost v 3 })
  | 2 =>
    strobes v [(0, hostArm t), (1, fun u => u.updCt t (fun x => { x with missed := 0 }))]
      (trimWrite p a v (s.updCt t (fun x => { x with refused := w1c x.refused v 2 })))
  | _ => s

/-- A pointer or a selection of a window has changed: the lines held are refetched (R392). -/
def winDrop (pat : Bool) (s : State) : State :=
  let q := (s.hb.ptr - (if pat then 0xC000 else 0x8000)) % 16384 / 32
  let l : List WinLine := if (if pat then 0xC000 ≤ s.hb.ptr else 0x8000 ≤ s.hb.ptr && s.hb.ptr < 0xC000) then [⟨q, none⟩] else []
  s.updHb (fun h => if pat then { h with winP := l } else { h with winL := l })

/-- A write of the identity region (Tables 17.2, 17.11 to 17.13, 3.9 to 3.12). -/
def wGlobal (a v : Nat) (s : State) : State :=
  match a with
  | 0x0018 => s.updGlb (fun g => { g with scratch := v })
  | 0x002C => s.updCh (fun c => { c with wrFail := w1c c.wrFail v 12 })
  | 0x002E => s.updCh (fun c => { c with
      repaired := w1c c.repaired v 0, unrepaired := w1c c.unrepaired v 1, trimDrop := w1c c.trimDrop v 2 })
  | 0x0030 => (s.updFeed 0 (fun f => { f with lost := w1c f.lost v 4 })).updFeed 1 (fun f => { f with lost := w1c f.lost v 5 })
  | 0x0032 => if natBit v 0 then hostSleep s else s
  | 0x0034 => s.updSlp (fun x => { x with refused := w1c x.refused v 0 })
  | 0x0036 => s.updSlp (fun x => { x with wakeEn := v % 256 })
  | 0x0040 => winDrop true (s.updGlb (fun g => { g with prbSel := natBits v 0 1, prbPage := natBits v 4 4 }))
  | _ => s

/-- Sixteen sources of a pending or enable register, changed by bit. -/
def evSixteen (i : Nat) (f : Nat → EvSource → EvSource) (s : State) : State :=
  s.each ((List.finRange 192).filter (fun n => n.val / 16 = i)) (fun n u => u.updSrc n (f (n.val % 16)))

/-- A write of the event region (Tables 11.9 to 11.11). -/
def wEvent (p : Path) (a v : Nat) (s : State) : State :=
  if a < 0x0118 then evSixteen ((a - 0x0100) / 2) (fun j x => { x with pend := w1c x.pend v j }) s
  else if 0x0120 ≤ a && a < 0x0138 then evSixteen ((a - 0x0120) / 2) (fun j x => { x with ien := natBit v j }) s
  else match a with
  | 0x0140 => s.updEv (fun e => { e with sel := v % 256 })
  | 0x0150 =>
    strobes v [(0, faultnClr), (1, evUnfence p), (2, releaseBlocks), (3, fun t => t.updEv (fun e => { e with crHold := false })),
      (4, fun t => match t.evSel with | some n => t.updSrc n (fun x => { x with count := 0 }) | none => t)]
      (s.updEv (fun e => { e with refused := w1c e.refused v 5 }))
  | _ => s

/-- A write of the housekeeping, thermal and sweep registers (Tables 9.6 to 9.9, 8.11). The sweep's setting goes to the
settings store (R200). -/
def wHk (p : Path) (a v : Nat) (s : State) : State :=
  match a with
  | 0x0F00 => s.updHk (fun h => { h with slow := w1c h.slow v 9 })
  | 0x0F02 => if natBit v 0 then s.updHk (fun h => { h with dropped := 0, sensFault := 0 }) else s
  | 0x0F04 => s.updHk (fun h => { h with sel := v % 256 })
  | 0x0F16 => s.updHk (fun h => { h with
      warnSeen := w1c h.warnSeen v 5, dimSeen := w1c h.dimSeen v 6, tripSeen := w1c h.tripSeen v 7 })
  | 0x0F18 => s.updHk (fun h => { h with thRefused := w1c h.thRefused v 0 })
  | 0x0F24 | 0x0F26 | 0x0F28 => trimWrite p a v s
  | 0x0F30 => 
    if natBits v 8 2 = 3 then s
    else saveSet (fun d => { d with interval := v % 256, tap := natBits v 8 2 }) (sweepSet (v % 256) (natBits v 8 2) s)
  | _ => s

/-- The host cap (R229). -/
def capWrite (v : Nat) (s : State) : State := capRecompute (s.updHold (fun h => { h with cap := v }))

/-- A write of hold-up, sharing and cartridges (Tables 10.8 to 10.11). -/
def wHu (a v : Nat) (s : State) : State :=
  match a with
  | 0x1002 => s.updHold (fun h => { h with cause := natBits h.cause 0 5 &&& (31 - natBits v 0 5) })
  | 0x1004 => if natBit v 0 then s.updCarts (fun c => { c with nacks := 0, crc := 0, excl := 0, ctrWr := 0 }) else s
  | 0x1006 => asActive (capWrite v) s
  | 0x1020 =>
    let t := s.updCarts (fun c => { c with index := v % 16 })
    if natBit v 4 then asActive (fun u => match toCart (v % 16) with | some c => holdJudge (rescan c u) | none => u) t else t
  | 0x1030 => s.updCarts (fun c => { c with stuck := w1c c.stuck v 0 })
  | _ => s

/-- A write of the pair's registers (Tables 12.7 to 12.9). -/
def wPair (a v : Nat) (s : State) : State :=
  match a with
  | 0x1100 => s.updPair (fun p => { p with
      yieldBlocked := w1c p.yieldBlocked v 9, hoForced := w1c p.hoForced v 10, takeStale := w1c p.takeStale v 11
      wrRefused := w1c p.wrRefused v 12 })
  | 0x1102 => s.updPair (fun p => { p with cause := natBits p.cause 0 9 &&& (511 - natBits v 0 9) })
  | 0x1104 =>
    strobes v [(0, pairHostYield), (1, pairHostTake), (2, fun t => t.updPair (fun p => { p with reverts := [] })),
      (4, fun t => t.updPair (fun p => { p with crcTally := 0, retx := 0, handovers := 0, takeovers := 0 }))]
      (s.updPair (fun p => { p with refused := w1c p.refused v 5, noRevert := natBit v 3 }))
  | _ => s

/-- A write of the port that OV_PORT_SEL names. -/
def ovSelWrite (f : OvPort → OvPort) (s : State) : State :=
  match toOvPort s.ov.portSel with | some k => s.updOvPort k f | none => s

/-- A write of the Ovrath region (Tables 13.13 to 13.16). -/
def wOv (a v : Nat) (s : State) : State :=
  match a with
  | 0x1200 => s.updOv (fun o => { o with mismatch := w1c o.mismatch v 4 })
  | 0x1202 =>
    strobes v [(0, ovHostEnum), (1, ovHostBarrier), (2, ovHostSnap), (3, ovHostReset), (4, ovHostReroute), (5, ovHostReturn),
      (6, ovHostReclaim)] (s.updOv (fun o => { o with refused := w1c o.refused v 7 }))
  | 0x120E => s.updOv (fun o => { o with opLead := v % 256 })
  | 0x1230 => s.updOv (fun o => { o with portSel := v % 8 })
  | 0x1232 => ovSelWrite (fun p => { p with merged := w1c p.merged v 5, errRun := w1c p.errRun v 6 }) s
  | 0x1254 => s.updOv (fun o => { o with txnAddr := v })
  | 0x1256 =>
    strobes v [(0, ovGo)] (s.updOv (fun o => { o with
      txnRefused := w1c o.txnRefused v 5, txnWrite := natBit v 1, txnCount := natBits v 2 3 }))
  | 0x1258 => s.updOv (fun o => { o with txnDone := w1c o.txnDone v 1 })
  | 0x1280 => s.updOv (fun o => { o with qSel := v % 128 })
  | _ => if 0x1260 ≤ a && a < 0x1270 then s.updOv (fun o => { o with txnData := Tab.put o.txnData ((a - 0x1260) / 2) v }) else s

/-- HB_CTRL.RECOVER and the recovery of R356 after `n` pulses: up to 9 release SDA; more is a failure. -/
def busRecover (n : Nat) (s : State) : State :=
  let bit := if n ≤ 9 then 6 else 7
  fire 174 bit (addTally 19 1 (send (.sclPulses (min 9 n) (n ≤ 9)) (s.updHb (fun h =>
    { h with stat := h.stat ||| 2 ^ bit, sdaStuck := false }))))

/-- HB_CTRL.RECOVER (R356): only a controller with an address drives SCL. How many pulses it takes is a free value. It is refused
while an attempt is in progress (R359). -/
def hostRecover (s : State) : State :=
  if s.hb.sending.isSome then s.updHb (fun h => { h with refused := true })
  else if s.cfg.host.attnAddr = 0 || s.hb.fenced || s.blockHeld .hostBus then s
  else (let d := draw s; busRecover (d.1 % 11) d.2)

/-- A write of the ledger, host-bus, update and tally registers (Tables 14.9 to 14.11, 15.7, 16.11, 16.12, 11.12). -/
def wService (a v : Nat) (s : State) : State :=
  match a with
  | 0x1400 => s.updLg (fun l => { l with
      lgsIncomplete := w1c l.lgsIncomplete v 3, dropHeld := w1c l.dropHeld v 4, archFail := w1c l.archFail v 5
      uncorr := w1c l.uncorr v 6 })
  | 0x1402 =>
    strobes v [(0, lgTrigger), (1, lgRelease), (3, fun t => t.updLg (fun l => { l with eccCorr := 0, unflushed := 0 }))]
      (s.updLg (fun l => { l with refused := w1c l.refused v 4, flushHold := natBit v 2 }))
  | 0x1404 => s.updLg (fun l => { l with recSel := v % 16 })
  | 0x1406 => winDrop false (s.updLg (fun l => { l with winSel := v % 4 }))
  | 0x1500 => s.updHb (fun h => { h with stat := natBits h.stat 0 10 &&& (1023 - natBits v 0 10) })
  | 0x1504 =>
    strobes v [(0, fun t => t.updHb (fun h => { h with abandoned := 0, lostTally := 0, busyTally := 0, timeouts := 0 })),
      (1, attnDiscard), (2, hostRecover)] (s.updHb (fun h => { h with refused := w1c h.refused v 3 }))
  | 0x1600 => s.updUpd (fun u => { u with pairHalt := w1c u.pairHalt v 9 })
  | 0x1604 =>
    strobes v [(0, updHostActivate), (1, cancelNow), (2, updHostRevert), (3, confirmProof)]
      (s.updUpd (fun u => { u with
        refused := w1c u.refused v 5
        kindSel := natBit v 4
        confirmS := if 1 ≤ v / 64 && v / 64 ≤ 600 then v / 64 else u.confirmS }))
  | 0x1780 => strobes v [(0, talliesClear)] (s.updEv (fun e => { e with tallyRef := w1c e.tallyRef v 1 }))
  | _ => s

/-- What a write of the 16-bit register at an even address does (R344). A register with no writable field ignores it. -/
def regAct (p : Path) (a v : Nat) (s : State) : State :=
  if a = 0x0014 then unlockWrite p v s
  else if a < 0x0100 then wGlobal a v s
  else if a < 0x0200 then wEvent p a v s
  else if a < 0x0600 then (match toPhase ((a - 0x0200) / 16) with | some n => wPhase p n a v s | none => s)
  else if a < 0x0900 then (match toRail ((a - 0x0600) / 32) with | some r => wRail p r a v s | none => s)
  else if a < 0x0A00 then (match toPort ((a - 0x0900) / 32) with | some q => wPort q a v s | none => s)
  else if a < 0x0A80 then (match toDom ((a - 0x0A00) / 16) with | some d => wDom d a v s | none => s)
  else if a < 0x0C00 then
    (if h : (a - 0x0A80) / 2 < 48 then s.updSlot ⟨(a - 0x0A80) / 2, h⟩ (fun x => { x with warn := w1c x.warn v 5 }) else s)
  else if a < 0x0F00 then (match toMon ((a - 0x0C00) / 8) with | some m => wMon p m a v s | none => s)
  else if a < 0x0F40 then wHk p a v s
  else if a < 0x1000 then (match toCart ((a - 0x0F40) / 12) with | some t => wCt p t a v s | none => s)
  else if a < 0x1100 then wHu a v s
  else if a < 0x1200 then wPair a v s
  else if a < 0x1400 then wOv a v s
  else wService a v s

end Sys2Proof.Machine
end

