-- ==== Sys2Proof/Machine/HostBus.lean ====
section
/-! DEFINITION. The host bus (spec/15_two_wire.md, and the windows of spec/17_register_map.md): bursts of writes, reads with
their snapshots, the busy conditions, the window buffers, the low-time timeouts and the attention records. -/
namespace Sys2Proof.Machine

/-! ### Which registers there are, and which are busy -/

/-- The supervisor-served registers (R348). -/
def supServed (a : Nat) : Bool :=
  (0x0A00 ≤ a && a < 0x0A80 && (a % 16 = 4 || a % 16 = 5)) || a / 2 = 0x0F30 / 2 || a / 2 = 0x1020 / 2 || a / 2 = 0x1104 / 2 ||
    (0x1600 ≤ a && a < 0x1700)

/-- A memory write holds a device (Table 15.2), or the memory block is in reset or held. -/
def State.devBusy (s : State) (dev : Nat) : Bool :=
  (match s.ch.memOp with | some o => o.dev == dev | none => false) || s.blockDown .memory

/-- The ledger window, and the pattern window. -/
def inLedgerWin (a : Nat) : Bool := 0x8000 ≤ a && a < 0xC000
/-- The pattern-readback window. -/
def inPatWin (a : Nat) : Bool := 0xC000 ≤ a

/-- A read of an address cannot be served now (Table 15.2). -/
def State.readBusy (s : State) (a : Nat) : Bool :=
  (supServed a && !s.coreUp .supervisor) ||
  (inPatWin a && s.glb.prbSel == 0 && s.devBusy (s.ch.region s.ch.slot).1) ||
  (inLedgerWin a && s.lg.winSel == 3 && s.devBusy (s.ch.region 5).1)

/-- A write of an address cannot be served now (Table 15.2). -/
def State.writeBusy (s : State) (a : Nat) : Bool :=
  (supServed a && !s.coreUp .supervisor) || (s.ch.applying && (rwpMask a != 0 || (0x1600 ≤ a && a < 0x1700)))

/-- Registers with a field that can be written, by region (Tables 17.2 to 17.10). -/
def writable (a : Nat) : Bool :=
  if a < 0x0100 then [0x14, 0x18, 0x2C, 0x2E, 0x30, 0x32, 0x34, 0x36, 0x38, 0x3A, 0x40].contains a
  else if a < 0x0200 then a < 0x0118 || (0x0120 ≤ a && a < 0x0138) || a = 0x0140 || a = 0x0150
  else if a < 0x0600 then [0, 2, 12].contains (a % 16)
  else if a < 0x0900 then [0, 2, 4, 6, 10].contains (a % 32)
  else if a < 0x0A00 then [2, 4].contains (a % 32)
  else if a < 0x0A80 then [2, 4].contains (a % 16)
  else if a < 0x0AE0 then true
  else if a < 0x0C00 then false
  else if a < 0x0F00 then true
  else if a < 0x0F40 then [0x0F00, 0x0F02, 0x0F04, 0x0F16, 0x0F18, 0x0F24, 0x0F26, 0x0F28, 0x0F30].contains a
  else if a < 0x1000 then [0, 2].contains ((a - 0x0F40) % 12)
  else if a < 0x1100 then [0x1002, 0x1004, 0x1006, 0x1020, 0x1030].contains a
  else if a < 0x1200 then [0x1100, 0x1102, 0x1104].contains a
  else if a < 0x1400 then
    [0x1200, 0x1202, 0x120E, 0x1230, 0x1232, 0x1280].contains a || (0x1220 ≤ a && a < 0x1228) || (0x1250 ≤ a && a < 0x125A) ||
      (0x1260 ≤ a && a < 0x1270)
  else [0x1400, 0x1402, 0x1404, 0x1406, 0x1408, 0x140A, 0x1500, 0x1504, 0x1600, 0x1604, 0x1610, 0x1612, 0x1614, 0x1616,
    0x1780].contains a

/-! ### Writes -/

/-- The values wider than 16 bits that can be written: address and bytes (R344, R386). -/
def wideWritten : List (Nat × Nat) := [(0x0038, 4), (0x1220, 8), (0x1250, 4), (0x1408, 4), (0x1610, 8)]

/-- The value that an address belongs to in a write: where it begins and its bytes. -/
def unitAt (a : Nat) : Nat × Nat :=
  match wideWritten.find? (fun x => x.1 ≤ a && a < x.1 + x.2) with
  | some x => x
  | none => (a - a % 2, 2)

/-- What a whole wide value does when it is written (Tables 3.12, 13.15, 13.16, 14.11, 16.12). -/
def wideAct (a v : Nat) (s : State) : State :=
  match a with
  | 0x0038 => s.updSlp (fun x => { x with alarm := v % 2 ^ 32 })
  | 0x1220 => timeSet v s
  | 0x1250 => s.updOv (fun o => { o with txnDest := v % 2 ^ 18, txnRoot := natBit v 31 })
  | 0x1408 => winDrop false (s.updLg (fun l => { l with winOfs := (v % 2 ^ 32) / 16384 * 16384 }))
  | 0x1610 => s.updUpd (fun u => { u with at_ := v % 2 ^ 64 })
  | _ => s

/-- A write of another register between the two keys disarms the path (R388). -/
def disarm (p : Path) (a : Nat) (s : State) : State := if a = 0x0014 then s else updLock p (fun l => { l with armed := false }) s

/-- A second requester's write of GLB_UNLOCK while another holds the unlock is refused, and so is a break of the sequence. -/
def State.unlockRefused (s : State) (p : Path) (t : State) : Bool :=
  ((s.lockPath p).unlocked && (s.lockPath p).who != pathWho p) || t.ev.fireQ.length != s.ev.fireQ.length

/-- A write of one value, with its transaction status: 0 OK, 2 REFUSED (Table 13.11). The host bus has no use for the
status; what it shows is the flag of the refusal. -/
def writeUnit (p : Path) (a n v : Nat) (s : State) : Nat × State :=
  let s0 := disarm p a s
  let old := if a = 0x1100 then w1c s0.pair.wrRefused v 12 else s0.pair.wrRefused
  let s1 := s0.updPair (fun x => { x with wrRefused := false })
  let locked := rwpMask a != 0 && s1.rwpHere a && !s1.openFor p && s1.rwpDiffers a v
  let t := if n = 2 then regAct p a v s1 else wideAct a v s1
  let no := t.pair.wrRefused || locked || !writable a || (a = 0x0014 && s1.unlockRefused p t) || (a = 0x0F30 && natBits v 8 2 = 3)
  (if no then 2 else 0, t.updPair (fun x => { x with wrRefused := old || x.wrRefused }))

/-- The next address of a write: within the 32-byte page (R344). -/
def pageNext (a : Nat) : Nat := a - a % 32 + (a + 1) % 32

/-- The worse of two statuses of one burst: BUSY ends it, and REFUSED outweighs OK. -/
def worse (a b : Nat) : Nat := if a = 1 || b = 1 then 1 else max a b

/-- A burst of bytes (R344, R346): a value takes effect when its last byte has come with every byte before it; `got` are the
bytes of the value in progress. It answers the status, the bytes left of a value in progress, the next address, and the
state. -/
def burst (p : Path) : Nat → List Byte → List Byte → State → Nat × List Byte × Nat × State
  | a, got, [], s => (0, got, a, s)
  | a, got, b :: bs, s =>
    let u := unitAt a
    if (a = u.1 || got.isEmpty) && s.writeBusy a then (1, [], a, s)
    else
      let have' : List Byte := if a = u.1 then [b] else if got.length = a - u.1 && !got.isEmpty then got ++ [b] else []
      if have'.length = u.2 then
        let w := writeUnit p u.1 u.2 (leNat have') s
        let r := burst p (pageNext a) [] bs w.2
        (worse w.1 r.1, r.2)
      else burst p (pageNext a) have' bs s

/-- A byte answered with NACK as busy (R346). -/
def nackBusy (s : State) : State := s.updHb (fun h => { h with stat := h.stat ||| 1, busyTally := sat255 h.busyTally })

/-- The end of a transaction (R344): part of a value is discarded, and ODD is set. -/
def hostStop (s : State) : State := if s.hb.lone.isEmpty then s else s.updHb (fun h => { h with lone := [], stat := h.stat ||| 4 })

/-- The target acknowledges its address (R341, Table 15.2); a host bus in reset does not. -/
def State.hostAcks (s : State) : Bool :=
  ((s.mode == .start && 11 ≤ s.step) || s.mode == .ready || s.mode == .toSleep) && !s.ev.inReset.contains .hostBus

/-- An address that the target does not acknowledge: counted as busy where the part is not in reset. -/
def hostNack (s : State) : State :=
  match s.mode with
  | .por | .creset | .held => s
  | .start | .ready | .toSleep | .sleep | .wake | .testWait | .test => nackBusy s

/-- A line of a window's buffer is wanted: what it holds stays, and a line not held is fetched (R392). -/
def winWant (l : List WinLine) (q : Nat) : List WinLine :=
  match l.find? (fun x => x.line == q) with
  | some x => x :: l.filter (fun y => y.line != q)
  | none => ((⟨q, none⟩ : WinLine) :: l).take 2

/-- The window line that holds an address is wanted, where the address lies in a window. -/
def wantAt (a : Nat) (s : State) : State :=
  if inPatWin a then s.updHb (fun h => { h with winP := winWant h.winP ((a - 0xC000) / 32) })
  else if inLedgerWin a then s.updHb (fun h => { h with winL := winWant h.winL ((a - 0x8000) / 32) })
  else s

/-- The pointer is set (R342). -/
def setPtr (a : Nat) (s : State) : State := wantAt a (s.updHb (fun h => { h with ptr := a % 65536 }))

/-- An odd pointer is refused (R343). -/
def badPtr (s : State) : State := s.updHb (fun h => { h with stat := h.stat ||| 2 })

/-- A write transaction of the host: the pointer and its data bytes (R342 to R346). It ends without a STOP of its own, so a
part of a value waits for the end of the transaction. -/
def hostBurst (a : Nat) (bs : List Byte) (s : State) : State :=
  if !s.hostAcks then hostNack s
  else
    let t := hostStop s
    if a % 2 = 1 then badPtr t
    else
      let u := setPtr a t
      if bs.isEmpty then u
      else if u.mode == .start then nackBusy u
      else
        let r := burst .host (a % 65536) [] bs u
        let v := r.2.2.2.updHb (fun h => { h with
          ptr := r.2.2.1
          lone := r.2.1.zipIdx.map (fun x => ((r.2.2.1 + 65536 - r.2.1.length + x.2) % 65536, x.1)) })
        if r.1 = 1 then nackBusy v else v

/-- A host write of a 16-bit register. -/
def hostWrite (a v : Nat) (s : State) : State := hostBurst a (leBytes 2 v) s

/-- The RW bits of a control register, which a strobe's read-modify-write repeats. -/
def rwMask (a : Nat) : Nat :=
  if 0x0600 ≤ a && a < 0x0900 then (if a % 32 = 4 then 0x8 else 0)
  else if 0x0C00 ≤ a && a < 0x0F00 then (if a % 8 = 2 then 0xFFCE else 0)
  else if 0x0F40 ≤ a && a < 0x1000 then (if (a - 0x0F40) % 12 = 2 then 0xF0 else 0)
  else match a with
  | 0x1020 => 0xF
  | 0x1104 => 0x8
  | 0x1256 => 0x1E
  | 0x1402 => 0x4
  | 0x1604 => 0xFFD0
  | _ => 0

/-- A host write of bits of a control register, its RW and RWP fields repeated as they stand. -/
def hostStrobe (a bits : Nat) (s : State) : State := hostWrite a (bits + (s.reg a &&& rwMask a)) s

/-- A host write of one field of a register, its other RW fields as they stand: `m` masks the field. -/
def hostField (a m v : Nat) (s : State) : State := hostWrite a (v + ((s.reg a &&& rwMask a) &&& (65535 - m))) s

/-! ### Reads -/

/-- The reset value of a byte of a value or result set of which no snapshot has been taken (R345). -/
def resetByte (base i : Nat) : Byte := if base = 0x0004 then (leBytes 8 Config.devUid.toNat).getD i 0 else 0

/-- What taking a snapshot does to the part besides: FRESH falls, and the host's copy of the channels or of the record is
made (R106, R134, R195, R214, R225, R339). -/
def readMark (base : Nat) (s : State) : State :=
  if 0x0200 ≤ base && base < 0x0600 then
    (match toPhase ((base - 0x0200) / 16) with | some n => s.updPhase n (fun p => { p with fresh := false }) | none => s)
  else if 0x0600 ≤ base && base < 0x0900 then
    (match toRail ((base - 0x0600) / 32) with | some r => s.updRail r (fun x => { x with fresh := false }) | none => s)
  else if 0x0F40 ≤ base && base < 0x1000 then
    (match toCart ((base - 0x0F40) / 12) with | some t => s.updCt t (fun x => { x with fresh := false }) | none => s)
  else match base with
  | 0x0F08 => s.updHk (fun h => { h with fresh := false, snap := h.pub })
  | 0x0F10 => s.updHk (fun h => { h with thFresh := false })
  | 0x1014 => s.updHold (fun h => { h with fresh := false })
  | 0x1420 =>
    if s.lg.recFresh then s.updLg (fun l => { l with
      recSeqNo := (l.recSeqNo + 1) % 256
      recSeen := (match l.recNow with | some r => [(l.recSel, r)] | none => []) ++ l.recSeen.filter (fun x => x.1 != l.recSel) })
    else s
  | _ => s

/-- A snapshot of a value or result set is taken (R345). -/
def takeSnap (base : Nat) (s : State) : State :=
  let bytes := s.setBytes base
  readMark base (s.updHb (fun h => { h with snaps := (base, bytes) :: h.snaps.filter (fun x => x.1 != base) }))

/-- A byte of a window's buffer; none until its line has come (R392). -/
def winByte (l : List WinLine) (k : Nat) : Option Byte :=
  match l.find? (fun x => x.line == k / 32) with
  | some x => x.bytes.map (fun b => b.getD (k % 32) 0)
  | none => none

/-- One byte of a read at an address that is not busy; none for a window byte that has not come (R343, R345, R392). A read
past byte 16 of a window's line asks for the next line. -/
def readByte (a : Nat) (s : State) : Option Byte × State :=
  if inPatWin a then
    let k := a - 0xC000
    (winByte s.hb.winP k, if k % 32 = 16 then s.updHb (fun h => { h with winP := winWant h.winP ((k / 32 + 1) % 512) }) else s)
  else if inLedgerWin a then
    let k := a - 0x8000
    (winByte s.hb.winL k, if k % 32 = 16 then s.updHb (fun h => { h with winL := winWant h.winL ((k / 32 + 1) % 512) }) else s)
  else match setAt a with
    | some (base, _) =>
      let t := if a = base then takeSnap base s else s
      (some (match t.hb.snaps.find? (fun x => x.1 == base) with
        | some x => x.2.getD (a - base) 0
        | none => resetByte base (a - base)), t)
    | none => (some (byteOf (s.reg (a - a % 2) / 256 ^ (a % 2))), s)

/-- The bytes of a read (R345, R347): from a busy register on, every byte reads 0xFF and RD_CUT is set. -/
def readBytes : Nat → Nat → State → List Byte × State
  | _, 0, s => ([], s)
  | a, n + 1, s =>
    let cut := (List.replicate (n + 1) (0xFF : Byte), s.updHb (fun h => { h with stat := h.stat ||| 8 }))
    if s.readBusy a then cut
    else
      match readByte a s with
      | (none, _) => cut
      | (some b, t) => let r := readBytes ((a + 1) % 65536) n t; (b :: r.1, r.2)

/-- A read of the host at an address (R342, R345 to R347): at the pointer where it stands there, else a combined read, whose
odd pointer is refused (R343). -/
def hostRead (a n : Nat) (s : State) : State :=
  if !s.hostAcks then hostNack s
  else
    let t0 := hostStop s
    let t := setPtr a t0
    if a % 2 = 1 && t0.hb.ptr != a % 65536 then badPtr t0
    else if n = 0 then t
    else if t.readBusy a then nackBusy t
    else
      let r := readBytes (a % 65536) n t
      wantAt ((a + n) % 65536) (r.2.updHb (fun h => { h with rdata := r.1, ptr := (a + n) % 65536 }))

/-- A transaction of the host that writes no register (Table 15.1): a read at the pointer, PH alone, which leaves the pointer,
or a pointer with or without a read after it. -/
def hostPointer (p : PtrBytes) (n : Nat) (s : State) : State :=
  match p with
  | .held => if n = 0 then s else hostRead s.hb.ptr n s
  | .high _ => if s.hostAcks then hostStop s else hostNack s
  | .both ph pl =>
    let a := ph.toNat * 256 + pl.toNat
    if n = 0 || a % 2 = 1 then hostBurst a [] s else hostRead a n s

/-! ### The windows -/

/-- A byte of a ledger space; beyond the end of a space 0 (R337, R390). -/
def State.ledgerByte (s : State) (space o : Nat) : Byte :=
  match space with
  | 0 => if o < 8388608 then s.lg.sampleByte o else 0
  | 1 => if o < 131072 then s.lg.indexByte s.free o else 0
  | 2 => if o < 65536 then s.lg.lgsByte s.free o else 0
  | 3 => let r := s.ch.region 5
         if o < r.2.2 then s.ch.memByte r.1 (r.2.1 + o) else 0
  | _ => 0

/-- A byte of a pattern source; beyond PRB_LEN 0 (R391). -/
def State.patternByte (s : State) (src o : Nat) : Byte :=
  if src = 0 then
    (let r := s.ch.region s.ch.slot
     if !s.ch.blank && o < s.ch.image.stored.length then s.ch.memByte r.1 (r.2.1 + o) else 0)
  else s.ch.image.bytes.getD o 0

/-- A byte of a READ space (R365). -/
def State.spaceByte (s : State) (space o : Nat) : Byte := if space < 4 then s.ledgerByte space o else s.patternByte (space - 4) o

/-- The content of a window's line now. -/
def State.lineBytes (s : State) (pat : Bool) (line : Nat) : List Byte :=
  (List.range 32).map (fun i =>
    if pat then s.patternByte s.glb.prbSel (s.glb.prbPage * 16384 + line * 32 + i)
    else s.ledgerByte s.lg.winSel (s.lg.winOfs + line * 32 + i))

/-- A READ space is read from external memory from an offset on: the archive, or the stored pattern (R63, R337, R365). -/
def spaceFetch (space o : Nat) (s : State) : State :=
  if space = 3 then regionFetch 5 o s else if space = 4 && !s.ch.blank then regionFetch s.ch.slot o s else s

/-- The space and the offset that a window address shows (R337, R390). -/
def State.winSpace (s : State) (a : Nat) : Nat × Nat :=
  if inPatWin a then (4 + s.glb.prbSel, s.glb.prbPage * 16384 + (a - 0xC000)) else (s.lg.winSel, s.lg.winOfs + (a - 0x8000))

/-- The row WINDOW_LINE_FETCH (R392): a line asked for arrives, unless its memory is busy. -/
def lineFetch (pat : Bool) (line : Nat) (s : State) : State :=
  let fill (l : List WinLine) : List WinLine :=
    l.map (fun x => if x.line == line && x.bytes.isNone then { x with bytes := some (s.lineBytes pat line) } else x)
  if s.readBusy (if pat then 0xC000 else 0x8000) then s
  else
    let a := (if pat then 0xC000 else 0x8000) + 32 * line
    let u := s.when ((if pat then s.hb.winP else s.hb.winL).any (fun x => x.line == line && x.bytes.isNone))
      (spaceFetch (s.winSpace a).1 (s.winSpace a).2)
    let t := if pat then u.updHb (fun h => { h with winP := fill h.winP }) else u.updHb (fun h => { h with winL := fill h.winL })
    { t with free := if !pat && s.lg.winSel = 1 then s.free + 131072 else s.free }

/-! ### Timeouts, recovery and attention records -/

/-- The attention-record controller may act: ATTN_ADDR is set, and it is neither fenced nor held (R351, R356). -/
def State.attnOn (s : State) : Bool := s.cfg.host.attnAddr != 0 && !s.hb.fenced && !s.blockHeld .hostBus

/-- The row HB_RECOVERY (R356): SDA is still low 10 us after its timeout. -/
def recoverDue (pulses : Nat) (s : State) : State := if s.hb.sdaStuck && s.attnOn then busRecover pulses s else s

/-- The row HB_CTRL_RECOVER (R356): the host's write, and the recovery that takes `pulses`. -/
def recoverRow (pulses : Nat) (s : State) : State :=
  let t := hostWrite 0x1504 0 s
  if t.hostAcks && t.mode != .start then
    (if t.hb.sending.isSome then t.updHb (fun h => { h with refused := true })
     else if t.attnOn then busRecover pulses t else t)
  else t

/-- The bytes of an attention record (Table 15.3, R353). -/
def State.attnBytes (s : State) (a : AttnRec) : List Byte :=
  let body := [byteOf (0x58 + s.glb.straps.addr.toNat + bit01 a.paired * 128), byteOf (bit01 a.active),
    byteOf (if a.paired then s.cfg.pair.pairId else 0), byteOf s.hb.lost] ++ leBytes 2 a.seq ++
    [byteOf a.source, byteOf a.sub] ++ leBytes 2 a.cause ++ leBytes 8 a.time
  body ++ [byteOf (crc8 0 (s.cfg.host.attnAddr * 2 :: body.map (·.toNat)))]

/-- The queue's head is dropped. -/
def attnPop (s : State) : State := s.updHb (fun h => { h with queue := h.queue.drop 1, backoff := none })

/-- A failed attempt (R354): a back-off, or the record is abandoned with EV173. -/
def attnFail (a : AttnRec) (s : State) : State :=
  if a.attempts + 1 ≥ s.cfg.host.attnRetry then
    fire 173 0 (attnPop (s.updHb (fun h => { h with
      abSource := a.source, abandoned := sat255 h.abandoned, lost := sat255 h.lost })))
  else
    let d := draw s
    d.2.updHb (fun h => { h with
      queue := { a with attempts := a.attempts + 1 } :: h.queue.drop 1
      backoff := some (d.1 % 256) })

/-- The end of an attempt (R352, R354, R355). -/
def attnResult (res : AttnResult) (a : AttnRec) (s : State) : State :=
  match res with
  | .delivered => attnPop ((send (.attn s.cfg.host.attnAddr (s.attnBytes a)) s).updHb (fun h => { h with lost := 0, lastSeq := a.seq }))
  | .arbitrationLost => attnFail a (addTally 20 1 s)
  | .nack | .timeout => attnFail a s
  | .started => s

/-- The controller may begin an attempt (R354). -/
def State.attnFree (s : State) : Bool := s.running && s.attnOn && s.coreUp .link && s.hb.backoff.isNone

/-- The end of an attempt that was in progress: one that may not be retried, since the link core has begun a restart or the
controller has been fenced meanwhile, is lost where it fails (R354). -/
def attnEnd (res : AttnResult) (s : State) : State :=
  match s.hb.queue, s.hb.sending with
  | a :: _, some retry =>
    let t := s.updHb (fun h => { h with sending := none })
    if retry || res == .delivered then attnResult res a t
    else attnLose 1 (attnPop (if res == .arbitrationLost then addTally 20 1 t else t))
  | _, _ => s.updHb (fun h => { h with sending := none })

/-- The row HB_LOW_TIMEOUT (R350): the transaction is abandoned, what was not complete is discarded. An
attempt in progress fails (R354). -/
def lowTimeout (l : BusLine) (s : State) : State :=
  let bit := match l with | .scl => 4 | .sda => 5
  let t := attnEnd .timeout (hostStop s)
  fire 172 bit (addTally 19 1 (t.updHb (fun h => { h with
    stat := h.stat ||| 2 ^ bit
    timeouts := sat255 h.timeouts
    sdaStuck := h.sdaStuck || (l == .sda && s.attnOn) })))

/-- The row ATTN_ATTEMPT (R352 to R355): an attempt begins, one in progress ends, or both (log entry 60). -/
def attnTry (res : AttnResult) (s : State) : State :=
  if s.hb.sending.isSome then (if res == .started then s else attnEnd res s)
  else match s.hb.queue with
  | [] => s
  | a :: _ =>
    if !s.attnFree then s
    else if res == .started then s.updHb (fun h => { h with sending := some true })
    else attnResult res a s

/-- The row ATTN_BACKOFF_EXPIRY (R354): the record may be tried again. -/
def backoffEnd (s : State) : State := s.updHb (fun h => { h with backoff := none })

end Sys2Proof.Machine
end

