-- ==== Sys2Proof/Machine/OvServe.lean ====
section
/-! DEFINITION. Frames that end at this device (spec/13_ovrath.md Table 13.5): what the hardware does at once, the messages
that go through the queues, and how the link core and the supervisor core serve them (R293, R307). -/
namespace Sys2Proof.Machine

/-! ### Remote reads and writes -/

/-- The bytes of a remote read (R307): as a host read, but that a window is read through no buffer, one line at a time. -/
def remoteBytes : Nat → Nat → State → List Byte × State
  | _, 0, s => ([], s)
  | a, n + 1, s =>
    if s.readBusy a then (List.replicate (n + 1) (0xFF : Byte), s.updHb (fun h => { h with stat := h.stat ||| 8 }))
    else
      let r :=
        if inPatWin a || inLedgerWin a then
          (let x := s.winSpace a
           (s.spaceByte x.1 x.2, s.when (a % 32 == 0) (spaceFetch x.1 x.2)))
        else (let x := readByte a s; (x.1.getD 0, x.2))
      let t := remoteBytes ((a + 1) % 65536) n r.2
      (r.1 :: t.1, t.2)

/-- The bytes of a remote read with the line in which it begins (R63). -/
def remoteFetch (a n : Nat) (s : State) : List Byte × State :=
  remoteBytes a n (s.when ((inPatWin a || inLedgerWin a) && a % 32 != 0 && n != 0 && !s.readBusy a) (spaceFetch (s.winSpace a).1 (s.winSpace a).2))

/-- RD_REQ executed (R307, Table 13.11): the status, the data, the state. -/
def remoteRead (a n : Nat) (s : State) : Nat × List Byte × State :=
  if a % 2 = 1 || n % 2 = 1 || n < 2 || 256 < n then (4, [], s)
  else if !s.running || s.readBusy a then (1, [], s)
  else (let r := remoteFetch a n s; (0, r.1, r.2))

/-- WR_REQ executed (R307, Table 13.11). -/
def remoteWrite (who : BitVec 18) (a : Nat) (data : List Byte) (s : State) : Nat × State :=
  if a % 2 = 1 || data.length % 2 = 1 || data.length < 2 || 256 < data.length then (4, s)
  else if !s.running then (1, s)
  else
    let r := burst (.ovrath who) a [] data s
    (r.1, if r.2.1.isEmpty then r.2.2.2 else r.2.2.2.updHb (fun h => { h with stat := h.stat ||| 4 }))

/-- A request of this device to itself. -/
def State.ownReq (s : State) (h : OvHdr) : Bool :=
  h.src.toNat == s.ov.addr.getD 0 && (s.ov.addr.isSome || s.ov.acting) && s.ov.txns.any (fun t => t.tag == h.tag.toNat)

/-- A request is answered; one of this device to itself ends its transaction. -/
def answer (h : OvHdr) (status : Nat) (data : List Byte) (s : State) : State :=
  if s.ownReq h then txnEnd h.tag.toNat status data s else ovAnswer h status data s

/-! ### The messages -/

/-- A deputy stops acting as root: the root that `src` names does, and there is no split any more (R312, R313). -/
def deputyYields (src : Nat) (s : State) : State :=
  s.updOv (fun o => { o with
    acting := false
    split := false
    rootAddr := some src
    goodAt := s.now
    depth := match (o.ports[(0 : Fin 6)]).peer with | some l => if l.depth < 15 then l.depth + 1 else 15 | none => 15 })

/-- ROLE with the acting-root state of its sender (R312, R313): from the root over OP0 it ends the acting of a deputy; from a
deputy it tells the root whether both act (log entry 153). -/
def roleIn (k : Fin 6) (h : OvHdr) (acting : Bool) (s : State) : State :=
  if s.cfg.ov.role = 2 && k = 0 then (if s.ov.acting && acting then deputyYields h.src.toNat s else s)
  else if s.cfg.ov.role = 1 && 2 ≤ k.val && s.ov.acting then s.updOv (fun o => { o with split := acting })
  else ovDrop k s

/-- IMG_DATA (R367): the whole header at offset 0 begins a staging; anything out of place is dropped and counted. -/
def imgIn (imgId ofs : Nat) (data : List Byte) (s : State) : State :=
  if data.isEmpty || 504 < data.length then stageDrop s
  else if ofs = 0 && 256 ≤ data.length then
    if u32At data 8 != imgId then stageDrop s
    else
      let r := stageBegin (data.take 256) true s
      if r.1 != 0 then stageDrop r.2
      else if data.length = 256 then r.2
      else (let q := stageData 256 (data.drop 256) true r.2; if q.1 = 0 then q.2 else stageDrop q.2)
  else if (match s.upd.staging with | some g => g.imgId == imgId | none => false) then
    (let q := stageData ofs data true s; if q.1 = 0 then q.2 else stageDrop q.2)
  else stageDrop s

/-- A message served by its core (Table 13.5). Event and snapshot records end at the acting root, which keeps none of them in
a register. -/
def serveMsg (m : OvMsg) (s : State) : State :=
  match m with
  | .enum k h => if k == s.upPort && !s.ov.acting then enumBegin (rootNamed h.src.toNat s) else ovDrop k s
  | .count k _ n => enumCountIn k n s
  | .assign k _ base len => if k == s.upPort && !s.ov.acting then assignRange base len s else ovDrop k s
  | .rdReq _ h a n =>
    if s.ov.addr.isNone then answer h 3 [] s else let r := remoteRead a n s; answer h r.1 r.2.1 r.2.2
  | .wrReq _ h a d =>
    if s.ov.addr.isNone then answer h 3 [] s else let r := remoteWrite h.src a d s; answer h r.1 [] r.2
  | .resp k h st d => if s.ov.txns.any (fun t => t.tag == h.tag.toNat) then txnEnd h.tag.toNat st d s else ovDrop k s
  | .role k h acting => roleIn k h acting s
  | .shareSp _ _ v => if v ≤ 1000 then s.updHold (fun x => { x with setpoint := some v }) else s
  | .cap _ _ v => capRecompute (s.updHold (fun x => { x with capRoot := v }))
  | .activate _ _ a => activateFrame a s
  | .evrec _ _ _ => s
  | .snaprec _ _ _ => s
  | .imgData _ _ id ofs d => imgIn id ofs d s

/-- The first message whose core can serve it. -/
def State.nextMsg (s : State) : Option (Fin 128 × OvMsg) :=
  (List.finRange 128).findSome? (fun i =>
    match (s.ov.queues[i]).msgs with
    | m :: _ => if s.coreUp m.1.served.2.2 then some (i, m.1) else none
    | [] => none)

/-- Serve the waiting messages, oldest first in each queue. -/
def serveLoop : Nat → State → State
  | 0, s => s
  | n + 1, s =>
    match s.nextMsg with
    | none => s
    | some (i, m) =>
      serveLoop n (serveMsg m (s.updOv (fun o => { o with queues := o.queues.upd i (fun q => { q with msgs := q.msgs.drop 1 }) })))

/-- Serve every waiting message whose core runs (R293). -/
def serveWaiting (s : State) : State :=
  if s.running then serveLoop (s.ov.queues.toList.foldl (fun a q => a + q.msgs.length) 0 + 1) s else s

/-! ### Frames of classes 1 to 3 -/

/-- A message that ends here: its credits go back, a pair's second copy is discarded, and it enters its queue. -/
def takeMsg (k : Fin 6) (cls : Nat) (h : OvHdr) (m : OvMsg) (s : State) : State :=
  let t := creditPut k cls (min 63 m.space) s
  onceOnly h.paired h.src.toNat h.pairId.toNat h.pseq.toNat (fun u => serveWaiting (enqueue m u).2) t

/-- A frame of classes 1 to 3 (R287, R297): one that only the acting root may send is dropped from any other; a broadcast goes
down and ends here too; any other goes on unless it is addressed to this device. -/
def onFrame (rootOnly : Bool) (k : Fin 6) (e : FrameEnd) (cls ty : Nat) (h : OvHdr) (pl : List Byte) (act : State → State)
    (s : State) : State :=
  if rootOnly && !s.fromRoot k h.src.toNat then onGood k e (fun u => ovDrop k u) s
  else if h.bcast then
    let r := rx k e s
    if r.1 then act (cNDown false cls ty h pl r.2) else if s.portUp k then cNDown true cls ty h pl r.2 else r.2
  else if s.route h.dest.toNat h.root == .self then onGood k e act s
  else forwardFrame k e (.cN cls ty h pl) s

/-- A frame that goes no further than the link it came over (R284, R285, Table 13.5). -/
def onLink (k : Fin 6) (e : FrameEnd) (h : OvHdr) (m : OvMsg) (s : State) : State := onGood k e (takeMsg k 1 h m) s

/-- An RD_REQ frame. -/
def rdFrame (k : Fin 6) (e : FrameEnd) (h : OvHdr) (addr count : Nat) (s : State) : State :=
  onFrame false k e 1 8 h (leBytes 2 addr ++ leBytes 2 count) (takeMsg k 1 h (.rdReq k h addr count)) s

/-- A WR_REQ frame. -/
def wrFrame (k : Fin 6) (e : FrameEnd) (h : OvHdr) (addr : Nat) (data : List Byte) (s : State) : State :=
  onFrame false k e 1 9 h (leBytes 2 addr ++ data) (takeMsg k 1 h (.wrReq k h addr data)) s

/-- A RESP frame. -/
def respIn (k : Fin 6) (e : FrameEnd) (h : OvHdr) (status : Nat) (data : List Byte) (s : State) : State :=
  onFrame false k e 1 0x0A h ([byteOf status, 0] ++ data) (takeMsg k 1 h (.resp k h status data)) s

/-- A TIME frame (R300): over the up port it names the acting root (log entry 29). -/
def timeIn (k : Fin 6) (e : FrameEnd) (h : OvHdr) (mark markMs time : Nat) (s : State) : State :=
  let t := if e == .good && k == s.upPort && s.portUp k && !s.ov.acting then rootNamed h.src.toNat s else s
  onFrame true k e 1 0x20 h (leBytes 2 mark ++ leBytes 2 markMs ++ leBytes 8 time) (fun u =>
    onceOnly h.paired h.src.toNat h.pairId.toNat h.pseq.toNat (timeFrame mark markMs time) (creditPut k 1 1 u)) t

/-- A SHARE_SP frame (R298). -/
def shareIn (k : Fin 6) (e : FrameEnd) (h : OvHdr) (v : Nat) (s : State) : State :=
  onFrame true k e 1 0x22 h (leBytes 2 v) (takeMsg k 1 h (.shareSp k h v)) s

/-- A CAP frame (R298). -/
def capIn (k : Fin 6) (e : FrameEnd) (h : OvHdr) (v : Nat) (s : State) : State :=
  onFrame true k e 1 0x23 h (leBytes 2 v) (takeMsg k 1 h (.cap k h v)) s

/-- An ACTIVATE frame (R379, Table 16.9). -/
def activateIn (k : Fin 6) (e : FrameEnd) (h : OvHdr) (a : ActivateCmd) (s : State) : State :=
  onFrame true k e 1 0x24 h
    (leBytes 4 a.actId.toNat ++ leBytes 4 a.imgId.toNat ++ leBytes 2 a.confirm.toNat ++ [0, 0] ++ leBytes 8 a.atTime.toNat ++ zeros 4)
    (takeMsg k 1 h (.activate k h a)) s

/-- An EVREC frame (R297). -/
def evrecIn (k : Fin 6) (e : FrameEnd) (h : OvHdr) (r : EvRec) (s : State) : State :=
  onFrame false k e 2 1 h
    ([r.source, r.sub] ++ leBytes 2 r.entry.toNat ++ leBytes 8 r.time.toNat ++ leBytes 2 r.cause.toNat) (takeMsg k 2 h (.evrec k h r)) s

/-- A SNAPREC frame (R305). -/
def snaprecIn (k : Fin 6) (e : FrameEnd) (h : OvHdr) (pl : List Byte) (s : State) : State :=
  onFrame false k e 2 2 h pl (takeMsg k 2 h (.snaprec k h pl)) s

/-- An IMG_DATA frame (R367). -/
def imgFrame (k : Fin 6) (e : FrameEnd) (h : OvHdr) (imgId ofs : Nat) (data : List Byte) (s : State) : State :=
  onFrame false k e 3 1 h (leBytes 4 imgId ++ leBytes 4 ofs ++ data) (takeMsg k 3 h (.imgData k h imgId ofs data)) s

/-- A GRAFT frame (R311). -/
def graftFrame (k : Fin 6) (e : FrameEnd) (h : OvHdr) (base len : Nat) (s : State) : State :=
  onGood k e (fun u => if 2 ≤ k.val then graftIn k h base len (creditPut k 1 1 u) else ovDrop k u) s

/-- An UNGRAFT frame (R311). -/
def ungraftFrame (k : Fin 6) (e : FrameEnd) (h : OvHdr) (base len : Nat) (s : State) : State :=
  onGood k e (fun u => if 2 ≤ k.val then graftOut k h base len (creditPut k 1 1 u) else ovDrop k u) s

/-- A LINK frame (R284). -/
def linkIn (k : Fin 6) (e : FrameEnd) (l : LinkInfo) (s : State) : State :=
  if (s.ov.ports[k]).state == .fenced || (s.ov.ports[k]).state == .disabled then s
  else match e with
    | .good => linkFrame k l s
    | .badCrc | .codeError | .k307 => (rx k e s).2

/-- A frame of an unlisted TYPE (R297). -/
def unlisted (k : Fin 6) (e : FrameEnd) (s : State) : State := onGood k e (fun u => ovDrop k u) s

/-! ### Class-0 frames -/

/-- An up frame that the acting root takes: a TRIP, YIELD or SUMMARY sets no register there (R297, R308). -/
def upIn (k : Fin 6) (e : FrameEnd) (ty : Nat) (f : Ov0) (s : State) : State :=
  onUp0 k e ty f (onceOnly f.paired f.src.toNat f.arg2.toNat f.corr.toNat id) s

/-- BAR_ACK and SNAP_ACK end at the parent (R303, R304). -/
def ackFrame (k : Fin 6) (e : FrameEnd) (kind : Nat) (f : Ov0) (s : State) : State :=
  onGood k e (fun u => if 2 ≤ k.val then opAck k kind f u else ovDrop k u) s

/-- TMARK (R300). -/
def tmarkIn (k : Fin 6) (e : FrameEnd) (f : Ov0) (s : State) : State :=
  onRoot0 k e 0x10 f (fun u => u.updOv (fun o => { o with
    tmark := some (f.arg0.toNat + f.arg1.toNat * 256, s.now, f.corr.toNat), tmarkCnt := o.gtime, tmarkAt := s.now })) s

/-- BARRIER (R303). -/
def barrierIn (k : Fin 6) (e : FrameEnd) (f : Ov0) (s : State) : State :=
  onRoot0 k e 0x11 f (fun u => opTry (opBegin 1 f.arg0.toNat none u)) s

/-- SNAP (R304): the capture instant is the root time of its departure plus the lead; a device that acts after it captures at
once. -/
def snapIn (k : Fin 6) (e : FrameEnd) (f : Ov0) (s : State) : State :=
  onRoot0 k e 0x12 f (fun u =>
    let at_ := u.ov.gtime - (f.corr.toNat + (u.ov.ports[k]).delay) + us f.arg1.toNat
    let v := opBegin 2 f.arg0.toNat (some { capAt := at_, late := at_ < u.ov.gtime }) u
    if at_ < u.ov.gtime then snapCapture v else opTry v) s

/-- RESET (R306). -/
def resetIn (k : Fin 6) (e : FrameEnd) (f : Ov0) (s : State) : State := onRoot0 k e 0x13 f cascadeReset s

/-- The domains of a mask. -/
def maskDoms (m : Nat) : List (Fin 8) := (List.finRange 8).filter (fun d => natBit m d.val)

/-- FTRIP (R298): a SHUTOFF of each domain of the mask; the standby refuses it (R183, R264). -/
def ftripIn (k : Fin 6) (e : FrameEnd) (f : Ov0) (s : State) : State :=
  onRoot0 k e 0x14 f (fun u =>
    if u.passive then (u.each (maskDoms f.arg0.toNat) (fun d v => seqRefuse d v)).when (f.arg0 != 0) twinRefuse
    else holdFollow (seqShutoff f.arg0.toNat u)) s

/-- FSTART (R298). -/
def fstartIn (k : Fin 6) (e : FrameEnd) (f : Ov0) (s : State) : State :=
  onRoot0 k e 0x15 f (fun u => u.each (maskDoms f.arg0.toNat) (fun d v => domStrobe d (seqStart d) v)) s

/-- ROOTCHG (R312): the root stops acting for the port it came over; a deputy that acts stops where its parent names the acting
root, as after the ROLE that may follow (log entry 153); any other device learns the new root. -/
def rootchgIn (k : Fin 6) (e : FrameEnd) (f : Ov0) (s : State) : State :=
  let r := rx k e s
  if !s.portUp k then r.2
  else if s.ov.acting && !(s.cfg.ov.role = 2 && k = 0) then
    r.2.when r.1 (fun u =>
      if u.cfg.ov.role = 1 && 2 ≤ k.val then u.updOv (fun o => { o with
        lostPorts := if o.lostPorts.contains k then o.lostPorts else o.lostPorts ++ [k] }) else ovDrop k u)
  else if k == s.upPort || (s.ov.acting && k = 0) then
    if !r.1 then c0On true 0x16 f r.2
    else if s.ov.acting then deputyYields f.src.toNat (c0On false 0x16 f r.2)
    else rootNamed f.src.toNat (c0On false 0x16 f r.2)
  else r.2.when r.1 (ovDrop k)

end Sys2Proof.Machine
end

