-- ==== Sys2Proof/Machine/PairServe.lean ====
section
/-! DEFINITION. The pair at work (spec/12_redundancy.md): the pair link and its frames, what the standby applies, hand-over,
take-over, ownership at start and in conflict, and the revert. -/
namespace Sys2Proof.Machine

/-! ### The link -/

/-- Whether the pair-link block is in reset or held. -/
def State.pairOff (s : State) : Bool := s.blockDown .pairLink

/-- The row PAIR_LINK_UP (R259). -/
def pairLinked (s : State) : State :=
  if s.pairLinks && s.running && !s.pair.linkUp && !s.pairOff then
    s.updPair (fun p => { p with
      linkUp := true
      stateSent := none
      unacked := []
      badTimes := []
      lastGood := some s.now
      diffs := 0
      lastSync := none
      twin := p.twin.map (fun h => { h with inStep := false }) })
  else s

/-- A link error: EV152 with its cause bit; the standby leaves step (R260). -/
def linkFault (bit : Nat) (s : State) : State :=
  fire 152 bit (s.updPair (fun p => { p with cause := p.cause ||| 2 ^ bit, inStep := false, stepAt := none, holdAt := none }))

/-- The row PAIR_LINK_LOSS (R259, R260, Table 12.6). -/
def pairDown (s : State) : State := watchYield (linkLost s)

/-- How the loss of the link comes, which the row does not say (R259): word alignment is lost, which takes no time, or 20 us have
passed since the last good frame. A free value decides. -/
def lossWait (s : State) : State :=
  let d := draw s
  if d.1 % 2 = 0 then d.2 else d.2.waitTill (s.pair.lastGood.map (· + us 20))

/-- The content of this unit's HEALTH frame (Table 12.2); it marks the origin of each present rail's timebase, and the receiver
takes the times. -/
def State.health (s : State) : Health :=
  { role := s.pair.role.code, cannotOwn := s.cannotOwn, grounds := BitVec.ofNat 7 s.grounds, inStep := s.inStepNow
    patCrc := BitVec.ofNat 32 s.patCrc, pairId := byteOf s.cfg.pair.pairId, fences := BitVec.ofNat 64 s.fenceSet
    snuffs := BitVec.ofNat 24 s.snuffSet
    marks := ((List.finRange 24).filter (fun r => (s.rails[r]).cfg.isSome)).map (fun r => (r, 0)), trip := 0, pref := s.glb.straps.pref, addr := s.glb.straps.addr
    busyWin := s.upd.proof.isSome || s.upd.trial.isSome
    staged := BitVec.ofNat 32 (if s.upd.stage == .verified then s.upd.imgId else 0)
    proved := s.upd.set.pat.proved.contains s.ch.seq
    order := BitVec.ofNat 32 (match s.seqAsks with | some q => q.imgId | none => 0)
    confirm := BitVec.ofNat 16 (match s.seqAsks with | some q => q.confirm | none => 0)
    ran := BitVec.ofNat 32 s.upd.ran }

/-- The content of a SYNC frame (R263). -/
def State.syncEntries (s : State) : List SyncEntry :=
  (List.finRange 24).filterMap (fun r =>
    let x := s.rails[r]
    if x.cfg.isSome then some ⟨r, x.stat x.inGrace % 256, x.idx, x.u.headD 0⟩ else none)

/-- The row PL_SYNC_HEALTH_SEND (R259): HEALTH from both units, SYNC from the active. -/
def syncHealth (s0 : State) : State :=
  let s := judgeStep s0
  if s.pairLinks && s.pair.linkUp && s.running then
    let t := if s.pair.role == .active then pairOut (.sync s.syncEntries) s else s
    pairOut (.health t.health) t
  else s

/-- The row PL_STATE_SEND (R259). -/
def stateRow (s : State) : State := if s.paired && s.pair.linkUp && s.running then sendState s else s

/-- The row PL_CTRL_RETRY_TIMER (R260): sent again, up to 3 times, and then a link error. An unacknowledged YIELD blocks the
yield (R270). -/
def ctrlRetry (seq : Nat) (s : State) : State :=
  match s.pair.unacked.find? (fun (c : CtrlOut) => c.seq == seq) with
  | none => s
  | some c =>
    if s.now < c.at_ + us 2 then s
    else if c.tries < 3 then
      send (.pair seq (.ctrl c.cmd)) (s.updPair (fun p => { p with
        unacked := p.unacked.map (fun x => if x == c then { x with tries := x.tries + 1, at_ := s.now } else x)
        retx := sat255 p.retx }))
    else
      let t := linkFault 1 (s.updPair (fun p => { p with
        unacked := p.unacked.filter (· != c), takeSent := p.takeSent && c.cmd != .takeReq }))
      if c.cmd == .yield && t.pair.yielding && t.pair.release.isNone then yieldBlock t else t

/-- The row PL_ACK (R260). -/
def ackIn (seq : Nat) (s : State) : State := s.updPair (fun p => { p with unacked := p.unacked.filter (fun c => c.seq != seq) })

/-- The row STREAM_FRAME_TIMEOUT (R259). -/
def streamLost (s : State) : State :=
  if s.paired && s.pair.linkUp then s.updPair (fun p => { p with crcTally := sat255 p.crcTally }) else s

/-! ### Yields and requests -/

/-- A YIELD received (R271, Table 12.6). -/
def yieldIn (s0 : State) : State :=
  let s := judgeStep s0
  if s.pair.role == .standby && s.pair.inStep && s.grounds == 0 then
    s.updPair (fun p => { p with handOver := some (p.handOver.getD {}) })
  else sendCtrl .refuse s

/-- A REFUSE received (R270, R276): the yield is blocked, or the automatic revert's hold-off starts again. -/
def refuseIn (s : State) : State :=
  if s.pair.role == .active then (if s.pair.yielding && s.pair.release.isNone then yieldBlock s else s)
  else s.updPair (fun p => { p with
    takeSent := false
    takeRevert := false
    holdAt := if p.takeRevert then some (s.now + sec s.cfg.pair.revertHold) else p.holdAt })

/-- A TAKE_REQ received (R276, R277, Table 12.6). -/
def takeIn (s : State) : State :=
  if s.pair.role == .active && s.grounds == 0 && s.twinStep && s.upd.proof.isNone && s.upd.trial.isNone then
    (if s.pair.yielding || s.pair.release.isSome then s else yieldBegin false s)
  else sendCtrl .refuse s

/-! ### Verdicts -/

/-- The active has reached a verdict of the standby (R265): the domain or the slot is down, the rail is snuffed. -/
def State.shares (s : State) : Verdict → Bool
  | .domain d => match (s.seq.doms[d]).state with
    | .starting | .up => false
    | .off | .wait | .stopping | .reverse | .latched | .absent => true
  | .runFault n => match (s.seq.slots[n]).state with
    | .up | .comingUp | .pending => false
    | .absent | .off | .goingDown | .downFail | .failed => true
  | .ovSnuff r => (s.rails[r]).state == .snuff
  | .firing _ _ => true

/-- A verdict received (R265), or a firing of the standby, which the active numbers and sends (R266). -/
def verdictIn (v : Verdict) (s : State) : State :=
  if s.pair.role == .active then
    match v with
    | .firing e int => sendFiring e int s
    | .domain _ | .runFault _ | .ovSnuff _ =>
      if s.shares v then s else s.updPair (fun p => { p with verdicts := p.verdicts ++ [(v, s.now)] })
  else s

/-- The row VERDICT_TIMEOUT (R265). -/
def verdictLate (s : State) : State :=
  let old := if s.paired then s.pair.verdicts.filter (fun x => x.2 + us 20 ≤ s.now) else []
  let bad := old.filter (fun x => !s.shares x.1)
  let t := s.updPair (fun p => { p with verdicts := p.verdicts.filter (fun x => !(x.2 + us 20 ≤ s.now)) })
  t.each bad (fun _ u => fire 153 5 (u.updPair (fun p => { p with cause := p.cause ||| 32 })))

/-! ### What the standby applies -/

/-- A direction-change command (R264): the active rides, or charges again. -/
def directionIn (discharge : Bool) (s : State) : State :=
  match s.battRail with
  | some r => if discharge then enterRide r s else enterCharge r s
  | none => s

/-- A forwarded command that acts at a compensator sample of a rail (R264). -/
def State.atSample (s : State) (r : Fin 24) (c : PairCmd) : Bool :=
  match c with
  | .snuff x | .unsnuff x | .shed x | .relight x _ _ => x == r
  | .direction _ => s.battRail == some r
  | .yield | .refuse | .takeReq | .fence _ | .unfence _ | .lampStep _ _ | .verdict _ | .shutoff _ | .trim _ _ => false

/-- What a forwarded command does to this unit's own streams and blocks (R264). -/
def fwdAct (c : PairCmd) (s : State) : State :=
  match c with
  | .fence n => fenceIn n s
  | .unfence n => unfencePhase n s
  | .snuff r => railSnuff r s
  | .unsnuff r => holdFollow (railUnsnuff r s)
  | .shed r => shedAnnounce r s
  | .relight r k trig => relightIn r k trig s
  | .direction b => directionIn b s
  | .lampStep n on => lampIn n on s
  | .yield | .refuse | .takeReq | .verdict _ | .shutoff _ | .trim _ _ => s

/-- The forwarded commands of a rail act at its compensator sample (R264). -/
def fwdSample (r : Fin 24) (s : State) : State := fwdTake (s.atSample r) fwdAct s

/-- Whether the edge, sample or tick at which a forwarded command acts is still to come (R264): the engine of a phase switches,
the error ADC of a rail samples, the lamplighter ticks. Where none comes, the command acts at once (log entry 154). -/
def State.fwdWaits (s : State) (c : PairCmd) : Bool :=
  match c with
  | .fence n | .unfence n => s.arch.islands.pwm == .running && s.phases[n].switching
  | .snuff r | .unsnuff r | .shed r | .relight r _ _ => s.arch.islands.errorAdc[r] == .running && s.rails[r].cfg.isSome
  | .direction _ => s.battRail.any (fun r => s.arch.islands.errorAdc[r] == .running)
  | .lampStep _ _ => s.running
  | .yield | .refuse | .takeReq | .verdict _ | .shutoff _ | .trim _ _ => false

/-- A command of the active arrives at the standby: it waits for the moment at which it acts (R264). -/
def fwdArrive (c : PairCmd) (s : State) : State :=
  if s.fwdWaits c then s.updPair (fun p => { p with fwd := p.fwd ++ [c] }) else fwdAct c s

/-- A forwarded trim, or a forwarded NOSHED (R264). -/
def trimIn (a v : Nat) (s : State) : State :=
  if 0x0600 ≤ a && a < 0x0900 && a % 32 = 4 then
    (match toRail ((a - 0x0600) / 32) with | some r => hostNoshed r (natBit v 3) s | none => s)
  else applyTrim a v s

/-- One rail of a SYNC frame (R263): the difference at the frame's index goes into the stored u. An index that this unit no
longer or not yet holds is taken over, with the latest value as its own. The twin's RAIL_STAT is kept (R257). -/
def syncRail (e : SyncEntry) (s : State) : State :=
  s.updRail e.rail (fun x =>
    let back := (x.idx + 65536 - e.index % 65536) % 65536
    let held := x.uPast[back]?
    let diff := e.u1 - (match held with | some v => v | none => x.u.headD 0)
    { x with
      peer := e.state % 256
      idx := if held.isSome then x.idx else e.index % 65536
      u := x.u.map (· + diff)
      uPast := x.uPast.map (· + diff) })

/-- A SYNC frame (R263). -/
def syncIn (l : List SyncEntry) (s0 : State) : State :=
  let s := judgeStep s0
  if s.pair.role == .standby then
    judgeStep ((s.each l (fun e u => syncRail e u)).updPair (fun p => { p with lastSync := some s.now }))
  else s

/-- A rail of an active domain that this standby joins: it regulates at its target. -/
def joinRail (r : Fin 24) (s : State) : State :=
  if (s.rails[r]).state == .rampUp then rampUpEnd r (s.updRail r (fun x => { x with vref := (x.vtgt : Int) * 8 })) else s

/-- SEQ_DOM_STAT.STATE by code. -/
def DomState.ofCode (n : Nat) : DomState :=
  match n with
  | 0 => .off | 1 => .wait | 2 => .starting | 3 => .up | 4 => .stopping | 5 => .reverse | 6 => .latched | _ => .absent

/-- BC_STAT.STATE by code. -/
def CartState.ofCode (n : Nat) : CartState :=
  match n with | 1 => .absent | 2 => .checking | 3 => .inUse | 4 => .retired | 5 => .excluded | _ => .disabled

/-- SEQ_SL_STAT.STATE by code. -/
def SlotState.ofCode (n : Nat) : SlotState :=
  match n with | 1 => .off | 2 => .pending | 3 => .comingUp | 4 => .up | 5 => .goingDown | 6 => .downFail | 7 => .failed | _ => .absent

/-- What a stop ends in, by code. -/
def AfterStop.ofCode (n : Nat) : AfterStop := match n with | 1 => .wait | 2 => .latched | _ => .off

/-- A time of the sender's clock on this unit's, and a tick of the sender on this unit's count. -/
def State.timeOf (s : State) (t : TwinShared) (x : Nat) : Nat := ((s.now : Int) + x - t.clock).toNat
/-- A tick of the sender on this unit's count. -/
def State.tickOf (s : State) (t : TwinShared) (x : Nat) : Nat := ((s.seq.tick : Int) + x - t.tick).toNat

/-- The standby takes over a slot (R185, R268): it switches on what the active has on, it starts the off ramp of what is past its
off point in a stop and cuts what is off, and it keeps the planned ticks. -/
def adoptSlot (t : TwinShared) (x : TwinSlot) (new : DomState) (n : Fin 48) (s : State) : State :=
  let st := SlotState.ofCode x.state
  let on := (s.seq.slots[n]).en
  let a :=
    if !x.pastOff && !on then
      (let u := slotOn n s
       if st == .up then (match u.slotRail n with | some r => joinRail r u | none => u) else u)
    else if x.pastOff && on then (if x.falling && !new.isOff then slotOff n s else cutSlot n s)
    else s
  a.updSlot n (fun y => { y with
    state := if st == .absent then y.state else st
    onAt := s.tickOf t x.onAt
    upBy := s.tickOf t x.upBy
    offAt := s.tickOf t x.offAt
    downBy := s.tickOf t x.downBy
    pastOff := x.pastOff
    falling := x.falling
    planned := x.planned })

/-- The standby takes over a domain and its slots, so that it can go on with a sequence (R185, R268, Table 12.6). -/
def adoptDom (t : TwinShared) (d : Fin 8) (s : State) : State :=
  let new := DomState.ofCode (t.domains.getD d.val 7)
  if (s.seq.doms[d]).cfg.isNone || new == .absent then s
  else
    let a := match t.plans[d.val]? with
      | some p => s.updDom d (fun x => { x with
          state := new
          after := AfterStop.ofCode p.after
          req := p.req
          auto := p.auto
          minOffAt := p.minOff.map (s.timeOf t)
          restartAt := p.restart.map (s.timeOf t)
          faults := p.faults.map (s.timeOf t)
          inQ := p.inQ
          afresh := p.afresh
          qualAt := p.qualAt.map (s.timeOf t) })
      | none => s.updDom d (fun x => { x with state := new })
    a.each (a.slotsOf d) (fun n u => match t.slots[n.val]? with
      | some x => adoptSlot t x new n u
      | none => u)

/-- One port of a STATE frame (R155): the notices, TN and DIM_ID of the port and of each rail, and the stored response. -/
def adoptPort (p : Fin 8) (x : TwinPort) (s : State) : State :=
  s.updPort p (fun q => { q with
    tn := x.tn.toNat
    dimId := x.dimId.toNat
    prev := x.stored.map (fun r => (⟨r.cmd, r.sub, r.tog, r.payload⟩, r.code, r.data))
    subs := Vector.ofFn (fun (k : Fin 4) =>
      let n := q.subs[k]
      let t := x.tns.getD k.val (n.tn, n.tnDone)
      let d := x.dims.getD k.val (n.dimId, n.dimLimit)
      { n with
        settled := x.settled.getLsbD k.val
        sfail := x.sfail.getLsbD k.val
        dim := x.dim.getLsbD k.val
        fault := x.fault.getLsbD k.val
        tn := t.1
        tnDone := t.2
        dimId := d.1
        dimLimit := d.2 }) })

/-- A bank of a STATE frame. -/
def Bank.ofTuple (b : Nat × Nat × Nat × Nat) : Bank := ⟨b.1, b.2.1, b.2.2.1, b.2.2.2⟩

/-- The standby takes over a cartridge (R240). -/
def adoptCart (t : TwinShared) (i : Fin 16) (s : State) : State :=
  match t.carts[i.val]? with
  | none => s
  | some c =>
    s.updCart i (fun x =>
      let n := t.counters.getD i.val (x.thru, x.dis)
      { x with
        state := CartState.ofCode c.state
        why := c.why
        warned := c.warned
        retired := c.retired
        authOk := c.authOk
        serial := c.serial
        typ := c.typ
        capAh := c.capAh
        ratedEfc := c.ratedEfc
        ratedAh := c.ratedAh
        bankA := c.bankA.map Bank.ofTuple
        bankB := c.bankB.map Bank.ofTuple
        thru := n.1
        dis := n.2
        authDone := s.timeOf t c.authDone
        dueWhy := c.dueWhy
        fenced := c.fenced
        examDue := c.examDue })

/-- The standby takes over the hold-up state (R240): its phases switch as the state says, and a ride goes on from where it
is. -/
def adoptHold (t : TwinShared) (s : State) : State :=
  let new := HuState.ofCode t.huState
  match s.battRail with
  | none => s
  | some r =>
    let was := s.hold.state
    let a :=
      if new == was then s
      else match new with
        | .charge => enterCharge r s
        | .idle => enterIdle r s
        | .ride => if was == .handback then s.updHold (fun h => { h with state := .ride, handAt := none }) else enterRide r s
        | .handback => (if s.hold.riding then s else enterRide r s).updHold (fun h => { h with
            state := .handback, handAt := some s.now })
        | .spent => holdDrop r (s.updHold (fun h => { h with state := .spent }))
        | .off | .none => s.updHold (fun h => { h with state := .off })
    a.updHold (fun h => { h with rideAt := s.timeOf t t.rideAt, rideAh := ⟨t.rideAh.1, max 1 t.rideAh.2⟩ })

/-- The standby takes over the dim level of its active: a change counts as one, and is logged as one (R212, R215). -/
def adoptDim (k : Nat) (s : State) : State :=
  if k = s.hk.k then s
  else applyDim (logStep 3 1 (Config.logField 3 1 0) k (s.updHk (fun h => { h with k := k, lastK := some s.now })))

/-- The standby takes over the ports' shared state (R155). -/
def adoptPorts (t : TwinShared) (s : State) : State :=
  s.each (List.finRange 8) (fun p u => match t.ports[p.val]? with
    | some x => if (u.ports[p]).cfg.isSome then adoptPort p x u else u
    | none => u)

/-- The standby takes over the shared state (Table 12.2, R155, R185, R212, R240), the notices last, so that nothing that it
announces itself on the way stays. -/
def adopt (t : TwinShared) (s : State) : State :=
  let c := s.each (List.finRange 16) (fun i u => if u.cartOn i then adoptCart t i u else u)
  let d := adoptHold t (c.each (List.finRange 8) (fun i u => adoptDom t i u))
  adoptPorts t (adoptDim t.dimK (capRecompute (d.updHold (fun h => { h with cap := t.cap.toNat, capRoot := t.capRoot.toNat }))))

/-- A STATE frame (Table 12.2). -/
def stateIn (t : TwinShared) (s : State) : State :=
  let a := s.updPair (fun p => { p with twinSt := some t })
  judgeDiffs (judgeStep (if a.pair.role == .standby then adopt t a else a))

/-- A REPORT frame (R215). -/
def reportIn (r : TwinReport) (s : State) : State :=
  s.updPair (fun p => { p with twinRep := some { r with max := match r.max with | some m => some m | none => p.twinRep.bind (·.max) } })

/-- A STREAM frame (R266): the standby sends its copy. -/
def streamIn (m : StreamMsg) (s : State) : State :=
  if s.pair.role == .standby then
    let n := m.pseq.toNat
    let t := s.updPair (fun p => { p with seenPseq := if (n + 65536 - p.seenPseq) % 65536 < 32768 then n else p.seenPseq })
    if m.attn then
      (if t.cfg.host.attnAddr != 0 && !t.hb.fenced && !t.blockHeld .hostBus then
        attnPush ⟨n, true, t.pair.own, (m.bytes.getD 2 0).toNat, (m.bytes.getD 3 0).toNat, leNat ((m.bytes.drop 4).take 2),
          leNat ((m.bytes.drop 6).take 8), 0⟩ t
       else t)
    else
      match frameOf m.bytes with
      | .c0 ty f => c0Origin ty { f with twin := !t.glb.straps.pref } t
      | .cN c ty h pl => ovOut (.cN c ty { h with twin := !t.glb.straps.pref } pl) t
  else s

/-! ### Ownership -/

/-- The hold-off of the automatic revert runs while its conditions hold (R276). -/
def judgeHold (s : State) : State :=
  let ok := s.pair.role == .standby && s.actsPref && s.cfg.pair.autoRevert != 0 && !s.pair.noRevert && s.pair.inStep &&
    s.grounds == 0 && s.upd.pairSeq.isNone && (match s.pair.twin with | some h => h.order == 0 | none => true)
  s.updPair (fun p => { p with holdAt := if ok then some (p.holdAt.getD (s.now + sec s.cfg.pair.revertHold)) else none })

/-- The new owner of the module bus examines the cartridges that wait for it (R235, R240). -/
def takeBus (s : State) : State :=
  s.each (List.finRange 16) (fun c u => if (u.carts.carts[c]).state == .checking then examine c u else u)

/-- OWN_N is asserted at the start (R268); the unit goes on from the highest number it has seen (R266). -/
def ownFirst (s : State) : State :=
  watchOwn (takeBus (logBare 7 1 (s.updPair (fun p => { p with
    role := .active, own := true, drivers := true, pseq := (p.seenPseq + 64) % 65536 }))))

/-- The unit becomes STANDBY at the start (R268). -/
def standFirst (s : State) : State := watchOwn (s.updPair (fun p => { p with role := .standby }))

/-- The PREF unit of two undecided ones takes ownership once the twin reports UNDECIDED or STANDBY (R268). -/
def decideLink (h : Health) (s : State) : State :=
  if s.pair.role == .undecided && !s.pair.peer && s.actsPref && !s.cannotOwn && (h.role = 3 || h.role = 2) then ownFirst s else s

/-- The timebase offset of a rail from its active's, by a mark: what the link delay takes is taken off (R262). -/
def markOffset (delay : Int) (m : Fin 24 × Int) : Int := m.2 - delay

/-- The marks of the active (R262): the standby measures the link delay by the round trip, keeps the largest offset, and places
each rail's timebase origin at the active's. -/
def alignIn (h : Health) (s : State) : State :=
  if s.pair.role == .standby then
    let delay : Int := (h.trip / 2 : Nat)
    s.updPair (fun p => { p with
      delay := delay
      align := h.marks.foldl (fun a m => if a.natAbs < (markOffset delay m).natAbs then markOffset delay m else a) 0
      origins := h.marks.foldl (fun o m => o.upd m.1 (fun x => x + markOffset delay m)) p.origins })
  else s

/-- A HEALTH frame (R261, R262, R268, R276, R376). -/
def healthIn (h : Health) (s : State) : State :=
  let t := alignIn h (s.updPair (fun p => { p with twin := some h, prefClash := h.pref == s.glb.straps.pref }))
  judgeHold (seqHealth h (judgeDiffs (judgeStep (decideLink h t))))

/-- The row OWNERSHIP_DECISION (R268, R279). -/
def decide100 (s : State) : State :=
  if s.paired && s.running then
    let t := if s.pair.role != .undecided then s
      else if s.pair.peer then standFirst s
      else if s.actsPref && !s.cannotOwn then (if s.pair.readyAt + ms 100 ≤ s.now then ownFirst s else s)
      else if s.now < s.pair.readyAt + ms 200 then s
      else if !s.cannotOwn && (!s.pair.linkUp || (match s.pair.twin with | some h => h.cannotOwn | none => false)) then ownFirst s
      else standFirst s
    if t.pair.twin.isNone && !t.pair.alone && t.pair.readyAt + ms 200 ≤ t.now then
      fire 152 0 (t.updPair (fun p => { p with alone := true, cause := p.cause ||| 1 }))
    else t
  else s

/-- Something of R271 is pending at an origin: a command of the active not yet applied, a shed not yet complete, a direction change
or a re-light not yet taken, or a demand of 0 on a running phase. -/
def State.handPends (s : State) : Bool :=
  !s.pair.fwd.isEmpty ||
  s.phases.toList.any (fun p => p.state == .shedPend || (p.state == .active && p.dir != p.dirCmd) || p.again) ||
    s.rails.toList.any (fun x => !x.shedSet.isEmpty ||
      ((x.state == .regulating || x.state == .rampUp || x.state == .rampDown) && x.pulsed && x.demand == 0))

/-- The row HANDOVER_ORIGIN (R271, R276). -/
def handOrigin (s : State) : State :=
  match s.pair.handOver with
  | none => s
  | some h =>
    if s.pair.role != .standby || s.cannotOwn then s
    else if s.handPends && h.deferrals < 4 then s.updPair (fun p => { p with handOver := some { deferrals := h.deferrals + 1 } })
    else
      let revert := s.pair.takeSent && s.pair.takeRevert
      let t := takeBus (ownTake 0 (s.updPair (fun p => { p with
        hoForced := p.hoForced || s.handPends
        takeRevert := false
        holdAt := none
        reverts := if revert then p.reverts ++ [s.rtc] else p.reverts })))
      watchOwn (seqOwned true t)

/-- A take-over on peer loss (R274). -/
def takeOver (s0 : State) : State :=
  let s := judgeStep s0
  seqOwned false (takeBus (ownTake 1 (s.updPair (fun p => { p with
    takeStale := p.takeStale || !s.pair.inStep, takeRevert := false, holdAt := none }))))

/-- The row PEER_OWN_N_CHANGE (R268, R271, R274). The pin is followed in every mode. -/
def peerChange (on : Bool) (s : State) : State :=
  let t := s.updPair (fun p => { p with peer := on })
  if !(s.paired && s.running) then t
  else
    let u :=
      if on then
        (match t.pair.role with
          | .undecided => standFirst t
          | .active => if t.pair.release.isNone then
              t.updPair (fun p => { p with release := some (s.now + s.cfg.pair.selTime + 50) }) else t
          | .standby | .single => t)
      else if s.pair.peer && t.pair.role == .standby && !t.cannotOwn then takeOver t
      else t
    watchOwn u

/-- The row OWN_RELEASE (R270, R271). -/
def ownReleased (s : State) : State :=
  if s.paired && due s.now s.pair.release then
    let t := fire 150 0 (ownDrop (s.updPair (fun p => { p with yielding := false, yieldGround := false, yields := sat255 p.yields })))
    watchOwn (seqOwned true (carryHeld t))
  else s

/-- EV155 with its cause bit (R275). -/
def ownFault (bit : Nat) (s : State) : State := fire 155 bit (s.updPair (fun p => { p with cause := p.cause ||| 2 ^ bit }))

/-- The PREF unit of a pair that neither owns does not take ownership: a ground stands on it, or it cannot own. -/
def State.otherUnfit (s : State) : Bool :=
  match s.pair.twin with | some h => h.grounds != 0 || h.cannotOwn || !s.pair.linkUp | none => true

/-- EV155 with its cause bit, once for as long as the condition persists (R243, R275). -/
def ownFaultOnce (bit : Nat) (s : State) : State :=
  if s.pair.ownFired then s else (ownFault bit s).updPair (fun p => { p with ownFired := true })

/-- The row OWN_CONFLICT (R275). -/
def ownConflict (s : State) : State :=
  if !s.paired then s
  else if due s.now (s.pair.bothAt.map (· + s.refPeriod)) then
    let t := ownFaultOnce 7 s
    if t.actsPref then t else watchOwn (seqOwned false (ownDrop t))
  else if due s.now (s.pair.noneAt.map (· + s.refPeriod)) then
    let t := ownFaultOnce 8 s
    if !t.cannotOwn && (if t.actsPref then t.grounds == 0 else t.otherUnfit) then watchOwn (seqOwned false (takeBus (ownTake 1 t))) else t
  else s

/-- The reverts within the last 60 min of the real-time clock (R276). -/
def flapAge (s : State) : State := s.updPair (fun p => { p with reverts := p.reverts.filter (fun t => s.rtc < t + 3600) })

/-- The row REVERT_HOLD_EXPIRY (R276). -/
def revertDue (s0 : State) : State :=
  let s := judgeHold (judgeStep s0)
  if due s.now s.pair.holdAt then
    let t := flapAge s
    if t.pair.reverts.length ≥ t.cfg.pair.flapLimit then
      fire 154 6 (t.updPair (fun p => { p with
        cause := p.cause ||| 64, holdAt := some (s.now + sec s.cfg.pair.revertHold) }))
    else sendCtrl .takeReq (t.updPair (fun p => { p with takeSent := true, takeRevert := true, holdAt := none }))
  else s

/-- The row GROUND_HOLD_EXPIRY (R269): a ground whose second has passed stands no more. -/
def groundAge (s : State) : State :=
  judgeHold (judgeStep (s.updPair (fun p => { p with
    grounds := p.grounds.map (fun g => if !g.cond && due s.now g.until_ then { g with until_ := none } else g) })))

end Sys2Proof.Machine
end

