-- ==== Sys2Proof/Machine/SpOps.lean ====
section
/-! DEFINITION. The service port (spec/16_update.md R361 to R365, spec/11_faults.md R255): requests, fetches, sessions and
commands. -/
namespace Sys2Proof.Machine

/-- One byte through CRC-16-CCITT, polynomial 0x1021, not reflected (R363). -/
def crc16Step (c : Nat) (b : Byte) : Nat :=
  (List.range 8).foldl (fun x _ => if x ≥ 32768 then ((2 * x) % 65536) ^^^ 0x1021 else 2 * x) (c ^^^ (b.toNat * 256))

/-- CRC-16-CCITT of bytes (R363). -/
def crc16 (bs : List Byte) : Nat := bs.foldl crc16Step 0xFFFF

/-- The port takes requests: it is neither fenced, held nor in a block reset, and the part is up, or waits for the factory
key, or is in factory test mode (R255, R361, Table 11.4). -/
def State.spOn (s : State) : Bool :=
  !s.sp.fenced && !s.blockDown .servicePort &&
  (s.running || s.mode == .testWait || s.mode == .test || (s.mode == .start && 11 ≤ s.step))

/-- Put a response. -/
def spAnswer (status tag : Nat) (payload : List Byte) (s : State) : State :=
  s.updSp (fun p => { p with resp := ⟨status, tag, payload⟩ })

/-- What a command answers: its status, its payload, and the state after it. -/
abbrev SpAct := State → Nat × List Byte × State

/-- The bytes of a request that its CRC covers, from CMD to the end of the payload (R362, R363): the payload is its fields, or one
of another length. -/
def spCovered (cmd tag : Nat) (fields : List Byte) (q : SpEnd) : List Byte :=
  let p := q.odd.getD fields
  [byteOf cmd, byteOf tag] ++ leBytes 2 p.length ++ p

/-- The request's CRC holds (R363). -/
def spCrcOk (cmd tag : Nat) (fields : List Byte) (q : SpEnd) : Bool := crc16 (spCovered cmd tag fields q) == q.crc.toNat

/-- A command whose payload has a length that it does not have (Table 16.2) is answered BAD_ARG where the command is allowed
(log entry 151). -/
def spJudge (q : SpEnd) (act : SpAct) : SpAct := fun s =>
  let r := act s
  if q.odd.isNone || r.1 = 3 || r.1 = 5 then r else (4, [], s)

/-- A request (R362, R364): one with a bad CRC is not executed and counts; one that repeats CMD and TAG of the previous good
request is not executed again, and its stored response stands. -/
def spRequest (cmd tag : Nat) (fields : List Byte) (q : SpEnd) (act : SpAct) (s : State) : State :=
  if !s.spOn then s
  else if !spCrcOk cmd tag fields q then
    let t := (addTally 21 1 s).updSp (fun p => { p with badTag := some tag, badRun := p.badRun + 1 })
    if 8 ≤ t.sp.badRun then fire 176 0 (closeSession (t.updSp (fun p => { p with badRun := 0 }))) else t
  else
    let t := toggle .spFrame (s.updSp (fun p => { p with badRun := 0, badTag := none, lastGood := s.now }))
    if s.sp.prev == some (cmd, tag) then t
    else
      let r := spJudge q act (t.updSp (fun p => { p with prev := some (cmd, tag) }))
      spAnswer r.1 tag r.2.1 r.2.2

/-- A command that needs an open session of one of some modes (R365, Table 16.3). -/
def inSession (modes : List Nat) (act : SpAct) : SpAct := fun s =>
  match s.sp.mode with
  | none => (5, [], s)
  | some m => if modes.contains m then act s else (3, [], s)

/-- The answer to an operation of update that may be refused: REFUSED carries UPD_REASON (Table 16.2). -/
def spTry (r : Nat × State) : Nat × List Byte × State :=
  if r.1 = 0 then (0, [], r.2) else (7, leBytes 2 r.2.updReason, r.2)

/-- An operation of update: its steps pause while the supervisor core does not run (Table 1.4), and the request is refused
with reason 8 (log entry 70). -/
def spUpdate (f : State → Nat × State) : SpAct := fun s =>
  if s.coreUp .supervisor then spTry (f s) else spTry (7, s.updUpd (fun u => { u with why := 8 }))

/-- A memory write of a request that has begun: PENDING until it ends (R362, R65). -/
def spPending (r : Nat × List Byte × State) : Nat × List Byte × State :=
  if r.1 = 0 && (r.2.2.ch.writing .staging || r.2.2.ch.writing .factory) then (1, [], r.2.2)
  else r

/-! ### The commands -/

/-- OPEN (R365): one session at a time. -/
def spOpenDo (mode : Nat) : SpAct := fun s =>
  if s.mode == .testWait || s.sp.mode.isSome then (3, [], s)
  else if 2 < mode then (4, [], s)
  else
    let ok : Bool := match mode with
      | 0 => s.cfg.sp.readout
      | 1 => s.cfg.sp.update
      | _ => s.mode == .test || s.ch.blank
    if ok then (0, [], s.updSp (fun p => { p with mode := some mode })) else (6, [], s)

/-- CLOSE. -/
def spCloseDo : SpAct := inSession [0, 1, 2] (fun s => (0, [], closeSession s))

/-- INFO (Table 16.3). -/
def spInfoDo : SpAct := inSession [0, 1, 2] (fun s =>
  (0, leBytes 2 0x7720 ++ leBytes 2 s.updFw ++ leBytes 2 s.chdStat ++ leBytes 4 s.ch.seq ++ leBytes 2 s.updStat ++
    leBytes 2 s.updReason, s))

/-- Where a READ space ends (R337, R365). -/
def State.spSpace (s : State) (space : Nat) : Nat :=
  match space with
  | 0 => 8388608 | 1 => 131072 | 2 => 65536
  | 3 => (s.ch.region 5).2.2
  | 4 => if s.ch.blank then 0 else s.ch.image.stored.length
  | 5 => s.ch.image.bytes.length
  | _ => 0

/-- A READ space or a device cannot be read now: its memory is in reset or held (R245, R247). A read of it is answered MEM_FAIL
(DESIGN CHOICE, log entry 156). -/
def State.memDown (s : State) (space : Nat) : Bool := (space == 3 || (space == 4 && !s.ch.blank)) && s.blockDown .memory

/-- READ (R365). -/
def spReadDo (space ofs count : Nat) : SpAct := inSession [0, 1] (fun s =>
  if 5 < space || count = 0 || 1024 < count || s.spSpace space < ofs + count then (4, [], s)
  else if s.memDown space then (8, [], s)
  else
    let t := spaceFetch space ofs s
    (0, (List.range count).map (fun i => s.spaceByte space (ofs + i)), if space = 1 then { t with free := t.free + 131072 } else t))

/-- STAGE_BEGIN (R367). -/
def spStageBeginDo (h : List Byte) : SpAct := inSession [1] (fun s =>
  if h.length != 256 then (4, [], s)
  else if !s.coreUp .supervisor then spUpdate (fun t => (0, t)) s
  else
    let r := stageBegin h false s
    spPending (if r.1 = 7 then spTry r else (r.1, [], r.2)))

/-- STAGE_DATA (R367). -/
def spStageDataDo (ofs : Nat) (data : List Byte) : SpAct := inSession [1] (fun s =>
  if 1024 < data.length then (4, [], s)
  else if !s.coreUp .supervisor then spUpdate (fun t => (0, t)) s
  else (let r := stageData ofs data false s; spPending (r.1, [], r.2)))

/-- STAGE_ABORT (R367): a staging of this path is ABANDONED. -/
def spAbortDo : SpAct := inSession [1] (spUpdate (fun s =>
  (0, if (match s.upd.staging with | some g => !g.ov | none => false) then stageAbandon s else s)))

/-- ACTIVATE (R370, R374, R379). -/
def spActivateDo (imgId confirm at_ : Nat) : SpAct := inSession [1] (fun s =>
  if confirm = 0 || 600 < confirm then (4, [], s)
  else spUpdate (fun t =>
    if at_ = 0 then activateNow imgId confirm t
    else if t.paired && t.pair.role != .active then (7, t.updUpd (fun u => { u with why := 5 }))
    else scheduleAt ⟨0, imgId, confirm, at_, false⟩ t) s)

/-- CANCEL (R375, R379). -/
def spCancelDo : SpAct := inSession [1] (spUpdate (fun s => (0, cancelNow s)))

/-- REVERT (R370, R375). -/
def spRevertDo (kind : Nat) : SpAct := inSession [1] (fun s =>
  if kind = 1 then spUpdate revertPat s else if kind = 2 then spUpdate revertFw s else (4, [], s))

/-- CONFIRM (R374). -/
def spConfirmDo : SpAct := inSession [1] (spUpdate (fun s => (0, confirmProof s)))

/-- A device of the factory commands: 0 or 1, with an address below 2 GiB (R61). -/
def memArgOk (dev ofs n : Nat) : Bool := dev ≤ 1 && ofs + n ≤ 2147483648

/-- MEM_ERASE (R365): a 4 KiB sector. -/
def spEraseDo (dev ofs : Nat) : SpAct := inSession [2] (fun s =>
  if !memArgOk dev ofs 4096 || ofs % 4096 != 0 then (4, [], s)
  else spPending (0, [], memBegin (if s.ch.isNor dev then [{ dev := dev, use := .factory, ofs := ofs, erase := true }]
    else programOps .factory dev ofs (List.replicate 4096 0xFF)) s))

/-- MEM_WRITE (R365): within one 256-byte page. -/
def spWriteDo (dev ofs : Nat) (data : List Byte) : SpAct := inSession [2] (fun s =>
  if !memArgOk dev ofs data.length || data.isEmpty || 256 < data.length || 256 < ofs % 256 + data.length then (4, [], s)
  else spPending (0, [], memBegin (programOps .factory dev ofs data) s))

/-- MEM_READ (R365). -/
def spMemReadDo (dev ofs count : Nat) : SpAct := inSession [2] (fun s =>
  if !memArgOk dev ofs count || count = 0 || 1024 < count then (4, [], s)
  else if s.blockDown .memory then (8, [], s)
  else (0, s.ch.memBytes dev ofs count, memFetch dev ofs s))

/-- KEY_WRITE (R365): 32 bytes into slots 0 to 3, 64 bytes into slot 4. -/
def spKeyDo (slot : Nat) (key : List Byte) : SpAct := inSession [2] (fun s =>
  if h : slot < 5 then
    (if key.length = (if slot = 4 then 64 else 32) then
      (0, [], s.updUpd (fun u => { u with keys := u.keys.set slot (some key) }))
     else (4, [], s))
  else (4, [], s))

/-- TEST_CHALLENGE (R255): with TEST_N low only. -/
def testChallengeDo : SpAct := fun s =>
  if s.glb.straps.testN then (3, [], s)
  else
    let c := Config.challenge s.free
    (0, leBytes 8 Config.devUid.toNat ++ c, { (s.updEv (fun e => { e with challenge := some c })) with free := s.free + 1 })

/-- TEST_ENTER (R255): the challenge is spent, whatever the answer. -/
def testEnterDo (auth : List Byte) : SpAct := fun s =>
  if s.glb.straps.testN then (3, [], s)
  else if auth.length != 32 then (4, [], s)
  else
    let good := match s.ev.challenge with
      | some c => s.ev.testBad < 3 &&
          auth == hmacSha256 (leBytes 32 Config.factoryKey.toNat) (c ++ leBytes 8 Config.devUid.toNat)
      | none => false
    let t := s.updEv (fun e => { e with challenge := none })
    if good then (0, [], { t with mode := if t.mode == .testWait then .test else t.mode })
    else (7, [], t.updEv (fun e => { e with testBad := e.testBad + 1 }))

/-- A CMD that Table 16.3 does not list (R365). -/
def unknownDo : SpAct := fun s => (3, [], s)

/-- The response to the latest request (R362, R364). -/
def SpS.answer (p : SpS) : SpResp := match p.badTag with | some t => ⟨2, t, []⟩ | none => p.resp

/-- A fetch (R362): 0xFF, then the response and its CRC. -/
def fetchResp (s : State) : State :=
  if s.spOn then
    let r := s.sp.answer
    let body := [byteOf r.status, byteOf r.tag] ++ leBytes 2 r.payload.length ++ r.payload
    s.updSp (fun p => { p with rdata := 0xFF :: body ++ leBytes 2 (crc16 body) })
  else s.updSp (fun p => { p with rdata := [] })

/-- The row SP_SESSION_TIMEOUT (R365). -/
def sessionTimeout (s : State) : State :=
  if s.sp.mode.isSome && s.sp.lastGood + sec s.cfg.sp.sessionTo ≤ s.now then fire 176 1 (closeSession s) else s

/-- The row OV_STAGING_SILENCE (R367). -/
def ovSilence (s : State) : State :=
  match s.upd.staging with
  | some g => if g.ov && s.upd.stage == .staging && g.last + sec s.cfg.sp.sessionTo ≤ s.now then stageAbandon s else s
  | none => s

end Sys2Proof.Machine
end

