-- ==== Sys2Proof/Machine/Deadlines.lean ====
section
/-! DEFINITION. The moment for which each command that ends a wait has waited, where the wait is in progress (log entry 11).
A moment is given in nanoseconds of the model's clock, unless it is said to be of global time or a tick of the lamplighter. -/
namespace Sys2Proof.Machine

/-- A moment that counts only while a condition holds. -/
def onlyIf (b : Bool) (d : Option Nat) : Option Nat := if b then d else none

/-- The earliest of several moments. -/
def earliest (l : List Nat) : Option Nat := l.min?

/-! ### Start, supplies and memory -/

/-- The qualify time of a feed (R53). -/
def State.feedDue (s : State) (f : Fin 2) : Option Nat :=
  onlyIf (s.feedsOn && !(s.feeds[f]).qual) ((s.feeds[f]).since.map (· + ms s.auxQual))
/-- A memory write has taken longer than its timeout (R65). -/
def State.memDue (s : State) : Option Nat := s.ch.memOp.map (fun o => o.started + ms (if o.erase then 400 else 5) + 1)
/-- A segment that the scrub has visited in this period is visited again in the next (R72). -/
def State.scrubDue (s : State) (seg : Nat) : Option Nat :=
  onlyIf (s.running && s.ch.seen.contains seg) (some (s.ch.scrubAt + ms s.cfg.device.scrub))
/-- SLEEP_IDLE seconds with every domain off (R76). -/
def State.idleDue (s : State) : Option Nat :=
  onlyIf (s.mode == .ready && s.cfg.device.sleepPolicy == 2 && s.cfg.device.sleepIdle != 0)
    (s.slp.idleAt.map (· + sec s.cfg.device.sleepIdle))
/-- SLP_ALARM in sleep (R78). -/
def State.alarmDueAt (s : State) : Option Nat := onlyIf (s.mode == .sleep) s.slp.alarmAt
/-- FAULT_N's 10 ms (R251). -/
def State.faultnDue (s : State) : Option Nat := onlyIf (s.cfg.device.faultnMode != 1) (s.ev.lastErr.map (· + ms 10))

/-! ### Rails and ports -/

/-- The dwell timer of a rail, with no hold-off running (R122). -/
def State.dwellDue (s : State) (r : Fin 24) : Option Nat :=
  let x := s.rails[r]
  onlyIf (x.state == .regulating && !x.noshed && x.shedSet.isEmpty && x.holdAt.isNone) x.dwellAt
/-- The first grace of a rail's reduction to end (R151). -/
def State.graceDue (s : State) (r : Fin 24) (k : LimitKind) : Option Nat := earliest ((s.rails[r].term k).pend.map (·.2))
/-- The settle timer of a rail (R146). -/
def State.settleDue (s : State) (r : Fin 24) : Option Nat :=
  onlyIf ((s.portOf r).isSome && (s.notice r).pending) (s.notice r).settleAt

/-! ### The lamplighter -/

/-- The next tick, 10 us after the latest (R159); one that comes from the self-timed oscillator comes when it comes. -/
def State.tickDue (s : State) : Option Nat := onlyIf (s.running && s.arch.refClk) (some (s.seq.tickAt + us 10))
/-- The first tick from now on, where the start condition of a domain holds (R160). -/
def State.startAt (s : State) (d : Fin 8) : Option Nat := onlyIf (s.canStart d) (some s.tickNow)
/-- The tick at which a slot switches on (R160). -/
def State.onTick (s : State) (n : Fin 48) : Option Nat :=
  onlyIf (match s.slotDom n with
    | some d => s.seq.doms[d].state == .starting && s.seq.slots[n].state == .pending && !s.failDue d && !s.follows
    | none => false) (some s.seq.slots[n].onAt)
/-- The tick of a slot's off point (R160). -/
def State.offTick (s : State) (n : Fin 48) : Option Nat :=
  onlyIf (s.seq.slots[n].planned && !s.follows) (some s.seq.slots[n].offAt)
/-- The last tick of UP_TO (R170). -/
def State.upTick (s : State) (n : Fin 48) : Option Nat :=
  let x := s.seq.slots[n]
  onlyIf (match s.slotDom n with
    | some d => (s.seq.doms[d].state == .starting || s.seq.doms[d].state == .stopping || s.seq.doms[d].state == .reverse) &&
        x.state == .comingUp && !x.pastOff && !s.upCond n && !s.follows
    | none => false) (some (max x.upBy (x.onAt + 1)))
/-- The last tick of DOWN_TO (R174). -/
def State.downTick (s : State) (n : Fin 48) : Option Nat :=
  let x := s.seq.slots[n]
  onlyIf ((s.slotDom n).isSome && x.falling && !s.downCond n && !s.follows) (some (max x.downBy (x.offAt + 1)))
/-- The qualify time of a domain's input (R166). -/
def State.inputDue (s : State) (d : Fin 8) : Option Nat :=
  let x := s.seq.doms[d]
  match x.cfg with
  | some c => onlyIf (x.hasInput && !x.inQ && !x.afresh) (x.qualAt.map (· + ms c.qual))
  | none => none
/-- The oldest counted fault of a domain leaves the window (R181). -/
def State.retryDue (s : State) (d : Fin 8) : Option Nat :=
  let x := s.seq.doms[d]
  x.cfg.bind (fun c => (earliest x.faults).map (· + sec (60 * c.retryWin)))

/-! ### Monitors, capture, housekeeping -/

/-- FILTER response times of a continuous comparator beyond its threshold (R188). -/
def State.filterDue (s : State) (m : Fin 96) (high : Bool) : Option Nat :=
  let x := s.watch.mons[m]
  match x.cfg with
  | some c => onlyIf (s.monRuns m && !s.monWick m && x.test.isNone)
      ((if high then x.highAt else x.lowAt).map (· + (c.filter - 1) * respNs c.mode))
  | none => none
/-- The count of a capture timer reaches 0xFFFFFFFF (R194). -/
def State.saturateDue (s : State) (t : Fin 16) : Option Nat :=
  let x := s.watch.cts[t]
  onlyIf (x.state == 2 && (x.cfg.mode == 1 || x.cfg.mode == 3) && !x.satNow)
    (some (x.start + (0xFFFFFFFF * (5 * 2 ^ x.cfg.prescale) + 1) / 2))
/-- Twice HK_ROUND after the start of a round (R204). -/
def State.roundDue (s : State) : Option Nat :=
  onlyIf (s.hkWorks && s.hk.next.isSome && !s.hk.late) (some (s.hk.started + ms (2 * s.hk.period)))
/-- The next round boundary: a whole number of rounds after the start of the latest, and after the end of one that is late
(R203, R204). -/
def State.roundNext (s : State) : Option Nat :=
  let p := ms s.hk.period
  onlyIf (s.hkWorks && s.hk.next.isNone && s.hk.period != 0) (some (s.hk.started + p * max 1 ((s.now - s.hk.started + p - 1) / p)))

/-! ### Hold-up and cartridges -/

/-- HANDBACK after the ride comparator cleared (R225). -/
def State.handbackDue (s : State) : Option Nat :=
  match s.hold.cfg with
  | some h => onlyIf (s.battRail.isSome && s.hold.state == .handback && !s.hold.rideCmp) (s.hold.handAt.map (· + ms h.handback))
  | none => none
/-- MAX_RIDE after the start of a ride (R224). -/
def State.rideDue (s : State) : Option Nat :=
  match s.hold.cfg with
  | some h => onlyIf (s.battRail.isSome && s.hold.riding) (some (s.hold.rideAt + sec h.maxRide))
  | none => none
/-- The qualify time of the bus bar (R219). -/
def State.busDue (s : State) : Option Nat :=
  match s.hold.cfg with
  | some h => onlyIf (!s.hold.busQ) (s.hold.qualAt.map (· + ms h.busQual))
  | none => none
/-- The first retry of a cartridge's transactions that waits, after a failure or after a busy answer (R233). -/
def State.mbDue (s : State) (c : Fin 16) (busy : Bool) : Option Nat :=
  onlyIf s.busServed (earliest ((s.carts.ops.filter (fun o => o.cart == c && (decide (0 < o.busy) == busy))).filterMap (·.wait)))
/-- 100 ms after a challenge was written (R236). -/
def State.authDue (s : State) (c : Fin 16) : Option Nat := (s.carts.carts[c]).authAt.map (· + ms 100)
/-- 24 h after the latest authentication (R236). -/
def State.reauthDue (s : State) (c : Fin 16) : Option Nat :=
  let x := s.carts.carts[c]
  onlyIf (x.usable && (match s.carts.cfg with | some k => k.auth | none => false) && x.authAt.isNone && x.dueWhy.isNone) (some (x.authDone + sec 86400))

/-! ### The pair -/

/-- 2 us after a CTRL frame was sent (R260). -/
def State.ctrlDue (s : State) (seq : Nat) : Option Nat :=
  (s.pair.unacked.find? (fun (c : CtrlOut) => c.seq == seq)).map (fun c => c.at_ + us 2)
/-- The ownership decision at a start: at once with PEER_OWN_N asserted, 100 ms after READY on the PREF unit, 200 ms on the
other and for the count of a unit alone (R268, R279). -/
def State.decideDue (s : State) : Option Nat :=
  onlyIf (s.paired && s.running)
    (if s.pair.role == .undecided then
      (if s.pair.peer then none
       else some (s.pair.readyAt + ms (if s.actsPref && !s.cannotOwn then 100 else 200)))
     else if s.pair.twin.isNone && !s.pair.alone then some (s.pair.readyAt + ms 200) else none)
/-- One reference period with both OWN_N asserted, or neither (R275). -/
def State.conflictDue (s : State) : Option Nat :=
  match s.pair.bothAt with
  | some t => some (t + s.refPeriod)
  | none => s.pair.noneAt.map (· + s.refPeriod)
/-- The first verdict of the standby to have waited 20 us (R265). -/
def State.verdictDue (s : State) : Option Nat := earliest (s.pair.verdicts.map (fun x => x.2 + us 20))
/-- The first ground whose second ends (R269). -/
def State.groundDue (s : State) : Option Nat :=
  earliest ((s.pair.grounds.toList.filter (fun g => !g.cond)).filterMap (·.until_))
/-- The oldest revert leaves the 60 min of the flap count, by the real-time clock (R276). -/
def State.flapDue (s : State) : Option Nat := (earliest s.pair.reverts).map (fun t => s.glb.porAt + sec (t + 3600))

/-! ### The cascade -/

/-- 300 us without a LINK frame (R284). -/
def State.silentDue (s : State) (k : Fin 6) (why : LinkLoss) : Option Nat :=
  let p := s.ov.ports[k]
  onlyIf ((p.state == .up || p.state == .spareIdle) && why != .alignment) (some (p.lastLink + us 300))
/-- The 2 us window of an egress (R295). -/
def State.windowDue (s : State) (k : Fin 6) : Option Nat := (s.ov.ports[k]).win
/-- Three MARK periods without a usable pair (R301). -/
def State.holdDue (s : State) : Option Nat :=
  onlyIf (s.ovOn && !s.ov.acting && s.running) (some (s.ov.goodAt + ms (3 * s.markMs)))
/-- 50 ms after a transaction was sent (R307). -/
def State.txnDue (s : State) (tag : Nat) : Option Nat :=
  (s.ov.txns.find? (fun x => x.tag == tag)).map (fun x => x.at_ + ms 50)
/-- 1 ms after OP0 left UP, with the spare ready (R310). -/
def State.rerouteDue (s : State) : Option Nat :=
  onlyIf (s.ovOn && s.cfg.ov.spare == 1 && !s.ov.upSpare && !s.portUp 0 && (s.ov.ports[(1 : Fin 6)]).state == .spareIdle)
    ((s.ov.ports[(0 : Fin 6)]).downAt.map (· + ms 1))
/-- 10 ms after OP0 left UP, and three MARK periods without a TMARK (R312). -/
def State.deputyDue (s : State) : Option Nat :=
  onlyIf (s.cfg.ov.role == 2 && !s.ov.acting && !s.portUp 0)
    ((s.ov.ports[(0 : Fin 6)]).downAt.map (fun t => max (t + ms 10) (s.ov.tmarkAt + ms (3 * s.markMs))))
/-- The capture instant of a snapshot, of global time (R304). -/
def State.captureG (s : State) : Option Nat := s.ov.snap.bind (fun p => if p.taken then none else some p.capAt)

/-! ### The ledger, the unlock, the service port and update -/

/-- The END of the open record, of global time (R325). -/
def State.closeG (s : State) : Option Nat := s.lg.openSlot.bind (fun i => (s.lg.dir[i]).map (·.endAt))
/-- One second after the latest flush began (R334). -/
def State.flushDue (s : State) : Option Nat :=
  onlyIf (s.archiveOn && s.lg.flush.isNone && !s.lg.flushHold && s.mode == .ready && (s.core .ledger).state == .running &&
    !s.ch.writing .archive && s.lg.flushNext.isSome) (s.lg.lastFlush.map (· + sec 1))
/-- The path of an unlock by its kind. -/
def pathOf (ov : Bool) : Path := if ov then .ovrath 0 else .host
/-- 1 ms after KEY1 (R388). -/
def State.disarmAt (s : State) (ov : Bool) : Option Nat :=
  let l := s.lockPath (pathOf ov)
  onlyIf l.armed (some (l.armedAt + ms 1))
/-- 10 s without an accepted protected write (R389). -/
def State.relockAt (s : State) (ov : Bool) : Option Nat :=
  let l := s.lockPath (pathOf ov)
  onlyIf l.unlocked (some (l.usedAt + sec 10))
/-- SESSION_TO without a good request (R365). -/
def State.sessionDue (s : State) : Option Nat := onlyIf s.sp.mode.isSome (some (s.sp.lastGood + sec s.cfg.sp.sessionTo))
/-- SESSION_TO without staging data over Ovrath (R367). -/
def State.silenceDue (s : State) : Option Nat :=
  s.upd.staging.bind (fun g => onlyIf (g.ov && s.upd.stage == .staging) (some (g.last + sec s.cfg.sp.sessionTo)))
/-- The end of a core's trial (R370). -/
def State.trialDue (s : State) (c : CoreId) : Option Nat :=
  s.upd.trial.bind (fun t => onlyIf (t.core == c) (some t.ends))
/-- The end of the proof window (R374). -/
def State.proofDue (s : State) : Option Nat := s.upd.proof.map (·.ends)
/-- The deadline of the standby-first sequence (R378). -/
def State.seqDue (s : State) : Option Nat := s.upd.pairSeq.bind (·.deadline)
/-- The moment of a scheduled activation, of global time (R380). -/
def State.schedG (s : State) : Option Nat := onlyIf (s.mode == .ready) (s.upd.set.sched.map (·.at_))
/-- A wait until AT of a scheduled activation, and from there until the next tick, 10 us apart (R159, R380). -/
def State.schedWait (s : State) : State :=
  let t := s.waitGlobal s.schedG
  t.waitTill (onlyIf (t.schedG.isSome && t.arch.refClk) (some (t.seq.tickAt + us (10 * ((t.now - t.seq.tickAt + 9999) / 10000)))))

end Sys2Proof.Machine
end

