-- ==== Sys2Proof/Machine/ArchCmds.lean ====
section
/-! DEFINITION. The commands of the clocks, crossings, cores and supplies (spec/01_architecture.md, R396). -/
namespace Sys2Proof.Machine

/-- The row HANDSHAKE_STALL (R14). -/
def execHandshakeStall (s : State) : Host.Outcome State Fault Refusal := run handshakeStalled s

/-- The row PLL_LOCK_LOSS (R16). -/
def execPllLockLoss (s : State) : Host.Outcome State Fault Refusal := run (fun t => holdFollow (pllLost t)) s

/-- The row PLL_LOCK_ACQUIRED (R16, R22). -/
def execPllLockAcquired (s : State) : Host.Outcome State Fault Refusal := run pllAcquired s

/-- The row REF_CLK_LOSS (R17). -/
def execRefClkLoss (s : State) : Host.Outcome State Fault Refusal := run refLost s

/-- The row REF_CLK_RETURN (R17). -/
def execRefClkReturn (s : State) : Host.Outcome State Fault Refusal := run refBack s

/-- The row REF_CLK_HOLDOVER_EXPIRY (R17). -/
def execRefClkHoldoverExpiry (s : State) : Host.Outcome State Fault Refusal :=
  runAfter (fun s => s.waitTill s.arch.holdover) (fun t => holdFollow (refHoldEnd t)) s

/-- The row CDC_ACCEPT_FAILURE (R18). -/
def execCdcAcceptFailure (s : State) : Host.Outcome State Fault Refusal := run cdcRejected s

/-- The row CDC_TOGGLE_ACK (R20). -/
def execCdcToggleAck (l : ToggleLine) (s : State) : Host.Outcome State Fault Refusal := run (toggleAck l) s

/-- The row ISLAND_RESTART_DONE (R22). -/
def execIslandRestartDone (i : Island) (s : State) : Host.Outcome State Fault Refusal := run (islandUp i) s

/-- The row CORE_WATCHDOG_EXPIRY (R26). -/
def execCoreWatchdogExpiry (c : CoreId) (s : State) : Host.Outcome State Fault Refusal := run (coreWatchdog c) s

/-- The row CORE_RESTART_DONE (R26): a core that runs again serves the messages that have waited for it. -/
def execCoreRestartDone (c : CoreId) (selfTestOk : Bool) (s : State) : Host.Outcome State Fault Refusal :=
  run (fun t => serveWaiting (coreRestarted c selfTestOk t)) s

/-- The row SUPPLY_RANGE_EXIT (R396). -/
def execSupplyRangeExit (k : Fin 5) (s : State) : Host.Outcome State Fault Refusal := run (supplyExit k) s

/-- The row SUPPLY_RANGE_CLEAR (R396). -/
def execSupplyRangeClear (s : State) : Host.Outcome State Fault Refusal := run supplyClear s

end Sys2Proof.Machine
end

