-- ==== Sys2Proof/Machine/CartCmds.lean ====
section
/-! DEFINITION. The commands of the module bus and the cartridges that the bus and its timers give (spec/10_holdup_cartridges.md). -/
namespace Sys2Proof.Machine

/-- The row MB_TRANSACTION_DONE (R232). -/
def execMbTransactionDone (res : MbResult) (s : State) : Host.Outcome State Fault Refusal :=
  run (fun t => holdJudge (mbDone res t)) s

/-- The row MB_FAILURE_RETRY (R233). -/
def execMbFailureRetry (c : Fin 16) (s : State) : Host.Outcome State Fault Refusal :=
  runAfter (fun s => s.waitTill (s.mbDue c false)) (mbRetry c false) s

/-- The row MB_BUSY_RETRY (R233). -/
def execMbBusyRetry (c : Fin 16) (s : State) : Host.Outcome State Fault Refusal :=
  runAfter (fun s => s.waitTill (s.mbDue c true)) (mbRetry c true) s

/-- The row MB_LOW_TIMEOUT (R233). -/
def execMbLowTimeout (sdaStuck : Bool) (s : State) : Host.Outcome State Fault Refusal :=
  run (fun t => holdJudge (mbLowTimeout sdaStuck t)) s

/-- The row CARTRIDGE_STATUS_POLL (R235). -/
def execCartridgeStatusPoll (c : Fin 16) (s : State) : Host.Outcome State Fault Refusal := run (statusPoll c) s

/-- The row AUTH_POLL (R236). -/
def execAuthPoll (c : Fin 16) (s : State) : Host.Outcome State Fault Refusal := run (authPollNow c) s

/-- The row AUTH_TIMEOUT (R236). -/
def execAuthTimeout (c : Fin 16) (s : State) : Host.Outcome State Fault Refusal :=
  runAfter (fun s => s.waitTill (s.authDue c)) (fun t => holdJudge (authExpired c t)) s

/-- The row REAUTH_TIMER (R236). -/
def execReauthTimer (c : Fin 16) (s : State) : Host.Outcome State Fault Refusal :=
  runAfter (fun s => s.waitTill (s.reauthDue c)) (fun t => holdJudge (reauth c t)) s

/-- The row COUNTER_WRITE_PERIOD (R237). -/
def execCounterWritePeriod (s : State) : Host.Outcome State Fault Refusal := run writeAllCounters s

end Sys2Proof.Machine
end

