-- ==== Sys2Proof/Machine/HkCmds.lean ====
section
/-! DEFINITION. The commands of housekeeping rounds (spec/09_housekeeping_thermal.md). -/
namespace Sys2Proof.Machine

/-- A round starts (R203): the request to convert is a single event that crosses as a toggle, and one that meets an
outstanding acknowledgement acts when that arrives (R20). -/
def roundStart (s : State) : State :=
  if s.hkWorks && s.hk.next.isNone then
    let u := toggle .conversionStart s
    if s.arch.convStart.outstanding then u else hkStart u
  else s

/-- The row HK_ROUND_START (R203). -/
def execHkRoundStart (s : State) : Host.Outcome State Fault Refusal :=
  runAfter (fun s => s.waitTill s.roundNext) roundStart s

/-- The row HK_CONVERSION_DONE (R203). -/
def execHkConversionDone (ch : Fin 160) (val : BitVec 16) (q : HkReading) (s : State) :
    Host.Outcome State Fault Refusal := run (hkDone ch.val val.toNat q.sat q.vbe) s

/-- The row HK_CONVERSION_TIMEOUT (R204). -/
def execHkConversionTimeout (ch : Fin 160) (s : State) : Host.Outcome State Fault Refusal := run (hkTimeout ch.val) s

/-- The row HK_ROUND_LATE (R204). -/
def execHkRoundLate (s : State) : Host.Outcome State Fault Refusal :=
  runAfter (fun s => s.waitTill s.roundDue) hkLate s

end Sys2Proof.Machine
end

