-- ==== Sys2Proof/Machine/HoldCmds.lean ====
section
/-! DEFINITION. The commands of hold-up, sharing and capping that comparators and timers give (spec/10_holdup_cartridges.md). -/
namespace Sys2Proof.Machine

/-- The row RIDE_COMPARATOR_TRIP (R223). -/
def execRideComparatorTrip (s : State) : Host.Outcome State Fault Refusal := run rideTrip s

/-- The row RIDE_COMPARATOR_CLEAR (R225). -/
def execRideComparatorClear (s : State) : Host.Outcome State Fault Refusal := run rideClear s

/-- The row HANDBACK_EXPIRY (R225). -/
def execHandbackExpiry (s : State) : Host.Outcome State Fault Refusal :=
  runAfter (fun s => s.waitTill s.handbackDue) handbackEnd s

/-- The row MAX_RIDE_EXPIRY (R224). -/
def execMaxRideExpiry (s : State) : Host.Outcome State Fault Refusal :=
  runAfter (fun s => s.waitTill s.rideDue) maxRide s

/-- The row BUS_BAR_QUALIFIED (R219). -/
def execBusBarQualified (s : State) : Host.Outcome State Fault Refusal :=
  runAfter (fun s => s.waitTill s.busDue) busQualified s

/-- The row BUS_BAR_ABSENT (R219). -/
def execBusBarAbsent (s : State) : Host.Outcome State Fault Refusal := run busAbsent s

/-- The row SHARE_SAMPLE (R226). -/
def execShareSample (uv : Int) (s : State) : Host.Outcome State Fault Refusal := run (shareSample uv) s

/-- The row SHARE_LOOP_STEP (R227). -/
def execShareLoopStep (s : State) : Host.Outcome State Fault Refusal := run shareStep s

end Sys2Proof.Machine
end

