-- ==== Sys2Proof/Machine/LedgerCmds.lean ====
section
/-! DEFINITION. The commands of the ledger (spec/14_ledger.md), but for the host's. -/
namespace Sys2Proof.Machine

/-- The row RECORD_CLOSE (R325): the END of the open record has been reached. -/
def recordDue (s : State) : State :=
  match s.lg.openSlot with
  | some i => (match s.lg.dir[i] with | some r => if r.endAt ≤ s.ov.gtime then closeSlot i r.endAt false s else s | none => s)
  | none => s

/-- The row LEDGER_BLOCK_WRITE (R326). -/
def execLedgerBlockWrite (ch : Fin 64) (samples : List (BitVec 12)) (t0 : BitVec 64) (s : State) : Host.Outcome State Fault Refusal :=
  run (ledgerBlock ch (samples.map (·.toNat)) t0.toNat) s

/-- The row RECORD_CLOSE (R325). -/
def execRecordClose (s : State) : Host.Outcome State Fault Refusal :=
  runAfter (fun s => s.waitGlobal s.closeG) recordDue s

/-- The row ARCHIVE_FLUSH_START (R334). -/
def execArchiveFlushStart (s : State) : Host.Outcome State Fault Refusal :=
  runAfter (fun s => s.waitTill s.flushDue) flushStart s

/-- The row ARCHIVE_FLUSH_DONE (R334). -/
def execArchiveFlushDone (s : State) : Host.Outcome State Fault Refusal := run flushDone s

/-- The row LAST_GASP_WRITE_DONE (R332). -/
def execLastGaspWriteDone (complete : Bool) (s : State) : Host.Outcome State Fault Refusal := run (lgsDone complete) s

/-- The row ECC_ERROR (R330). -/
def execEccError (site : EccSite) (double : Bool) (s : State) : Host.Outcome State Fault Refusal := run (eccErr site double) s

end Sys2Proof.Machine
end

