-- ==== Sys2Proof/Machine/OvCmds.lean ====
section
/-! DEFINITION. The commands of the Ovrath cascade (spec/13_ovrath.md), but for the host's. -/
namespace Sys2Proof.Machine

/-- The row OV_LINK_ALIGNED (R284). -/
def execOvLinkAligned (k : Fin 6) (s : State) : Host.Outcome State Fault Refusal := run (linkAligned k) s

/-- The row OV_LINK_FRAME (R284). -/
def execOvLinkFrame (k : Fin 6) (e : FrameEnd) (l : LinkInfo) (s : State) : Host.Outcome State Fault Refusal :=
  run (linkIn k e l) s

/-- The row OV_LINK_FRAME_SEND (R284). -/
def execOvLinkFrameSend (k : Fin 6) (s : State) : Host.Outcome State Fault Refusal := run (linkSend k) s

/-- The row OV_LINK_DOWN (R284). -/
def execOvLinkDown (k : Fin 6) (why : LinkLoss) (s : State) : Host.Outcome State Fault Refusal :=
  runAfter (fun s => s.waitTill (s.silentDue k why)) (linkDown k why) s

/-- The row OV_FRAME_FORWARD (R291). -/
def execOvFrameForward (k : Fin 6) (e : FrameEnd) (f : OvFrame) (s : State) : Host.Outcome State Fault Refusal :=
  run (forwardFrame k e f) s

/-- The row OV_CREDIT_RETURN (R293). -/
def execOvCreditReturn (k : Fin 6) (cls : Fin 4) (credits : Nat) (s : State) : Host.Outcome State Fault Refusal :=
  run (creditReturn k cls.val credits) s

/-- The row OV_ENUM (R285). -/
def execOvEnum (k : Fin 6) (e : FrameEnd) (h : OvHdr) (s : State) : Host.Outcome State Fault Refusal :=
  run (onGood k e (fun u => takeMsg k 1 h (.enum k h) (if k == u.upPort && !u.ov.acting then cNDown false 1 2 h [0] u else u))) s

/-- The row OV_COUNT (R285). -/
def execOvCount (k : Fin 6) (e : FrameEnd) (h : OvHdr) (n : Nat) (s : State) : Host.Outcome State Fault Refusal :=
  run (onLink k e h (.count k h n)) s

/-- The row OV_COUNT_TIMEOUT (R285). -/
def execOvCountTimeout (s : State) : Host.Outcome State Fault Refusal :=
  runAfter (fun s => s.waitTill s.ov.enumAt) countTimeout s

/-- The row OV_ASSIGN (R285). -/
def execOvAssign (k : Fin 6) (e : FrameEnd) (h : OvHdr) (base len : Nat) (s : State) : Host.Outcome State Fault Refusal :=
  run (onLink k e h (.assign k h base len)) s

/-- The row OV_TRIP (R297). -/
def execOvTrip (k : Fin 6) (e : FrameEnd) (f : Ov0) (s : State) : Host.Outcome State Fault Refusal := run (upIn k e 1 f) s

/-- The row OV_YIELD (R297). -/
def execOvYield (k : Fin 6) (e : FrameEnd) (f : Ov0) (s : State) : Host.Outcome State Fault Refusal := run (upIn k e 2 f) s

/-- The row OV_SUMMARY (R295). -/
def execOvSummary (k : Fin 6) (e : FrameEnd) (f : Ov0) (s : State) : Host.Outcome State Fault Refusal := run (upIn k e 3 f) s

/-- The row OV_SUMMARY_WINDOW_END (R295). -/
def execOvSummaryWindowEnd (k : Fin 6) (s : State) : Host.Outcome State Fault Refusal :=
  runAfter (fun s => s.waitTill (s.windowDue k)) (summaryWindowEnd k) s

/-- The row OV_BAR_ACK (R303). -/
def execOvBarAck (k : Fin 6) (e : FrameEnd) (f : Ov0) (s : State) : Host.Outcome State Fault Refusal := run (ackFrame k e 1 f) s

/-- The row OV_SNAP_ACK (R304). -/
def execOvSnapAck (k : Fin 6) (e : FrameEnd) (f : Ov0) (s : State) : Host.Outcome State Fault Refusal :=
  run (ackFrame k e 2 f) s

/-- The row OV_TMARK (R300). -/
def execOvTmark (k : Fin 6) (e : FrameEnd) (f : Ov0) (s : State) : Host.Outcome State Fault Refusal := run (tmarkIn k e f) s

/-- The row OV_BARRIER (R303). -/
def execOvBarrier (k : Fin 6) (e : FrameEnd) (f : Ov0) (s : State) : Host.Outcome State Fault Refusal := run (barrierIn k e f) s

/-- The row OV_SNAP (R304). -/
def execOvSnap (k : Fin 6) (e : FrameEnd) (f : Ov0) (s : State) : Host.Outcome State Fault Refusal := run (snapIn k e f) s

/-- The row OV_RESET (R306). -/
def execOvReset (k : Fin 6) (e : FrameEnd) (f : Ov0) (s : State) : Host.Outcome State Fault Refusal := run (resetIn k e f) s

/-- The row OV_FTRIP (R298). -/
def execOvFtrip (k : Fin 6) (e : FrameEnd) (f : Ov0) (s : State) : Host.Outcome State Fault Refusal := run (ftripIn k e f) s

/-- The row OV_FSTART (R298). -/
def execOvFstart (k : Fin 6) (e : FrameEnd) (f : Ov0) (s : State) : Host.Outcome State Fault Refusal := run (fstartIn k e f) s

/-- The row OV_ROOTCHG (R312). -/
def execOvRootchg (k : Fin 6) (e : FrameEnd) (f : Ov0) (s : State) : Host.Outcome State Fault Refusal := run (rootchgIn k e f) s

/-- The row OV_GRAFT (R311). -/
def execOvGraft (k : Fin 6) (e : FrameEnd) (h : OvHdr) (base len : Nat) (s : State) : Host.Outcome State Fault Refusal :=
  run (graftFrame k e h base len) s

/-- The row OV_UNGRAFT (R311). -/
def execOvUngraft (k : Fin 6) (e : FrameEnd) (h : OvHdr) (base len : Nat) (s : State) : Host.Outcome State Fault Refusal :=
  run (ungraftFrame k e h base len) s

/-- The row OV_RD_REQ (R307). -/
def execOvRdReq (k : Fin 6) (e : FrameEnd) (h : OvHdr) (addr : BitVec 16) (count : Nat) (s : State) : Host.Outcome State Fault Refusal :=
  run (rdFrame k e h addr.toNat count) s

/-- The row OV_WR_REQ (R307). -/
def execOvWrReq (k : Fin 6) (e : FrameEnd) (h : OvHdr) (addr : BitVec 16) (data : List (BitVec 8)) (s : State) : Host.Outcome State Fault Refusal :=
  run (wrFrame k e h addr.toNat data) s

/-- The row OV_RESP (R307). -/
def execOvResp (k : Fin 6) (e : FrameEnd) (h : OvHdr) (status : BitVec 8) (data : List (BitVec 8)) (s : State) : Host.Outcome State Fault Refusal :=
  run (respIn k e h status.toNat data) s

/-- The row OV_TIME (R300). -/
def execOvTime (k : Fin 6) (e : FrameEnd) (h : OvHdr) (mark : BitVec 16) (markMs : BitVec 16) (time : BitVec 64) (s : State) : Host.Outcome State Fault Refusal :=
  run (timeIn k e h mark.toNat markMs.toNat time.toNat) s

/-- The row OV_ROLE (R312). -/
def execOvRole (k : Fin 6) (e : FrameEnd) (h : OvHdr) (acting : Bool) (s : State) : Host.Outcome State Fault Refusal :=
  run (onLink k e h (.role k h acting)) s

/-- The row OV_SHARE_SP (R298). -/
def execOvShareSp (k : Fin 6) (e : FrameEnd) (h : OvHdr) (v : BitVec 16) (s : State) : Host.Outcome State Fault Refusal :=
  run (shareIn k e h v.toNat) s

/-- The row OV_CAP (R298). -/
def execOvCap (k : Fin 6) (e : FrameEnd) (h : OvHdr) (v : BitVec 16) (s : State) : Host.Outcome State Fault Refusal :=
  run (capIn k e h v.toNat) s

/-- The row OV_ACTIVATE (R379). -/
def execOvActivate (k : Fin 6) (e : FrameEnd) (h : OvHdr) (a : ActivateCmd) (s : State) : Host.Outcome State Fault Refusal :=
  run (activateIn k e h a) s

/-- The row OV_EVREC (R297). -/
def execOvEvrec (k : Fin 6) (e : FrameEnd) (h : OvHdr) (rec : EvRec) (s : State) : Host.Outcome State Fault Refusal :=
  run (evrecIn k e h rec) s

/-- The row OV_SNAPREC (R305). -/
def execOvSnaprec (k : Fin 6) (e : FrameEnd) (h : OvHdr) (payload : List (BitVec 8)) (s : State) : Host.Outcome State Fault Refusal :=
  run (snaprecIn k e h payload) s

/-- The row OV_IMG_DATA (R367). -/
def execOvImgData (k : Fin 6) (e : FrameEnd) (h : OvHdr) (imgId offset : BitVec 32) (data : List (BitVec 8)) (s : State) : Host.Outcome State Fault Refusal :=
  run (imgFrame k e h imgId.toNat offset.toNat data) s

/-- The row OV_UNLISTED_TYPE (R297). -/
def execOvUnlistedType (k : Fin 6) (e : FrameEnd) (s : State) : Host.Outcome State Fault Refusal := run (unlisted k e) s

/-- The row OV_PARK (R314). -/
def execOvPark (k : Fin 6) (s : State) : Host.Outcome State Fault Refusal := run (parkPort k) s

/-- The row OV_MARK_TIMER (R300). -/
def execOvMarkTimer (s : State) : Host.Outcome State Fault Refusal :=
  runAfter (fun s => s.waitTill s.markDue) markTimer s

/-- The row OV_TIME_HOLD (R301). -/
def execOvTimeHold (s : State) : Host.Outcome State Fault Refusal :=
  runAfter (fun s => s.waitTill s.holdDue) timeHold s

/-- The row OV_BARRIER_TIMEOUT (R303). -/
def execOvBarrierTimeout (s : State) : Host.Outcome State Fault Refusal :=
  runAfter (fun s => s.waitTill s.ov.opEnds) barrierTimeout s

/-- The row OV_SNAP_CAPTURE (R304). -/
def execOvSnapCapture (s : State) : Host.Outcome State Fault Refusal :=
  runAfter (fun s => s.waitGlobal s.captureG) snapCapture s

/-- The row OV_TXN_TIMEOUT (R307). -/
def execOvTxnTimeout (tag : BitVec 7) (s : State) : Host.Outcome State Fault Refusal :=
  runAfter (fun s => s.waitTill (s.txnDue tag.toNat)) (txnTimeout tag.toNat) s

/-- The row OV_AUTO_REROUTE (R310). -/
def execOvAutoReroute (s : State) : Host.Outcome State Fault Refusal :=
  runAfter (fun s => s.waitTill s.rerouteDue) autoReroute s

/-- The row OV_DEPUTY_TAKEOVER (R312). -/
def execOvDeputyTakeover (s : State) : Host.Outcome State Fault Refusal :=
  runAfter (fun s => s.waitTill s.deputyDue) deputyTakeover s

end Sys2Proof.Machine
end

