-- ==== Sys2Proof/Machine/PairCmds.lean ====
section
/-! DEFINITION. The commands of the pair (spec/12_redundancy.md), but for the host's. -/
namespace Sys2Proof.Machine

/-- The row PAIR_LINK_UP (R259). -/
def execPairLinkUp (s : State) : Host.Outcome State Fault Refusal := run pairLinked s

/-- The row PAIR_LINK_LOSS (R259). -/
def execPairLinkLoss (s : State) : Host.Outcome State Fault Refusal := runAfter lossWait pairDown s

/-- The row PL_SYNC_HEALTH_SEND (R259). -/
def execPlSyncHealthSend (s : State) : Host.Outcome State Fault Refusal := run syncHealth s

/-- The row PL_STATE_SEND (R259). -/
def execPlStateSend (s : State) : Host.Outcome State Fault Refusal := run stateRow s

/-- The row PL_CTRL_RETRY_TIMER (R260). -/
def execPlCtrlRetryTimer (seq : BitVec 8) (s : State) : Host.Outcome State Fault Refusal :=
  runAfter (fun s => s.waitTill (s.ctrlDue seq.toNat)) (ctrlRetry seq.toNat) s

/-- The row PL_ACK (R260). -/
def execPlAck (crcOk : Bool) (seq : BitVec 8) (s : State) : Host.Outcome State Fault Refusal :=
  run (onPair crcOk (ackIn seq.toNat)) s

/-- The row PL_YIELD (R271). -/
def execPlYield (crcOk : Bool) (seq : BitVec 8) (s : State) : Host.Outcome State Fault Refusal :=
  run (onCtrl crcOk seq yieldIn) s

/-- The row PL_REFUSE (R270). -/
def execPlRefuse (crcOk : Bool) (seq : BitVec 8) (s : State) : Host.Outcome State Fault Refusal :=
  run (onCtrl crcOk seq refuseIn) s

/-- The row PL_TAKE_REQ (R276). -/
def execPlTakeReq (crcOk : Bool) (seq : BitVec 8) (s : State) : Host.Outcome State Fault Refusal :=
  run (onCtrl crcOk seq takeIn) s

/-- The row PL_FENCE (R264). -/
def execPlFence (crcOk : Bool) (seq : BitVec 8) (n : Fin 64) (s : State) : Host.Outcome State Fault Refusal :=
  run (onFollow crcOk seq (fwdArrive (.fence n))) s

/-- The row PL_UNFENCE (R264). -/
def execPlUnfence (crcOk : Bool) (seq : BitVec 8) (n : Fin 64) (s : State) : Host.Outcome State Fault Refusal :=
  run (onFollow crcOk seq (fwdArrive (.unfence n))) s

/-- The row PL_SNUFF (R264). -/
def execPlSnuff (crcOk : Bool) (seq : BitVec 8) (r : Fin 24) (s : State) : Host.Outcome State Fault Refusal :=
  run (onFollow crcOk seq (fwdArrive (.snuff r))) s

/-- The row PL_UNSNUFF (R264). -/
def execPlUnsnuff (crcOk : Bool) (seq : BitVec 8) (r : Fin 24) (s : State) : Host.Outcome State Fault Refusal :=
  run (onFollow crcOk seq (fwdArrive (.unsnuff r))) s

/-- The row PL_SHED_ANNOUNCEMENT (R264). -/
def execPlShedAnnouncement (crcOk : Bool) (seq : BitVec 8) (r : Fin 24) (s : State) : Host.Outcome State Fault Refusal :=
  run (onFollow crcOk seq (fwdArrive (.shed r))) s

/-- The row PL_RELIGHT (R264). -/
def execPlRelight (crcOk : Bool) (seq : BitVec 8) (m : RelightMsg) (s : State) : Host.Outcome State Fault Refusal :=
  run (onFollow crcOk seq (fwdArrive (.relight m.rail m.entry m.trig))) s

/-- The row PL_DIRECTION_CHANGE (R264). -/
def execPlDirectionChange (crcOk : Bool) (seq : BitVec 8) (discharge : Bool) (s : State) : Host.Outcome State Fault Refusal :=
  run (onFollow crcOk seq (fwdArrive (.direction discharge))) s

/-- The row PL_LAMPLIGHTER_STEP (R264). -/
def execPlLamplighterStep (crcOk : Bool) (seq : BitVec 8) (n : Fin 48) (on : Bool) (s : State) : Host.Outcome State Fault Refusal :=
  run (onFollow crcOk seq (fwdArrive (.lampStep n on))) s

/-- The row PL_SLOT_VERDICT (R265). -/
def execPlSlotVerdict (crcOk : Bool) (seq : BitVec 8) (v : Verdict) (s : State) : Host.Outcome State Fault Refusal :=
  run (onCtrl crcOk seq (verdictIn v)) s

/-- The row PL_DOMAIN_SHUTOFF (R264). -/
def execPlDomainShutoff (crcOk : Bool) (seq : BitVec 8) (mask : BitVec 8) (s : State) : Host.Outcome State Fault Refusal :=
  run (onFollow crcOk seq (shutOff mask.toNat .fault)) s

/-- The row PL_TRIM (R264). -/
def execPlTrim (crcOk : Bool) (seq : BitVec 8) (addr v : BitVec 16) (s : State) : Host.Outcome State Fault Refusal :=
  run (onFollow crcOk seq (trimIn addr.toNat v.toNat)) s

/-- The row PL_SYNC (R263). -/
def execPlSync (crcOk : Bool) (entries : List SyncEntry) (s : State) : Host.Outcome State Fault Refusal :=
  run (onPair crcOk (syncIn entries)) s

/-- The row PL_HEALTH (R261). -/
def execPlHealth (crcOk : Bool) (h : Health) (s : State) : Host.Outcome State Fault Refusal := run (onPair crcOk (healthIn h)) s

/-- The row PL_STATE (R259). -/
def execPlState (crcOk : Bool) (t : TwinShared) (s : State) : Host.Outcome State Fault Refusal :=
  run (onPair crcOk (stateIn t)) s

/-- The row PL_REPORT (R215). -/
def execPlReport (crcOk : Bool) (rep : TwinReport) (s : State) : Host.Outcome State Fault Refusal :=
  run (onPair crcOk (reportIn rep)) s

/-- The row PL_STREAM (R266). -/
def execPlStream (crcOk : Bool) (m : StreamMsg) (s : State) : Host.Outcome State Fault Refusal :=
  run (onPair crcOk (streamIn m)) s

/-- The row OWNERSHIP_DECISION (R268). -/
def execOwnershipDecision (s : State) : Host.Outcome State Fault Refusal :=
  runAfter (fun s => s.waitTill s.decideDue) decide100 s

/-- The row HANDOVER_ORIGIN (R271). -/
def execHandoverOrigin (s : State) : Host.Outcome State Fault Refusal := run handOrigin s

/-- The row PEER_OWN_N_CHANGE (R271). -/
def execPeerOwnNChange (asserted : Bool) (s : State) : Host.Outcome State Fault Refusal := run (peerChange asserted) s

/-- The row OWN_RELEASE (R271). -/
def execOwnRelease (s : State) : Host.Outcome State Fault Refusal :=
  runAfter (fun s => s.waitTill s.pair.release) ownReleased s

/-- The row OWN_CONFLICT (R275). -/
def execOwnConflict (s : State) : Host.Outcome State Fault Refusal :=
  runAfter (fun s => s.waitTill s.conflictDue) ownConflict s

/-- The row REVERT_HOLD_EXPIRY (R276). -/
def execRevertHoldExpiry (s : State) : Host.Outcome State Fault Refusal :=
  runAfter (fun s => s.waitTill s.pair.holdAt) revertDue s

/-- The row VERDICT_TIMEOUT (R265). -/
def execVerdictTimeout (s : State) : Host.Outcome State Fault Refusal :=
  runAfter (fun s => s.waitTill s.verdictDue) verdictLate s

/-- The row FLAP_WINDOW_EXPIRY (R276). -/
def execFlapWindowExpiry (s : State) : Host.Outcome State Fault Refusal :=
  runAfter (fun s => s.waitTill s.flapDue) flapAge s

/-- The row GROUND_HOLD_EXPIRY (R269). -/
def execGroundHoldExpiry (s : State) : Host.Outcome State Fault Refusal :=
  runAfter (fun s => s.waitTill s.groundDue) groundAge s

/-- The row STREAM_FRAME_TIMEOUT (R259). -/
def execStreamFrameTimeout (s : State) : Host.Outcome State Fault Refusal := run streamLost s

end Sys2Proof.Machine
end

