-- ==== Sys2Proof/Machine/PhaseCmds.lean ====
section
/-! DEFINITION. The commands of the phase engines (spec/04_phase_engines.md), but for those that go through a register. -/
namespace Sys2Proof.Machine

/-- The row PWM_LEADING_EDGE (R86). -/
def execPwmLeadingEdge (n : Fin 64) (s : State) : Host.Outcome State Fault Refusal := run (fun t => leadingEdge n (fwdEdge n t)) s

/-- The row ON_TIME_END (R85). -/
def execOnTimeEnd (n : Fin 64) (why : OnEnd) (peak : BitVec 10) (ton : Nat) (s : State) : Host.Outcome State Fault Refusal :=
  run (onTimeEnd n why peak ton) s

/-- The row VALLEY_SAMPLE_CONVERSION (R83). -/
def execValleySampleConversion (n : Fin 64) (code : BitVec 10) (s : State) : Host.Outcome State Fault Refusal :=
  run (valleySample n code) s

/-- The row PHASE_RESULT_PUBLISH (R106). -/
def execPhaseResultPublish (n : Fin 64) (s : State) : Host.Outcome State Fault Refusal := run (phasePublish n) s

end Sys2Proof.Machine
end

