-- ==== Sys2Proof/Machine/PortCmds.lean ====
section
/-! DEFINITION. The requests and frame boundaries of the load link (spec/06_load_link.md). -/
namespace Sys2Proof.Machine

/-- A frame boundary (R138); the boundary of a good frame is a single event that crosses to the host island (R20). -/
def llFrameEnd (p : Fin 8) (edges : Nat) (startOne : Bool) (s : State) : State :=
  let t := llBoundary p edges startOne s
  if s.portServes p && edges = 68 && !startOne && s.ports[p].frame == some true then toggle (.frameReceived p) t else t

/-- A request whose CMD Table 6.2 does not list (R144). -/
def llOther (p : Fin 8) (sub : Fin 4) (cmd : Nat) (tog : Bool) (payload rcrc : Nat) (s : State) : State :=
  if cmd = 0 || 6 ≤ cmd then llRequest p sub cmd tog payload rcrc s else s

/-- The row LL_FRAME_BOUNDARY (R138). -/
def execLlFrameBoundary (p : Fin 8) (edges : Nat) (startOne : Bool) (s : State) : Host.Outcome State Fault Refusal :=
  run (llFrameEnd p edges startOne) s

/-- The row SET_V (R145). -/
def execSetV (p : Fin 8) (sub : Fin 4) (tog : Bool) (payload : BitVec 16) (rcrc : BitVec 8) (s : State) : Host.Outcome State Fault Refusal :=
  run (llRequest p sub 1 tog payload.toNat rcrc.toNat) s

/-- The row PRELOAD (R124). -/
def execPreload (p : Fin 8) (sub : Fin 4) (tog : Bool) (payload : BitVec 16) (rcrc : BitVec 8) (s : State) : Host.Outcome State Fault Refusal :=
  run (llRequest p sub 2 tog payload.toNat rcrc.toNat) s

/-- The row LL_READ (R142). -/
def execLlRead (p : Fin 8) (sub : Fin 4) (tog : Bool) (payload : BitVec 16) (rcrc : BitVec 8) (s : State) : Host.Outcome State Fault Refusal :=
  run (llRequest p sub 3 tog payload.toNat rcrc.toNat) s

/-- The row NOTICE_ACK (R148). -/
def execNoticeAck (p : Fin 8) (sub : Fin 4) (tog : Bool) (payload : BitVec 16) (rcrc : BitVec 8) (s : State) : Host.Outcome State Fault Refusal :=
  run (llRequest p sub 4 tog payload.toNat rcrc.toNat) s

/-- The row DIM_ACK (R151). -/
def execDimAck (p : Fin 8) (sub : Fin 4) (tog : Bool) (payload : BitVec 16) (rcrc : BitVec 8) (s : State) : Host.Outcome State Fault Refusal :=
  run (llRequest p sub 5 tog payload.toNat rcrc.toNat) s

/-- The row LL_UNUSED_COMMAND (R144): a CMD that Table 6.2 does not list. -/
def execLlUnusedCommand (p : Fin 8) (cmd : BitVec 4) (sub : Fin 4) (tog : Bool) (payload : BitVec 16) (rcrc : BitVec 8) (s : State) : Host.Outcome State Fault Refusal :=
  run (llOther p sub cmd.toNat tog payload.toNat rcrc.toNat) s

end Sys2Proof.Machine
end

