-- ==== Sys2Proof/Machine/RailCmds.lean ====
section
/-! DEFINITION. The commands of the rails (spec/05_rails.md), but for those that go through a register. -/
namespace Sys2Proof.Machine

/-- A compensator sample with all that follows it: the cartridge counters (R237), the cap of rails whose values were loaded
(R230), and the hold-up state. -/
def railSample (r : Fin 24) (e : Int) (sat vsnBad : Bool) (s : State) : State :=
  let t := integrate r (compensator (uvAct r) (ovAct r) r e sat vsnBad (fwdSample r s))
  holdFollow (if s.rails[r].next.isSome then capRecompute t else t)

/-- The shedding hold-off ends (R124). -/
def holdoffEnd (r : Fin 24) (s : State) : State :=
  if due s.now s.rails[r].holdAt then s.updRail r (fun x => { x with holdAt := none }) else s

/-- The UV timer reaches UV_DELAY (R130). -/
def uvDelayEnd (r : Fin 24) (s : State) : State :=
  if due s.now s.rails[r].uvAt then uvAct r (s.updRail r (fun x => { x with uvAt := none })) else s

/-- The row COMPENSATOR_SAMPLE (R111). -/
def execCompensatorSample (r : Fin 24) (e : Int) (sat : Bool) (vsnBad : Bool) (s : State) : Host.Outcome State Fault Refusal :=
  run (railSample r e sat vsnBad) s

/-- The row RAMP_STEP (R116). -/
def execRampStep (r : Fin 24) (s : State) : Host.Outcome State Fault Refusal := run (fun t => holdFollow (rampStep r t)) s

/-- The row DWELL_EXPIRY (R122). -/
def execDwellExpiry (r : Fin 24) (s : State) : Host.Outcome State Fault Refusal :=
  runAfter (fun s => s.waitTill (s.dwellDue r)) (dwellExpiry r) s

/-- The row HOLDOFF_EXPIRY (R124). -/
def execHoldoffExpiry (r : Fin 24) (s : State) : Host.Outcome State Fault Refusal :=
  runAfter (fun s => s.waitTill s.rails[r].holdAt) (holdoffEnd r) s

/-- The row OV_SNUFF (R127). -/
def execOvSnuff (r : Fin 24) (vsense : Nat) (s : State) : Host.Outcome State Fault Refusal :=
  run (ovChange (ovAct r) r vsense) s

/-- The row UV_COMPARATOR_CHANGE (R130). -/
def execUvComparatorChange (r : Fin 24) (vsense : Nat) (s : State) : Host.Outcome State Fault Refusal :=
  run (uvChange (uvAct r) r vsense) s

/-- The row UV_DELAY_EXPIRY (R130). -/
def execUvDelayExpiry (r : Fin 24) (s : State) : Host.Outcome State Fault Refusal :=
  runAfter (fun s => s.waitTill s.rails[r].uvAt) (uvDelayEnd r) s

/-- The row RAIL_RESULT_PUBLISH (R134). -/
def execRailResultPublish (r : Fin 24) (s : State) : Host.Outcome State Fault Refusal := run (railPublish r) s

/-- The row GRACE_EXPIRY (R151). -/
def execGraceExpiry (r : Fin 24) (kind : LimitKind) (s : State) : Host.Outcome State Fault Refusal :=
  runAfter (fun s => s.waitTill (s.graceDue r kind)) (graceExpiry r kind) s

/-- The row SETTLE_TIMEOUT (R146). -/
def execSettleTimeout (r : Fin 24) (s : State) : Host.Outcome State Fault Refusal :=
  runAfter (fun s => s.waitTill (s.settleDue r)) (settleTimeout r) s

end Sys2Proof.Machine
end

