-- ==== Sys2Proof/Machine/RegCmds1.lean ====
section
/-! DEFINITION. The host accesses of the power, load-link, sequencing, monitoring, housekeeping and hold-up registers: each row is a write or a read of one register of *Register Map* over the host bus, and its effect is that register's (spec/17_register_map.md R344, with the chapter of the register). -/
namespace Sys2Proof.Machine

/-- The register of a thermal level (Table 17.6). -/
def levelAddr : ThLevel → Nat
  | .warn => 0x0F24 | .dim => 0x0F26 | .trip => 0x0F28

/-- The row SLEEP_REQUEST (R76). -/
def execSleepRequest (s : State) : Host.Outcome State Fault Refusal := run (hostWrite 0x0032 1) s

/-- The row PH_RES_READ (R106). -/
def execPhResRead (n : Fin 64) (count : Nat) (s : State) : Host.Outcome State Fault Refusal :=
  run (hostRead (0x0204 + 16 * n.val) count) s

/-- The row PH_CTRL_FENCE (R102). -/
def execPhCtrlFence (n : Fin 64) (s : State) : Host.Outcome State Fault Refusal := run (hostStrobe (0x0202 + 16 * n.val) 1) s

/-- The row PH_CTRL_UNFENCE (R101). -/
def execPhCtrlUnfence (n : Fin 64) (s : State) : Host.Outcome State Fault Refusal := run (hostStrobe (0x0202 + 16 * n.val) 2) s

/-- The row PH_CTRL_TALLY_CLR (R107). -/
def execPhCtrlTallyClr (n : Fin 64) (s : State) : Host.Outcome State Fault Refusal := run (hostStrobe (0x0202 + 16 * n.val) 4) s

/-- The row PH_TRIM_WRITE (R49). -/
def execPhTrimWrite (n : Fin 64) (v : BitVec 16) (s : State) : Host.Outcome State Fault Refusal :=
  run (hostWrite (0x020C + 16 * n.val) v.toNat) s

/-- The row RAIL_RES_READ (R134). -/
def execRailResRead (r : Fin 24) (count : Nat) (s : State) : Host.Outcome State Fault Refusal :=
  run (hostRead (0x0610 + 32 * r.val) count) s

/-- The row RAIL_CTRL_UNSNUFF (R129). -/
def execRailCtrlUnsnuff (r : Fin 24) (s : State) : Host.Outcome State Fault Refusal :=
  run (hostStrobe (0x0604 + 32 * r.val) 1) s

/-- The row RAIL_CTRL_TALLY_CLR (R135). -/
def execRailCtrlTallyClr (r : Fin 24) (s : State) : Host.Outcome State Fault Refusal :=
  run (hostStrobe (0x0604 + 32 * r.val) 4) s

/-- The row RAIL_CTRL_NOSHED (R125). -/
def execRailCtrlNoshed (r : Fin 24) (on : Bool) (s : State) : Host.Outcome State Fault Refusal :=
  run (hostField (0x0604 + 32 * r.val) 8 (bit01 on * 8)) s

/-- The row RAIL_VSET_WRITE (R115). -/
def execRailVsetWrite (r : Fin 24) (v : BitVec 16) (s : State) : Host.Outcome State Fault Refusal :=
  run (hostWrite (0x0606 + 32 * r.val) v.toNat) s

/-- The row RAIL_ILIM_WRITE (R119). -/
def execRailIlimWrite (r : Fin 24) (v : BitVec 16) (s : State) : Host.Outcome State Fault Refusal :=
  run (hostWrite (0x060A + 32 * r.val) v.toNat) s

/-- The row LP_CTRL_TALLY_CLR (R158). -/
def execLpCtrlTallyClr (p : Fin 8) (s : State) : Host.Outcome State Fault Refusal := run (hostStrobe (0x0904 + 32 * p.val) 1) s

/-- The row LP_CTRL_NOTICE_CLR (R148). -/
def execLpCtrlNoticeClr (p : Fin 8) (s : State) : Host.Outcome State Fault Refusal := run (hostStrobe (0x0904 + 32 * p.val) 2) s

/-- The row SEQ_DOM_START (R183). -/
def execSeqDomStart (d : Fin 8) (s : State) : Host.Outcome State Fault Refusal := run (hostStrobe (0x0A04 + 16 * d.val) 1) s

/-- The row SEQ_DOM_STOP (R183). -/
def execSeqDomStop (d : Fin 8) (s : State) : Host.Outcome State Fault Refusal := run (hostStrobe (0x0A04 + 16 * d.val) 2) s

/-- The row SEQ_DOM_SHUTOFF (R183). -/
def execSeqDomShutoff (d : Fin 8) (s : State) : Host.Outcome State Fault Refusal := run (hostStrobe (0x0A04 + 16 * d.val) 4) s

/-- The row SEQ_DOM_UNLATCH (R183). -/
def execSeqDomUnlatch (d : Fin 8) (s : State) : Host.Outcome State Fault Refusal := run (hostStrobe (0x0A04 + 16 * d.val) 8) s

/-- The row SEQ_DOM_RETRY_CLR (R183). -/
def execSeqDomRetryClr (d : Fin 8) (s : State) : Host.Outcome State Fault Refusal := run (hostStrobe (0x0A04 + 16 * d.val) 16) s

/-- The row SEQ_DOM_TALLY_CLR (R186). -/
def execSeqDomTallyClr (d : Fin 8) (s : State) : Host.Outcome State Fault Refusal := run (hostStrobe (0x0A04 + 16 * d.val) 32) s

/-- The row CT_CTRL_ARM (R194). -/
def execCtCtrlArm (t : Fin 16) (s : State) : Host.Outcome State Fault Refusal := run (hostStrobe (0x0F42 + 12 * t.val) 1) s

/-- The row CT_CTRL_MISSED_CLR (R202). -/
def execCtCtrlMissedClr (t : Fin 16) (s : State) : Host.Outcome State Fault Refusal :=
  run (hostStrobe (0x0F42 + 12 * t.val) 2) s

/-- The row CT_PRESCALE_WRITE (R197). -/
def execCtPrescaleWrite (t : Fin 16) (v : BitVec 4) (s : State) : Host.Outcome State Fault Refusal :=
  run (hostField (0x0F42 + 12 * t.val) 0xF0 (v.toNat * 16)) s

/-- The row CT_RES_READ (R195). -/
def execCtResRead (t : Fin 16) (count : Nat) (s : State) : Host.Outcome State Fault Refusal :=
  run (hostRead (0x0F44 + 12 * t.val) count) s

/-- The row WM_CTRL_SELFTEST (R199). -/
def execWmCtrlSelftest (m : Fin 96) (s : State) : Host.Outcome State Fault Refusal := run (hostStrobe (0x0C02 + 8 * m.val) 1) s

/-- The row WM_CTRL_TALLY_CLR (R202). -/
def execWmCtrlTallyClr (m : Fin 96) (s : State) : Host.Outcome State Fault Refusal := run (hostStrobe (0x0C02 + 8 * m.val) 16) s

/-- The row WM_TICK_WRITE (R202). -/
def execWmTickWrite (m : Fin 96) (v : BitVec 10) (s : State) : Host.Outcome State Fault Refusal :=
  run (hostField (0x0C02 + 8 * m.val) 0xFFC0 (v.toNat * 64)) s

/-- The row WM_LOW_WRITE (R202). -/
def execWmLowWrite (m : Fin 96) (v : BitVec 16) (s : State) : Host.Outcome State Fault Refusal :=
  run (hostWrite (0x0C04 + 8 * m.val) v.toNat) s

/-- The row WM_HIGH_WRITE (R202). -/
def execWmHighWrite (m : Fin 96) (v : BitVec 16) (s : State) : Host.Outcome State Fault Refusal :=
  run (hostWrite (0x0C06 + 8 * m.val) v.toNat) s

/-- The row WM_SWEEP_CTRL_WRITE (R200). -/
def execWmSweepCtrlWrite (v : BitVec 16) (s : State) : Host.Outcome State Fault Refusal := run (hostWrite 0x0F30 v.toNat) s

/-- The row HK_CTRL_TALLY_CLR (R217). -/
def execHkCtrlTallyClr (s : State) : Host.Outcome State Fault Refusal := run (hostWrite 0x0F02 1) s

/-- The row TH_LEVEL_WRITE (R217). -/
def execThLevelWrite (lvl : ThLevel) (v : BitVec 16) (s : State) : Host.Outcome State Fault Refusal :=
  run (hostWrite (levelAddr lvl) v.toNat) s

/-- The row HK_RES_READ (R214). -/
def execHkResRead (count : Nat) (s : State) : Host.Outcome State Fault Refusal := run (hostRead 0x0F08 count) s

/-- The row TH_RES_READ (R214). -/
def execThResRead (count : Nat) (s : State) : Host.Outcome State Fault Refusal := run (hostRead 0x0F10 count) s

/-- The row HU_CAP_WRITE (R229). -/
def execHuCapWrite (v : BitVec 16) (s : State) : Host.Outcome State Fault Refusal := run (hostWrite 0x1006 v.toNat) s

/-- The row BC_CTRL_RESCAN (R235). -/
def execBcCtrlRescan (c : Fin 16) (s : State) : Host.Outcome State Fault Refusal := run (hostWrite 0x1020 (c.val + 16)) s

/-- The row HU_CTRL_TALLY_CLR (R242). -/
def execHuCtrlTallyClr (s : State) : Host.Outcome State Fault Refusal := run (hostWrite 0x1004 1) s

/-- The row HU_RES_READ (R225). -/
def execHuResRead (count : Nat) (s : State) : Host.Outcome State Fault Refusal := run (hostRead 0x1014 count) s

end Sys2Proof.Machine
end

