-- ==== Sys2Proof/Machine/RegCmds2.lean ====
section
/-! DEFINITION. The host accesses of the event, pair, Ovrath, ledger, window, host-bus and update registers, and of GLB_UNLOCK (spec/17_register_map.md R344, with the chapter of the register). -/
namespace Sys2Proof.Machine

/-- A write of GLB_UNLOCK on either path (R387). -/
def unlockRow (p : Path) (v : Nat) (s : State) : State :=
  match p with
  | .host => hostWrite 0x0014 v s
  | .ovrath _ => if s.running then (writeUnit p 0x0014 2 v s).2 else s

/-- The row EV_STAT_CLEAR (R250). -/
def execEvStatClear (i : Fin 12) (v : BitVec 16) (s : State) : Host.Outcome State Fault Refusal :=
  run (hostWrite (0x0100 + 2 * i.val) v.toNat) s

/-- The row EV_IEN_WRITE (R250). -/
def execEvIenWrite (i : Fin 12) (v : BitVec 16) (s : State) : Host.Outcome State Fault Refusal :=
  run (hostWrite (0x0120 + 2 * i.val) v.toNat) s

/-- The row EV_CTRL_FAULTN_CLR (R251). -/
def execEvCtrlFaultnClr (s : State) : Host.Outcome State Fault Refusal := run (hostWrite 0x0150 1) s

/-- The row EV_CTRL_UNFENCE (R245). -/
def execEvCtrlUnfence (s : State) : Host.Outcome State Fault Refusal := run (hostWrite 0x0150 2) s

/-- The row EV_CTRL_BLK_RELEASE (R247). -/
def execEvCtrlBlkRelease (s : State) : Host.Outcome State Fault Refusal := run (hostWrite 0x0150 4) s

/-- The row EV_CTRL_HOLD_CLR (R248). -/
def execEvCtrlHoldClr (s : State) : Host.Outcome State Fault Refusal := run (hostWrite 0x0150 8) s

/-- The row EV_CTRL_CNT_CLR (R256). -/
def execEvCtrlCntClr (s : State) : Host.Outcome State Fault Refusal := run (hostWrite 0x0150 16) s

/-- The row TALLY_CTRL_CLR_ALL (R253). -/
def execTallyCtrlClrAll (s : State) : Host.Outcome State Fault Refusal := run (hostWrite 0x1780 1) s

/-- The row EV_TIME_READ (R256). -/
def execEvTimeRead (count : Nat) (s : State) : Host.Outcome State Fault Refusal := run (hostRead 0x0144 count) s

/-- The row TALLY_READ (R253). -/
def execTallyRead (i : Fin 32) (count : Nat) (s : State) : Host.Outcome State Fault Refusal :=
  run (hostRead (0x1700 + 4 * i.val) count) s

/-- The row PAIR_CTRL_YIELD (R277). -/
def execPairCtrlYield (s : State) : Host.Outcome State Fault Refusal := run (hostStrobe 0x1104 1) s

/-- The row PAIR_CTRL_TAKE (R277). -/
def execPairCtrlTake (s : State) : Host.Outcome State Fault Refusal := run (hostStrobe 0x1104 2) s

/-- The row PAIR_CTRL_FLAP_CLR (R277). -/
def execPairCtrlFlapClr (s : State) : Host.Outcome State Fault Refusal := run (hostStrobe 0x1104 4) s

/-- The row PAIR_CTRL_NO_REVERT (R277). -/
def execPairCtrlNoRevert (on : Bool) (s : State) : Host.Outcome State Fault Refusal := run (hostField 0x1104 8 (bit01 on * 8)) s

/-- The row PAIR_CTRL_TALLY_CLR (R281). -/
def execPairCtrlTallyClr (s : State) : Host.Outcome State Fault Refusal := run (hostStrobe 0x1104 16) s

/-- The row OV_CTRL_ENUM (R285). -/
def execOvCtrlEnum (s : State) : Host.Outcome State Fault Refusal := run (hostWrite 0x1202 1) s

/-- The row OV_CTRL_BARRIER (R303). -/
def execOvCtrlBarrier (s : State) : Host.Outcome State Fault Refusal := run (hostWrite 0x1202 2) s

/-- The row OV_CTRL_SNAP (R304). -/
def execOvCtrlSnap (s : State) : Host.Outcome State Fault Refusal := run (hostWrite 0x1202 4) s

/-- The row OV_CTRL_RESET (R306). -/
def execOvCtrlReset (s : State) : Host.Outcome State Fault Refusal := run (hostWrite 0x1202 8) s

/-- The row OV_CTRL_REROUTE (R310). -/
def execOvCtrlReroute (s : State) : Host.Outcome State Fault Refusal := run (hostWrite 0x1202 16) s

/-- The row OV_CTRL_RETURN (R311). -/
def execOvCtrlReturn (s : State) : Host.Outcome State Fault Refusal := run (hostWrite 0x1202 32) s

/-- The row OV_CTRL_RECLAIM (R312). -/
def execOvCtrlReclaim (s : State) : Host.Outcome State Fault Refusal := run (hostWrite 0x1202 64) s

/-- The row OV_TXN_GO (R307). -/
def execOvTxnGo (s : State) : Host.Outcome State Fault Refusal := run (fun t => serveWaiting (hostStrobe 0x1256 1 t)) s

/-- The row OV_TIME_SET_WRITE (R299). -/
def execOvTimeSetWrite (v : BitVec 64) (s : State) : Host.Outcome State Fault Refusal :=
  run (hostBurst 0x1220 (leBytes 8 v.toNat)) s

/-- The row OV_TIME_READ (R299). -/
def execOvTimeRead (count : Nat) (s : State) : Host.Outcome State Fault Refusal := run (hostRead 0x1218 count) s

/-- The row LG_CTRL_TRIGGER (R325). -/
def execLgCtrlTrigger (s : State) : Host.Outcome State Fault Refusal := run (hostStrobe 0x1402 1) s

/-- The row LG_CTRL_RELEASE (R327). -/
def execLgCtrlRelease (s : State) : Host.Outcome State Fault Refusal := run (hostStrobe 0x1402 2) s

/-- The row LG_CTRL_FLUSH_HOLD (R334). -/
def execLgCtrlFlushHold (on : Bool) (s : State) : Host.Outcome State Fault Refusal := run (hostField 0x1402 4 (bit01 on * 4)) s

/-- The row LG_CTRL_TALLY_CLR (R339). -/
def execLgCtrlTallyClr (s : State) : Host.Outcome State Fault Refusal := run (hostStrobe 0x1402 8) s

/-- The row LG_REC_INFO_READ (R339). -/
def execLgRecInfoRead (count : Nat) (s : State) : Host.Outcome State Fault Refusal := run (hostRead 0x1420 count) s

/-- The row LG_WIN_SEL_WRITE (R392). -/
def execLgWinSelWrite (v : BitVec 16) (s : State) : Host.Outcome State Fault Refusal := run (hostWrite 0x1406 v.toNat) s

/-- The row LG_WIN_OFS_WRITE (R392). -/
def execLgWinOfsWrite (v : BitVec 32) (s : State) : Host.Outcome State Fault Refusal :=
  run (hostBurst 0x1408 (leBytes 4 v.toNat)) s

/-- The row PRB_SEL_WRITE (R391). -/
def execPrbSelWrite (v : BitVec 16) (s : State) : Host.Outcome State Fault Refusal := run (hostWrite 0x0040 v.toNat) s

/-- The row LEDGER_WINDOW_READ (R390). -/
def execLedgerWindowRead (ofs : BitVec 14) (count : Nat) (s : State) : Host.Outcome State Fault Refusal :=
  run (hostRead (0x8000 + ofs.toNat) count) s

/-- The row PATTERN_WINDOW_READ (R391). -/
def execPatternWindowRead (ofs : BitVec 14) (count : Nat) (s : State) : Host.Outcome State Fault Refusal :=
  run (hostRead (0xC000 + ofs.toNat) count) s

/-- The row WINDOW_LINE_FETCH (R392). -/
def execWindowLineFetch (pat : Bool) (line : Nat) (s : State) : Host.Outcome State Fault Refusal := run (lineFetch pat line) s

/-- The row HB_SET_POINTER (R342). -/
def execHbSetPointer (p : PtrBytes) (count : Nat) (s : State) : Host.Outcome State Fault Refusal :=
  run (hostPointer p count) s

/-- The row REGISTER_WRITE (R344). -/
def execRegisterWrite (ptr : BitVec 16) (data : List (BitVec 8)) (s : State) : Host.Outcome State Fault Refusal :=
  run (fun t => serveWaiting (hostBurst ptr.toNat data t)) s

/-- The row HOST_BUS_STOP (R344). -/
def execHostBusStop (s : State) : Host.Outcome State Fault Refusal := run hostStop s

/-- The row HB_LOW_TIMEOUT (R350). -/
def execHbLowTimeout (line : BusLine) (s : State) : Host.Outcome State Fault Refusal := run (lowTimeout line) s

/-- The row ATTN_ATTEMPT (R354). -/
def execAttnAttempt (res : AttnResult) (s : State) : Host.Outcome State Fault Refusal := run (attnTry res) s

/-- The row ATTN_BACKOFF_EXPIRY (R354). -/
def execAttnBackoffExpiry (s : State) : Host.Outcome State Fault Refusal := run backoffEnd s

/-- The row HB_RECOVERY (R356). -/
def execHbRecovery (pulses : Nat) (s : State) : Host.Outcome State Fault Refusal := run (recoverDue pulses) s

/-- The row HB_CTRL_TALLY_CLR (R360). -/
def execHbCtrlTallyClr (s : State) : Host.Outcome State Fault Refusal := run (hostWrite 0x1504 1) s

/-- The row HB_CTRL_FLUSH (R360). -/
def execHbCtrlFlush (s : State) : Host.Outcome State Fault Refusal := run (hostWrite 0x1504 2) s

/-- The row HB_CTRL_RECOVER (R356). -/
def execHbCtrlRecover (pulses : Nat) (s : State) : Host.Outcome State Fault Refusal := run (recoverRow pulses) s

/-- The row GLB_UNLOCK_WRITE (R387). -/
def execGlbUnlockWrite (path : Path) (v : BitVec 16) (s : State) : Host.Outcome State Fault Refusal :=
  run (unlockRow path v.toNat) s

/-- The row UNLOCK_DISARM_TIMEOUT (R388). -/
def execUnlockDisarmTimeout (ov : Bool) (s : State) : Host.Outcome State Fault Refusal :=
  runAfter (fun s => s.waitTill (s.disarmAt ov)) (disarmDue ov) s

/-- The row UNLOCK_IDLE_LOCK (R389). -/
def execUnlockIdleLock (ov : Bool) (s : State) : Host.Outcome State Fault Refusal :=
  runAfter (fun s => s.waitTill (s.relockAt ov)) (idleLockDue ov) s

/-- The row UPD_CTRL_ACTIVATE (R379). -/
def execUpdCtrlActivate (s : State) : Host.Outcome State Fault Refusal := run (hostStrobe 0x1604 1) s

/-- The row UPD_CTRL_CANCEL (R379). -/
def execUpdCtrlCancel (s : State) : Host.Outcome State Fault Refusal := run (hostStrobe 0x1604 2) s

/-- The row UPD_CTRL_REVERT (R370). -/
def execUpdCtrlRevert (s : State) : Host.Outcome State Fault Refusal := run (hostStrobe 0x1604 4) s

/-- The row UPD_CTRL_CONFIRM (R374). -/
def execUpdCtrlConfirm (s : State) : Host.Outcome State Fault Refusal := run (hostStrobe 0x1604 8) s

end Sys2Proof.Machine
end

