-- ==== Sys2Proof/Machine/SeqCmds.lean ====
section
/-! DEFINITION. The commands of the lamplighter that its ticks, timers and inputs give (spec/07_sequencing.md). -/
namespace Sys2Proof.Machine

/-- The row LAMPLIGHTER_TICK (R159). -/
def execLamplighterTick (s : State) : Host.Outcome State Fault Refusal :=
  runAfter (fun s => s.waitTill s.tickDue) (fun t => holdFollow (lampTick t)) s

/-- The row DOMAIN_COMMON_START (R160). -/
def execDomainCommonStart (d : Fin 8) (s : State) : Host.Outcome State Fault Refusal :=
  runTick (fun s => s.startAt d) (fun t => holdFollow (commonStart d t)) s

/-- The row SLOT_SWITCH_ON (R160). -/
def execSlotSwitchOn (n : Fin 48) (s : State) : Host.Outcome State Fault Refusal :=
  runTick (fun s => s.onTick n) (fun t => holdFollow (switchOn n t)) s

/-- The row SLOT_OFF_POINT (R160). -/
def execSlotOffPoint (n : Fin 48) (s : State) : Host.Outcome State Fault Refusal :=
  runTick (fun s => s.offTick n) (fun t => holdFollow (offPoint n t)) s

/-- The row UP_TO_EXPIRY (R170). -/
def execUpToExpiry (n : Fin 48) (s : State) : Host.Outcome State Fault Refusal :=
  runTick (fun s => s.upTick n) (fun t => holdFollow (upToEnd n t)) s

/-- The row DOWN_TO_EXPIRY (R174). -/
def execDownToExpiry (n : Fin 48) (s : State) : Host.Outcome State Fault Refusal :=
  runTick (fun s => s.downTick n) (fun t => holdFollow (downToEnd n t)) s

/-- The row PG_IN_CHANGE (R163). -/
def execPgInChange (n : Fin 48) (level : Bool) (s : State) : Host.Outcome State Fault Refusal :=
  run (fun t => holdFollow (pgInEdge n level t)) s

/-- The row DOMAIN_INPUT_QUALIFIED (R166). -/
def execDomainInputQualified (d : Fin 8) (s : State) : Host.Outcome State Fault Refusal :=
  runAfter (fun s => s.waitTill (s.inputDue d)) (inputQualified d) s

/-- The row DOMAIN_INPUT_LOST (R166). -/
def execDomainInputLost (d : Fin 8) (s : State) : Host.Outcome State Fault Refusal :=
  run (fun t => holdFollow (inputLost d t)) s

/-- The row MIN_OFF_EXPIRY (R179). -/
def execMinOffExpiry (d : Fin 8) (s : State) : Host.Outcome State Fault Refusal :=
  runAfter (fun s => s.waitTill s.seq.doms[d].minOffAt) (minOffEnd d) s

/-- The row RESTART_EXPIRY (R180). -/
def execRestartExpiry (d : Fin 8) (s : State) : Host.Outcome State Fault Refusal :=
  runAfter (fun s => s.waitTill s.seq.doms[d].restartAt) (restartEnd d) s

/-- The row RETRY_WINDOW_EXPIRY (R181). -/
def execRetryWindowExpiry (d : Fin 8) (s : State) : Host.Outcome State Fault Refusal :=
  runAfter (fun s => s.waitTill (s.retryDue d)) (retryAge d) s

end Sys2Proof.Machine
end

