-- ==== Sys2Proof/Machine/SpCmds.lean ====
section
/-! DEFINITION. The commands of the service port, the factory test and field update (spec/16_update.md, spec/11_faults.md R255), but for the host's. -/
namespace Sys2Proof.Machine

/-- The row TEST_CHALLENGE (R255). -/
def execTestChallenge (tag : BitVec 8) (q : SpEnd) (s : State) : Host.Outcome State Fault Refusal :=
  run (spRequest 0x7D tag.toNat [] q testChallengeDo) s

/-- The row TEST_ENTER (R255). -/
def execTestEnter (tag : BitVec 8) (q : SpEnd) (payload : List (BitVec 8)) (s : State) : Host.Outcome State Fault Refusal :=
  run (spRequest 0x7E tag.toNat payload q (testEnterDo payload)) s

/-- The row SP_FETCH (R362). -/
def execSpFetch (s : State) : Host.Outcome State Fault Refusal := run fetchResp s

/-- The row SP_OPEN (R365). -/
def execSpOpen (tag : BitVec 8) (q : SpEnd) (mode : BitVec 8) (s : State) : Host.Outcome State Fault Refusal :=
  run (spRequest 1 tag.toNat [mode] q (spOpenDo mode.toNat)) s

/-- The row SP_CLOSE (R365). -/
def execSpClose (tag : BitVec 8) (q : SpEnd) (s : State) : Host.Outcome State Fault Refusal :=
  run (spRequest 2 tag.toNat [] q spCloseDo) s

/-- The row SP_INFO (R365). -/
def execSpInfo (tag : BitVec 8) (q : SpEnd) (s : State) : Host.Outcome State Fault Refusal :=
  run (spRequest 3 tag.toNat [] q spInfoDo) s

/-- The row SP_READ (R365). -/
def execSpRead (tag : BitVec 8) (q : SpEnd) (space : BitVec 8) (ofs : BitVec 32) (count : BitVec 16) (s : State) : Host.Outcome State Fault Refusal :=
  run (spRequest 0x10 tag.toNat ([space] ++ leBytes 4 ofs.toNat ++ leBytes 2 count.toNat) q (spReadDo space.toNat ofs.toNat count.toNat)) s

/-- The row SP_STAGE_BEGIN (R367). -/
def execSpStageBegin (tag : BitVec 8) (q : SpEnd) (payload : List (BitVec 8)) (s : State) : Host.Outcome State Fault Refusal :=
  run (spRequest 0x20 tag.toNat payload q (spStageBeginDo payload)) s

/-- The row SP_STAGE_DATA (R367). -/
def execSpStageData (tag : BitVec 8) (q : SpEnd) (ofs : BitVec 32) (data : List (BitVec 8)) (s : State) : Host.Outcome State Fault Refusal :=
  run (spRequest 0x21 tag.toNat (leBytes 4 ofs.toNat ++ data) q (spStageDataDo ofs.toNat data)) s

/-- The row SP_STAGE_ABORT (R367). -/
def execSpStageAbort (tag : BitVec 8) (q : SpEnd) (s : State) : Host.Outcome State Fault Refusal :=
  run (spRequest 0x22 tag.toNat [] q spAbortDo) s

/-- The row SP_ACTIVATE (R370). -/
def execSpActivate (tag : BitVec 8) (q : SpEnd) (imgId : BitVec 32) (confirm : BitVec 16) (atTime : BitVec 64) (s : State) : Host.Outcome State Fault Refusal :=
  run (spRequest 0x23 tag.toNat (leBytes 4 imgId.toNat ++ leBytes 2 confirm.toNat ++ leBytes 8 atTime.toNat) q (spActivateDo imgId.toNat confirm.toNat atTime.toNat)) s

/-- The row SP_CANCEL (R379). -/
def execSpCancel (tag : BitVec 8) (q : SpEnd) (s : State) : Host.Outcome State Fault Refusal :=
  run (spRequest 0x24 tag.toNat [] q spCancelDo) s

/-- The row SP_REVERT (R370). -/
def execSpRevert (tag : BitVec 8) (q : SpEnd) (mode : BitVec 8) (s : State) : Host.Outcome State Fault Refusal :=
  run (spRequest 0x25 tag.toNat [mode] q (spRevertDo mode.toNat)) s

/-- The row SP_CONFIRM (R374). -/
def execSpConfirm (tag : BitVec 8) (q : SpEnd) (s : State) : Host.Outcome State Fault Refusal :=
  run (spRequest 0x26 tag.toNat [] q spConfirmDo) s

/-- The row SP_MEM_ERASE (R365). -/
def execSpMemErase (tag : BitVec 8) (q : SpEnd) (dev : BitVec 8) (ofs : BitVec 32) (s : State) : Host.Outcome State Fault Refusal :=
  run (spRequest 0x40 tag.toNat ([dev] ++ leBytes 4 ofs.toNat) q (spEraseDo dev.toNat ofs.toNat)) s

/-- The row SP_MEM_WRITE (R365). -/
def execSpMemWrite (tag : BitVec 8) (q : SpEnd) (dev : BitVec 8) (ofs : BitVec 32) (data : List (BitVec 8)) (s : State) : Host.Outcome State Fault Refusal :=
  run (spRequest 0x41 tag.toNat ([dev] ++ leBytes 4 ofs.toNat ++ data) q (spWriteDo dev.toNat ofs.toNat data)) s

/-- The row SP_MEM_READ (R365). -/
def execSpMemRead (tag : BitVec 8) (q : SpEnd) (dev : BitVec 8) (ofs : BitVec 32) (count : BitVec 16) (s : State) : Host.Outcome State Fault Refusal :=
  run (spRequest 0x42 tag.toNat ([dev] ++ leBytes 4 ofs.toNat ++ leBytes 2 count.toNat) q (spMemReadDo dev.toNat ofs.toNat count.toNat)) s

/-- The row SP_KEY_WRITE (R365). -/
def execSpKeyWrite (tag : BitVec 8) (q : SpEnd) (slot : BitVec 8) (key : List (BitVec 8)) (s : State) : Host.Outcome State Fault Refusal :=
  run (spRequest 0x43 tag.toNat ([slot] ++ key) q (spKeyDo slot.toNat key)) s

/-- The row SP_UNKNOWN_COMMAND (R365). -/
def execSpUnknownCommand (cmd tag : BitVec 8) (q : SpEnd) (s : State) : Host.Outcome State Fault Refusal :=
  run (spRequest cmd.toNat tag.toNat [] q unknownDo) s

/-- The row SP_SESSION_TIMEOUT (R365). -/
def execSpSessionTimeout (s : State) : Host.Outcome State Fault Refusal :=
  runAfter (fun s => s.waitTill s.sessionDue) sessionTimeout s

/-- The row OV_STAGING_SILENCE (R367). -/
def execOvStagingSilence (s : State) : Host.Outcome State Fault Refusal :=
  runAfter (fun s => s.waitTill s.silenceDue) ovSilence s

/-- The row IMAGE_VERIFY (R367). -/
def execImageVerify (s : State) : Host.Outcome State Fault Refusal := run imageVerified s

/-- The row CORE_CONFIRM (R370). -/
def execCoreConfirm (c : CoreId) (s : State) : Host.Outcome State Fault Refusal := run (coreConfirmed c) s

/-- The row CORE_TRIAL_TIMEOUT (R370). -/
def execCoreTrialTimeout (c : CoreId) (s : State) : Host.Outcome State Fault Refusal :=
  runAfter (fun s => s.waitTill (s.trialDue c)) (coreTrialEnd c) s

/-- The row PROOF_WINDOW_END (R374). -/
def execProofWindowEnd (s : State) : Host.Outcome State Fault Refusal :=
  runAfter (fun s => s.waitTill s.proofDue) proofEnd s

/-- The row PAIR_SEQUENCE_HALT (R378). -/
def execPairSequenceHalt (s : State) : Host.Outcome State Fault Refusal :=
  runAfter (fun s => s.waitTill s.seqDue) seqLate s

/-- The row SCHEDULED_ACTIVATION (R380). -/
def execScheduledActivation (s : State) : Host.Outcome State Fault Refusal :=
  runAfter State.schedWait schedDue s

end Sys2Proof.Machine
end

