-- ==== Sys2Proof/Machine/StartCmds.lean ====
section
/-! DEFINITION. The commands of start, supplies, external memory, scrub, sleep and wake (spec/03_start_and_memory.md), but for those that go through a register. -/
namespace Sys2Proof.Machine

/-- FAULT_N is released 10 ms after the latest ERRPIN firing in FAULTN_MODE 0 (R251). -/
def faultnRelease (s : State) : State :=
  if s.cfg.device.faultnMode != 1 && due s.now (s.ev.lastErr.map (· + ms 10)) then
    s.updEv (fun e => { e with faultOn := false, lastErr := none })
  else s

/-- The row POR_ASSERT (R396). -/
def execPorAssert (k : Fin 5) (s : State) : Host.Outcome State Fault Refusal := run (porAsserted k) s

/-- The row POR_RELEASE (R57). -/
def execPorRelease (straps : Straps) (s : State) : Host.Outcome State Fault Refusal := run (porReleased straps) s

/-- The row RESET_N_ASSERT (R56). -/
def execResetNAssert (lowNs : Nat) (s : State) : Host.Outcome State Fault Refusal := run (resetAsserted lowNs) s

/-- The row RESET_N_RELEASE (R56). -/
def execResetNRelease (straps : Straps) (s : State) : Host.Outcome State Fault Refusal := run (resetReleased straps) s

/-- The row CRESET_RESTART (R248). -/
def execCresetRestart (straps : Straps) (s : State) : Host.Outcome State Fault Refusal := run (cresetRestarted straps) s

/-- The row LAYOUT_DIRECTORY_READ (R61). -/
def execLayoutDirectoryRead (s : State) : Host.Outcome State Fault Refusal := run readLayout s

/-- The row PATTERN_CANDIDATE_CHECK (R45). -/
def execPatternCandidateCheck (s : State) : Host.Outcome State Fault Refusal := run patternChecked s

/-- The row PATTERN_APPLY (R47). -/
def execPatternApply (s : State) : Host.Outcome State Fault Refusal := run patternApplied s

/-- The row CORE_IMAGE_CHECK (R57). -/
def execCoreImageCheck (s : State) : Host.Outcome State Fault Refusal := run coresChecked s

/-- The row CORE_START (R57). -/
def execCoreStart (supOk ledOk lnkOk : Bool) (s : State) : Host.Outcome State Fault Refusal :=
  run (coresStart supOk ledOk lnkOk) s

/-- The row SETTINGS_STORE_READ (R71). -/
def execSettingsStoreRead (copy : StoreRead) (s : State) : Host.Outcome State Fault Refusal :=
  run (settingsRead copy.readable copy.migrates) s

/-- The row READY (R58). -/
def execReady (s : State) : Host.Outcome State Fault Refusal := run readyNow s

/-- The row FEED_QUALIFIED (R53). -/
def execFeedQualified (f : FeedSense) (s : State) : Host.Outcome State Fault Refusal :=
  runAfter (fun s => s.waitTill (s.feedDue f.feed)) (feedQual f) s

/-- The row INPUT_QUALIFY_RESTART (R53). -/
def execInputQualifyRestart (i : QualInput) (s : State) : Host.Outcome State Fault Refusal := run (qualifyRestart i) s

/-- The row FEED_ABSENT (R52). -/
def execFeedAbsent (f : FeedSense) (s : State) : Host.Outcome State Fault Refusal := run (feedGone f) s

/-- The row FEED_GATE_OFF (R52). -/
def execFeedGateOff (f : Fin 2) (s : State) : Host.Outcome State Fault Refusal := run (feedBelow f true) s

/-- The row FEED_GATE_ON (R52). -/
def execFeedGateOn (f : Fin 2) (s : State) : Host.Outcome State Fault Refusal := run (feedBelow f false) s

/-- The row MEM_STATUS_POLL (R65). -/
def execMemStatusPoll (busy : Bool) (s : State) : Host.Outcome State Fault Refusal := run (memPoll busy) s

/-- The row MEM_WRITE_TIMEOUT (R65). -/
def execMemWriteTimeout (s : State) : Host.Outcome State Fault Refusal :=
  runAfter (fun s => s.waitTill s.memDue) memTimeout s

/-- The row SCRUB_SEGMENT_CHECK (R72). -/
def execScrubSegmentCheck (seg : Nat) (crc : BitVec 32) (s : State) : Host.Outcome State Fault Refusal :=
  runAfter (fun s => s.waitTill (s.scrubDue seg)) (scrubCheck seg crc.toNat) s

/-- The row SCRUB_REPAIR (R73). -/
def execScrubRepair (s : State) : Host.Outcome State Fault Refusal := run scrubRepaired s

/-- The row SLEEP_IDLE_EXPIRY (R76). -/
def execSleepIdleExpiry (s : State) : Host.Outcome State Fault Refusal :=
  runAfter (fun s => s.waitTill s.idleDue) idleSleep s

/-- The row SLEEP_ENTRY (R77). -/
def execSleepEntry (s : State) : Host.Outcome State Fault Refusal := run sleepEnter s

/-- The row WAKE_REQUEST (R78). -/
def execWakeRequest (src : Fin 8) (s : State) : Host.Outcome State Fault Refusal := run (wakeOn src) s

/-- The row SLP_ALARM_EXPIRY (R78). -/
def execSlpAlarmExpiry (s : State) : Host.Outcome State Fault Refusal :=
  runAfter (fun s => s.waitTill s.alarmDueAt) alarmDue s

/-- The row WAKE_SCRUB_PASS (R79). -/
def execWakeScrubPass (bad : List Nat) (s : State) : Host.Outcome State Fault Refusal := run (wakeScrub bad) s

/-- The row WAKE_COMPLETE (R79). -/
def execWakeComplete (s : State) : Host.Outcome State Fault Refusal := run wakeDone s

/-- The row FAULTN_RELEASE_TIMER (R251). -/
def execFaultnReleaseTimer (s : State) : Host.Outcome State Fault Refusal :=
  runAfter (fun s => s.waitTill s.faultnDue) faultnRelease s

/-- The row BLOCK_RESET_COMPLETE (R245). -/
def execBlockResetComplete (b : Block) (s : State) : Host.Outcome State Fault Refusal := run (blockDone b) s

end Sys2Proof.Machine
end

