-- ==== Sys2Proof/Machine/WatchCmds.lean ====
section
/-! DEFINITION. The commands of the window monitors and capture timers that samples and timers give (spec/08_window_monitors.md). -/
namespace Sys2Proof.Machine

/-- The count of a capture timer saturates (R194); the wrap is a single event that crosses as a toggle, and one that meets an
outstanding acknowledgement acts when that arrives (R20). -/
def timerSaturate (t : Fin 16) (s : State) : State :=
  if s.ctFull t then
    let u := toggle (.timerWrap t) s
    if (s.arch.toggle (.timerWrap t)).outstanding then u else ctSaturate t u
  else s

/-- The row WICK_SAMPLE (R190). -/
def execWickSample (m : Fin 96) (v : Nat) (s : State) : Host.Outcome State Fault Refusal :=
  run (fun t => holdFollow (wickSample m v t)) s

/-- The row CONTINUOUS_COMPARATOR_CHANGE (R188). -/
def execContinuousComparatorChange (m : Fin 96) (v : Nat) (s : State) : Host.Outcome State Fault Refusal :=
  run (fun t => holdFollow (contChange m v t)) s

/-- The row CONTINUOUS_FILTER_EXPIRY (R188). -/
def execContinuousFilterExpiry (m : Fin 96) (high : Bool) (s : State) : Host.Outcome State Fault Refusal :=
  runAfter (fun s => s.waitTill (s.filterDue m high)) (fun t => holdFollow (contExpiry m high t)) s

/-- The row CAPTURE_SATURATE (R194). -/
def execCaptureSaturate (t : Fin 16) (s : State) : Host.Outcome State Fault Refusal :=
  runAfter (fun s => s.waitTill (s.saturateDue t)) (timerSaturate t) s

/-- The row SELF_TEST_SAMPLE (R198). -/
def execSelfTestSample (m : Fin 96) (low high : Bool) (v : Nat) (s : State) : Host.Outcome State Fault Refusal :=
  run (fun t => holdFollow (testSample m low high v t)) s

/-- The row SWEEP_VISIT (R200). -/
def execSweepVisit (s : State) : Host.Outcome State Fault Refusal := run sweepVisit s

end Sys2Proof.Machine
end

