-- ==== Sys2Proof/Machine/Dispatch.lean ====
section
/-! DEFINITION. One arm per command: a direct call of its meaning, or a rejection by name. -/
namespace Sys2Proof.Machine

/-- The effect of a command on everything but the queue. -/
def exec (i : Instr) (s : State) : Host.Outcome State Fault Refusal :=
  match i with
  | .handshakeStall => Sys2Proof.Machine.execHandshakeStall s
  | .pllLockLoss => Sys2Proof.Machine.execPllLockLoss s
  | .pllLockAcquired => Sys2Proof.Machine.execPllLockAcquired s
  | .refClkLoss => Sys2Proof.Machine.execRefClkLoss s
  | .refClkReturn => Sys2Proof.Machine.execRefClkReturn s
  | .refClkHoldoverExpiry => Sys2Proof.Machine.execRefClkHoldoverExpiry s
  | .cdcAcceptFailure => Sys2Proof.Machine.execCdcAcceptFailure s
  | .cdcToggleAck l => Sys2Proof.Machine.execCdcToggleAck l s
  | .islandRestartDone x => Sys2Proof.Machine.execIslandRestartDone x s
  | .coreWatchdogExpiry c => Sys2Proof.Machine.execCoreWatchdogExpiry c s
  | .coreRestartDone c selfTestOk => Sys2Proof.Machine.execCoreRestartDone c selfTestOk s
  | .porAssert k => Sys2Proof.Machine.execPorAssert k s
  | .porRelease straps => Sys2Proof.Machine.execPorRelease straps s
  | .resetNAssert lowNs => Sys2Proof.Machine.execResetNAssert lowNs s
  | .resetNRelease straps => Sys2Proof.Machine.execResetNRelease straps s
  | .layoutDirectoryRead => Sys2Proof.Machine.execLayoutDirectoryRead s
  | .patternCandidateCheck => Sys2Proof.Machine.execPatternCandidateCheck s
  | .patternApply => Sys2Proof.Machine.execPatternApply s
  | .coreImageCheck => Sys2Proof.Machine.execCoreImageCheck s
  | .coreStart supOk ledOk lnkOk => Sys2Proof.Machine.execCoreStart supOk ledOk lnkOk s
  | .settingsStoreRead copy => Sys2Proof.Machine.execSettingsStoreRead copy s
  | .ready => Sys2Proof.Machine.execReady s
  | .feedQualified f => Sys2Proof.Machine.execFeedQualified f s
  | .inputQualifyRestart x => Sys2Proof.Machine.execInputQualifyRestart x s
  | .feedAbsent f => Sys2Proof.Machine.execFeedAbsent f s
  | .feedGateOff f => Sys2Proof.Machine.execFeedGateOff f s
  | .feedGateOn f => Sys2Proof.Machine.execFeedGateOn f s
  | .memStatusPoll busy => Sys2Proof.Machine.execMemStatusPoll busy s
  | .memWriteTimeout => Sys2Proof.Machine.execMemWriteTimeout s
  | .scrubSegmentCheck seg crc => Sys2Proof.Machine.execScrubSegmentCheck seg crc s
  | .scrubRepair => Sys2Proof.Machine.execScrubRepair s
  | .sleepRequest => Sys2Proof.Machine.execSleepRequest s
  | .sleepIdleExpiry => Sys2Proof.Machine.execSleepIdleExpiry s
  | .sleepEntry => Sys2Proof.Machine.execSleepEntry s
  | .wakeRequest src => Sys2Proof.Machine.execWakeRequest src s
  | .slpAlarmExpiry => Sys2Proof.Machine.execSlpAlarmExpiry s
  | .wakeScrubPass bad => Sys2Proof.Machine.execWakeScrubPass bad s
  | .wakeComplete => Sys2Proof.Machine.execWakeComplete s
  | .pwmLeadingEdge n => Sys2Proof.Machine.execPwmLeadingEdge n s
  | .onTimeEnd n why peak ton => Sys2Proof.Machine.execOnTimeEnd n why peak ton s
  | .valleySampleConversion n code => Sys2Proof.Machine.execValleySampleConversion n code s
  | .phaseResultPublish n => Sys2Proof.Machine.execPhaseResultPublish n s
  | .phResRead n count => Sys2Proof.Machine.execPhResRead n count s
  | .phCtrlFence n => Sys2Proof.Machine.execPhCtrlFence n s
  | .phCtrlUnfence n => Sys2Proof.Machine.execPhCtrlUnfence n s
  | .phCtrlTallyClr n => Sys2Proof.Machine.execPhCtrlTallyClr n s
  | .phTrimWrite n v => Sys2Proof.Machine.execPhTrimWrite n v s
  | .compensatorSample r e sat vsnBad => Sys2Proof.Machine.execCompensatorSample r e sat vsnBad s
  | .rampStep r => Sys2Proof.Machine.execRampStep r s
  | .dwellExpiry r => Sys2Proof.Machine.execDwellExpiry r s
  | .holdoffExpiry r => Sys2Proof.Machine.execHoldoffExpiry r s
  | .ovSnuff r vsense => Sys2Proof.Machine.execOvSnuff r vsense s
  | .uvComparatorChange r vsense => Sys2Proof.Machine.execUvComparatorChange r vsense s
  | .uvDelayExpiry r => Sys2Proof.Machine.execUvDelayExpiry r s
  | .railResultPublish r => Sys2Proof.Machine.execRailResultPublish r s
  | .railResRead r count => Sys2Proof.Machine.execRailResRead r count s
  | .railCtrlUnsnuff r => Sys2Proof.Machine.execRailCtrlUnsnuff r s
  | .railCtrlTallyClr r => Sys2Proof.Machine.execRailCtrlTallyClr r s
  | .railCtrlNoshed r on => Sys2Proof.Machine.execRailCtrlNoshed r on s
  | .railVsetWrite r v => Sys2Proof.Machine.execRailVsetWrite r v s
  | .railIlimWrite r v => Sys2Proof.Machine.execRailIlimWrite r v s
  | .llFrameBoundary p edges startOne => Sys2Proof.Machine.execLlFrameBoundary p edges startOne s
  | .setV p sub tog payload rcrc => Sys2Proof.Machine.execSetV p sub tog payload rcrc s
  | .preload p sub tog payload rcrc => Sys2Proof.Machine.execPreload p sub tog payload rcrc s
  | .llRead p sub tog payload rcrc => Sys2Proof.Machine.execLlRead p sub tog payload rcrc s
  | .noticeAck p sub tog payload rcrc => Sys2Proof.Machine.execNoticeAck p sub tog payload rcrc s
  | .dimAck p sub tog payload rcrc => Sys2Proof.Machine.execDimAck p sub tog payload rcrc s
  | .llUnusedCommand p cmd sub tog payload rcrc => Sys2Proof.Machine.execLlUnusedCommand p cmd sub tog payload rcrc s
  | .settleTimeout r => Sys2Proof.Machine.execSettleTimeout r s
  | .graceExpiry r kind => Sys2Proof.Machine.execGraceExpiry r kind s
  | .lpCtrlTallyClr p => Sys2Proof.Machine.execLpCtrlTallyClr p s
  | .lpCtrlNoticeClr p => Sys2Proof.Machine.execLpCtrlNoticeClr p s
  | .lamplighterTick => Sys2Proof.Machine.execLamplighterTick s
  | .domainCommonStart d => Sys2Proof.Machine.execDomainCommonStart d s
  | .slotSwitchOn n => Sys2Proof.Machine.execSlotSwitchOn n s
  | .slotOffPoint n => Sys2Proof.Machine.execSlotOffPoint n s
  | .upToExpiry n => Sys2Proof.Machine.execUpToExpiry n s
  | .downToExpiry n => Sys2Proof.Machine.execDownToExpiry n s
  | .pgInChange n level => Sys2Proof.Machine.execPgInChange n level s
  | .domainInputQualified d => Sys2Proof.Machine.execDomainInputQualified d s
  | .domainInputLost d => Sys2Proof.Machine.execDomainInputLost d s
  | .minOffExpiry d => Sys2Proof.Machine.execMinOffExpiry d s
  | .restartExpiry d => Sys2Proof.Machine.execRestartExpiry d s
  | .retryWindowExpiry d => Sys2Proof.Machine.execRetryWindowExpiry d s
  | .seqDomStart d => Sys2Proof.Machine.execSeqDomStart d s
  | .seqDomStop d => Sys2Proof.Machine.execSeqDomStop d s
  | .seqDomShutoff d => Sys2Proof.Machine.execSeqDomShutoff d s
  | .seqDomUnlatch d => Sys2Proof.Machine.execSeqDomUnlatch d s
  | .seqDomRetryClr d => Sys2Proof.Machine.execSeqDomRetryClr d s
  | .seqDomTallyClr d => Sys2Proof.Machine.execSeqDomTallyClr d s
  | .wickSample m v => Sys2Proof.Machine.execWickSample m v s
  | .continuousComparatorChange m v => Sys2Proof.Machine.execContinuousComparatorChange m v s
  | .captureSaturate t => Sys2Proof.Machine.execCaptureSaturate t s
  | .ctCtrlArm t => Sys2Proof.Machine.execCtCtrlArm t s
  | .ctCtrlMissedClr t => Sys2Proof.Machine.execCtCtrlMissedClr t s
  | .ctPrescaleWrite t v => Sys2Proof.Machine.execCtPrescaleWrite t v s
  | .ctResRead t count => Sys2Proof.Machine.execCtResRead t count s
  | .wmCtrlSelftest m => Sys2Proof.Machine.execWmCtrlSelftest m s
  | .selfTestSample m low high v => Sys2Proof.Machine.execSelfTestSample m low high v s
  | .sweepVisit => Sys2Proof.Machine.execSweepVisit s
  | .wmSweepCtrlWrite v => Sys2Proof.Machine.execWmSweepCtrlWrite v s
  | .wmCtrlTallyClr m => Sys2Proof.Machine.execWmCtrlTallyClr m s
  | .wmTickWrite m v => Sys2Proof.Machine.execWmTickWrite m v s
  | .wmLowWrite m v => Sys2Proof.Machine.execWmLowWrite m v s
  | .wmHighWrite m v => Sys2Proof.Machine.execWmHighWrite m v s
  | .hkRoundStart => Sys2Proof.Machine.execHkRoundStart s
  | .hkConversionDone ch val q => Sys2Proof.Machine.execHkConversionDone ch val q s
  | .hkConversionTimeout ch => Sys2Proof.Machine.execHkConversionTimeout ch s
  | .hkRoundLate => Sys2Proof.Machine.execHkRoundLate s
  | .hkCtrlTallyClr => Sys2Proof.Machine.execHkCtrlTallyClr s
  | .thLevelWrite lvl v => Sys2Proof.Machine.execThLevelWrite lvl v s
  | .hkResRead count => Sys2Proof.Machine.execHkResRead count s
  | .thResRead count => Sys2Proof.Machine.execThResRead count s
  | .rideComparatorTrip => Sys2Proof.Machine.execRideComparatorTrip s
  | .rideComparatorClear => Sys2Proof.Machine.execRideComparatorClear s
  | .handbackExpiry => Sys2Proof.Machine.execHandbackExpiry s
  | .maxRideExpiry => Sys2Proof.Machine.execMaxRideExpiry s
  | .busBarQualified => Sys2Proof.Machine.execBusBarQualified s
  | .busBarAbsent => Sys2Proof.Machine.execBusBarAbsent s
  | .shareSample uv => Sys2Proof.Machine.execShareSample uv s
  | .shareLoopStep => Sys2Proof.Machine.execShareLoopStep s
  | .huCapWrite v => Sys2Proof.Machine.execHuCapWrite v s
  | .mbTransactionDone res => Sys2Proof.Machine.execMbTransactionDone res s
  | .mbFailureRetry c => Sys2Proof.Machine.execMbFailureRetry c s
  | .mbBusyRetry c => Sys2Proof.Machine.execMbBusyRetry c s
  | .mbLowTimeout sdaStuck => Sys2Proof.Machine.execMbLowTimeout sdaStuck s
  | .cartridgeStatusPoll c => Sys2Proof.Machine.execCartridgeStatusPoll c s
  | .authPoll c => Sys2Proof.Machine.execAuthPoll c s
  | .authTimeout c => Sys2Proof.Machine.execAuthTimeout c s
  | .reauthTimer c => Sys2Proof.Machine.execReauthTimer c s
  | .counterWritePeriod => Sys2Proof.Machine.execCounterWritePeriod s
  | .bcCtrlRescan c => Sys2Proof.Machine.execBcCtrlRescan c s
  | .huCtrlTallyClr => Sys2Proof.Machine.execHuCtrlTallyClr s
  | .huResRead count => Sys2Proof.Machine.execHuResRead count s
  | .faultnReleaseTimer => Sys2Proof.Machine.execFaultnReleaseTimer s
  | .cresetRestart straps => Sys2Proof.Machine.execCresetRestart straps s
  | .blockResetComplete b => Sys2Proof.Machine.execBlockResetComplete b s
  | .evStatClear x v => Sys2Proof.Machine.execEvStatClear x v s
  | .evIenWrite x v => Sys2Proof.Machine.execEvIenWrite x v s
  | .evCtrlFaultnClr => Sys2Proof.Machine.execEvCtrlFaultnClr s
  | .evCtrlUnfence => Sys2Proof.Machine.execEvCtrlUnfence s
  | .evCtrlBlkRelease => Sys2Proof.Machine.execEvCtrlBlkRelease s
  | .evCtrlHoldClr => Sys2Proof.Machine.execEvCtrlHoldClr s
  | .evCtrlCntClr => Sys2Proof.Machine.execEvCtrlCntClr s
  | .tallyCtrlClrAll => Sys2Proof.Machine.execTallyCtrlClrAll s
  | .evTimeRead count => Sys2Proof.Machine.execEvTimeRead count s
  | .tallyRead x count => Sys2Proof.Machine.execTallyRead x count s
  | .testChallenge tag q => Sys2Proof.Machine.execTestChallenge tag q s
  | .testEnter tag q payload => Sys2Proof.Machine.execTestEnter tag q payload s
  | .supplyRangeExit k => Sys2Proof.Machine.execSupplyRangeExit k s
  | .supplyRangeClear => Sys2Proof.Machine.execSupplyRangeClear s
  | .pairLinkUp => Sys2Proof.Machine.execPairLinkUp s
  | .pairLinkLoss => Sys2Proof.Machine.execPairLinkLoss s
  | .plSyncHealthSend => Sys2Proof.Machine.execPlSyncHealthSend s
  | .plStateSend => Sys2Proof.Machine.execPlStateSend s
  | .plCtrlRetryTimer seq => Sys2Proof.Machine.execPlCtrlRetryTimer seq s
  | .plAck crcOk seq => Sys2Proof.Machine.execPlAck crcOk seq s
  | .plYield crcOk seq => Sys2Proof.Machine.execPlYield crcOk seq s
  | .plRefuse crcOk seq => Sys2Proof.Machine.execPlRefuse crcOk seq s
  | .plTakeReq crcOk seq => Sys2Proof.Machine.execPlTakeReq crcOk seq s
  | .plFence crcOk seq n => Sys2Proof.Machine.execPlFence crcOk seq n s
  | .plUnfence crcOk seq n => Sys2Proof.Machine.execPlUnfence crcOk seq n s
  | .plSnuff crcOk seq r => Sys2Proof.Machine.execPlSnuff crcOk seq r s
  | .plUnsnuff crcOk seq r => Sys2Proof.Machine.execPlUnsnuff crcOk seq r s
  | .plShedAnnouncement crcOk seq r => Sys2Proof.Machine.execPlShedAnnouncement crcOk seq r s
  | .plRelight crcOk seq m => Sys2Proof.Machine.execPlRelight crcOk seq m s
  | .plDirectionChange crcOk seq discharge => Sys2Proof.Machine.execPlDirectionChange crcOk seq discharge s
  | .plLamplighterStep crcOk seq n on => Sys2Proof.Machine.execPlLamplighterStep crcOk seq n on s
  | .plSlotVerdict crcOk seq v => Sys2Proof.Machine.execPlSlotVerdict crcOk seq v s
  | .plDomainShutoff crcOk seq mask => Sys2Proof.Machine.execPlDomainShutoff crcOk seq mask s
  | .plTrim crcOk seq addr v => Sys2Proof.Machine.execPlTrim crcOk seq addr v s
  | .plSync crcOk entries => Sys2Proof.Machine.execPlSync crcOk entries s
  | .plHealth crcOk h => Sys2Proof.Machine.execPlHealth crcOk h s
  | .plState crcOk t => Sys2Proof.Machine.execPlState crcOk t s
  | .plReport crcOk rep => Sys2Proof.Machine.execPlReport crcOk rep s
  | .plStream crcOk m => Sys2Proof.Machine.execPlStream crcOk m s
  | .ownershipDecision => Sys2Proof.Machine.execOwnershipDecision s
  | .handoverOrigin => Sys2Proof.Machine.execHandoverOrigin s
  | .peerOwnNChange asserted => Sys2Proof.Machine.execPeerOwnNChange asserted s
  | .ownRelease => Sys2Proof.Machine.execOwnRelease s
  | .ownConflict => Sys2Proof.Machine.execOwnConflict s
  | .revertHoldExpiry => Sys2Proof.Machine.execRevertHoldExpiry s
  | .verdictTimeout => Sys2Proof.Machine.execVerdictTimeout s
  | .pairCtrlYield => Sys2Proof.Machine.execPairCtrlYield s
  | .pairCtrlTake => Sys2Proof.Machine.execPairCtrlTake s
  | .pairCtrlFlapClr => Sys2Proof.Machine.execPairCtrlFlapClr s
  | .pairCtrlNoRevert on => Sys2Proof.Machine.execPairCtrlNoRevert on s
  | .pairCtrlTallyClr => Sys2Proof.Machine.execPairCtrlTallyClr s
  | .ovLinkAligned k => Sys2Proof.Machine.execOvLinkAligned k s
  | .ovLinkFrame k e l => Sys2Proof.Machine.execOvLinkFrame k e l s
  | .ovLinkFrameSend k => Sys2Proof.Machine.execOvLinkFrameSend k s
  | .ovLinkDown k why => Sys2Proof.Machine.execOvLinkDown k why s
  | .ovFrameForward k e f => Sys2Proof.Machine.execOvFrameForward k e f s
  | .ovCreditReturn k cls credits => Sys2Proof.Machine.execOvCreditReturn k cls credits s
  | .ovEnum k e h => Sys2Proof.Machine.execOvEnum k e h s
  | .ovCount k e h n => Sys2Proof.Machine.execOvCount k e h n s
  | .ovCountTimeout => Sys2Proof.Machine.execOvCountTimeout s
  | .ovAssign k e h base len => Sys2Proof.Machine.execOvAssign k e h base len s
  | .ovTrip k e f => Sys2Proof.Machine.execOvTrip k e f s
  | .ovYield k e f => Sys2Proof.Machine.execOvYield k e f s
  | .ovSummary k e f => Sys2Proof.Machine.execOvSummary k e f s
  | .ovSummaryWindowEnd k => Sys2Proof.Machine.execOvSummaryWindowEnd k s
  | .ovBarAck k e f => Sys2Proof.Machine.execOvBarAck k e f s
  | .ovSnapAck k e f => Sys2Proof.Machine.execOvSnapAck k e f s
  | .ovTmark k e f => Sys2Proof.Machine.execOvTmark k e f s
  | .ovBarrier k e f => Sys2Proof.Machine.execOvBarrier k e f s
  | .ovSnap k e f => Sys2Proof.Machine.execOvSnap k e f s
  | .ovReset k e f => Sys2Proof.Machine.execOvReset k e f s
  | .ovFtrip k e f => Sys2Proof.Machine.execOvFtrip k e f s
  | .ovFstart k e f => Sys2Proof.Machine.execOvFstart k e f s
  | .ovRootchg k e f => Sys2Proof.Machine.execOvRootchg k e f s
  | .ovGraft k e h base len => Sys2Proof.Machine.execOvGraft k e h base len s
  | .ovUngraft k e h base len => Sys2Proof.Machine.execOvUngraft k e h base len s
  | .ovRdReq k e h addr count => Sys2Proof.Machine.execOvRdReq k e h addr count s
  | .ovWrReq k e h addr data => Sys2Proof.Machine.execOvWrReq k e h addr data s
  | .ovResp k e h status data => Sys2Proof.Machine.execOvResp k e h status data s
  | .ovTime k e h mark markMs time => Sys2Proof.Machine.execOvTime k e h mark markMs time s
  | .ovRole k e h acting => Sys2Proof.Machine.execOvRole k e h acting s
  | .ovShareSp k e h v => Sys2Proof.Machine.execOvShareSp k e h v s
  | .ovCap k e h v => Sys2Proof.Machine.execOvCap k e h v s
  | .ovActivate k e h a => Sys2Proof.Machine.execOvActivate k e h a s
  | .ovEvrec k e h rec => Sys2Proof.Machine.execOvEvrec k e h rec s
  | .ovSnaprec k e h payload => Sys2Proof.Machine.execOvSnaprec k e h payload s
  | .ovImgData k e h imgId offset data => Sys2Proof.Machine.execOvImgData k e h imgId offset data s
  | .ovPark k => Sys2Proof.Machine.execOvPark k s
  | .ovMarkTimer => Sys2Proof.Machine.execOvMarkTimer s
  | .ovTimeHold => Sys2Proof.Machine.execOvTimeHold s
  | .ovBarrierTimeout => Sys2Proof.Machine.execOvBarrierTimeout s
  | .ovSnapCapture => Sys2Proof.Machine.execOvSnapCapture s
  | .ovTxnTimeout tag => Sys2Proof.Machine.execOvTxnTimeout tag s
  | .ovAutoReroute => Sys2Proof.Machine.execOvAutoReroute s
  | .ovDeputyTakeover => Sys2Proof.Machine.execOvDeputyTakeover s
  | .ovCtrlEnum => Sys2Proof.Machine.execOvCtrlEnum s
  | .ovCtrlBarrier => Sys2Proof.Machine.execOvCtrlBarrier s
  | .ovCtrlSnap => Sys2Proof.Machine.execOvCtrlSnap s
  | .ovCtrlReset => Sys2Proof.Machine.execOvCtrlReset s
  | .ovCtrlReroute => Sys2Proof.Machine.execOvCtrlReroute s
  | .ovCtrlReturn => Sys2Proof.Machine.execOvCtrlReturn s
  | .ovCtrlReclaim => Sys2Proof.Machine.execOvCtrlReclaim s
  | .ovTxnGo => Sys2Proof.Machine.execOvTxnGo s
  | .ovTimeSetWrite v => Sys2Proof.Machine.execOvTimeSetWrite v s
  | .ovTimeRead count => Sys2Proof.Machine.execOvTimeRead count s
  | .ledgerBlockWrite ch samples t0 => Sys2Proof.Machine.execLedgerBlockWrite ch samples t0 s
  | .recordClose => Sys2Proof.Machine.execRecordClose s
  | .archiveFlushStart => Sys2Proof.Machine.execArchiveFlushStart s
  | .archiveFlushDone => Sys2Proof.Machine.execArchiveFlushDone s
  | .lastGaspWriteDone complete => Sys2Proof.Machine.execLastGaspWriteDone complete s
  | .eccError site double => Sys2Proof.Machine.execEccError site double s
  | .lgCtrlTrigger => Sys2Proof.Machine.execLgCtrlTrigger s
  | .lgCtrlRelease => Sys2Proof.Machine.execLgCtrlRelease s
  | .lgCtrlFlushHold on => Sys2Proof.Machine.execLgCtrlFlushHold on s
  | .lgCtrlTallyClr => Sys2Proof.Machine.execLgCtrlTallyClr s
  | .lgRecInfoRead count => Sys2Proof.Machine.execLgRecInfoRead count s
  | .lgWinSelWrite v => Sys2Proof.Machine.execLgWinSelWrite v s
  | .lgWinOfsWrite v => Sys2Proof.Machine.execLgWinOfsWrite v s
  | .prbSelWrite v => Sys2Proof.Machine.execPrbSelWrite v s
  | .ledgerWindowRead ofs count => Sys2Proof.Machine.execLedgerWindowRead ofs count s
  | .patternWindowRead ofs count => Sys2Proof.Machine.execPatternWindowRead ofs count s
  | .windowLineFetch pat line => Sys2Proof.Machine.execWindowLineFetch pat line s
  | .hbSetPointer p count => Sys2Proof.Machine.execHbSetPointer p count s
  | .registerWrite ptr data => Sys2Proof.Machine.execRegisterWrite ptr data s
  | .hbLowTimeout line => Sys2Proof.Machine.execHbLowTimeout line s
  | .attnAttempt res => Sys2Proof.Machine.execAttnAttempt res s
  | .attnBackoffExpiry => Sys2Proof.Machine.execAttnBackoffExpiry s
  | .hbRecovery pulses => Sys2Proof.Machine.execHbRecovery pulses s
  | .hbCtrlTallyClr => Sys2Proof.Machine.execHbCtrlTallyClr s
  | .hbCtrlFlush => Sys2Proof.Machine.execHbCtrlFlush s
  | .hbCtrlRecover pulses => Sys2Proof.Machine.execHbCtrlRecover pulses s
  | .glbUnlockWrite path v => Sys2Proof.Machine.execGlbUnlockWrite path v s
  | .unlockDisarmTimeout ov => Sys2Proof.Machine.execUnlockDisarmTimeout ov s
  | .unlockIdleLock ov => Sys2Proof.Machine.execUnlockIdleLock ov s
  | .spFetch => Sys2Proof.Machine.execSpFetch s
  | .spOpen tag q mode => Sys2Proof.Machine.execSpOpen tag q mode s
  | .spClose tag q => Sys2Proof.Machine.execSpClose tag q s
  | .spInfo tag q => Sys2Proof.Machine.execSpInfo tag q s
  | .spRead tag q space ofs count => Sys2Proof.Machine.execSpRead tag q space ofs count s
  | .spStageBegin tag q payload => Sys2Proof.Machine.execSpStageBegin tag q payload s
  | .spStageData tag q ofs data => Sys2Proof.Machine.execSpStageData tag q ofs data s
  | .spStageAbort tag q => Sys2Proof.Machine.execSpStageAbort tag q s
  | .spActivate tag q imgId confirm atTime => Sys2Proof.Machine.execSpActivate tag q imgId confirm atTime s
  | .spCancel tag q => Sys2Proof.Machine.execSpCancel tag q s
  | .spRevert tag q mode => Sys2Proof.Machine.execSpRevert tag q mode s
  | .spConfirm tag q => Sys2Proof.Machine.execSpConfirm tag q s
  | .spMemErase tag q dev ofs => Sys2Proof.Machine.execSpMemErase tag q dev ofs s
  | .spMemWrite tag q dev ofs data => Sys2Proof.Machine.execSpMemWrite tag q dev ofs data s
  | .spMemRead tag q dev ofs count => Sys2Proof.Machine.execSpMemRead tag q dev ofs count s
  | .spKeyWrite tag q slot key => Sys2Proof.Machine.execSpKeyWrite tag q slot key s
  | .spSessionTimeout => Sys2Proof.Machine.execSpSessionTimeout s
  | .ovStagingSilence => Sys2Proof.Machine.execOvStagingSilence s
  | .imageVerify => Sys2Proof.Machine.execImageVerify s
  | .coreConfirm c => Sys2Proof.Machine.execCoreConfirm c s
  | .coreTrialTimeout c => Sys2Proof.Machine.execCoreTrialTimeout c s
  | .proofWindowEnd => Sys2Proof.Machine.execProofWindowEnd s
  | .pairSequenceHalt => Sys2Proof.Machine.execPairSequenceHalt s
  | .scheduledActivation => Sys2Proof.Machine.execScheduledActivation s
  | .updCtrlActivate => Sys2Proof.Machine.execUpdCtrlActivate s
  | .updCtrlCancel => Sys2Proof.Machine.execUpdCtrlCancel s
  | .updCtrlRevert => Sys2Proof.Machine.execUpdCtrlRevert s
  | .updCtrlConfirm => Sys2Proof.Machine.execUpdCtrlConfirm s
  | .continuousFilterExpiry m high => Sys2Proof.Machine.execContinuousFilterExpiry m high s
  | .groundHoldExpiry => Sys2Proof.Machine.execGroundHoldExpiry s
  | .flapWindowExpiry => Sys2Proof.Machine.execFlapWindowExpiry s
  | .streamFrameTimeout => Sys2Proof.Machine.execStreamFrameTimeout s
  | .ovUnlistedType k e => Sys2Proof.Machine.execOvUnlistedType k e s
  | .spUnknownCommand cmd tag q => Sys2Proof.Machine.execSpUnknownCommand cmd tag q s
  | .hostBusStop => Sys2Proof.Machine.execHostBusStop s

end Sys2Proof.Machine
end

