-- ==== Sys2Proof/WellFormed.lean ====
section
/-! DEFINITION. The commands that the lines can carry: each operand within the width of the field that carries it. A command
that is not well formed cannot arrive; the meanings are total and do not rest on these checks. Quantities that the analogue
world presents (a voltage, a pulse's length) carry no bound where the spec gives their field no width. -/
namespace Sys2Proof

/-- A number that a u32 field carries. -/
def u32Wf (n : Nat) : Bool := n < 4294967296

/-- The bytes one read takes: at least one, and at most the register space (R384). -/
def countWf (n : Nat) : Bool := 1 ≤ n && n ≤ 65536

/-- A payload of at most `lim` bytes. -/
def bytesWf (lim : Nat) (l : List (BitVec 8)) : Bool := l.length ≤ lim

/-- The body of a class-0 frame: TYPE apart, HOPS has 4 bits (Table 13.4). -/
def Ov0.wf (f : Ov0) : Bool := f.hops ≤ 15

/-- The header of a class 1-3 frame: HOPS has 4 bits (Table 13.3). -/
def OvHdr.wf (h : OvHdr) : Bool := h.hops ≤ 15

/-- A frame: TYPE has 6 bits, CLASS is 1 to 3 beside class 0, and LEN is at most 512 (R289, R290). -/
def OvFrame.wf (f : OvFrame) : Bool :=
  match f with
  | .c0 t b => t < 64 && b.wf
  | .cN c t h p => 1 ≤ c && c ≤ 3 && t < 64 && h.wf && bytesWf 512 p

/-- A LINK frame's fields within their widths (R284). -/
def LinkInfo.wf (l : LinkInfo) : Bool := l.role ≤ 3 && l.depth ≤ 15 && u32Wf l.count && l.delayNs < 65536

/-- A HEALTH frame: a role of PAIR_STAT.ROLE_NOW, and a mark for each rail at most (Table 12.2). -/
def Health.wf (h : Health) : Bool := h.role ≤ 3 && h.marks.length ≤ 24

/-- A STATE frame speaks of 8 ports, 16 cartridges, 8 domains, 48 slots and 24 rails (Table 12.2). -/
def TwinShared.wf (t : TwinShared) : Bool :=
  t.ports.length == 8 && t.carts.length == 16 && t.counters.length == 16 && t.domains.length == 8 && t.plans.length == 8 &&
    t.slots.length == 48 && t.active.length == 24

/-- A REPORT frame names each rail at most once, and gives three tap readings (Table 12.2). -/
def TwinReport.wf (r : TwinReport) : Bool := r.vout.length ≤ 24 && r.taps.length == 3

/-- A STREAM frame copies one message (R289). -/
def StreamMsg.wf (m : StreamMsg) : Bool := bytesWf 540 m.bytes

/-- A page of the 8 MiB sample memory, or an offset of the index memory (R317, R330). -/
def EccSite.wf (e : EccSite) : Bool :=
  match e with
  | .page p => p < 8192
  | .index o => o < 131072

/-- The lengths that the payload of a command of the service port may have (Table 16.3); the two lengths of a key, and none for
a CMD that the table does not list. -/
def spLens (cmd n : Nat) : Bool :=
  match cmd with
  | 0x01 | 0x25 => n == 1
  | 0x02 | 0x03 | 0x22 | 0x24 | 0x26 | 0x7D => n == 0
  | 0x10 | 0x42 => n == 7
  | 0x20 => n == 256
  | 0x21 => 5 ≤ n && n ≤ 1028
  | 0x23 => n == 14
  | 0x40 => n == 5
  | 0x41 => 6 ≤ n && n ≤ 261
  | 0x43 => n == 33 || n == 65
  | 0x7E => n == 32
  | _ => false

/-- A CMD that Table 16.3 lists. -/
def spLists (cmd : Nat) : Bool := (List.range 1041).any (spLens cmd)

/-- A request of the service port whose payload is given apart from its fields has a length that the command does not have, and
LEN names at most 1,040 bytes (R362). -/
def SpEnd.wf (cmd : Nat) (q : SpEnd) : Bool :=
  match q.odd with
  | some p => !spLens cmd p.length && bytesWf 1040 p
  | none => true

/-- A read takes bytes where the transaction gives no pointer, and none after PH alone (Table 15.1). -/
def PtrBytes.wf (p : PtrBytes) (count : Nat) : Bool :=
  match p with
  | .held => countWf count
  | .high _ => count == 0
  | .both _ _ => count == 0 || countWf count

/-- A SYNC frame: at most one entry for each rail, a u8 state and a u16 index in each (Table 12.2). -/
def syncWf (l : List SyncEntry) : Bool := l.length ≤ 24 && l.all (fun x => x.state ≤ 255 && x.index < 65536)

/-- The command is well formed. -/
def wellFormed (i : Instr) : Bool :=
  match i with
  | .handshakeStall => true
  | .pllLockLoss => true
  | .pllLockAcquired => true
  | .refClkLoss => true
  | .refClkReturn => true
  | .refClkHoldoverExpiry => true
  | .cdcAcceptFailure => true
  | .cdcToggleAck _ => true
  | .islandRestartDone _ => true
  | .coreWatchdogExpiry _ => true
  | .coreRestartDone _ _ => true
  | .porAssert _ => true
  | .porRelease _ => true
  | .resetNAssert _ => true
  | .resetNRelease _ => true
  | .layoutDirectoryRead => true
  | .patternCandidateCheck => true
  | .patternApply => true
  | .coreImageCheck => true
  | .coreStart _ _ _ => true
  | .settingsStoreRead _ => true
  | .ready => true
  | .feedQualified _ => true
  | .inputQualifyRestart _ => true
  | .feedAbsent _ => true
  | .feedGateOff _ => true
  | .feedGateOn _ => true
  | .memStatusPoll _ => true
  | .memWriteTimeout => true
  | .scrubSegmentCheck seg _ => seg < 65536
  | .scrubRepair => true
  | .sleepRequest => true
  | .sleepIdleExpiry => true
  | .sleepEntry => true
  | .wakeRequest _ => true
  | .slpAlarmExpiry => true
  | .wakeScrubPass bad => bad.all (fun g => g < 65536)
  | .wakeComplete => true
  | .pwmLeadingEdge _ => true
  | .onTimeEnd _ _ _ ton => ton < 65536
  | .valleySampleConversion _ _ => true
  | .phaseResultPublish _ => true
  | .phResRead _ count => countWf count
  | .phCtrlFence _ => true
  | .phCtrlUnfence _ => true
  | .phCtrlTallyClr _ => true
  | .phTrimWrite _ _ => true
  | .compensatorSample _ _ _ _ => true
  | .rampStep _ => true
  | .dwellExpiry _ => true
  | .holdoffExpiry _ => true
  | .ovSnuff _ vsense => vsense < 65536
  | .uvComparatorChange _ vsense => vsense < 65536
  | .uvDelayExpiry _ => true
  | .railResultPublish _ => true
  | .railResRead _ count => countWf count
  | .railCtrlUnsnuff _ => true
  | .railCtrlTallyClr _ => true
  | .railCtrlNoshed _ _ => true
  | .railVsetWrite _ _ => true
  | .railIlimWrite _ _ => true
  | .llFrameBoundary _ edges _ => edges ≤ 65536
  | .setV _ _ _ _ _ => true
  | .preload _ _ _ _ _ => true
  | .llRead _ _ _ _ _ => true
  | .noticeAck _ _ _ _ _ => true
  | .dimAck _ _ _ _ _ => true
  | .llUnusedCommand _ _ _ _ _ _ => true
  | .settleTimeout _ => true
  | .graceExpiry _ _ => true
  | .lpCtrlTallyClr _ => true
  | .lpCtrlNoticeClr _ => true
  | .lamplighterTick => true
  | .domainCommonStart _ => true
  | .slotSwitchOn _ => true
  | .slotOffPoint _ => true
  | .upToExpiry _ => true
  | .downToExpiry _ => true
  | .pgInChange _ _ => true
  | .domainInputQualified _ => true
  | .domainInputLost _ => true
  | .minOffExpiry _ => true
  | .restartExpiry _ => true
  | .retryWindowExpiry _ => true
  | .seqDomStart _ => true
  | .seqDomStop _ => true
  | .seqDomShutoff _ => true
  | .seqDomUnlatch _ => true
  | .seqDomRetryClr _ => true
  | .seqDomTallyClr _ => true
  | .wickSample _ _ => true
  | .continuousComparatorChange _ _ => true
  | .captureSaturate _ => true
  | .ctCtrlArm _ => true
  | .ctCtrlMissedClr _ => true
  | .ctPrescaleWrite _ _ => true
  | .ctResRead _ count => countWf count
  | .wmCtrlSelftest _ => true
  | .selfTestSample _ _ _ _ => true
  | .sweepVisit => true
  | .wmSweepCtrlWrite _ => true
  | .wmCtrlTallyClr _ => true
  | .wmTickWrite _ _ => true
  | .wmLowWrite _ _ => true
  | .wmHighWrite _ _ => true
  | .hkRoundStart => true
  | .hkConversionDone _ _ _ => true
  | .hkConversionTimeout _ => true
  | .hkRoundLate => true
  | .hkCtrlTallyClr => true
  | .thLevelWrite _ _ => true
  | .hkResRead count => countWf count
  | .thResRead count => countWf count
  | .rideComparatorTrip => true
  | .rideComparatorClear => true
  | .handbackExpiry => true
  | .maxRideExpiry => true
  | .busBarQualified => true
  | .busBarAbsent => true
  | .shareSample _ => true
  | .shareLoopStep => true
  | .huCapWrite _ => true
  | .mbTransactionDone _ => true
  | .mbFailureRetry _ => true
  | .mbBusyRetry _ => true
  | .mbLowTimeout _ => true
  | .cartridgeStatusPoll _ => true
  | .authPoll _ => true
  | .authTimeout _ => true
  | .reauthTimer _ => true
  | .counterWritePeriod => true
  | .bcCtrlRescan _ => true
  | .huCtrlTallyClr => true
  | .huResRead count => countWf count
  | .faultnReleaseTimer => true
  | .cresetRestart _ => true
  | .blockResetComplete _ => true
  | .evStatClear _ _ => true
  | .evIenWrite _ _ => true
  | .evCtrlFaultnClr => true
  | .evCtrlUnfence => true
  | .evCtrlBlkRelease => true
  | .evCtrlHoldClr => true
  | .evCtrlCntClr => true
  | .tallyCtrlClrAll => true
  | .evTimeRead count => countWf count
  | .tallyRead _ count => countWf count
  | .testChallenge _ q => q.wf 0x7D
  | .testEnter _ q payload => q.wf 0x7E && bytesWf 1024 payload
  | .supplyRangeExit _ => true
  | .supplyRangeClear => true
  | .pairLinkUp => true
  | .pairLinkLoss => true
  | .plSyncHealthSend => true
  | .plStateSend => true
  | .plCtrlRetryTimer _ => true
  | .plAck _ _ => true
  | .plYield _ _ => true
  | .plRefuse _ _ => true
  | .plTakeReq _ _ => true
  | .plFence _ _ _ => true
  | .plUnfence _ _ _ => true
  | .plSnuff _ _ _ => true
  | .plUnsnuff _ _ _ => true
  | .plShedAnnouncement _ _ _ => true
  | .plRelight _ _ m => m.entry ≤ 15
  | .plDirectionChange _ _ _ => true
  | .plLamplighterStep _ _ _ _ => true
  | .plSlotVerdict _ _ _ => true
  | .plDomainShutoff _ _ _ => true
  | .plTrim _ _ _ _ => true
  | .plSync _ entries => syncWf entries
  | .plHealth _ h => h.wf
  | .plState _ t => t.wf
  | .plReport _ rep => rep.wf
  | .plStream _ m => m.wf
  | .ownershipDecision => true
  | .handoverOrigin => true
  | .peerOwnNChange _ => true
  | .ownRelease => true
  | .ownConflict => true
  | .revertHoldExpiry => true
  | .verdictTimeout => true
  | .pairCtrlYield => true
  | .pairCtrlTake => true
  | .pairCtrlFlapClr => true
  | .pairCtrlNoRevert _ => true
  | .pairCtrlTallyClr => true
  | .ovLinkAligned _ => true
  | .ovLinkFrame _ _ l => l.wf
  | .ovLinkFrameSend _ => true
  | .ovLinkDown _ _ => true
  | .ovFrameForward _ _ f => f.wf
  | .ovCreditReturn _ _ credits => credits ≤ 255
  | .ovEnum _ _ h => h.wf
  | .ovCount _ _ h n => h.wf && u32Wf n
  | .ovCountTimeout => true
  | .ovAssign _ _ h base len => h.wf && u32Wf base && u32Wf len
  | .ovTrip _ _ f => f.wf
  | .ovYield _ _ f => f.wf
  | .ovSummary _ _ f => f.wf
  | .ovSummaryWindowEnd _ => true
  | .ovBarAck _ _ f => f.wf
  | .ovSnapAck _ _ f => f.wf
  | .ovTmark _ _ f => f.wf
  | .ovBarrier _ _ f => f.wf
  | .ovSnap _ _ f => f.wf
  | .ovReset _ _ f => f.wf
  | .ovFtrip _ _ f => f.wf
  | .ovFstart _ _ f => f.wf
  | .ovRootchg _ _ f => f.wf
  | .ovGraft _ _ h base len => h.wf && u32Wf base && u32Wf len
  | .ovUngraft _ _ h base len => h.wf && u32Wf base && u32Wf len
  | .ovRdReq _ _ h _ count => h.wf && countWf count
  | .ovWrReq _ _ h _ data => h.wf && bytesWf 510 data
  | .ovResp _ _ h _ data => h.wf && bytesWf 510 data
  | .ovTime _ _ h _ _ _ => h.wf
  | .ovRole _ _ h _ => h.wf
  | .ovShareSp _ _ h _ => h.wf
  | .ovCap _ _ h _ => h.wf
  | .ovActivate _ _ h _ => h.wf
  | .ovEvrec _ _ h _ => h.wf
  | .ovSnaprec _ _ h payload => h.wf && bytesWf 512 payload
  | .ovImgData _ _ h _ _ data => h.wf && bytesWf 504 data
  | .ovPark _ => true
  | .ovMarkTimer => true
  | .ovTimeHold => true
  | .ovBarrierTimeout => true
  | .ovSnapCapture => true
  | .ovTxnTimeout _ => true
  | .ovAutoReroute => true
  | .ovDeputyTakeover => true
  | .ovCtrlEnum => true
  | .ovCtrlBarrier => true
  | .ovCtrlSnap => true
  | .ovCtrlReset => true
  | .ovCtrlReroute => true
  | .ovCtrlReturn => true
  | .ovCtrlReclaim => true
  | .ovTxnGo => true
  | .ovTimeSetWrite _ => true
  | .ovTimeRead count => countWf count
  | .ledgerBlockWrite _ samples _ => samples.length == 32
  | .recordClose => true
  | .archiveFlushStart => true
  | .archiveFlushDone => true
  | .lastGaspWriteDone _ => true
  | .eccError site _ => site.wf
  | .lgCtrlTrigger => true
  | .lgCtrlRelease => true
  | .lgCtrlFlushHold _ => true
  | .lgCtrlTallyClr => true
  | .lgRecInfoRead count => countWf count
  | .lgWinSelWrite _ => true
  | .lgWinOfsWrite _ => true
  | .prbSelWrite _ => true
  | .ledgerWindowRead _ count => countWf count
  | .patternWindowRead _ count => countWf count
  | .windowLineFetch _ line => line < 512
  | .hbSetPointer p count => p.wf count
  | .registerWrite _ data => bytesWf 65536 data
  | .hbLowTimeout _ => true
  | .attnAttempt _ => true
  | .attnBackoffExpiry => true
  | .hbRecovery pulses => pulses ≤ 10
  | .hbCtrlTallyClr => true
  | .hbCtrlFlush => true
  | .hbCtrlRecover pulses => pulses ≤ 10
  | .glbUnlockWrite _ _ => true
  | .unlockDisarmTimeout _ => true
  | .unlockIdleLock _ => true
  | .spFetch => true
  | .spOpen _ q _ => q.wf 0x01
  | .spClose _ q => q.wf 0x02
  | .spInfo _ q => q.wf 0x03
  | .spRead _ q _ _ _ => q.wf 0x10
  | .spStageBegin _ q payload => q.wf 0x20 && bytesWf 1024 payload
  | .spStageData _ q _ data => q.wf 0x21 && bytesWf 1024 data
  | .spStageAbort _ q => q.wf 0x22
  | .spActivate _ q _ _ _ => q.wf 0x23
  | .spCancel _ q => q.wf 0x24
  | .spRevert _ q _ => q.wf 0x25
  | .spConfirm _ q => q.wf 0x26
  | .spMemErase _ q _ _ => q.wf 0x40
  | .spMemWrite _ q _ _ data => q.wf 0x41 && bytesWf 1024 data
  | .spMemRead _ q _ _ _ => q.wf 0x42
  | .spKeyWrite _ q _ key => q.wf 0x43 && bytesWf 1024 key
  | .spSessionTimeout => true
  | .ovStagingSilence => true
  | .imageVerify => true
  | .coreConfirm _ => true
  | .coreTrialTimeout _ => true
  | .proofWindowEnd => true
  | .pairSequenceHalt => true
  | .scheduledActivation => true
  | .updCtrlActivate => true
  | .updCtrlCancel => true
  | .updCtrlRevert => true
  | .updCtrlConfirm => true
  | .continuousFilterExpiry _ _ => true
  | .groundHoldExpiry => true
  | .flapWindowExpiry => true
  | .streamFrameTimeout => true
  | .ovUnlistedType _ _ => true
  | .spUnknownCommand cmd _ q => !spLists cmd.toNat && q.wf cmd.toNat
  | .hostBusStop => true

end Sys2Proof
end

