-- ==== Sys2Proof/Safety.lean ====
section
/-! DEFINITION. The terms that claims about runs use: what a step answers, the effect of a sequence of commands, the state in
which nothing follows from what has been done, and the invariants of the machine's storage. -/
namespace Sys2Proof.Machine

/-- The state that an outcome holds; `d` where it holds none. -/
def nextOr (d : State) : Host.Outcome State Fault Refusal → State
  | .next t => t
  | .fault _ => d
  | .refused _ => d

/-- The state as a command's body receives it: nothing on the lines yet, and the waiting commands out of its sight. -/
def State.opened (s : State) : State := { s with outbox := [], pending := [] }

/-- What a command leaves once its own effect `t` has settled. -/
def State.closed (s t : State) : State := finish s (settle t)

/-- What a command leaves whose effect is `f`, on the state as its body receives it. -/
def State.did (s : State) (f : State → State) : State := s.closed (f s.opened)

/-- What a command leaves that ends a wait until the moment `d` of the model's clock, and whose effect is then `f`: the time
passes first, and the frames whose turn has come leave (log entry 11). -/
def State.waited (s : State) (d : Option Nat) (f : State → State) : State :=
  (s.waitTill d).did (fun v => f (egressAll v))

/-- The same for a wait `w` of any other form. -/
def State.afterWait (s : State) (w f : State → State) : State := (w s).did (fun v => f (egressAll v))

/-- The same for a wait until a moment of global time. -/
def State.waitedGlobal (s : State) (d : Option Nat) (f : State → State) : State :=
  (s.waitGlobal d).did (fun v => f (egressAll v))

/-- The same for a wait until a tick of the lamplighter: the ticks up to it pass first, with their verdicts (R163). -/
def State.ticked (s : State) (d : Option Nat) (f : State → State) : State :=
  let w := match d with | some t => tickTo t 128 s.opened | none => s.opened
  State.closed { w with pending := s.pending } (f (egressAll w))

/-- The commands of a list carried out one after the other, each on what the one before it left. -/
def State.after (s : State) (l : List Instr) : State := l.foldl (fun u c => nextOr u (exec c u)) s

/-- The state after so many steps. -/
def State.steps : Nat → State → State
  | 0, s => s
  | n + 1, s => State.steps n (nextOr s (Sys2Proof.Machine.step s))

/-- Both external memories are in canonical form. -/
def State.memWf (s : State) : Bool := cellsWf s.ch.dev0 && cellsWf s.ch.dev1

/-- The state in which a host write of the value at `a` acts: a part of a value left over is discarded (R344), the pointer
stands at the value, and a KEY1 waiting on the host-bus path is disarmed unless the write is of GLB_UNLOCK (R388).
PAIR_STAT.WR_REFUSED is set apart, so that what the write itself refuses shows. -/
def State.hostAt (s : State) (a : Nat) : State :=
  let t := hostStop s
  { t with
    hb := { t.hb with ptr := a }
    glb := { t.glb with lockHost := { t.glb.lockHost with armed := t.glb.lockHost.armed && a == 0x0014 } }
    pair := { t.pair with wrRefused := false } }

/-- A host write of the value at `a` whose last byte is at `last` and whose own effect is `f`: WR_REFUSED stays set where it
was (R264), and the pointer stands after the last byte, in its page of 32 bytes (R344). -/
def State.written (s : State) (a last : Nat) (f : State → State) : State :=
  let t := f (s.hostAt a)
  { t with
    pair := { t.pair with wrRefused := s.pair.wrRefused || t.pair.wrRefused }
    hb := { t.hb with ptr := pageNext last, lone := [] } }

/-- A host write of the register at `a`, whose effect is `f` where the target serves it (R341, R346, Table 15.2): a target
that is not there does not acknowledge; one in the start sequence takes the pointer and no data; and a busy register takes no
data and is counted. -/
def State.hostServes (s : State) (a : Nat) (f : State → State) : State :=
  if !s.hostAcks then hostNack s
  else if s.mode == .start then nackBusy (setPtr a (hostStop s))
  else if s.writeBusy a then nackBusy ((hostStop s).updHb (fun h => { h with ptr := a, lone := [] }))
  else f s

/-- What a command leaves that is a host write of the 16-bit register at `a` whose own effect, where it is served, is `f`. -/
def State.wrote (s : State) (a : Nat) (f : State → State) : State :=
  s.did (fun u => u.hostServes a (fun v => v.written a (a + 1) f))

/-- The target serves a host write of the register at `a` now: it is there, its start is over, and the register is not busy
(R341, R346, Table 15.2). -/
def State.serves (s : State) (a : Nat) : Bool := s.hostAcks && s.mode != .start && !s.writeBusy a

/-- What a command leaves that is a served host write of the 16-bit register at `a` whose own effect is `f`. -/
def State.served (s : State) (a : Nat) (f : State → State) : State := s.did (fun u => u.written a (a + 1) f)

/-- What a host write of the register at `a` leaves that is not served: none of its effect. -/
def State.turnedAway (s : State) (a : Nat) : State := s.did (fun u => u.hostServes a (fun v => v))

/-- The target serves a read of `n` bytes at `a` now: it is there, the pointer can stand there, and the register is not busy
(R343, R345, R346). -/
def State.readsNow (s : State) (a n : Nat) : Bool :=
  s.hostAcks && n != 0 && (a % 2 == 0 || (hostStop s).hb.ptr == a % 65536) && !(setPtr a (hostStop s)).readBusy a

/-- A served read of `n` bytes at `a`: its bytes are on the bus, what the read marks is marked, and the pointer stands behind
the last byte (R342, R345, R347). -/
def State.readOut (s : State) (a n : Nat) : State :=
  let r := readBytes (a % 65536) n (setPtr a (hostStop s))
  wantAt ((a + n) % 65536) (r.2.updHb (fun h => { h with rdata := r.1, ptr := (a + n) % 65536 }))

/-- A read that is not served: a target that is not there does not acknowledge, an odd pointer is refused, a read of no bytes
only sets the pointer, and a busy register is counted (R341 to R343, R346). -/
def State.readAway (s : State) (a n : Nat) : State :=
  if !s.hostAcks then hostNack s
  else if a % 2 = 1 && (hostStop s).hb.ptr != a % 65536 then badPtr (hostStop s)
  else if n = 0 then setPtr a (hostStop s)
  else nackBusy (setPtr a (hostStop s))

/-- The service port takes a request now: the port is on, the CRC holds, the request does not repeat the one before it, and its
payload has the length of its command (R361 to R364). -/
def State.spTakes (s : State) (cmd tag : Nat) (fields : List Byte) (q : SpEnd) : Bool :=
  s.spOn && spCrcOk cmd tag fields q && s.sp.prev != some (cmd, tag) && q.odd.isNone

/-- The state on which a request that the service port takes acts (R362, R364). -/
def State.spTaken (s : State) (cmd tag : Nat) : State :=
  (toggle .spFrame (s.updSp (fun p => { p with badRun := 0, badTag := none, lastGood := s.now }))).updSp
    (fun p => { p with prev := some (cmd, tag) })

/-- The unit has nothing to follow up: no firing, no ground, no proof, no rollback, no twin (R279), the feeds judged under the
AUX_FALL in force, EV_DEGR as last recorded, SHARE at VOWN and its offset within the limits, the transaction on the module bus sent, and no barrier or
snapshot in progress. -/
def State.quiet (s : State) : Bool :=
  s.ev.fireQ.isEmpty && !s.paired && !s.pair.yielding && (s.hold.ofs == 0 || s.ofsOk s.hold.ofs) && s.proofConds.isEmpty &&
    !s.upd.proof.any (·.broken) && s.upd.rollback.isNone && s.upd.pairSeq.isNone &&
    s.degraded == s.ev.degr && auxFallOf s.hold.cfg == s.hold.fall && s.hold.vown == s.vownNow && s.carts.sent == s.mbNow &&
    !s.ov.opOpen

/-- The commands whose own effect may write an external memory: those that begin, end, cut or time a write, that save the
settings or deliver a trap into them, that apply a pattern or stage an image, that write a memory in factory mode, that let
waiting messages or held reactions be carried out, and the resets. -/
def mayProgram : Instr → Bool
  | .coreRestartDone _ _ | .porAssert _ | .resetNAssert _ | .patternApply | .coreStart _ _ _ | .settingsStoreRead _
  | .ready | .memStatusPoll _ | .memWriteTimeout | .wakeScrubPass _ | .wakeComplete | .cresetRestart _
  | .blockResetComplete _ | .pairLinkLoss | .plCtrlRetryTimer _ | .plRefuse _ _ | .plHealth _ _ | .handoverOrigin
  | .peerOwnNChange _ | .ownRelease | .ownConflict | .ovEnum _ _ _ | .ovCount _ _ _ _ | .ovAssign _ _ _ _ _ | .ovRdReq _ _ _ _ _
  | .ovWrReq _ _ _ _ _ | .ovResp _ _ _ _ _ | .ovRole _ _ _ _ | .ovShareSp _ _ _ _ | .ovCap _ _ _ _
  | .ovActivate _ _ _ _ | .ovEvrec _ _ _ _ | .ovSnaprec _ _ _ _ | .ovImgData _ _ _ _ _ _ | .archiveFlushStart
  | .spStageBegin _ _ _ | .spStageData _ _ _ _ | .spActivate _ _ _ _ _ | .spCancel _ _ | .spRevert _ _ _
  | .spMemErase _ _ _ _ | .spMemWrite _ _ _ _ _ | .imageVerify | .coreConfirm _ | .coreTrialTimeout _ | .proofWindowEnd
  | .scheduledActivation | .registerWrite _ _ | .wmSweepCtrlWrite _ | .evCtrlBlkRelease | .updCtrlActivate
  | .updCtrlCancel | .updCtrlRevert => true
  | _ => false

/-- What a decoder makes of a block's residuals (R320): the reconstructed samples, and the last two of them. -/
def reconstruct (e : Nat) : Nat → Nat → List Int → List Nat × Nat × Nat
  | x1, x2, [] => ([], x1, x2)
  | x1, x2, q :: qs =>
    let p : Int := max 0 (min 4095 (2 * (x1 : Int) - x2))
    let x := (max 0 (min 4095 (p + q * (2 * e + 1)))).toNat
    let r := reconstruct e x x1 qs
    (x :: r.1, r.2)

end Sys2Proof.Machine
end

