-- ==== Sys2Proof/Certificates/Slice0/Obligations.lean ====
section
/-! DEFINITION. The statements of this row, each a proposition over the model. A command's completion is stated by what it
leaves: `State.did` where it acts at once, `State.waited`, `State.waitedGlobal` or `State.ticked` where it ends a wait. The
effect is given to its last field; what then follows from it (firings and their reactions, R243) is `settle`, which
`AQuietEffectSettlesAtOnce` describes. -/
open Sys2Proof Sys2Proof.Machine

/-- A step with c at the front of the queue is exec c on the state with the queue's rest. -/
def Obligations.StepRunsFrontCommand : Prop :=
  ∀ (c : Instr) (l : List Instr) (s : State), step { s with pending := c :: l } = exec c { s with pending := l }

/-- HANDSHAKE_STALL tallies, fires EV185 and in a pair pulses the ground HS_STALL; PLL_LOCK_LOSS puts every PWM in
tri-state, stops the PWM island and fires EV186; PLL_LOCK_ACQUIRED reloads every time base (R16); REF_CLK_LOSS fires
EV186 and starts the 1 ms holdover while locked; REF_CLK_RETURN ends it; REF_CLK_HOLDOVER_EXPIRY waits for its end and
loses the lock; CDC_ACCEPT_FAILURE tallies and times the rejection, and the first beyond CDC_RATE within a second fires
EV187 (R18). Each answers a next state in every state, and leaves the state as it was where its condition is not there.
-/
def Obligations.ClockCommandsComplete : Prop :=
  (∀ s : State, exec .handshakeStall s = .next (s.did (fun σ => (
        if σ.resetHeld then σ else
          let t := fire 185 0 (addTally 7 1 σ)
          if t.paired then pulseGround 1 t else t)))) ∧
  (∀ s : State, exec .pllLockLoss s = .next (s.did (fun σ => holdFollow (
        if σ.arch.pllLocked then
          let t := { σ with
            arch := { σ.arch with pllLocked := false, holdover := none, islands := { σ.arch.islands with pwm := .restarting } }
            phases := σ.phases.map (fun p => { p.endOn with pwm := .z, opened := false }) }
          holdFollow (pllShutoff (fire 186 1 t))
        else σ)))) ∧
  (∀ s : State, exec .pllLockAcquired s = .next (s.did (fun σ => (
        if σ.arch.pllLocked || σ.mode == .por || σ.mode == .held || σ.mode == .creset || σ.mode == .sleep then σ else (
        let t := pwmReload { σ with
          arch := { σ.arch with pllLocked := true, holdover := none, islands := { σ.arch.islands with pwm := .running } }
          phases := σ.phases.map (fun p => { p with pos := p.posTgt }) }
        if σ.mode == .start && σ.step = 2 then
          (if σ.glb.straps.testN then { t with step := 3 }
           else { t with step := 3, mode := .testWait })
        else if σ.mode == .wake && σ.wakeStep = 1 then { t with wakeStep := 2, arch := { t.arch with islands := t.arch.islands.up } }
        else t))))) ∧
  (∀ s : State, exec .refClkLoss s = .next (s.did (fun σ => (
        if σ.arch.refClk then
          fire 186 0 (σ.updArch (fun a => { a with refClk := false, holdover := if a.pllLocked then some (σ.now + ms 1) else none }))
        else σ)))) ∧
  (∀ s : State, exec .refClkReturn s = .next (s.did (fun σ => (
        if σ.arch.refClk then σ else σ.updArch (fun a => { a with refClk := true, holdover := none }))))) ∧
  (∀ s : State, exec .refClkHoldoverExpiry s = .next (s.waited s.arch.holdover (fun σ => holdFollow (
        if due σ.now σ.arch.holdover then pllLost σ else σ)))) ∧
  (∀ s : State, exec .cdcAcceptFailure s = .next (s.did (fun σ => (
        if σ.resetHeld then σ else
        let l := σ.arch.cdcFails.filter (fun t => σ.now < t + sec 1)
        let t := addTally 8 1 (σ.updArch (fun a => { a with cdcFails := l ++ [σ.now] }))
        if l.length ≤ σ.cfg.pair.cdcRate && σ.cfg.pair.cdcRate < l.length + 1 then
          fire 187 3 t
        else t))))

/-- CDC_TOGGLE_ACK sends a merged event and else frees the line (R20); ISLAND_RESTART_DONE lets a restarting island run,
the PWM island by its lock (R22); CORE_WATCHDOG_EXPIRY restarts a running core, marks it bad and fires EV187 with its
number (R26); CORE_RESTART_DONE lets a restarting core run, or halts it with EV187 where its self-test failed (a trial
image, R370, is then left), and the waiting messages are served; SUPPLY_RANGE_EXIT marks the supply and fires EV184
once; SUPPLY_RANGE_CLEAR clears every mark. Each answers a next state in every state. -/
def Obligations.CoreAndSupplyCommandsComplete : Prop :=
  (∀ (l : ToggleLine) (s : State), exec (.cdcToggleAck l) s = .next (s.did (fun σ => (
        if (σ.arch.toggle l).outstanding then
          let t := (
        σ.updArch (fun a => a.setToggle l { outstanding := (a.toggle l).merged, merged := false }))
          if (σ.arch.toggle l).merged then
            match l with
            | .conversionStart => if t.hkWorks && t.hk.next.isNone then hkStart t else t
            | .timerWrap k => ctSaturate k t
            | .demand r => loadDemand r t
            | .frameReceived _ | .ovFrame _ | .pairFrame | .spFrame => t
          else t
        else σ)))) ∧
  (∀ (i : Island) (s : State), exec (.islandRestartDone i) s = .next (s.did (fun σ => (
        if σ.island i == .restarting then (if i == .pwm then pllAcquired σ else setIsland i .running σ) else σ)))) ∧
  (∀ (c : CoreId) (s : State), exec (.coreWatchdogExpiry c) s = .next (s.did (fun σ => (
        if σ.coreUp c then fire 187 (coreNum c).val ((coreRestart c σ).updCore c (fun x => { x with bad := true })) else σ)))) ∧
  (∀ (c : CoreId) (selfTestOk : Bool) (s : State),
    exec (.coreRestartDone c selfTestOk) s = .next (s.did (fun σ => serveWaiting (
        if (σ.core c).state != .restarting then σ
        else if σ.onTrial c && !selfTestOk then
          trialFail (fire 187 (coreNum c).val (σ.updCore c (fun x => { x with state := .halted, bad := true })))
        else
          let t := (
        if selfTestOk then
          let t := σ.updCore c (fun x => { x with state := .running, bad := false })
          if c == .supervisor then deliverTraps (supTakes t)
          else if c == .ledger then
            (let u := (t.updLg (fun l => { l with codec := none })).when (t.running && !t.lg.archKnown) archFind
             match u.lg.flush with | some i => flushWrite i u | none => u)
          else if t.ov.enumPend then enumBegin t
          else if due t.now t.ov.enumAt then enumFinish t
          else t
        else fire 187 (coreNum c).val (σ.updCore c (fun x => { x with state := .halted, bad := true }))).when (c == .supervisor && selfTestOk) updAgain
          if t.arch.cores.toList.any (fun x => x.state == .restarting) then t else revertNext t)))) ∧
  (∀ (k : Fin 5) (s : State), exec (.supplyRangeExit k) s = .next (s.did (fun σ => (
        if σ.arch.supplyOut[k] then σ
        else fire 184 k.val (σ.updArch (fun a => { a with supplyOut := a.supplyOut.set k true })))))) ∧
  (∀ s : State, exec .supplyRangeClear s = .next (s.did (fun σ => (
        σ.updArch (fun a => { a with supplyOut := Tab.all 5 false })))))

/-- POR_ASSERT takes every register to its reset value in mode por, the ledger memories kept unless the supply is VKEEP
(R330); POR_RELEASE, in mode por, samples the straps, arms the feed comparators and asks for PLL lock (R57), or leaves
mode held while RESET_N is low (Table 18.18); RESET_N_ASSERT of at least 1 us, outside por, resets the same with the
ledger memories kept (R56), and one of 100 ns to 1 us is a full reset or none, as a free value says (R401);
RESET_N_RELEASE does in mode held what POR_RELEASE does in por; CRESET_RESTART, in mode creset, ends the last-gasp
write, resets and starts afresh (R248). Otherwise each leaves the state as it was, but for the level of RESET_N. -/
def Obligations.ResetCommandsComplete : Prop :=
  (∀ (k : Fin 5) (s : State), exec (.porAssert k) s = .next (s.did (fun σ => (
        chipReset false false (k.val != 4) .por σ)))) ∧
  (∀ (straps : Straps) (s : State), exec (.porRelease straps) s = .next (s.did (fun σ => (
        if σ.mode != .por then σ else if σ.glb.resetLow then { σ with mode := .held } else (
        { σ with
          mode := .start
          step := 2
          feeds := σ.feeds.map (fun x => { x with since := some σ.now })
          glb := { σ.glb with straps := straps }
          arch := { σ.arch with islands := startIslands } }))))) ∧
  (∀ (lowNs : Nat) (s : State), exec (.resetNAssert lowNs) s = .next (s.did (fun σ => (
        let d := draw σ
        let t := if 1000 ≤ lowNs then σ else d.2
        if 1000 ≤ lowNs || (100 ≤ lowNs && d.1 % 2 = 1) then
          (let u := t.updGlb (fun g => { g with resetLow := true }); if u.mode == .por then u else chipReset true false true .held u)
        else if 100 ≤ lowNs then t else σ)))) ∧
  (∀ (straps : Straps) (s : State), exec (.resetNRelease straps) s = .next (s.did (fun σ => (
        let t := σ.updGlb (fun g => { g with resetLow := false })
        if σ.mode == .held then (
        { t with
          mode := .start
          step := 2
          feeds := t.feeds.map (fun x => { x with since := some t.now })
          glb := { t.glb with straps := straps }
          arch := { t.arch with islands := startIslands } }) else t)))) ∧
  (∀ (straps : Straps) (s : State), exec (.cresetRestart straps) s = .next (s.did (fun σ => (
        if σ.mode == .creset then beginStart straps (chipReset true true true .start (lgsDone true σ)) else σ))))

/-- In mode start and at its own step of Table 3.1 each row of the start takes its step: PATTERN_APPLY at step 8 applies
the candidate or the blank pattern and leaves step 9; CORE_IMAGE_CHECK at step 9 judges each core image and leaves step
10; CORE_START at step 10 boots the cores, runs the host, module-bus and service-port islands and leaves step 11;
SETTINGS_STORE_READ at step 11 leaves step 12; READY at step 12 leaves mode ready and step 13 and a single unit, or a
standby where the twin already asserts OWN_N, else an undecided one. LAYOUT_DIRECTORY_READ at step 3 reads the
directory, the settings copies, the firmware slots they select and the pattern slots, counts in ROLLBACKS what was on
trial or in proof at the restart (EV178 for a core image), and leaves step 6 or 8. PATTERN_CANDIDATE_CHECK checks the
next candidate, or that of an activation. Elsewhere each leaves the state as it was. -/
def Obligations.StartCommandsComplete : Prop :=
  (∀ s : State, exec .layoutDirectoryRead s = .next (s.did (fun σ => (
        if σ.mode == .start && σ.step = 3 then
          let s := memFetch 0 0 (σ.updCh (fun c => { c with layout := none }))
          match s.dirCopy false with
          | some l => takeLayout l false s
          | none =>
            let t := memFetch 0 0x1000 s
            match t.dirCopy true with
            | some l => takeLayout l true t
            | none => (
        fire 182 0 { t with step := 8, ch := { t.ch with layout := none, dirMirror := false, cand := none, setRdFail := true } })
        else σ)))) ∧
  (∀ (l : Layout) (mirror : Bool) (s : State), takeLayout l mirror s =
      let t0 := s.updCh (fun c => { c with layout := some l, dirMirror := mirror, tried := 0, cand := none })
      let copy := if t0.hasStore then t0.newestCopy (fun _ => true) else none
      let d : SetData := match copy with | some c => c.2.data | none => {}
      let reads := (if t0.hasStore then [4] else []) ++ (d.fw.toList.map (fun b => 2 + bit01 b)).eraseDups ++ [0, 1]
      let t := t0.each reads (fun i u => regionFetch i 0 u)
      let pat : PatState := match d.pat.inProof with
        | some q => { d.pat with failed := d.pat.failed ++ [q], inProof := none }
        | none => d.pat
      let lost := bit01 d.trial.isSome + bit01 d.pat.inProof.isSome
      let u := fireIf d.trial.isSome 178 0 ((t.updUpd (fun x => { x with
        set := { pat := pat, fw := d.fw, newSlot := d.newSlot }, fw := d.fw, rollbacks := lost })).updCh (fun c => { c with setRdFail := copy.isNone }))
      let skip (i : Nat) (v : State) : State := if (v.ch.region i).2.2 != 0 && !v.candidate i then setReason i 0xFE 0 v else v
      { skip 1 (skip 0 u) with step := if u.candOrder.isEmpty then 8 else 6 }) ∧
  (∀ s : State, exec .patternCandidateCheck s = .next (s.did (fun σ => (
        if σ.mode != .start && σ.ch.applying && σ.ch.cand.isNone && σ.ch.candSlot = 2 then σ.updCh (fun c => { c with cand := some blankImage })
        else
          let t := candidateCheck σ
          if σ.ch.applying && !t.ch.applying then t.updUpd (fun u => { u with patAct := false, rollback := none }) else t)))) ∧
  (∀ s : State, exec .patternApply s = .next (s.did (fun σ => (
        if σ.mode == .start then (if σ.step = 8 then (
        let t := match σ.ch.cand with
          | some im => applyImage im σ.ch.candSlot false true σ
          | none => applyImage blankImage 0 true true σ
        { t with step := 9, ch := { t.ch with cand := none } }) else σ)
        else if σ.ch.applying && !σ.countersWait then serviceApply σ else σ)))) ∧
  (∀ s : State, exec .coreImageCheck s = .next (s.did (fun σ => (
        if σ.mode == .start && σ.step = 9 then
          let s := σ.each (List.finRange 3) (fun i t => regionFetch (2 + bit01 t.upd.fw[i]) 256 t)
          { s with step := 10, arch := { s.arch with cores := Vector.ofFn (fun i : Fin 3 => { s.arch.cores[i] with imageOk := coreImageOk s i }) } }
        else σ)))) ∧
  (∀ (supOk ledOk lnkOk : Bool) (s : State), exec (.coreStart supOk ledOk lnkOk) s = .next (s.did (fun σ => (
        if σ.mode == .start && σ.step = 10 then
          let t := coreBoot .link lnkOk (coreBoot .ledger ledOk (coreBoot .supervisor supOk σ))
          let u := { t with step := 11, arch := { t.arch with islands := { t.arch.islands with
            host := .running, moduleBus := .running } } }
          deliverTraps (if u.coreUp .ledger then lgsExamine u else u)
        else σ)))) ∧
  (∀ (copy : StoreRead) (s : State), exec (.settingsStoreRead copy) s = .next (s.did (fun σ => (
        if σ.mode == .start && σ.step = 11 then
          let t0 := { σ with step := 12 }
          if !t0.coreUp .supervisor then t0
          else
            let t := if t0.hasStore && !t0.blockDown .memory then regionFetch 4 0 t0 else t0
            let now := t.upd.set
            let go (d : SetData) (u : State) : State := u.updUpd (fun x => { x with
              set := { d with pat := now.pat, fw := now.fw, trial := none, newSlot := now.newSlot, history := d.history ++ now.history }
              setRead := true })
            let save (b : Bool) (u : State) : State := if b || !now.history.isEmpty then writeSet u else u
            let any := t.hasStore && copy.readable && !t0.blockDown .memory && (t.newestCopy (fun _ => true)).isSome
            deliverTraps (
              if !any then fire 183 0 (save false (go {} t))
              else match t.newestCopy (fun c => c.ver ≤ t.setVer) with
                | none => fire 183 3 (save false (go {} t))
                | some (_, c) =>
                  if c.ver < t.setVer && !copy.migrates then coreBoot .supervisor false (fire 183 1 (go {} t))
                  else save (c.ver < t.setVer || c.data.pat != now.pat || c.data.trial.isSome) (go (migrateSet c.ver t.setVer c.data) t))
        else σ)))) ∧
  (∀ s : State, exec .ready s = .next (s.did (fun σ => (
        if σ.mode == .start && σ.step = 12 then
          readyProof (recheckImages (readyServices (readyRole (readyDomains { σ with mode := .ready, step := 13 }))))
        else σ)))) ∧
  (∀ (s : State), readyDomains s =
      if s.ev.crHold then s
      else s.each (List.finRange 8) (fun d u =>
        if (match u.seq.doms[d].cfg with | some c => c.start != 1 | none => false) && u.seq.doms[d].state == .off then
          u.updDom d (fun x => { x with state := .wait, req := true, auto := false })
        else u)) ∧
  (∀ (s : State), readyRole s =
      s.updPair (fun p => { p with
        role := if s.cfg.pair.role = 1 && !s.ch.blank then (if p.peer then .standby else .undecided) else .single
        own := s.cfg.pair.role != 1 && !s.ch.blank
        drivers := s.cfg.pair.role != 1 && !s.ch.blank
        readyAt := s.now })) ∧
  (∀ (s : State), readyServices s =
      let d := if s.ov.acting then enumAtRoot (s.updOv (fun o => { o with gtime := 0 })) else s
      let e := ledgerGap (sweepSet d.upd.set.interval d.upd.set.tap d)
      if e.coreUp .ledger then archFind e else e) ∧
  (∀ (s : State), readyProof s =
      if !s.ch.blank && s.upd.proof.isNone && !s.upd.set.pat.proved.contains s.ch.seq then
        let prev := if s.candidate (1 - s.ch.slot) then some (1 - s.ch.slot) else none
        proofBegin prev (hotSafe (s.imageAt (prev.getD 2)) s.ch.image) s
      else s)

/-- FEED_QUALIFIED takes the sense voltage, waits for the qualify time and qualifies an armed, unqualified feed that is
at or above AUX_RISE; INPUT_QUALIFY_RESTART starts the time of an input that has not qualified again (R53); FEED_ABSENT
takes the sense voltage and loses a qualified feed that is below AUX_FALL, with EV144, and where it was the last
HU_CAUSE.LAST_FEED and the last-gasp write (R52, R55); FEED_GATE_OFF and FEED_GATE_ON judge the gates by the difference;
MEM_STATUS_POLL reads the status of the device on which a command is in progress (R63), and where it is not busy ends
that command and goes on with those that wait (R65); MEM_WRITE_TIMEOUT waits out the timeout and abandons the write. -/
def Obligations.FeedAndMemoryCommandsComplete : Prop :=
  (∀ (f : FeedSense) (s : State), exec (.feedQualified f) s = .next (s.waited (s.feedDue f.feed) (fun σ => (
        let s := σ.updFeed f.feed (fun y => { y with mv := some f.mv })
        match (s.feeds[f.feed]).since with
        | some t =>
          if s.feedsOn && !(s.feeds[f.feed]).qual && 100 * s.auxRise ≤ f.mv && t + ms s.auxQual ≤ s.now then
            wakeBegin 6 (judgeGates (s.updFeed f.feed (fun y => { y with qual := true, since := none })))
          else s
        | none => s)))) ∧
  (∀ (i : QualInput) (s : State), exec (.inputQualifyRestart i) s = .next (s.did (fun σ => (
        match i with
        | .feed f => σ.updFeed f (fun x => if !x.qual && x.since.isSome then { x with since := some σ.now } else x)
        | .busBar => σ.updHold (fun h => if !h.busQ && h.qualAt.isSome then { h with qualAt := some σ.now } else h)
        | .domain d => σ.updDom d (fun x => if !x.inQ && x.qualAt.isSome then { x with qualAt := some σ.now } else x))))) ∧
  (∀ (f : FeedSense) (s : State), exec (.feedAbsent f) s = .next (s.did (fun σ => (
        let s := σ.updFeed f.feed (fun y => { y with mv := some f.mv })
        if (s.feeds[f.feed]).qual && f.mv < 100 * auxFallOf s.hold.cfg then (
        let t := judgeGates (s.updFeed f.feed (fun x => { x with qual := false, gate := false, lost := true, since := some s.now }))
        let u := fire 144 (4 + f.feed.val) t
        wakeBegin 6 (if (s.feeds[otherFeed f.feed]).qual then u
          else lgsStart none u.lg.openRec (u.updHold (fun h => { h with cause := h.cause ||| 16 })))) else s)))) ∧
  (∀ (f : Fin 2) (s : State), exec (.feedGateOff f) s = .next (s.did (fun σ => (
        if σ.feedsOn then judgeGates (σ.updFeed f (fun x => { x with below := true })) else σ)))) ∧
  (∀ (f : Fin 2) (s : State), exec (.feedGateOn f) s = .next (s.did (fun σ => (
        if σ.feedsOn then judgeGates (σ.updFeed f (fun x => { x with below := false })) else σ)))) ∧
  (∀ (busy : Bool) (s : State), exec (.memStatusPoll busy) s = .next (s.did (fun σ => (
        match σ.ch.memOp with
        | none => σ
        | some o =>
          let t := send (.mem { dev := o.dev, op := 0x05 }) σ
          if σ.mode == .sleep then σ
          else if busy then t
          else
            let u := t.updCh (fun c => { c with memOp := none })
            setAgain (memNext (if u.ch.memQ.any (fun x => x.use == o.use) then u else memEnd o.use u)))))) ∧
  (∀ s : State, exec .memWriteTimeout s = .next (s.waited s.memDue (fun σ => (
        match σ.ch.memOp with
        | none => σ
        | some o => if σ.mode != .sleep && o.started + ms (if o.erase then 400 else 5) < σ.now then memAbandon σ else σ))))

/-- SCRUB_SEGMENT_CHECK waits for its SCRUB period, visits a segment once in a pass and judges its CRC (R72 to R74);
SCRUB_REPAIR repairs the first upset segment from the pattern memory or fires EV180 (R73, R75); SLEEP_IDLE_EXPIRY waits
out SLEEP_IDLE and asks for sleep under SLEEP_POLICY 2 (R76); SLEEP_ENTRY waits until no record is being flushed and no
counter write is left, and then returns to ready with REFUSED where a ground to refuse has come up, and otherwise sleeps
with the islands, the cores and the PLL stopped (R77); WAKE_REQUEST of an enabled source starts the wake,
SLP_ALARM_EXPIRY waits for the alarm and does so as source 7 (R78); WAKE_SCRUB_PASS leaves wake step 3 with no mismatch
or a repaired one, and otherwise restarts the device at step 4 of Table 3.1; WAKE_COMPLETE leaves mode ready (R79). Each
leaves the state as it was where its condition is not met. -/
def Obligations.ScrubAndSleepCommandsComplete : Prop :=
  (∀ (seg : Nat) (crc : BitVec 32) (s : State),
    let w := s.waitTill (s.scrubDue seg)
    let σ := egressAll w.opened
    let n := σ.ch.image.segments
    let period := ms σ.cfg.device.scrub
    let fresh := σ.ch.scrubAt + period ≤ σ.now
    let seen := if fresh then [] else σ.ch.seen
    (σ.running && !σ.blockDown .chandler && seg < n && !seen.contains seg →
        let t := σ.updCh (fun c => { c with
          scrubAt := if fresh then σ.now - (σ.now - c.scrubAt) % period else c.scrubAt
          seen := seg :: seen
          passes := if seen.length + 1 = n then (c.passes + 1) % 256 else c.passes })
        (seg + 1 = n →
            (crc.toNat = t.ch.trimCrc % 2 ^ 32 →
                exec (.scrubSegmentCheck seg crc) s = .next (w.closed t)) ∧
            (¬(crc.toNat = t.ch.trimCrc % 2 ^ 32) →
                exec (.scrubSegmentCheck seg crc) s = .next (w.closed (trimMismatch t)))) ∧
        (¬(seg + 1 = n) →
            (crc.toNat = t.ch.segCrc.getD seg 0 →
                exec (.scrubSegmentCheck seg crc) s = .next (w.closed (
                  t.updCh (fun c => { c with
                   upset := c.upset.filter (· != seg), stuck := c.stuck.filter (· != seg) })))) ∧
            (¬(crc.toNat = t.ch.segCrc.getD seg 0) →
                (t.ch.upset.contains seg || t.ch.stuck.contains seg →
                    exec (.scrubSegmentCheck seg crc) s = .next (w.closed t)) ∧
                (¬(t.ch.upset.contains seg || t.ch.stuck.contains seg) →
                    exec (.scrubSegmentCheck seg crc) s = .next (w.closed (
                      groundAgain 0 (fire 181 0 (addTally 11 1 (t.updCh (fun c => { c with upset := c.upset ++ [seg] })))))))))) ∧
    (¬(σ.running && !σ.blockDown .chandler && seg < n && !seen.contains seg) →
        exec (.scrubSegmentCheck seg crc) s = .next (w.closed σ))) ∧
  (∀ s : State,
    let σ := s.opened
    (σ.ch.upset = [] →
        exec .scrubRepair s = .next (s.closed σ)) ∧
    (∀ seg rest, σ.ch.upset = seg :: rest →
        (σ.blockDown .chandler || (σ.paired && σ.pair.role == .active && σ.pair.yielding) →
            exec .scrubRepair s = .next (s.closed σ)) ∧
        (¬(σ.blockDown .chandler || (σ.paired && σ.pair.role == .active && σ.pair.yielding)) →
            (σ.rereadOk →
                exec .scrubRepair s = .next (s.closed (
                  (rereadFetch σ).updCh (fun c => { c with upset := rest, repaired := true })))) ∧
            (¬(σ.rereadOk) →
                exec .scrubRepair s = .next (s.closed (
                  fire 180 3 ((rereadFetch σ).updCh (fun c => { c with upset := rest, stuck := c.stuck ++ [seg], unrepaired := true })))))))) ∧
  (∀ s : State,
    let w := s.waitTill s.idleDue
    let σ := egressAll w.opened
    (∀ t, σ.slp.idleAt = some t →
        (σ.cfg.device.sleepPolicy = 2 && σ.cfg.device.sleepIdle ≠ 0 && t + sec σ.cfg.device.sleepIdle ≤ σ.now →
            (σ.mode != .ready →
                exec .sleepIdleExpiry s = .next (w.closed σ)) ∧
            (¬(σ.mode != .ready) →
                (σ.sleepRefused →
                    exec .sleepIdleExpiry s = .next (w.closed (σ.updSlp (fun x => { x with refused := true })))) ∧
                (¬(σ.sleepRefused) →
                    exec .sleepIdleExpiry s = .next (w.closed ({ writeAllCounters σ with mode := .toSleep }))))) ∧
        (¬(σ.cfg.device.sleepPolicy = 2 && σ.cfg.device.sleepIdle ≠ 0 && t + sec σ.cfg.device.sleepIdle ≤ σ.now) →
            exec .sleepIdleExpiry s = .next (w.closed σ))) ∧
    (σ.slp.idleAt = none →
        exec .sleepIdleExpiry s = .next (w.closed σ))) ∧
  (∀ s : State,
    let σ := s.opened
    (σ.mode == .toSleep && (σ.lg.flush.isNone || !σ.coreUp .ledger) && !σ.countersWait →
        (σ.sleepRefused →
            exec .sleepEntry s = .next (s.closed ({ σ with mode := .ready, slp := { σ.slp with refused := true } }))) ∧
        (¬(σ.sleepRefused) →
            exec .sleepEntry s = .next (s.closed (sleepHalt (sleepQuiet σ))))) ∧
    (¬(σ.mode == .toSleep && (σ.lg.flush.isNone || !σ.coreUp .ledger) && !σ.countersWait) →
        exec .sleepEntry s = .next (s.closed σ))) ∧
  (∀ (src : Fin 8) (s : State),
    let σ := s.opened
    (σ.mode == .sleep && natBit σ.slp.wakeEn src.val →
        exec (.wakeRequest src) s = .next (s.closed (
          { σ with mode := .wake, wakeStep := 1, arch := { σ.arch with islands := σ.arch.islands.wake }, slp := { σ.slp with woke := src.val, scrubbed := false, alarmAt := none } }))) ∧
    (¬(σ.mode == .sleep && natBit σ.slp.wakeEn src.val) →
        exec (.wakeRequest src) s = .next (s.closed σ))) ∧
  (∀ s : State,
    let w := s.waitTill s.alarmDueAt
    let σ := egressAll w.opened
    (σ.mode == .sleep && due σ.now σ.slp.alarmAt →
        exec .slpAlarmExpiry s = .next (w.closed (wakeBegin 7 (σ.updSlp (fun x => { x with alarmAt := none }))))) ∧
    (¬(σ.mode == .sleep && due σ.now σ.slp.alarmAt) →
        exec .slpAlarmExpiry s = .next (w.closed σ))) ∧
  (∀ (bad : List Nat) (s : State),
    let σ := s.opened
    (σ.mode == .wake && σ.wakeStep = 2 →
        let n := σ.ch.image.segments
        let l := bad.filter (fun i => i + 1 < n)
        let b := σ.when (bad.any (fun i => i + 1 == n)) trimMismatch
        (l.isEmpty →
            exec (.wakeScrubPass bad) s = .next (s.closed (wakePassed b))) ∧
        (¬(l.isEmpty) →
            let t := wakeReread l b
            (t.rereadOk →
                exec (.wakeScrubPass bad) s = .next (s.closed (
                  wakePassed (t.updCh (fun c => { c with repaired := true }))))) ∧
            (¬(t.rereadOk) →
                exec (.wakeScrubPass bad) s = .next (s.closed (wakeRestart t))))) ∧
    (¬(σ.mode == .wake && σ.wakeStep = 2) →
        exec (.wakeScrubPass bad) s = .next (s.closed σ))) ∧
  (∀ s : State,
    let σ := s.opened
    (σ.mode == .wake && σ.wakeStep = 3 →
        exec .wakeComplete s = .next (s.closed (wakeResume (wakeUp σ)))) ∧
    (¬(σ.mode == .wake && σ.wakeStep = 3) →
        exec .wakeComplete s = .next (s.closed σ))) ∧
  (∀ (s : State), sleepQuiet s =
      let a := thermalClear (s.each ((List.finRange 6).filter s.portUp) (fun k u => send (.ovPark k) u))
      let b := a.each (List.finRange 96) (fun m u => u.updMon m (fun x => { x with test := none, lowAt := none, highAt := none }))
      let c := b.each (List.finRange 16) (fun t u => u.updCt t (fun x => { x with state := 0, satNow := false }))
      let d := c.each (List.finRange 8) (fun i u => u.updDom i (fun x =>
        if x.state == .wait then { x with state := .off, req := false, auto := false, restartAt := none } else x))
      ledgerGap (attnDiscard (d.updHb (fun h => { h with sending := none })))) ∧
  (∀ (s : State), sleepHalt s =
      { s with
        mode := .sleep
        wakeStep := 0
        arch := { s.arch with
          islands := {}
          pllLocked := false
          cores := s.arch.cores.map (fun x => if x.state == .running || x.state == .restarting then { x with state := .off } else x) }
        pair := { s.pair with
          linkUp := false, inStep := false, stepAt := none, handOver := none, takeSent := false, takeRevert := false
          verdicts := [], lastGood := none, fwd := [] }
        slp := { s.slp with alarmAt := if s.slp.alarm = 0 then none else some (s.now + sec s.slp.alarm), idleAt := none } }) ∧
  (∀ (s : State), wakePassed s =
      { s with wakeStep := 3, slp := { s.slp with scrubbed := true }, ch := { s.ch with passes := (s.ch.passes + 1) % 256 } }) ∧
  (∀ (l : List Nat) (s : State), wakeReread l s =
      let t := s.each l (fun _ u => fire 181 0 (addTally 11 1 u))
      rereadFetch (t.when t.paired (pulseGround 0))) ∧
  (∀ (s : State), wakeRestart s =
      let u := chipReset true false true .start s
      { u with
        step := 3
        arch := { u.arch with pllLocked := true, islands := { startIslands with pwm := .running } }
        feeds := s.feeds
        ev := { u.ev with fireQ := s.ev.fireQ } }) ∧
  (∀ (s : State), wakeUp s =
      { s with
        mode := .ready
        wakeStep := 4
        arch := { s.arch with
          islands := s.arch.islands.up
          cores := s.arch.cores.map (fun (x : Core) => if x.state == CoreState.off then { x with state := .running } else x) }
        slp := { s.slp with lastWake := s.slp.woke } }) ∧
  (∀ (s : State), wakeResume s =
      let a := (wakeMonitors (wakeLinks s)).each (List.finRange 16) ctArm
      wakeReport (wakeDomains (ledgerGap (a.each (List.finRange 16) (fun i u => examine i u))))) ∧
  (∀ (s : State), wakeLinks s =
      (queuesLost (addTally 10 s.pair.unacked.length (s.updPair (fun p => { p with unacked := [] })))).each (List.finRange 6)
        (fun k u => if u.portEn k then portRetrain k u else u)) ∧
  (∀ (s : State), wakeReport s =
      fire 190 s.slp.woke (deliverTraps (applyIslands s))) ∧
  (∀ (s : State), wakeMonitors s =
      s.each (List.finRange 96) (fun m u => u.updMon m (fun x =>
        if (match x.cfg with | some k => k.mode != 0 | none => false) then { x with lowCnt := 0, highCnt := 0 } else x))) ∧
  (∀ (s : State), wakeDomains s =
      s.each (List.finRange 8) (fun i u =>
        if !u.ev.crHold && (match u.seq.doms[i].cfg with | some x => x.start == 2 | none => false) && u.seq.doms[i].state == .off then
          u.updDom i (fun x => { x with state := .wait, req := true, auto := false, inQ := false, qualAt := some u.now })
        else u))

/-- PWM_LEADING_EDGE carries out the fences and unfences of the twin that wait for this edge and, on a running PWM
island, loads waiting values and either drops a switching engine whose rail is off or whose shed is pending, or gives
its pulse (R86, R91); ON_TIME_END of an engine in its on-time drives the off-level, takes the peak sample and drops a
pending shed (R83, R85); VALLEY_SAMPLE_CONVERSION of a switching engine closes the period, adds it to the sums and has
the check judge it, and opens the next (R83, R94, R106); PHASE_RESULT_PUBLISH after at least 256 periods publishes the
means and clears the sums (R106). Each answers a next state for every engine and every operand. -/
def Obligations.PhaseCommandsComplete : Prop :=
  (∀ (n : Fin 64) (s : State), exec (.pwmLeadingEdge n) s = .next (s.did (fun σ => (
        if (fwdEdge n σ).arch.islands.pwm == .running then
          match (fwdEdge n σ).railOf n with
          | none => (fwdEdge n σ)
          | some r =>
            let t := loadPhase n (((fwdEdge n σ).unitOf n).foldl (fun u i => endOverdue i u) (ackDemand r (fwdEdge n σ)))
            let p := t.phases[n]
            let drop (st : PhState) : State := t.updPhase n (fun q => { q.endOn with
              state := st, pwm := .z, dropping := false, again := q.again && st == .shed, opened := false, shedAt := (fwdEdge n σ).now })
            match p.cfg with
            | none => t
            | some c =>
              if !p.switching then t
              else if t.rails[r].state == .off then drop .off
              else if p.dropping then (if p.again then joinUnits r [n] (drop .shed) else drop .shed)
              else leadPulse n r c t
        else (fwdEdge n σ))))) ∧
  (∀ (n : Fin 64) (why : OnEnd) (peak : BitVec 10) (ton : Nat) (s : State),
    exec (.onTimeEnd n why peak ton) s = .next (s.did (fun σ => (
        let p := σ.phases[n]
        match p.cfg, σ.railOf n with
        | some c, some r =>
          if p.onNow then
            let hi := c.tonHigh (σ.taps r)
            let t := match why with
              | .trip => max c.tonLow ton
              | .minOn | .blanking => c.tonLow
              | .tonMax => hi
            let full := why == .tonMax || hi < t
            let len := if full then hi else t
            shedCheck r (σ.updPhase n (fun q => { q.endOn with
              pwm := q.offLevel
              thrEnd := c.threshold q.ref len
              curPk := code10 peak
              curTon := len
              curFull := full
              curTrip := !full
              lastTrip := !full
              lastPk := some ((if q.dir then -1 else 1) * code10 peak)
              noTrip := q.noTrip || full
              dropping := q.state == .shedPend }))
          else σ
        | _, _ => σ)))) ∧
  (∀ (n : Fin 64) (code : BitVec 10) (s : State),
    exec (.valleySampleConversion n code) s = .next (s.did (fun σ => (
        let s := endOverdue n σ
        let p := s.phases[n]
        match p.cfg, s.railOf n with
        | some c, some r =>
          if p.switching && s.rails[r].pulsed then
            let sg : Int := if p.dir then -1 else 1
            let x : Period := ⟨sg * p.curPk, sg * p.openVal, p.curTon, p.curFull, p.curTrip⟩
            let nv := code10 code
            let next (q : PhaseS) : PhaseS :=
              { q with opened := true, openVal := nv, curPk := nv, curTon := 0, curFull := false, curTrip := false }
            if p.opened then
              let t := s.updPhase n (fun q => next { q with
                latest := some x
                accN := q.accN + 1
                accPk := q.accPk + p.curPk
                accVal := q.accVal + p.openVal
                accTon := q.accTon + p.curTon })
              if c.check then verdict n r c x (p.openVal == 511) t else t
            else s.updPhase n next
          else s
        | _, _ => s)))) ∧
  (∀ (n : Fin 64) (s : State), exec (.phaseResultPublish n) s = .next (s.did (fun σ => (
        let p := σ.phases[n]
        match p.cfg with
        | some c =>
          if p.switching && p.accN ≥ 256 then
            let amp (v : Int) : Int := roundDiv (v * 40000) (p.accN * c.csGain)
            let a := fitCode true 16 (amp p.accPk) σ
            let b := fitCode true 16 (amp p.accVal) a.2
            let d := fitCode false 16 (roundDiv p.accTon (4 * p.accN)) b.2
            d.2.updPhase n (fun q => { q with
              seq := (q.seq + 1) % 256
              fresh := true
              clamped := q.accClamp
              ipk := a.1
              ival := b.1
              tonRes := d.1
              accN := 0
              accPk := 0
              accVal := 0
              accTon := 0
              accClamp := false })
          else σ
        | none => σ))))

/-- COMPENSATOR_SAMPLE carries out what the twin has sent for this sample (R264), runs the loop on it, counts the energy
of the cartridges, and recomputes the cap where values were loaded; RAMP_STEP moves the reference of a rail that ramps
and ends the ramp at its target (R116, R117); OV_SNUFF sets the sense voltage and the OV comparator, and above OV an
armed rail trips (R127); UV_COMPARATOR_CHANGE sets the sense voltage and judges UV (R130); UV_DELAY_EXPIRY waits for the
UV timer and acts; RAIL_RESULT_PUBLISH publishes the result set (R134). -/
def Obligations.RailSampleCommandsComplete : Prop :=
  (∀ (r : Fin 24) (e : Int) (sat vsnBad : Bool) (s : State),
    exec (.compensatorSample r e sat vsnBad) s = .next (s.did (fun σ => (
        let t := integrate r (compensator (uvAct r) (ovAct r) r e sat vsnBad (fwdSample r σ))
        holdFollow (if σ.rails[r].next.isSome then capRecompute t else t))))) ∧
  (∀ (r : Fin 24) (s : State), exec (.rampStep r) s = .next (s.did (fun σ => holdFollow (
        let x := σ.rails[r]
        match x.cfg with
        | none => σ
        | some c =>
          let k := x.rampSteps + 1
          if x.state == .rampUp then
            let v := x.toward (x.rampVset * 8 * k / max 1 c.rampOn)
            let t := σ.updRail r (fun y => { y with vref := v, rampSteps := k })
            if v == x.vtgt * 8 then startSettle r (rampUpEnd r t) else t
          else if x.state == .rampDown then
            let v := x.rampFrom - ((x.rampVset * 8 * k / max 1 c.rampOff : Nat) : Int)
            if v ≤ 0 then
              updPhases (σ.engines r) (fun p => if p.state == .shed then { p with state := .off } else p)
                (σ.updRail r (fun y => { y with vref := 0, rampSteps := k, state := .off, shedSet := [] }))
            else σ.updRail r (fun y => { y with vref := v, rampSteps := k })
          else σ)))) ∧
  (∀ (r : Fin 24) (vsense : Nat) (s : State), exec (.ovSnuff r vsense) s = .next (s.did (fun σ => (
        match σ.rails[r].cfg with
        | none => σ
        | some c =>
          let t := σ.updRail r (fun x => { x with sense := vsense * 8, clip := none, away := false, ovCmp := decide (vsense > c.ov) })
          if vsense > c.ov && t.ovArmed r then (ovAct r) t else t)))) ∧
  (∀ (r : Fin 24) (vsense : Nat) (s : State),
    exec (.uvComparatorChange r vsense) s = .next (s.did (fun σ => (
        if σ.rails[r].cfg.isSome then armUv r (uvJudge (uvAct r) r (armUv r (σ.updRail r (fun x => { x with sense := vsense * 8, clip := none, away := false })))) else σ)))) ∧
  (∀ (r : Fin 24) (s : State), exec (.uvDelayExpiry r) s = .next (s.waited s.rails[r].uvAt (fun σ => (
        if due σ.now σ.rails[r].uvAt then uvAct r (σ.updRail r (fun x => { x with uvAt := none })) else σ)))) ∧
  (∀ (r : Fin 24) (s : State), exec (.railResultPublish r) s = .next (s.did (fun σ => (
        let x := σ.rails[r]
        match x.cfg with
        | some c =>
          if (x.state == .rampUp || x.state == .regulating || x.state == .rampDown) && x.accN ≥ 256 then
            let a := fitCode false 16 (roundDiv (x.accV * c.div) (4096 * x.accN)) σ
            let b := fitCode true 16 ((x.accI.mul ⟨10, x.accN⟩).round) a.2
            let d := fitCode false 10 (roundDiv x.accD x.accN) b.2
            d.2.updRail r (fun y => { y with
              seq := (y.seq + 1) % 256
              fresh := true
              resSat := y.accSat
              resLim := y.accLim
              vout := a.1
              iout := b.1
              resDem := d.1
              epk := y.accE
              accN := 0
              accV := 0
              accI := ⟨0, 1⟩
              accD := 0
              accE := 0
              accSat := false
              accLim := false })
          else σ
        | none => σ))))

/-- DWELL_EXPIRY waits for the dwell and announces the shed of a regulating rail (R122); HOLDOFF_EXPIRY waits for the
hold-off and ends it (R124); GRACE_EXPIRY waits for the first grace of the reduction and enforces the lowest fraction
whose grace has ended (R151); SETTLE_TIMEOUT waits for the settle timer of a pending transition and posts SFAIL with the
cause 1 of its port (R146). -/
def Obligations.RailTimerCommandsComplete : Prop :=
  (∀ (r : Fin 24) (s : State), exec (.dwellExpiry r) s = .next (s.waited (s.dwellDue r) (fun σ => (
        let x := σ.rails[r]
        if !σ.follows && due σ.now x.dwellAt && x.state == .regulating && !x.noshed && x.shedSet.isEmpty && !(match x.holdAt with | some t => σ.now < t | none => false)
        then shedAnnounce r σ else σ)))) ∧
  (∀ (r : Fin 24) (s : State), exec (.holdoffExpiry r) s = .next (s.waited s.rails[r].holdAt (fun σ => (
        if due σ.now σ.rails[r].holdAt then σ.updRail r (fun x => { x with holdAt := none }) else σ)))) ∧
  (∀ (r : Fin 24) (kind : LimitKind) (s : State), exec (.graceExpiry r kind) s = .next (s.waited (s.graceDue r kind) (fun σ => (
        let t := σ.rails[r].term kind
        match t.pend.filter (fun p => p.2 ≤ σ.now) with
        | [] => σ
        | gone =>
          let enf := gone.foldl (fun b p => if fracLt (some p.1) b then some p.1 else b) t.enf
          let runs (l : List (Q × Nat)) : List (Q × Nat) := l.filter (fun p => σ.now < p.2)
          let t1 := { t with enf := enf, pend := runs t.pend, fresh := (runs t.split.2).length }
          let u := firstEnforced kind r t.enf (logLimit r (σ.updRail r (fun x => x.setTerm kind t1)))
          match u.portOf r with
          | some x => if (u.notice r).dim then portCause x.1 2 u else u
          | none => u)))) ∧
  (∀ (r : Fin 24) (s : State), exec (.settleTimeout r) s = .next (s.waited (s.settleDue r) (fun σ => (
        match σ.portOf r with
        | some x =>
          let n := σ.notice r
          if n.pending && due σ.now n.settleAt then
            portCause x.1 1 (updNotice r (fun m => { m with sfail := true, settleAt := none }) σ)
          else σ
        | none => σ))))

/-- LL_FRAME_BOUNDARY judges the frame that ends, and the boundary of a good one crosses as a toggle (R138, R20); SET_V,
PRELOAD, LL_READ, NOTICE_ACK and DIM_ACK are requests with CMD 1 to 5, and LL_UNUSED_COMMAND one with any CMD that Table
6.2 does not list, of which llRequest states the answer: an unserved port ignores it, a bad CRC is counted, a repeat is
answered again, and anything else acts once (R140 to R145). -/
def Obligations.LoadLinkCommandsComplete : Prop :=
  (∀ (p : Fin 8) (edges : Nat) (startOne : Bool) (s : State),
    exec (.llFrameBoundary p edges startOne) s = .next (s.did (fun σ => (
        let t := (
        let s := portClock p .stopped σ
        if s.portServes p && edges > 0 then
          let crcOk := s.ports[p].frame
          let t := s.updPort p (fun x => { x with frame := none })
          let framing := startOne || edges != 68
          if framing then
            let u := t.updPort p (fun x => { x with framing := sat255 x.framing })
            -- a frame whose RCRC did not agree was counted as bad at edge 34
            if crcOk == some false then u else llBad p (addTally 13 1 u)
          else if crcOk == some true then
            t.updPort p (fun x => { x with good := (x.good + 1) % 65536, bad := 0, badRun := false, linkUp := true })
          else if crcOk == some false then t
          else llBad p t
        else s)
        if σ.portServes p && edges = 68 && !startOne && σ.ports[p].frame == some true then toggle (.frameReceived p) t else t)))) ∧
  (∀ (p : Fin 8) (sub : Fin 4) (tog : Bool) (payload : BitVec 16) (rcrc : BitVec 8) (s : State),
    exec (.setV p sub tog payload rcrc) s = .next (s.did (fun σ => (
        let s := portClock p .running σ
        if s.portServes p then
          let q : LlReq := ⟨1, sub.val, tog, payload.toNat⟩
          let ok := decide (crc8 0 q.bytes = rcrc.toNat)
          let s1 := s.updPort p (fun x => { x with frame := some ok, resp := none })
          if !ok then
            llRespond p rcrc.toNat 3 0 (llBad p (addTally 13 1 (s1.updPort p (fun x => { x with crcErr := sat255 x.crcErr }))))
          else
            let s2 := s1.updPort p (fun x => { x with tog := tog })
            let stored := match s.ports[p].prev with
              | some (o, code, data) => if o = q ∧ q.cmd ≠ 3 then some (code, data) else none
              | none => none
            match stored with
            | some (code, data) => llRespond p rcrc.toNat code data (s2.updPort p (fun x => { x with
                retries := sat255 x.retries
                refused := if code = 0 then x.refused else sat255 x.refused }))
            | none =>
              let code := llCheck s2 p sub q
              if code = 0 then
                let x := llExec p sub q s2
                llRespond p rcrc.toNat 0 x.1 (x.2.updPort p (fun y => { y with prev := some (q, 0, x.1) }))
              else
                llRespond p rcrc.toNat code 0 (s2.updPort p (fun y => { y with prev := some (q, code, 0), refused := sat255 y.refused }))
        else s)))) ∧
  (∀ (p : Fin 8) (sub : Fin 4) (tog : Bool) (payload : BitVec 16) (rcrc : BitVec 8) (s : State),
    exec (.preload p sub tog payload rcrc) s = .next (s.did (fun σ => llRequest p sub 2 tog payload.toNat rcrc.toNat σ))) ∧
  (∀ (p : Fin 8) (sub : Fin 4) (tog : Bool) (payload : BitVec 16) (rcrc : BitVec 8) (s : State),
    exec (.llRead p sub tog payload rcrc) s = .next (s.did (fun σ => llRequest p sub 3 tog payload.toNat rcrc.toNat σ))) ∧
  (∀ (p : Fin 8) (sub : Fin 4) (tog : Bool) (payload : BitVec 16) (rcrc : BitVec 8) (s : State),
    exec (.noticeAck p sub tog payload rcrc) s = .next (s.did (fun σ => llRequest p sub 4 tog payload.toNat rcrc.toNat σ))) ∧
  (∀ (p : Fin 8) (sub : Fin 4) (tog : Bool) (payload : BitVec 16) (rcrc : BitVec 8) (s : State),
    exec (.dimAck p sub tog payload rcrc) s = .next (s.did (fun σ => llRequest p sub 5 tog payload.toNat rcrc.toNat σ))) ∧
  (∀ (p : Fin 8) (cmd : BitVec 4) (sub : Fin 4) (tog : Bool) (payload : BitVec 16) (rcrc : BitVec 8) (s : State),
    exec (.llUnusedCommand p cmd sub tog payload rcrc) s = .next (s.did (fun σ => (
        if cmd.toNat = 0 || 6 ≤ cmd.toNat then llRequest p sub cmd.toNat tog payload.toNat rcrc.toNat σ else σ))))

/-- LAMPLIGHTER_TICK waits for the next tick and carries it out, with the steps of the twin that wait for it (R159,
R264); DOMAIN_COMMON_START begins the start of a domain that waits for it (R160); SLOT_SWITCH_ON, SLOT_OFF_POINT,
UP_TO_EXPIRY and DOWN_TO_EXPIRY let the ticks up to theirs pass, and then switch the slot on, take it off, end its start
as a fault (R170) or its stop (R174); PG_IN_CHANGE sets the input of a slot and judges it (R163). -/
def Obligations.LamplighterCommandsComplete : Prop :=
  (∀ s : State, exec .lamplighterTick s = .next (s.waited s.tickDue (fun σ => holdFollow (
        if σ.running then judgeTick (fwdTick { σ with seq := { σ.seq with tick := σ.seq.tick + 1, tickAt := σ.now } })
        else σ)))) ∧
  (∀ (d : Fin 8) (s : State), exec (.domainCommonStart d) s = .next (s.ticked (s.startAt d) (fun σ => holdFollow (
        if σ.canStart d then
          let t := loadDom d σ
          let u := t.each (t.slotsOf d) (fun n v => v.updSlot n (fun x => { x with
            state := .pending
            pastOff := true
            falling := false
            planned := false
            onAt := σ.seq.tick + (x.cfg.map (·.onDelay)).getD 0
            upBy := σ.seq.tick + (x.cfg.map (·.onDelay)).getD 0 + (x.cfg.map (·.upTo)).getD 0 }))
          let v := u.updDom d (fun x => { x with
            state := if (t.slotsOf d).isEmpty then .up else .starting
            startTick := σ.seq.tick
            req := false
            restarts := if x.auto then sat255 x.restarts else x.restarts
            auto := false
            restartAt := none
            minOffAt := none
            after := .off })
          logSeq d 0x3F 9 v
        else σ)))) ∧
  (∀ (n : Fin 48) (s : State), exec (.slotSwitchOn n) s = .next (s.ticked (s.onTick n) (fun σ => holdFollow (
        match σ.slotDom n with
        | none => σ
        | some d =>
          let ready (i : Fin 48) : Bool := σ.seq.slots[i].state == .pending && decide (σ.seq.slots[i].onAt ≤ σ.seq.tick)
          if σ.seq.doms[d].state == .starting && ready n && !σ.failDue d && !σ.follows then
            let l := (σ.slotsOf d).filter ready
            judgeRun l (σ.each l (fun i t => forward (.lampStep i true) (slotOn i t)))
          else σ)))) ∧
  (∀ (n : Fin 48) (s : State), exec (.slotOffPoint n) s = .next (s.ticked (s.offTick n) (fun σ => holdFollow (
        let past (i : Fin 48) : Bool := σ.seq.slots[i].planned && decide (σ.seq.slots[i].offAt ≤ σ.seq.tick)
        match σ.slotDom n with
        | none => σ
        | some d =>
          if past n && !σ.follows then
            σ.each ((σ.slotsOf d).filter past) (fun i t => forward (.lampStep i false) (slotOff i t))
          else σ)))) ∧
  (∀ (n : Fin 48) (s : State), exec (.upToExpiry n) s = .next (s.ticked (s.upTick n) (fun σ => holdFollow (
        match σ.slotDom n with
        | none => σ
        | some d =>
          let x := σ.seq.slots[n]
          if x.state == .comingUp && !x.pastOff && x.upBy ≤ σ.seq.tick && x.onAt < σ.seq.tick && !σ.upCond n && !σ.follows then
            (match σ.seq.doms[d].state with
              | .starting => failStart d n σ
              | .reverse | .stopping => logSeq d n.val 4 ((σ.updSlot n (fun y => { y with state := .failed })).updDom d (fun y =>
                  { y with slot := n.val }))
              | .off | .wait | .up | .latched | .absent => σ)
          else σ)))) ∧
  (∀ (n : Fin 48) (s : State), exec (.downToExpiry n) s = .next (s.ticked (s.downTick n) (fun σ => holdFollow (
        match σ.slotDom n with
        | none => σ
        | some d =>
          let x := σ.seq.slots[n]
          if x.falling && x.downBy ≤ σ.seq.tick && x.offAt < σ.seq.tick && !σ.downCond n && !σ.follows then
            let t := match σ.slotRail n, x.cfg with
              | some r, some c =>
                if c.snuffOk && (match σ.rails[r].cfg with | some k => k.topo != 2 | none => false) then
                  forward (.snuff r) (railSnuff r σ) else σ
              | _, _ => σ
            let u := (t.updSlot n (fun y => { y with state := .downFail, falling := false })).updDom d (fun y =>
              { y with after := .latched, slot := n.val })
            stopEnd d (domCause d 3 (logSeq d n.val 6 u))
          else σ)))) ∧
  (∀ (n : Fin 48) (level : Bool) (s : State), exec (.pgInChange n level) s = .next (s.did (fun σ => holdFollow (
        judgeRun [n] (σ.updSlot n (fun x => { x with pgPin := level }))))))

/-- DOMAIN_INPUT_QUALIFIED waits for the qualify time of a domain input and qualifies it (R166); DOMAIN_INPUT_LOST loses
it and judges what the domain does (R166); MIN_OFF_EXPIRY, RESTART_EXPIRY and RETRY_WINDOW_EXPIRY wait for their timers,
and end the minimum off time (R179, with a fresh qualify time where the input qualifies afresh), end the restart delay
(R180), or let the oldest counted faults leave the window (R181). -/
def Obligations.DomainCommandsComplete : Prop :=
  (∀ (d : Fin 8) (s : State), exec (.domainInputQualified d) s = .next (s.waited (s.inputDue d) (fun σ => (
        let x := σ.seq.doms[d]
        match x.cfg, x.qualAt with
        | some c, some t =>
          let out := (match toMon c.input with | some m => σ.outside m (σ.riseOf m) | none => false) ||
            ((match σ.hold.cfg with | some h => h.busMon == c.input | none => false) && σ.hold.rideCmp && σ.rideOn)
          if x.hasInput && !x.inQ && !x.afresh && !out && t + ms c.qual ≤ σ.now then
            let y := { x with inQ := true, qualAt := none }
            σ.updDom d (fun _ => y)
          else σ
        | _, _ => σ)))) ∧
  (∀ (d : Fin 8) (s : State), exec (.domainInputLost d) s = .next (s.did (fun σ => holdFollow (
        let x := σ.seq.doms[d]
        if x.hasInput && x.inQ then
          let t := σ.updDom d (fun y => { y with inQ := false, qualAt := some σ.now, cause := y.cause ||| 32 })
          let after : AfterStop := if (match x.cfg with | some c => c.start == 1 | none => false) then .off else .wait
          stopBegin d after t
        else σ)))) ∧
  (∀ (d : Fin 8) (s : State), exec (.minOffExpiry d) s = .next (s.waited s.seq.doms[d].minOffAt (fun σ => (
        let x := σ.seq.doms[d]
        if due σ.now x.minOffAt then
          σ.updDom d (fun y => { y with minOffAt := none, afresh := false, qualAt := if y.afresh then some σ.now else y.qualAt })
        else σ)))) ∧
  (∀ (d : Fin 8) (s : State), exec (.restartExpiry d) s = .next (s.waited s.seq.doms[d].restartAt (fun σ => (
        σ.updDom d (fun x => if due σ.now x.restartAt then { x with restartAt := none } else x))))) ∧
  (∀ (d : Fin 8) (s : State), exec (.retryWindowExpiry d) s = .next (s.waited (s.retryDue d) (fun σ => (
        let l := σ.faultsIn d; σ.updDom d (fun x => { x with faults := l })))))

/-- WICK_SAMPLE and CONTINUOUS_COMPARATOR_CHANGE judge a voltage at a monitor that samples so (R188, R190);
CONTINUOUS_FILTER_EXPIRY waits out FILTER response times and decides the threshold (R188); CAPTURE_SATURATE waits for
the count of a capture timer to saturate, and its wrap crosses as a toggle (R194, R20); SELF_TEST_SAMPLE decides a
self-test in progress (R198); SWEEP_VISIT visits the next monitor of the sweep (R200). -/
def Obligations.MonitorCommandsComplete : Prop :=
  (∀ (m : Fin 96) (v : Nat) (s : State), exec (.wickSample m v) s = .next (s.did (fun σ => holdFollow (
        if σ.monRuns m && σ.monWick m && (σ.watch.mons[m].test).isNone then wickDecide m v σ else σ)))) ∧
  (∀ (m : Fin 96) (v : Nat) (s : State), exec (.continuousComparatorChange m v) s = .next (s.did (fun σ => holdFollow (
        if σ.monRuns m && !σ.monWick m && (σ.watch.mons[m].test).isNone then contDecide m v σ else σ)))) ∧
  (∀ (m : Fin 96) (high : Bool) (s : State),
    exec (.continuousFilterExpiry m high) s = .next (s.waited (s.filterDue m high) (fun σ => holdFollow (
        let s := monLoadNow m σ
        let x := s.watch.mons[m]
        match x.cfg, (if high then x.highAt else x.lowAt) with
        | some c, some t =>
          if s.monRuns m && !s.monWick m && x.test.isNone && t + (c.filter - 1) * respNs c.mode ≤ s.now then
            (if (if high then (c.beyond x.v).2.2.1 else (c.beyond x.v).1) then tripEdge m (if high then 1 else 0) s
             else s.updMon m (fun y => if high then { y with highAt := none } else { y with lowAt := none }))
          else s
        | _, _ => s)))) ∧
  (∀ (t : Fin 16) (s : State), exec (.captureSaturate t) s = .next (s.waited (s.saturateDue t) (fun σ => (
        if σ.ctFull t then
          let u := toggle (.timerWrap t) σ
          if (σ.arch.toggle (.timerWrap t)).outstanding then u else ctSaturate t u
        else σ)))) ∧
  (∀ (m : Fin 96) (low high : Bool) (v : Nat) (s : State),
    exec (.selfTestSample m low high v) s = .next (s.did (fun σ => holdFollow (
        match σ.watch.mons[m].test with
        | none => σ
        | some t =>
          if t.step < t.samples then
            σ.updMon m (fun x => { x with test := some { t with step := t.step + 1, wrong := t.wrong || !t.right low high } })
          else
            let u := σ.updMon m (fun x => { x.unhold (σ.now - t.since) with
              test := if t.wrong && !t.again then some { t with step := 0, wrong := false, again := true, since := σ.now } else x.test })
            let w := if t.wrong && !t.again then u else testOutcome m t u
            monDecide m v w)))) ∧
  (∀ s : State, exec .sweepVisit s = .next (s.did (fun σ => (
        if σ.watch.interval = 0 || !σ.running then σ
        else
          match toMon (σ.sweepFrom σ.watch.next) with
          | none => σ
          | some m =>
            let last := σ.presentMons.all (fun k => k.val ≤ m.val)
            let t := σ.updWatch (fun w => { w with
              next := σ.sweepFrom (if last then 0 else m.val + 1), rounds := if last then (w.rounds + 1) % 256 else w.rounds })
            if σ.testRefused m then
              let n := σ.watch.mons[m].skipRun
              fireIf (n == 1) 191 m.val ((t.updWatch (fun w => { w with skips := sat255 w.skips })).updMon m (fun x => { x with skipRun := min 2 (n + 1) }))
            else testStart m true σ.watch.sweepTap true (t.updMon m (fun x => { x with skipRun := 0 }))))))

/-- HK_ROUND_START starts a round where none runs, its start crossing as a toggle (R203, R20); HK_CONVERSION_DONE of the
channel that converts takes its value, or marks it missing, and goes on or publishes the round (R203);
HK_CONVERSION_TIMEOUT drops the channel as a missing conversion (R204); HK_ROUND_LATE waits until the round is late and
sets SLOW with its source (R204). -/
def Obligations.HousekeepingCommandsComplete : Prop :=
  (∀ s : State, exec .hkRoundStart s = .next (s.waited s.roundNext (fun σ => (
        if σ.hkWorks && σ.hk.next.isNone then
          let u := toggle .conversionStart σ
          if σ.arch.convStart.outstanding then u else hkStart u
        else σ)))) ∧
  (∀ (ch : Fin 160) (val : BitVec 16) (q : HkReading) (s : State),
    exec (.hkConversionDone ch val q) s = .next (s.did (fun σ => (
        if σ.hkWorks && σ.hk.next == some ch.val then
          let s := if σ.arch.convStart.merged then σ else ackLine .conversionStart σ
          let t :=
            if q.sat then hkDrop ch.val s
            else if ch.val < 16 then
              if signedOf 16 val.toNat < -880 ∨ 2400 < signedOf 16 val.toNat then sensorBad ch.val s
              else s.updHk (fun h => { h with hsRound := h.hsRound ++ [(ch.val, val.toNat)] })
            else if ch.val < 48 then (if vbeOk q.vbe then sensorGood ch.val val.toNat s else sensorBad ch.val s)
            else hkPut ch.val (fun _ => ⟨val.toNat, true⟩) (if ch.val = 53 then s.updFeed 0 (fun x => { x with mv := some val.toNat })
              else if ch.val = 54 then s.updFeed 1 (fun x => { x with mv := some val.toNat }) else s)
          hkNext ch.val t
        else σ)))) ∧
  (∀ (ch : Fin 160) (s : State), exec (.hkConversionTimeout ch) s = .next (s.did (fun σ => (
        if σ.hkWorks && σ.hk.next == some ch.val then
          hkNext ch.val (hkDrop ch.val (if σ.arch.convStart.merged then σ else ackLine .conversionStart σ))
        else σ)))) ∧
  (∀ s : State, exec .hkRoundLate s = .next (s.waited s.roundDue (fun σ => (
        if σ.hkWorks && σ.hk.next.isSome && !σ.hk.late && σ.hk.started + ms (2 * σ.hk.period) ≤ σ.now then
          fire 126 0 (σ.updHk (fun h => { h with late := true, slow := true }))
        else σ))))

/-- RIDE_COMPARATOR_TRIP and RIDE_COMPARATOR_CLEAR set the comparator and begin or end a ride (R223, R225);
HANDBACK_EXPIRY and MAX_RIDE_EXPIRY wait for their timers and end the handback (R225) or the ride (R224);
BUS_BAR_QUALIFIED waits for the qualify time and BUS_BAR_ABSENT loses the bus bar (R219); SHARE_SAMPLE takes the sample
of the share input (R226), SHARE_LOOP_STEP moves the offset (R227). -/
def Obligations.HoldUpCommandsComplete : Prop :=
  (∀ s : State, exec .rideComparatorTrip s = .next (s.did (fun σ => (
        match σ.battRail with
        | none => σ
        | some r =>
          if σ.rideOn then
            let t := σ.updHold (fun h => { h with rideCmp := true })
            match σ.hold.state with
            | .handback => t.updHold (fun h => { h with state := .ride, handAt := none })
            | .charge | .idle =>
              if σ.battOn && σ.hold.busQ && σ.cartsConn > 0 then rideBegin r t else t
            | _ => t
          else σ)))) ∧
  (∀ s : State, exec .rideComparatorClear s = .next (s.did (fun σ => (
        let t := σ.updHold (fun h => { h with rideCmp := false })
        if σ.hold.state == .ride then t.updHold (fun h => { h with state := .handback, handAt := some σ.now }) else t)))) ∧
  (∀ s : State, exec .handbackExpiry s = .next (s.waited s.handbackDue (fun σ => (
        match σ.battRail, σ.hold.cfg, σ.hold.handAt with
        | some r, some h, some t =>
          if σ.hold.state == .handback && !σ.hold.rideCmp && t + ms h.handback ≤ σ.now then
            let u := chargeOrIdle r (rideEnd false (σ.updHold (fun x => { x with state := .idle })))
            u.when (u.hold.state == .charge) (forward (.direction false))
          else σ
        | _, _, _ => σ)))) ∧
  (∀ s : State, exec .maxRideExpiry s = .next (s.waited s.rideDue (fun σ => (
        match σ.battRail, σ.hold.cfg with
        | some r, some h => if σ.hold.riding && σ.hold.rideAt + sec h.maxRide ≤ σ.now then rideSpent r 0 σ else σ
        | _, _ => σ)))) ∧
  (∀ s : State, exec .busBarQualified s = .next (s.waited s.busDue (fun σ => (
        match σ.hold.cfg, σ.hold.qualAt with
        | some h, some t =>
          let out := match toMon h.busMon with | some m => σ.outside m h.busRise | none => false
          if !σ.hold.busQ && !out && !(σ.hold.rideCmp && σ.rideOn) && t + ms h.busQual ≤ σ.now then
            let u := σ.updHold (fun x => { x with busQ := true, qualAt := none })
            match u.battRail with
            | some r => if u.hold.state == .spent && u.battOn then chargeOrIdle r u else holdJudge u
            | none => u
          else σ
        | _, _ => σ)))) ∧
  (∀ s : State, exec .busBarAbsent s = .next (s.did (fun σ => (
        if σ.hold.cfg.isSome && σ.hold.busQ then
          judgeBusLost (holdJudge (σ.updHold (fun x => { x with busQ := false, qualAt := some σ.now })))
        else σ)))) ∧
  (∀ (uv : Int) (s : State), exec (.shareSample uv) s = .next (s.did (fun σ => (
        if σ.shareMode == 1 || σ.shareMode == 3 then
          let bad := decide (uv < -50000) || decide (2100000 < uv)
          fireIf (bad && !σ.hold.shareBad) 147 0 (σ.updHold (fun h => { h with vbus := uv, shareBad := bad }))
        else σ)))) ∧
  (∀ s : State, exec .shareLoopStep s = .next (s.did (fun σ => (
        if σ.shareMode = 0 then σ
        else
          let own := σ.ownFraction
          let a := fitCode false 10 own.round σ
          let t := a.2.updHold (fun h => { h with own := a.1 })
          let paused := σ.hold.riding || σ.bridges.any (fun r => σ.rails[r].state != .regulating) || σ.bridges.isEmpty
          match σ.shareTarget with
          | none => t
          | some (tg, src) =>
            let b := fitCode false 10 tg.round t
            let u := b.2.updHold (fun h => { h with tgt := b.1, shareSrc := src })
            if paused then u
            else
              let o := if (tg.add ⟨20, 1⟩).lt own then u.hold.ofs - 1 else if (own.add ⟨20, 1⟩).lt tg then u.hold.ofs + 1 else u.hold.ofs
              if u.ofsOk o then setOfs o u else u))))

/-- MB_TRANSACTION_DONE carries out the result of the transaction at the head of the bus (R232, R233); MB_FAILURE_RETRY
and MB_BUSY_RETRY wait for their retry times (R233); MB_LOW_TIMEOUT fails the transaction as a bus held low (R233);
CARTRIDGE_STATUS_POLL and AUTH_POLL queue their transactions (R235, R236); AUTH_TIMEOUT and REAUTH_TIMER wait for their
times and exclude or challenge the cartridge (R236); COUNTER_WRITE_PERIOD queues the counter writes of every cartridge
in use (R237). -/
def Obligations.CartridgeCommandsComplete : Prop :=
  (∀ (res : MbResult) (s : State), exec (.mbTransactionDone res) s = .next (s.did (fun σ => holdJudge (
        if σ.busServed then
          match σ.carts.onBus with
          | none => σ
          | some (i, o) =>
            let s := σ.updCarts (fun x => { x with sent := none })
            match res with
            | .ok d => (match s.mbRead o d with
              | some b => mbSuccess o b (dropOp i s)
              | none => mbFail true i o s)
            | .addrNack =>
              if o.busy < 10 then
                s.updCarts (fun x => { x with ops := x.ops.set i { o with busy := o.busy + 1, wait := some (s.now + ms 1) } })
              else mbFail false i o s
            | .nack => mbFail false i o s
            | .badCrc => mbFail true i o s
            | .sdaLow => mbRecover s
        else σ)))) ∧
  (∀ (c : Fin 16) (s : State), exec (.mbFailureRetry c) s = .next (s.waited (s.mbDue c false) (fun σ => (
        if σ.busServed then
          σ.updCarts (fun x => { x with ops := x.ops.map (fun o =>
            if o.cart == c && due σ.now o.wait && (decide (0 < o.busy) == false) then { o with wait := none } else o) })
        else σ)))) ∧
  (∀ (c : Fin 16) (s : State), exec (.mbBusyRetry c) s = .next (s.waited (s.mbDue c true) (fun σ => (
        if σ.busServed then
          σ.updCarts (fun x => { x with ops := x.ops.map (fun o =>
            if o.cart == c && due σ.now o.wait && (decide (0 < o.busy) == true) then { o with wait := none } else o) })
        else σ)))) ∧
  (∀ (sdaStuck : Bool) (s : State), exec (.mbLowTimeout sdaStuck) s = .next (s.did (fun σ => holdJudge (
        if σ.busServed then
          let t := match σ.carts.onBus with
            | none => σ
            | some (i, o) => mbFail false i o (σ.updCarts (fun x => { x with sent := none }))
          if sdaStuck then mbRecover t else t
        else σ)))) ∧
  (∀ (c : Fin 16) (s : State), exec (.cartridgeStatusPoll c) s = .next (s.did (fun σ => (
        if σ.cartOn c && σ.running && !σ.carts.ops.any (fun o => o.cart == c && o.kind == .status) then mbPut c .status σ else σ)))) ∧
  (∀ (c : Fin 16) (s : State), exec (.authPoll c) s = .next (s.did (fun σ => (
        if (σ.carts.carts[c]).authAt.isSome && !σ.carts.ops.any (fun o => o.cart == c && o.kind == .authPoll) then mbPut c .authPoll σ else σ)))) ∧
  (∀ (c : Fin 16) (s : State), exec (.authTimeout c) s = .next (s.waited (s.authDue c) (fun σ => holdJudge (
        match (σ.carts.carts[c]).authAt with
        | some t =>
          if t + ms 100 ≤ σ.now then
            exclude c 4 ((σ.updCart c (fun x => { x with authAt := none, authOk := false })).updCarts (fun x =>
              { x with ops := x.ops.filter (fun o => !(o.cart == c && o.kind == .authPoll)) }))
          else σ
        | none => σ)))) ∧
  (∀ (c : Fin 16) (s : State), exec (.reauthTimer c) s = .next (s.waited (s.reauthDue c) (fun σ => holdJudge (
        let x := σ.carts.carts[c]
        if x.usable && (match σ.carts.cfg with | some k => k.auth | none => false) && x.authDone + sec 86400 ≤ σ.now && x.authAt.isNone &&
            x.dueWhy.isNone then
          challenge c σ
        else σ)))) ∧
  (∀ s : State, exec .counterWritePeriod s = .next (s.did (fun σ => (
        σ.each (List.finRange 16) (fun c t => writeCounters c t)))))

/-- FAULTN_RELEASE_TIMER waits until 10 ms after the latest ERRPIN firing and, outside FAULTN_MODE 1, releases FAULT_N
(R251); BLOCK_RESET_COMPLETE takes a block in reset out of it, upon which a cartridge, the module bus and the chandler
begin afresh (Table 11.4). -/
def Obligations.ReactionCommandsComplete : Prop :=
  (∀ s : State, exec .faultnReleaseTimer s = .next (s.waited s.faultnDue (fun σ => (
        if σ.cfg.device.faultnMode != 1 && due σ.now (σ.ev.lastErr.map (· + ms 10)) then
          σ.updEv (fun e => { e with faultOn := false, lastErr := none })
        else σ)))) ∧
  (∀ (b : Block) (s : State), exec (.blockResetComplete b) s = .next (s.did (fun σ => (
        if σ.ev.inReset.contains b then
          let t := σ.updEv (fun e => { e with inReset := e.inReset.filter (· != b) })
          match b with
          | .cartridge c => examine c t
          | .moduleBus => examineAll t
          | .chandler => chandlerReread t
          | .memory => setAgain (memNext t)
          | .port _ | .housekeeping | .pairLink | .ovPort _ | .ledgerCore | .linkCore | .supervisorCore | .hostBus | .servicePort
          | .capture => t
        else σ))))

/-- PAIR_LINK_UP and PAIR_LINK_LOSS set the link up, and down at the end of its wait, with all that this brings (R259);
PL_SYNC_HEALTH_SEND and PL_STATE_SEND send the frames of Table 12.2; PL_CTRL_RETRY_TIMER waits and repeats an
unacknowledged CTRL frame, or gives the link up (R260); PL_ACK of a good frame ends the wait for it; PL_SYNC, PL_HEALTH,
PL_STATE and PL_REPORT of a good frame take what the twin reports (R215, R261, R263); STREAM_FRAME_TIMEOUT and PL_STREAM
count a lost frame or take a good one (R266). A frame comes in only with the link up; a good one does this, and one with
a bad CRC is counted (badPairFrame). -/
def Obligations.PairLinkCommandsComplete : Prop :=
  (∀ s : State,
    let σ := s.opened
    (σ.pairLinks && σ.running && !σ.pair.linkUp && !σ.pairOff →
        exec .pairLinkUp s = .next (s.closed (
          σ.updPair (fun p => { p with
            linkUp := true
            stateSent := none
            unacked := []
            badTimes := []
            lastGood := some σ.now
            diffs := 0
            lastSync := none
            twin := p.twin.map (fun h => { h with inStep := false }) })))) ∧
    (¬(σ.pairLinks && σ.running && !σ.pair.linkUp && !σ.pairOff) →
        exec .pairLinkUp s = .next (s.closed σ))) ∧
  (∀ s : State,
    let w := lossWait s
    let σ := egressAll w.opened
    exec .pairLinkLoss s = .next (w.closed (watchYield (linkLost σ)))) ∧
  (∀ (s : State), lossWait s =
      let d := draw s
      if d.1 % 2 = 0 then d.2 else d.2.waitTill (s.pair.lastGood.map (· + us 20))) ∧
  (∀ (s : State), linkLost s =
      if s.pair.linkUp then
        fireIf s.paired 152 0 (addTally 10 s.pair.unacked.length (s.updPair (fun p => { p with
          cause := if s.paired then p.cause ||| 1 else p.cause
          linkUp := false
          inStep := false
          stepAt := none
          holdAt := none
          unacked := []
          badTimes := []
          lastGood := none
          handOver := none
          takeSent := false
          takeRevert := false
          verdicts := [] })))
      else s) ∧
  (∀ s : State,
    let σ := s.opened
    let s' := judgeStep σ
    (s'.pairLinks && s'.pair.linkUp && s'.running →
        exec .plSyncHealthSend s = .next (s.closed (
          let t := if s'.pair.role == .active then pairOut (.sync s'.syncEntries) s' else s'
          pairOut (.health t.health) t))) ∧
    (¬(s'.pairLinks && s'.pair.linkUp && s'.running) →
        exec .plSyncHealthSend s = .next (s.closed s'))) ∧
  (∀ s : State,
    let σ := s.opened
    (σ.paired && σ.pair.linkUp && σ.running →
        exec .plStateSend s = .next (s.closed (sendState σ))) ∧
    (¬(σ.paired && σ.pair.linkUp && σ.running) →
        exec .plStateSend s = .next (s.closed σ))) ∧
  (∀ (seq : BitVec 8) (s : State),
    let w := s.waitTill (s.ctrlDue seq.toNat)
    let σ := egressAll w.opened
    (σ.pair.unacked.find? (fun (c : CtrlOut) => c.seq == seq.toNat) = none →
        exec (.plCtrlRetryTimer seq) s = .next (w.closed σ)) ∧
    (∀ c, σ.pair.unacked.find? (fun (c : CtrlOut) => c.seq == seq.toNat) = some c →
        (σ.now < c.at_ + us 2 →
            exec (.plCtrlRetryTimer seq) s = .next (w.closed σ)) ∧
        (¬(σ.now < c.at_ + us 2) →
            (c.tries < 3 →
                exec (.plCtrlRetryTimer seq) s = .next (w.closed (
                  send (.pair seq.toNat (.ctrl c.cmd)) (σ.updPair (fun p => { p with
                    unacked := p.unacked.map (fun x => if x == c then { x with tries := x.tries + 1, at_ := σ.now } else x)
                    retx := sat255 p.retx }))))) ∧
            (¬(c.tries < 3) →
                let t := linkFault 1 (σ.updPair (fun p => { p with
                  unacked := p.unacked.filter (· != c), takeSent := p.takeSent && c.cmd != .takeReq }))
                (c.cmd == .yield && t.pair.yielding && t.pair.release.isNone →
                    exec (.plCtrlRetryTimer seq) s = .next (w.closed (yieldBlock t))) ∧
                (¬(c.cmd == .yield && t.pair.yielding && t.pair.release.isNone) →
                    exec (.plCtrlRetryTimer seq) s = .next (w.closed t)))))) ∧
  (∀ (crcOk : Bool) (seq : BitVec 8) (s : State),
    let σ := s.opened
    (σ.pairLinks && σ.pair.linkUp →
        (crcOk →
            exec (.plAck crcOk seq) s = .next (s.closed (
              let τ := (toggle .pairFrame σ).updPair (fun p => { p with lastGood := some σ.now })
              τ.updPair (fun p => { p with unacked := p.unacked.filter (fun c => c.seq != seq.toNat) })))) ∧
        (¬(crcOk) →
            exec (.plAck crcOk seq) s = .next (s.closed (badPairFrame σ)))) ∧
    (¬(σ.pairLinks && σ.pair.linkUp) →
        exec (.plAck crcOk seq) s = .next (s.closed σ))) ∧
  (∀ (crcOk : Bool) (entries : List SyncEntry) (s : State),
    let σ := s.opened
    (σ.pairLinks && σ.pair.linkUp →
        (crcOk →
            let τ := (toggle .pairFrame σ).updPair (fun p => { p with lastGood := some σ.now })
            let s' := judgeStep τ
            (s'.pair.role == .standby →
                exec (.plSync crcOk entries) s = .next (s.closed (
                  judgeStep ((s'.each entries (fun e u => syncRail e u)).updPair (fun p => { p with lastSync := some s'.now }))))) ∧
            (¬(s'.pair.role == .standby) →
                exec (.plSync crcOk entries) s = .next (s.closed s'))) ∧
        (¬(crcOk) →
            exec (.plSync crcOk entries) s = .next (s.closed (badPairFrame σ)))) ∧
    (¬(σ.pairLinks && σ.pair.linkUp) →
        exec (.plSync crcOk entries) s = .next (s.closed σ))) ∧
  (∀ (crcOk : Bool) (h : Health) (s : State),
    let σ := s.opened
    (σ.pairLinks && σ.pair.linkUp →
        (crcOk →
            exec (.plHealth crcOk h) s = .next (s.closed (
              let τ := (toggle .pairFrame σ).updPair (fun p => { p with lastGood := some σ.now })
              let t := alignIn h (τ.updPair (fun p => { p with twin := some h, prefClash := h.pref == τ.glb.straps.pref }))
              judgeHold (seqHealth h (judgeDiffs (judgeStep (decideLink h t))))))) ∧
        (¬(crcOk) →
            exec (.plHealth crcOk h) s = .next (s.closed (badPairFrame σ)))) ∧
    (¬(σ.pairLinks && σ.pair.linkUp) →
        exec (.plHealth crcOk h) s = .next (s.closed σ))) ∧
  (∀ (crcOk : Bool) (t : TwinShared) (s : State),
    let σ := s.opened
    (σ.pairLinks && σ.pair.linkUp →
        (crcOk →
            exec (.plState crcOk t) s = .next (s.closed (
              let τ := (toggle .pairFrame σ).updPair (fun p => { p with lastGood := some σ.now })
              let a := τ.updPair (fun p => { p with twinSt := some t })
              judgeDiffs (judgeStep (if a.pair.role == .standby then adopt t a else a))))) ∧
        (¬(crcOk) →
            exec (.plState crcOk t) s = .next (s.closed (badPairFrame σ)))) ∧
    (¬(σ.pairLinks && σ.pair.linkUp) →
        exec (.plState crcOk t) s = .next (s.closed σ))) ∧
  (∀ (crcOk : Bool) (rep : TwinReport) (s : State),
    let σ := s.opened
    (σ.pairLinks && σ.pair.linkUp →
        (crcOk →
            exec (.plReport crcOk rep) s = .next (s.closed (
              let τ := (toggle .pairFrame σ).updPair (fun p => { p with lastGood := some σ.now })
              τ.updPair (fun p => { p with twinRep := some { rep with max := match rep.max with | some m => some m | none => p.twinRep.bind (·.max) } })))) ∧
        (¬(crcOk) →
            exec (.plReport crcOk rep) s = .next (s.closed (badPairFrame σ)))) ∧
    (¬(σ.pairLinks && σ.pair.linkUp) →
        exec (.plReport crcOk rep) s = .next (s.closed σ))) ∧
  (∀ (crcOk : Bool) (m : StreamMsg) (s : State),
    let σ := s.opened
    (σ.pairLinks && σ.pair.linkUp →
        (crcOk →
            let τ := (toggle .pairFrame σ).updPair (fun p => { p with lastGood := some σ.now })
            (τ.pair.role == .standby →
                let n := m.pseq.toNat
                let t := τ.updPair (fun p => { p with seenPseq := if (n + 65536 - p.seenPseq) % 65536 < 32768 then n else p.seenPseq })
                (m.attn →
                    (t.cfg.host.attnAddr != 0 && !t.hb.fenced && !t.blockHeld .hostBus →
                        exec (.plStream crcOk m) s = .next (s.closed (
                          attnPush ⟨n, true, t.pair.own, (m.bytes.getD 2 0).toNat, (m.bytes.getD 3 0).toNat, leNat ((m.bytes.drop 4).take 2),
                            leNat ((m.bytes.drop 6).take 8), 0⟩ t))) ∧
                    (¬(t.cfg.host.attnAddr != 0 && !t.hb.fenced && !t.blockHeld .hostBus) →
                        exec (.plStream crcOk m) s = .next (s.closed t))) ∧
                (¬(m.attn) →
                    (∀ ty f, frameOf m.bytes = .c0 ty f →
                        exec (.plStream crcOk m) s = .next (s.closed (c0Origin ty { f with twin := !t.glb.straps.pref } t))) ∧
                    (∀ c ty h pl, frameOf m.bytes = .cN c ty h pl →
                        exec (.plStream crcOk m) s = .next (s.closed (
                          ovOut (.cN c ty { h with twin := !t.glb.straps.pref } pl) t))))) ∧
            (¬(τ.pair.role == .standby) →
                exec (.plStream crcOk m) s = .next (s.closed τ))) ∧
        (¬(crcOk) →
            exec (.plStream crcOk m) s = .next (s.closed (badPairFrame σ)))) ∧
    (¬(σ.pairLinks && σ.pair.linkUp) →
        exec (.plStream crcOk m) s = .next (s.closed σ))) ∧
  (∀ s : State,
    let σ := s.opened
    (σ.paired && σ.pair.linkUp →
        exec .streamFrameTimeout s = .next (s.closed (σ.updPair (fun p => { p with crcTally := sat255 p.crcTally })))) ∧
    (¬(σ.paired && σ.pair.linkUp) →
        exec .streamFrameTimeout s = .next (s.closed σ)))

/-- Each CTRL frame acts through onCtrl, and those of the active on a standby that follows it through onFollow, which
count a bad CRC and acknowledge a good frame (R260, R264): PL_YIELD, PL_REFUSE and PL_TAKE_REQ of the handover (R270,
R271, R276); PL_FENCE, PL_UNFENCE, PL_SNUFF, PL_UNSNUFF, PL_SHED_ANNOUNCEMENT, PL_RELIGHT, PL_DIRECTION_CHANGE,
PL_LAMPLIGHTER_STEP, PL_DOMAIN_SHUTOFF and PL_TRIM carry out here what the active has done, each at its own sample, edge
or tick where it has one and at once elsewhere (fwdArrive); PL_SLOT_VERDICT gives the active the verdict of its twin
(R265). -/
def Obligations.TwinCommandsComplete : Prop :=
  (∀ (crcOk : Bool) (seq : BitVec 8) (s : State), exec (.plYield crcOk seq) s = .next (s.did (fun σ => onCtrl crcOk seq (fun τ =>
        let s := judgeStep τ
        if s.pair.role == .standby && s.pair.inStep && s.grounds == 0 then
          s.updPair (fun p => { p with handOver := some (p.handOver.getD {}) })
        else sendCtrl .refuse s) σ))) ∧
  (∀ (crcOk : Bool) (seq : BitVec 8) (s : State), exec (.plRefuse crcOk seq) s = .next (s.did (fun σ => onCtrl crcOk seq (fun τ =>
        if τ.pair.role == .active then (if τ.pair.yielding && τ.pair.release.isNone then yieldBlock τ else τ)
        else τ.updPair (fun p => { p with
          takeSent := false
          takeRevert := false
          holdAt := if p.takeRevert then some (τ.now + sec τ.cfg.pair.revertHold) else p.holdAt })) σ))) ∧
  (∀ (crcOk : Bool) (seq : BitVec 8) (s : State), exec (.plTakeReq crcOk seq) s = .next (s.did (fun σ => onCtrl crcOk seq (fun τ =>
        if τ.pair.role == .active && τ.grounds == 0 && τ.twinStep && τ.upd.proof.isNone && τ.upd.trial.isNone then
          (if τ.pair.yielding || τ.pair.release.isSome then τ else yieldBegin false τ)
        else sendCtrl .refuse τ) σ))) ∧
  (∀ (crcOk : Bool) (seq : BitVec 8) (n : Fin 64) (s : State),
    exec (.plFence crcOk seq n) s = .next (s.did (fun σ => onFollow crcOk seq (fwdArrive (.fence n)) σ))) ∧
  (∀ (crcOk : Bool) (seq : BitVec 8) (n : Fin 64) (s : State),
    exec (.plUnfence crcOk seq n) s = .next (s.did (fun σ => onFollow crcOk seq (fwdArrive (.unfence n)) σ))) ∧
  (∀ (crcOk : Bool) (seq : BitVec 8) (r : Fin 24) (s : State),
    exec (.plSnuff crcOk seq r) s = .next (s.did (fun σ => onFollow crcOk seq (fwdArrive (.snuff r)) σ))) ∧
  (∀ (crcOk : Bool) (seq : BitVec 8) (r : Fin 24) (s : State),
    exec (.plUnsnuff crcOk seq r) s = .next (s.did (fun σ => onFollow crcOk seq (fwdArrive (.unsnuff r)) σ))) ∧
  (∀ (crcOk : Bool) (seq : BitVec 8) (r : Fin 24) (s : State),
    exec (.plShedAnnouncement crcOk seq r) s = .next (s.did (fun σ => onFollow crcOk seq (fwdArrive (.shed r)) σ))) ∧
  (∀ (crcOk : Bool) (seq : BitVec 8) (m : RelightMsg) (s : State),
    exec (.plRelight crcOk seq m) s = .next (s.did (fun σ => onFollow crcOk seq (fwdArrive (.relight m.rail m.entry m.trig)) σ))) ∧
  (∀ (crcOk : Bool) (seq : BitVec 8) (discharge : Bool) (s : State),
    exec (.plDirectionChange crcOk seq discharge) s = .next (s.did (fun σ => onFollow crcOk seq (fwdArrive (.direction discharge)) σ))) ∧
  (∀ (crcOk : Bool) (seq : BitVec 8) (n : Fin 48) (on : Bool) (s : State),
    exec (.plLamplighterStep crcOk seq n on) s = .next (s.did (fun σ => onFollow crcOk seq (fwdArrive (.lampStep n on)) σ))) ∧
  (∀ (crcOk : Bool) (seq : BitVec 8) (v : Verdict) (s : State),
    exec (.plSlotVerdict crcOk seq v) s = .next (s.did (fun σ => onCtrl crcOk seq (fun τ =>
        if τ.pair.role == .active then
          match v with
          | .firing e int => sendFiring e int τ
          | .domain _ | .runFault _ | .ovSnuff _ =>
            if τ.shares v then τ else τ.updPair (fun p => { p with verdicts := p.verdicts ++ [(v, τ.now)] })
        else τ) σ))) ∧
  (∀ (crcOk : Bool) (seq mask : BitVec 8) (s : State),
    exec (.plDomainShutoff crcOk seq mask) s = .next (s.did (fun σ => onFollow crcOk seq (shutOff mask.toNat .fault) σ))) ∧
  (∀ (crcOk : Bool) (seq : BitVec 8) (addr v : BitVec 16) (s : State),
    exec (.plTrim crcOk seq addr v) s = .next (s.did (fun σ => onFollow crcOk seq (fun τ =>
        if 0x0600 ≤ addr.toNat && addr.toNat < 0x0900 && addr.toNat % 32 = 4 then
          (match toRail ((addr.toNat - 0x0600) / 32) with | some r => hostNoshed r (natBit v.toNat 3) τ | none => τ)
        else applyTrim addr.toNat v.toNat τ) σ))) ∧
  (∀ (c : PairCmd) (s : State), fwdArrive c s =
      if s.fwdWaits c then s.updPair (fun p => { p with fwd := p.fwd ++ [c] }) else fwdAct c s) ∧
  (∀ (s : State) (c : PairCmd), State.fwdWaits s c =
      match c with
      | .fence n | .unfence n => s.arch.islands.pwm == .running && s.phases[n].switching
      | .snuff r | .unsnuff r | .shed r | .relight r _ _ => s.arch.islands.errorAdc[r] == .running && s.rails[r].cfg.isSome
      | .direction _ => s.battRail.any (fun r => s.arch.islands.errorAdc[r] == .running)
      | .lampStep _ _ => s.running
      | .yield | .refuse | .takeReq | .verdict _ | .shutoff _ | .trim _ _ => false) ∧
  (∀ (c : PairCmd) (s : State), fwdAct c s =
      match c with
      | .fence n => fenceIn n s
      | .unfence n => unfencePhase n s
      | .snuff r => railSnuff r s
      | .unsnuff r => holdFollow (railUnsnuff r s)
      | .shed r => shedAnnounce r s
      | .relight r k trig => relightIn r k trig s
      | .direction b => directionIn b s
      | .lampStep n on => lampIn n on s
      | .yield | .refuse | .takeReq | .verdict _ | .shutoff _ | .trim _ _ => s)

/-- OWNERSHIP_DECISION waits 100 ms and an undecided unit takes its role (R268); HANDOVER_ORIGIN and PEER_OWN_N_CHANGE,
which takes the level of the pin in every mode, carry the handover on (R271); OWN_RELEASE, OWN_CONFLICT,
REVERT_HOLD_EXPIRY, VERDICT_TIMEOUT, FLAP_WINDOW_EXPIRY and GROUND_HOLD_EXPIRY wait for their times and release the
ownership (R271), judge a conflict (R275), take the revert due (R276), take a verdict as missing (R265), let reverts
leave the window (R276) and let grounds end (R269). -/
def Obligations.OwnershipCommandsComplete : Prop :=
  (∀ s : State, exec .ownershipDecision s = .next (s.waited s.decideDue (fun σ => (
        if σ.paired && σ.running then
          let t := if σ.pair.role != .undecided then σ
            else if σ.pair.peer then standFirst σ
            else if σ.actsPref && !σ.cannotOwn then (if σ.pair.readyAt + ms 100 ≤ σ.now then ownFirst σ else σ)
            else if σ.now < σ.pair.readyAt + ms 200 then σ
            else if !σ.cannotOwn && (!σ.pair.linkUp || (match σ.pair.twin with | some h => h.cannotOwn | none => false)) then ownFirst σ
            else standFirst σ
          if t.pair.twin.isNone && !t.pair.alone && t.pair.readyAt + ms 200 ≤ t.now then
            fire 152 0 (t.updPair (fun p => { p with alone := true, cause := p.cause ||| 1 }))
          else t
        else σ)))) ∧
  (∀ s : State, exec .handoverOrigin s = .next (s.did (fun σ => (
        match σ.pair.handOver with
        | none => σ
        | some h =>
          if σ.pair.role != .standby || σ.cannotOwn then σ
          else if σ.handPends && h.deferrals < 4 then σ.updPair (fun p => { p with handOver := some { deferrals := h.deferrals + 1 } })
          else
            let revert := σ.pair.takeSent && σ.pair.takeRevert
            let t := takeBus (ownTake 0 (σ.updPair (fun p => { p with
              hoForced := p.hoForced || σ.handPends
              takeRevert := false
              holdAt := none
              reverts := if revert then p.reverts ++ [σ.rtc] else p.reverts })))
            watchOwn (seqOwned true t))))) ∧
  (∀ (asserted : Bool) (s : State), exec (.peerOwnNChange asserted) s = .next (s.did (fun σ => (
        let t := σ.updPair (fun p => { p with peer := asserted })
        if !(σ.paired && σ.running) then t
        else
          let u :=
            if asserted then
              (match t.pair.role with
                | .undecided => standFirst t
                | .active => if t.pair.release.isNone then
                    t.updPair (fun p => { p with release := some (σ.now + σ.cfg.pair.selTime + 50) }) else t
                | .standby | .single => t)
            else if σ.pair.peer && t.pair.role == .standby && !t.cannotOwn then takeOver t
            else t
          watchOwn u)))) ∧
  (∀ s : State, exec .ownRelease s = .next (s.waited s.pair.release (fun σ => (
        if σ.paired && due σ.now σ.pair.release then
          let t := fire 150 0 (ownDrop (σ.updPair (fun p => { p with yielding := false, yieldGround := false, yields := sat255 p.yields })))
          watchOwn (seqOwned true (carryHeld t))
        else σ)))) ∧
  (∀ s : State, exec .ownConflict s = .next (s.waited s.conflictDue (fun σ => (
        if !σ.paired then σ
        else if due σ.now (σ.pair.bothAt.map (· + σ.refPeriod)) then
          let t := ownFaultOnce 7 σ
          if t.actsPref then t else watchOwn (seqOwned false (ownDrop t))
        else if due σ.now (σ.pair.noneAt.map (· + σ.refPeriod)) then
          let t := ownFaultOnce 8 σ
          if !t.cannotOwn && (if t.actsPref then t.grounds == 0 else t.otherUnfit) then watchOwn (seqOwned false (takeBus (ownTake 1 t))) else t
        else σ)))) ∧
  (∀ s : State, exec .revertHoldExpiry s = .next (s.waited s.pair.holdAt (fun σ => (
        let s := judgeHold (judgeStep σ)
        if due s.now s.pair.holdAt then
          let t := flapAge s
          if t.pair.reverts.length ≥ t.cfg.pair.flapLimit then
            fire 154 6 (t.updPair (fun p => { p with
              cause := p.cause ||| 64, holdAt := some (s.now + sec s.cfg.pair.revertHold) }))
          else sendCtrl .takeReq (t.updPair (fun p => { p with takeSent := true, takeRevert := true, holdAt := none }))
        else s)))) ∧
  (∀ s : State, exec .verdictTimeout s = .next (s.waited s.verdictDue (fun σ => (
        let old := if σ.paired then σ.pair.verdicts.filter (fun x => x.2 + us 20 ≤ σ.now) else []
        let bad := old.filter (fun x => !σ.shares x.1)
        let t := σ.updPair (fun p => { p with verdicts := p.verdicts.filter (fun x => !(x.2 + us 20 ≤ σ.now)) })
        t.each bad (fun _ u => fire 153 5 (u.updPair (fun p => { p with cause := p.cause ||| 32 }))))))) ∧
  (∀ s : State, exec .flapWindowExpiry s = .next (s.waited s.flapDue (fun σ => (
        σ.updPair (fun p => { p with reverts := p.reverts.filter (fun t => σ.rtc < t + 3600) }))))) ∧
  (∀ s : State, exec .groundHoldExpiry s = .next (s.waited s.groundDue (fun σ => (
        judgeHold (judgeStep (σ.updPair (fun p => { p with
          grounds := p.grounds.map (fun g => if !g.cond && due σ.now g.until_ then { g with until_ := none } else g) })))))))

/-- OV_LINK_ALIGNED and OV_LINK_DOWN bring a link up and down, OV_LINK_FRAME takes the LINK frame of the neighbour and
OV_LINK_FRAME_SEND sends one (R284); OV_FRAME_FORWARD forwards a frame (R291); OV_CREDIT_RETURN takes the credits and
sends what waited for them (R293); OV_SUMMARY_WINDOW_END waits for the window of a merge and sends the summary (R295);
OV_PARK parks a port whose neighbour sleeps (R314); OV_UNLISTED_TYPE drops a good frame of a type that Tables 13.4 and
13.5 do not list (R297). -/
def Obligations.OvrathLinkCommandsComplete : Prop :=
  (∀ (k : Fin 6) (s : State), exec (.ovLinkAligned k) s = .next (s.did (fun σ => (
        let p := σ.ov.ports[k]
        if σ.portEn k && (p.state == .training || p.state == .down || p.state == .parked || p.state == .notAdmitted) then
          send (.ovLink k (σ.linkInfo k)) (ovClock k .running (σ.updOvPort k (fun q => { q with state := .training })))
        else σ)))) ∧
  (∀ (k : Fin 6) (e : FrameEnd) (l : LinkInfo) (s : State),
    exec (.ovLinkFrame k e l) s = .next (s.did (fun σ => (
        if (σ.ov.ports[k]).state == .fenced || (σ.ov.ports[k]).state == .disabled then σ
        else match e with
          | .good => linkFrame k l σ
          | .badCrc | .codeError | .k307 => (rx k e σ).2)))) ∧
  (∀ (k : Fin 6) (s : State), exec (.ovLinkFrameSend k) s = .next (s.did (fun σ => (
        if σ.portUp k || σ.ov.ports[k].state == .spareIdle then send (.ovLink k (σ.linkInfo k)) σ else σ)))) ∧
  (∀ (k : Fin 6) (why : LinkLoss) (s : State), exec (.ovLinkDown k why) s = .next (s.waited (s.silentDue k why) (fun σ => (
        let p := σ.ov.ports[k]
        if (p.state == .up || p.state == .spareIdle) && (why == .alignment || p.lastLink + us 300 ≤ σ.now) then
          portDown k (σ.when (why == .alignment) (ovClock k .stopped))
        else σ)))) ∧
  (∀ (k : Fin 6) (e : FrameEnd) (f : OvFrame) (s : State),
    exec (.ovFrameForward k e f) s = .next (s.did (fun σ => forwardFrame k e f σ))) ∧
  (∀ (k : Fin 6) (cls : Fin 4) (credits : Nat) (s : State),
    exec (.ovCreditReturn k cls credits) s = .next (s.did (fun σ => (
        if σ.portUp k && 1 ≤ cls.val && 1 ≤ credits && credits ≤ 63 then
          let t := (egAdvance k σ).updOvPort k (fun p => p.setCredits cls.val (p.creditsOf cls.val + credits))
          longTry k t
        else σ)))) ∧
  (∀ (k : Fin 6) (s : State), exec (.ovSummaryWindowEnd k) s = .next (s.waited (s.windowDue k) (fun σ => (
        let p := σ.ov.ports[k]
        if due σ.now p.win then
          let s1 := σ.updOvPort k (fun q => { q with win := none, winCount := 0, winLow := 255 })
          if p.winCount = 0 then s1
          else
            let s2 := s1.updOv (fun o => { o with
              opC0 := if o.opWin && decide (k = σ.upPort) then σ.now + p.wait σ.now + 320 else o.opC0
              opWin := o.opWin && decide (k ≠ σ.upPort) })
            c0Send k 3 { down := false, paired := false, hops := 0, src := BitVec.ofNat 18 (σ.ov.addr.getD 0), twin := false,
                         arg0 := byteOf (min 255 p.winCount), arg1 := byteOf p.winLow, arg2 := 0, corr := 0 } s2
        else σ)))) ∧
  (∀ (k : Fin 6) (s : State), exec (.ovPark k) s = .next (s.did (fun σ => (
        let p := σ.ov.ports[k]
        if p.state == .up || p.state == .spareIdle then
          fire (evOf k) 5 (σ.updOvPort k (fun q => { q with state := .parked, downAt := some (q.downAt.getD σ.now) }))
        else σ)))) ∧
  (∀ (k : Fin 6) (e : FrameEnd) (s : State), exec (.ovUnlistedType k e) s = .next (s.did (fun σ => (
        onGood k e (fun u => ovDrop k u) σ))))

/-- OV_TRIP, OV_YIELD and OV_SUMMARY are recorded once at the acting root and go up elsewhere, a bad one with K30.7
(R291, R297), and one at 15 hops is dropped; OV_BAR_ACK and OV_SNAP_ACK of a child acknowledge (R303, R304); OV_TMARK
takes the mark (R300), OV_BARRIER and OV_SNAP begin their operations (R303, R304), and a late OV_SNAP captures at once,
OV_RESET resets (R306), OV_FTRIP shuts domains off and OV_FSTART starts them (R298), OV_ROOTCHG changes the root (R312).
A frame on a port that is not UP, or not from the root where it must be, does none of it; a bad one does none either and
goes on down with K30.7, and a good one from the root goes on down. -/
def Obligations.OvrathClassZeroCommandsComplete : Prop :=
  (∀ (k : Fin 6) (e : FrameEnd) (f : Ov0) (s : State),
    let σ := s.opened
    let r := rx k e σ
    (!σ.portUp k →
        exec (.ovTrip k e f) s = .next (s.closed r.2)) ∧
    (σ.portUp k →
        (σ.ov.acting →
            exec (.ovTrip k e f) s = .next (s.closed (
              r.2.when r.1 (onceOnly f.paired f.src.toNat f.arg2.toNat f.corr.toNat id)))) ∧
        (¬(σ.ov.acting) →
            (f.hops ≥ 15 →
                exec (.ovTrip k e f) s = .next (s.closed (ovDrop k r.2))) ∧
            (¬(f.hops ≥ 15) →
                exec (.ovTrip k e f) s = .next (s.closed (
                  relayOut (!r.1) (.c0 1 { f with hops := f.hops + 1 }) none σ.upPort r.2)))))) ∧
  (∀ (k : Fin 6) (e : FrameEnd) (f : Ov0) (s : State),
    let σ := s.opened
    let r := rx k e σ
    (!σ.portUp k →
        exec (.ovYield k e f) s = .next (s.closed r.2)) ∧
    (σ.portUp k →
        (σ.ov.acting →
            exec (.ovYield k e f) s = .next (s.closed (
              r.2.when r.1 (onceOnly f.paired f.src.toNat f.arg2.toNat f.corr.toNat id)))) ∧
        (¬(σ.ov.acting) →
            (f.hops ≥ 15 →
                exec (.ovYield k e f) s = .next (s.closed (ovDrop k r.2))) ∧
            (¬(f.hops ≥ 15) →
                exec (.ovYield k e f) s = .next (s.closed (
                  relayOut (!r.1) (.c0 2 { f with hops := f.hops + 1 }) none σ.upPort r.2)))))) ∧
  (∀ (k : Fin 6) (e : FrameEnd) (f : Ov0) (s : State),
    let σ := s.opened
    let r := rx k e σ
    (!σ.portUp k →
        exec (.ovSummary k e f) s = .next (s.closed r.2)) ∧
    (σ.portUp k →
        (σ.ov.acting →
            exec (.ovSummary k e f) s = .next (s.closed (
              r.2.when r.1 (onceOnly f.paired f.src.toNat f.arg2.toNat f.corr.toNat id)))) ∧
        (¬(σ.ov.acting) →
            (f.hops ≥ 15 →
                exec (.ovSummary k e f) s = .next (s.closed (ovDrop k r.2))) ∧
            (¬(f.hops ≥ 15) →
                exec (.ovSummary k e f) s = .next (s.closed (
                  relayOut (!r.1) (.c0 3 { f with hops := f.hops + 1 }) none σ.upPort r.2)))))) ∧
  (∀ (k : Fin 6) (e : FrameEnd) (f : Ov0) (s : State),
    let σ := s.opened
    let r := rx k e σ
    (r.1 →
        let u := r.2
        (2 ≤ k.val →
            exec (.ovBarAck k e f) s = .next (s.closed (opAck k 1 f u))) ∧
        (¬(2 ≤ k.val) →
            exec (.ovBarAck k e f) s = .next (s.closed (ovDrop k u)))) ∧
    (¬(r.1) →
        exec (.ovBarAck k e f) s = .next (s.closed r.2))) ∧
  (∀ (k : Fin 6) (e : FrameEnd) (f : Ov0) (s : State),
    let σ := s.opened
    let r := rx k e σ
    (r.1 →
        let u := r.2
        (2 ≤ k.val →
            exec (.ovSnapAck k e f) s = .next (s.closed (opAck k 2 f u))) ∧
        (¬(2 ≤ k.val) →
            exec (.ovSnapAck k e f) s = .next (s.closed (ovDrop k u)))) ∧
    (¬(r.1) →
        exec (.ovSnapAck k e f) s = .next (s.closed r.2))) ∧
  (∀ (k : Fin 6) (e : FrameEnd) (f : Ov0) (s : State),
    let σ := s.opened
    let r := rx k e σ
    (!σ.portUp k →
        exec (.ovTmark k e f) s = .next (s.closed r.2)) ∧
    (σ.portUp k →
        (!σ.fromRoot k f.src.toNat →
            exec (.ovTmark k e f) s = .next (s.closed (r.2.when r.1 (ovDrop k)))) ∧
        (σ.fromRoot k f.src.toNat →
            (r.1 →
                exec (.ovTmark k e f) s = .next (s.closed (
                  let u := rootNamed f.src.toNat (c0On false 0x10 f r.2)
                  u.updOv (fun o => { o with
                    tmark := some (f.arg0.toNat + f.arg1.toNat * 256, σ.now, f.corr.toNat), tmarkCnt := o.gtime, tmarkAt := σ.now })))) ∧
            (¬(r.1) →
                exec (.ovTmark k e f) s = .next (s.closed (c0On true 0x10 f r.2)))))) ∧
  (∀ (k : Fin 6) (e : FrameEnd) (f : Ov0) (s : State),
    let σ := s.opened
    let r := rx k e σ
    (!σ.portUp k →
        exec (.ovBarrier k e f) s = .next (s.closed r.2)) ∧
    (σ.portUp k →
        (!σ.fromRoot k f.src.toNat →
            exec (.ovBarrier k e f) s = .next (s.closed (r.2.when r.1 (ovDrop k)))) ∧
        (σ.fromRoot k f.src.toNat →
            (r.1 →
                exec (.ovBarrier k e f) s = .next (s.closed (
                  let u := rootNamed f.src.toNat (c0On false 0x11 f r.2)
                  opTry (opBegin 1 f.arg0.toNat none u)))) ∧
            (¬(r.1) →
                exec (.ovBarrier k e f) s = .next (s.closed (c0On true 0x11 f r.2)))))) ∧
  (∀ (k : Fin 6) (e : FrameEnd) (f : Ov0) (s : State),
    let σ := s.opened
    let r := rx k e σ
    (!σ.portUp k →
        exec (.ovSnap k e f) s = .next (s.closed r.2)) ∧
    (σ.portUp k →
        (!σ.fromRoot k f.src.toNat →
            exec (.ovSnap k e f) s = .next (s.closed (r.2.when r.1 (ovDrop k)))) ∧
        (σ.fromRoot k f.src.toNat →
            (r.1 →
                let u := rootNamed f.src.toNat (c0On false 0x12 f r.2)
                let at_ := u.ov.gtime - (f.corr.toNat + (u.ov.ports[k]).delay) + us f.arg1.toNat
                let v := opBegin 2 f.arg0.toNat (some { capAt := at_, late := at_ < u.ov.gtime }) u
                (at_ < u.ov.gtime →
                    exec (.ovSnap k e f) s = .next (s.closed (snapCapture v))) ∧
                (¬(at_ < u.ov.gtime) →
                    exec (.ovSnap k e f) s = .next (s.closed (opTry v)))) ∧
            (¬(r.1) →
                exec (.ovSnap k e f) s = .next (s.closed (c0On true 0x12 f r.2)))))) ∧
  (∀ (k : Fin 6) (e : FrameEnd) (f : Ov0) (s : State),
    let σ := s.opened
    let r := rx k e σ
    (!σ.portUp k →
        exec (.ovReset k e f) s = .next (s.closed r.2)) ∧
    (σ.portUp k →
        (!σ.fromRoot k f.src.toNat →
            exec (.ovReset k e f) s = .next (s.closed (r.2.when r.1 (ovDrop k)))) ∧
        (σ.fromRoot k f.src.toNat →
            (r.1 →
                exec (.ovReset k e f) s = .next (s.closed (cascadeReset (rootNamed f.src.toNat (c0On false 0x13 f r.2))))) ∧
            (¬(r.1) →
                exec (.ovReset k e f) s = .next (s.closed (c0On true 0x13 f r.2)))))) ∧
  (∀ (k : Fin 6) (e : FrameEnd) (f : Ov0) (s : State),
    let σ := s.opened
    let r := rx k e σ
    (!σ.portUp k →
        exec (.ovFtrip k e f) s = .next (s.closed r.2)) ∧
    (σ.portUp k →
        (!σ.fromRoot k f.src.toNat →
            exec (.ovFtrip k e f) s = .next (s.closed (r.2.when r.1 (ovDrop k)))) ∧
        (σ.fromRoot k f.src.toNat →
            (r.1 →
                let u := rootNamed f.src.toNat (c0On false 0x14 f r.2)
                (u.passive →
                    exec (.ovFtrip k e f) s = .next (s.closed (
                      (u.each (maskDoms f.arg0.toNat) (fun d v => seqRefuse d v)).when (f.arg0 != 0) twinRefuse))) ∧
                (¬(u.passive) →
                    exec (.ovFtrip k e f) s = .next (s.closed (holdFollow (seqShutoff f.arg0.toNat u))))) ∧
            (¬(r.1) →
                exec (.ovFtrip k e f) s = .next (s.closed (c0On true 0x14 f r.2)))))) ∧
  (∀ (k : Fin 6) (e : FrameEnd) (f : Ov0) (s : State),
    let σ := s.opened
    let r := rx k e σ
    (!σ.portUp k →
        exec (.ovFstart k e f) s = .next (s.closed r.2)) ∧
    (σ.portUp k →
        (!σ.fromRoot k f.src.toNat →
            exec (.ovFstart k e f) s = .next (s.closed (r.2.when r.1 (ovDrop k)))) ∧
        (σ.fromRoot k f.src.toNat →
            (r.1 →
                exec (.ovFstart k e f) s = .next (s.closed (
                  let u := rootNamed f.src.toNat (c0On false 0x15 f r.2)
                  u.each (maskDoms f.arg0.toNat) (fun d v => domStrobe d (seqStart d) v)))) ∧
            (¬(r.1) →
                exec (.ovFstart k e f) s = .next (s.closed (c0On true 0x15 f r.2)))))) ∧
  (∀ (k : Fin 6) (e : FrameEnd) (f : Ov0) (s : State),
    let σ := s.opened
    let r := rx k e σ
    (!σ.portUp k →
        exec (.ovRootchg k e f) s = .next (s.closed r.2)) ∧
    (σ.portUp k →
        (σ.ov.acting && !(σ.cfg.ov.role = 2 && k = 0) →
            exec (.ovRootchg k e f) s = .next (s.closed (
              r.2.when r.1 (fun u =>
                if u.cfg.ov.role = 1 && 2 ≤ k.val then u.updOv (fun o => { o with
                  lostPorts := if o.lostPorts.contains k then o.lostPorts else o.lostPorts ++ [k] }) else ovDrop k u)))) ∧
        (¬(σ.ov.acting && !(σ.cfg.ov.role = 2 && k = 0)) →
            (k == σ.upPort || (σ.ov.acting && k = 0) →
                (!r.1 →
                    exec (.ovRootchg k e f) s = .next (s.closed (c0On true 0x16 f r.2))) ∧
                (r.1 →
                    (σ.ov.acting →
                        exec (.ovRootchg k e f) s = .next (s.closed (deputyYields f.src.toNat (c0On false 0x16 f r.2)))) ∧
                    (¬(σ.ov.acting) →
                        exec (.ovRootchg k e f) s = .next (s.closed (rootNamed f.src.toNat (c0On false 0x16 f r.2)))))) ∧
            (¬(k == σ.upPort || (σ.ov.acting && k = 0)) →
                exec (.ovRootchg k e f) s = .next (s.closed (r.2.when r.1 (ovDrop k)))))))

/-- OV_ENUM, OV_COUNT, OV_ASSIGN and OV_ROLE go no further than the link they came over (R285, R312); OV_GRAFT,
OV_UNGRAFT (R311), OV_RD_REQ, OV_WR_REQ, OV_RESP (R307), OV_TIME (R300), OV_SHARE_SP, OV_CAP (R298), OV_ACTIVATE (R379),
OV_EVREC (R297), OV_SNAPREC (R305) and OV_IMG_DATA (R367) are routed by onFrame, and the message that ends here enters
its queue and is served (R293). -/
def Obligations.OvrathMessageCommandsComplete : Prop :=
  (∀ (k : Fin 6) (e : FrameEnd) (h : OvHdr) (s : State), exec (.ovEnum k e h) s = .next (s.did (fun σ => (
        let r := rx k e σ
        if r.1 then (fun u => takeMsg k 1 h (.enum k h) (if k == u.upPort && !u.ov.acting then cNDown false 1 2 h [0] u else u)) r.2 else r.2)))) ∧
  (∀ (k : Fin 6) (e : FrameEnd) (h : OvHdr) (n : Nat) (s : State),
    exec (.ovCount k e h n) s = .next (s.did (fun σ => (
        onGood k e (takeMsg k 1 h (.count k h n)) σ)))) ∧
  (∀ (k : Fin 6) (e : FrameEnd) (h : OvHdr) (base len : Nat) (s : State),
    exec (.ovAssign k e h base len) s = .next (s.did (fun σ => (
        onGood k e (takeMsg k 1 h (.assign k h base len)) σ)))) ∧
  (∀ (k : Fin 6) (e : FrameEnd) (h : OvHdr) (acting : Bool) (s : State),
    exec (.ovRole k e h acting) s = .next (s.did (fun σ => (
        onGood k e (takeMsg k 1 h (.role k h acting)) σ)))) ∧
  (∀ (k : Fin 6) (e : FrameEnd) (h : OvHdr) (base len : Nat) (s : State),
    exec (.ovGraft k e h base len) s = .next (s.did (fun σ => (
        onGood k e (fun u => if 2 ≤ k.val then graftIn k h base len (creditPut k 1 1 u) else ovDrop k u) σ)))) ∧
  (∀ (k : Fin 6) (e : FrameEnd) (h : OvHdr) (base len : Nat) (s : State),
    exec (.ovUngraft k e h base len) s = .next (s.did (fun σ => (
        onGood k e (fun u => if 2 ≤ k.val then graftOut k h base len (creditPut k 1 1 u) else ovDrop k u) σ)))) ∧
  (∀ (k : Fin 6) (e : FrameEnd) (h : OvHdr) (addr : BitVec 16) (count : Nat) (s : State),
    exec (.ovRdReq k e h addr count) s = .next (s.did (fun σ => (
        onFrame false k e 1 8 h (leBytes 2 addr.toNat ++ leBytes 2 count) (takeMsg k 1 h (.rdReq k h addr.toNat count)) σ)))) ∧
  (∀ (k : Fin 6) (e : FrameEnd) (h : OvHdr) (addr : BitVec 16) (data : List (BitVec 8)) (s : State),
    exec (.ovWrReq k e h addr data) s = .next (s.did (fun σ => (
        onFrame false k e 1 9 h (leBytes 2 addr.toNat ++ data) (takeMsg k 1 h (.wrReq k h addr.toNat data)) σ)))) ∧
  (∀ (k : Fin 6) (e : FrameEnd) (h : OvHdr) (status : BitVec 8) (data : List (BitVec 8)) (s : State),
    exec (.ovResp k e h status data) s = .next (s.did (fun σ => (
        onFrame false k e 1 0x0A h ([byteOf status.toNat, 0] ++ data) (takeMsg k 1 h (.resp k h status.toNat data)) σ)))) ∧
  (∀ (k : Fin 6) (e : FrameEnd) (h : OvHdr) (mark markMs : BitVec 16) (time : BitVec 64) (s : State),
    exec (.ovTime k e h mark markMs time) s = .next (s.did (fun σ => (
        let t := if e == .good && k == σ.upPort && σ.portUp k && !σ.ov.acting then rootNamed h.src.toNat σ else σ
        onFrame true k e 1 0x20 h (leBytes 2 mark.toNat ++ leBytes 2 markMs.toNat ++ leBytes 8 time.toNat) (fun u =>
          onceOnly h.paired h.src.toNat h.pairId.toNat h.pseq.toNat (timeFrame mark.toNat markMs.toNat time.toNat) (creditPut k 1 1 u)) t)))) ∧
  (∀ (k : Fin 6) (e : FrameEnd) (h : OvHdr) (v : BitVec 16) (s : State),
    exec (.ovShareSp k e h v) s = .next (s.did (fun σ => (
        onFrame true k e 1 0x22 h (leBytes 2 v.toNat) (takeMsg k 1 h (.shareSp k h v.toNat)) σ)))) ∧
  (∀ (k : Fin 6) (e : FrameEnd) (h : OvHdr) (v : BitVec 16) (s : State),
    exec (.ovCap k e h v) s = .next (s.did (fun σ => (
        onFrame true k e 1 0x23 h (leBytes 2 v.toNat) (takeMsg k 1 h (.cap k h v.toNat)) σ)))) ∧
  (∀ (k : Fin 6) (e : FrameEnd) (h : OvHdr) (a : ActivateCmd) (s : State),
    exec (.ovActivate k e h a) s = .next (s.did (fun σ => (
        onFrame true k e 1 0x24 h
          (leBytes 4 a.actId.toNat ++ leBytes 4 a.imgId.toNat ++ leBytes 2 a.confirm.toNat ++ [0, 0] ++ leBytes 8 a.atTime.toNat ++ zeros 4)
          (takeMsg k 1 h (.activate k h a)) σ)))) ∧
  (∀ (k : Fin 6) (e : FrameEnd) (h : OvHdr) (rec : EvRec) (s : State),
    exec (.ovEvrec k e h rec) s = .next (s.did (fun σ => (
        onFrame false k e 2 1 h
          ([rec.source, rec.sub] ++ leBytes 2 rec.entry.toNat ++ leBytes 8 rec.time.toNat ++ leBytes 2 rec.cause.toNat) (takeMsg k 2 h (.evrec k h rec)) σ)))) ∧
  (∀ (k : Fin 6) (e : FrameEnd) (h : OvHdr) (payload : List (BitVec 8)) (s : State),
    exec (.ovSnaprec k e h payload) s = .next (s.did (fun σ => (
        onFrame false k e 2 2 h payload (takeMsg k 2 h (.snaprec k h payload)) σ)))) ∧
  (∀ (k : Fin 6) (e : FrameEnd) (h : OvHdr) (imgId offset : BitVec 32) (data : List (BitVec 8)) (s : State),
    exec (.ovImgData k e h imgId offset data) s = .next (s.did (fun σ => (
        onFrame false k e 3 1 h (leBytes 4 imgId.toNat ++ leBytes 4 offset.toNat ++ data) (takeMsg k 3 h (.imgData k h imgId.toNat offset.toNat data)) σ))))

/-- OV_MARK_TIMER waits for the MARK period and sends TMARK and the TIME frame that names it (R300); OV_COUNT_TIMEOUT,
OV_TIME_HOLD, OV_BARRIER_TIMEOUT, OV_SNAP_CAPTURE, OV_TXN_TIMEOUT, OV_AUTO_REROUTE and OV_DEPUTY_TAKEOVER wait for their
times and finish the enumeration (R285), set TIME_HOLD (R301), try the open operation (R303), capture the snapshot
(R304), end the transaction with status 6 (R307), reroute to the spare (R310), or make the deputy the acting root
(R312). -/
def Obligations.OvrathTimerCommandsComplete : Prop :=
  (∀ s : State, exec .ovMarkTimer s = .next (s.waited s.markDue (fun σ => (
        if due σ.now σ.markDue then
          let n := σ.ov.markNext % 65536
          let t := c0Root 0x10 (n % 256) (n / 256) 0
            (σ.updOv (fun o => { o with mark := n, markNext := (n + 1) % 65536, markLast := some σ.now }))
          t.each t.rootPorts (fun k u => cNSend k (.cN 1 0x20 (u.ownHdr 0 false true 0)
            (leBytes 2 n ++ leBytes 2 u.cfg.ov.mark ++ leBytes 8 (u.ov.gtime + (egAdvance k σ).egWait k))) u)
        else σ)))) ∧
  (∀ s : State, exec .ovCountTimeout s = .next (s.waited s.ov.enumAt (fun σ => (
        if due σ.now σ.ov.enumAt then enumFinish σ else σ)))) ∧
  (∀ s : State, exec .ovTimeHold s = .next (s.waited s.holdDue (fun σ => (
        if σ.ovOn && !σ.ov.acting && σ.running && σ.ov.goodAt + ms (3 * σ.markMs) ≤ σ.now then σ.updOv (fun o => { o with timeHold := true })
        else σ)))) ∧
  (∀ s : State, exec .ovBarrierTimeout s = .next (s.waited s.ov.opEnds (fun σ => (
        if due σ.now σ.ov.opEnds then opTry σ else σ)))) ∧
  (∀ s : State, exec .ovSnapCapture s = .next (s.waitedGlobal s.captureG (fun σ => (
        match σ.ov.snap with
        | some p =>
          if !p.taken && p.capAt ≤ σ.ov.gtime then
            let head := leBytes 4 (σ.ov.addr.getD 0) ++
              [byteOf σ.ov.opId, byteOf (bit01 (σ.paired && σ.pair.role == .active) + bit01 p.late * 2)] ++ leBytes 2 σ.degraded ++
              leBytes 8 p.capAt ++ σ.seq.doms.toList.map (fun d => byteOf d.state.code) ++ leBytes 2 (s16 σ.hk.pubTmax) ++
              [byteOf σ.hk.pubTsrc, byteOf σ.hk.k, byteOf σ.hold.state.code, 0, 0, 0]
            let present := (List.finRange 24).filter (fun r => (σ.rails[r]).cfg.isSome)
            opTry (σ.updOv (fun o => { o with snap := some { p with taken := true, rails := present, data := head ++ zeros 96 } }))
          else σ
        | none => σ)))) ∧
  (∀ (tag : BitVec 7) (s : State), exec (.ovTxnTimeout tag) s = .next (s.waited (s.txnDue tag.toNat) (fun σ => (
        if σ.ov.txns.any (fun x => x.tag == tag.toNat && decide (x.at_ + ms 50 ≤ σ.now)) then txnEnd tag.toNat 6 [] σ else σ)))) ∧
  (∀ s : State, exec .ovAutoReroute s = .next (s.waited s.rerouteDue (fun σ => (
        if σ.ovOn && σ.cfg.ov.spare = 1 && !σ.ov.upSpare && !σ.portUp 0 &&
            due σ.now (((σ.ov.ports[(0 : Fin 6)]).downAt).map (· + ms 1)) && (σ.ov.ports[(1 : Fin 6)]).state == .spareIdle then reroute σ
        else σ)))) ∧
  (∀ s : State, exec .ovDeputyTakeover s = .next (s.waited s.deputyDue (fun σ => (
        if σ.cfg.ov.role = 2 && !σ.ov.acting && !σ.portUp 0 && due σ.now (((σ.ov.ports[(0 : Fin 6)]).downAt).map (· + ms 10)) &&
            σ.ov.tmarkAt + ms (3 * σ.markMs) ≤ σ.now then
          c0Root 0x16 0 0 0 (σ.updOv (fun o => { o with acting := true, depth := 0, rootAddr := o.addr, timeHold := false, markLast := none }))
        else σ))))

/-- LEDGER_BLOCK_WRITE takes a block of samples into the ring (R326); RECORD_CLOSE waits for the END of the open record
and closes it (R325); ARCHIVE_FLUSH_START waits and begins the flush of the oldest closed record (R334);
ARCHIVE_FLUSH_DONE writes its header and marks it flushed; LAST_GASP_WRITE_DONE ends the write of the last-gasp store
(R332); ECC_ERROR counts a corrected error, or marks what an uncorrectable one hits (R330). -/
def Obligations.LedgerCommandsComplete : Prop :=
  (∀ (chan : Fin 64) (samples : List (BitVec 12)) (t0 : BitVec 64) (s : State),
    exec (.ledgerBlockWrite chan samples t0) s = .next (s.did (fun σ => (
        match σ.cfg.ledger.chans[chan.val]? with
        | none => σ
        | some ch =>
          if σ.running && σ.arch.islands.capture == .running && !σ.blockDown .capture && (samples.map (·.toNat)).length == 32 then
            let t := σ.updLg (fun l => { l with chans := l.chans.upd chan (fun c => { c with line := c.line ++ [(t0.toNat, (samples.map (·.toNat)))] }) })
            codeLine chan ch t.lpre 1025 t
          else σ)))) ∧
  (∀ s : State, exec .recordClose s = .next (s.waitedGlobal s.closeG (fun σ => (
        match σ.lg.openSlot with
        | some i => (match σ.lg.dir[i] with | some r => if r.endAt ≤ σ.ov.gtime then closeSlot i r.endAt false σ else σ | none => σ)
        | none => σ)))) ∧
  (∀ s : State, exec .archiveFlushStart s = .next (s.waited s.flushDue (fun σ => (
        let s := σ.when (!σ.lg.archKnown && σ.mode == .ready && σ.coreUp .ledger) archFind
        if s.archiveOn && s.lg.archKnown && s.lg.flush.isNone && !s.lg.flushHold && s.mode == .ready && s.coreUp .ledger &&
            !s.ch.writing .archive && (match s.lg.lastFlush with | some t => t + sec 1 ≤ s.now | none => true) then
          match s.lg.flushNext with
          | none => s
          | some i =>
            match s.lg.dir[i] with
            | none => s
            | some r =>
              let size := archSizeOf (s.lg.eventsOf r).length (s.lg.pagesIn r).length
              if !r.late.isEmpty then s
              else if size > (s.ch.region 5).2.2 then
                fire 170 1 (s.updLg (fun l => { l with archFail := true, dir := l.dir.set i (some { r with state := .flushFail }) }))
              else flushWrite i (s.updLg (fun l => { l with
                flush := some i, lastFlush := some s.now, flushLen := size, dir := l.dir.set i (some { r with state := .flushing }) }))
        else s)))) ∧
  (∀ s : State, exec .archiveFlushDone s = .next (s.did (fun σ => (
        match σ.lg.flush with
        | none => σ
        | some i =>
          match σ.lg.dir[i] with
          | none => σ
          | some r =>
            if σ.coreUp .ledger && !σ.ch.writing .archive then
              (archPast r σ.lg.flushLen σ).updLg (fun l => { l with
                flush := none, archCnt := (l.archCnt + 1) % 65536, dir := l.dir.set i (some { r with state := .flushed }) })
            else σ)))) ∧
  (∀ (complete : Bool) (s : State), exec (.lastGaspWriteDone complete) s = .next (s.did (fun σ => (
        match σ.lg.lgsWrite with
        | none => σ
        | some i =>
          if complete then
            σ.updLg (fun l => { l with lgsWrite := none, lgsOld := none, banks := l.banks.upd i (·.map (fun x => { x with complete := true, old := [] })) })
          else
            let p := draw σ
            let n := p.1 % lgsTotal
            let same (b : LgsBank) : Bool := n ≤ 8 && b.bytes.take n == b.old.take n
            p.2.updLg (fun l => { l with
              lgsWrite := none
              lgsOld := none
              banks := l.banks.upd i (fun b => match b with
                | some x => if same x then l.lgsOld else some { x with stop := some n }
                | none => none) }))))) ∧
  (∀ (site : EccSite) (double : Bool) (s : State), exec (.eccError site double) s = .next (s.did (fun σ => (
        if !double then σ.updLg (fun l => { l with eccCorr := sat255 l.eccCorr })
        else
          match site with
          | .page p =>
            let t := updPage p (fun q => { q with damaged := true }) σ
            let f (r : Record) : Record := if (r.pagesOf t.lg.pages).contains p then { r with flags := setBit r.flags 2 } else r
            fire 171 0 (flushDamaged (t.updLg (fun l => { l with uncorr := true, dir := l.dir.map (·.map f) })))
          | .index o => fire 171 1 (σ.updLg (fun l => { l with
              uncorr := true, badIndex := indexCell o :: l.badIndex.filter (· != indexCell o) }))))))

/-- Where the host bus serves the write (a target that is not there answers NACK, a busy register is counted),
PH_CTRL_FENCE and PH_CTRL_UNFENCE fence and return the phase, or set REFUSED: on the standby, at an absent phase, for
the last unfenced unit of its rail, and for a return while the rail is snuffed (R101, R102); PH_CTRL_TALLY_CLR clears
both tallies (R107); PH_TRIM_WRITE is a protected write of SLOPE and BLANK (R49), which TrimWritesNeedTheUnlock states.
-/
def Obligations.PhaseRegisterCommandsComplete : Prop :=
  (∀ (n : Fin 64) (s : State),
    (s.serves (0x0202 + 16 * n.val) = true → exec (.phCtrlFence n) s = .next (s.served (0x0202 + 16 * n.val) (fun σ => if σ.passive then phRefuse n (twinRefuse σ) else (
        match σ.railOf n with
        | none => phRefuse n σ
        | some r =>
          let me := if (match σ.phases[n].cfg with | some c => c.mode == 3 | none => false) then (σ.partner n).getD n else n
          if σ.paired && σ.pair.role == .standby then phRefuse n σ
          else if σ.phases[n].state == .fenced then σ
          else if ((σ.unfenced r).filter (· != me)).isEmpty then phRefuse n σ
          else forward (.fence n) (fencePhase n 5 true σ))))) ∧
    (s.serves (0x0202 + 16 * n.val) = false → exec (.phCtrlFence n) s = .next (s.turnedAway (0x0202 + 16 * n.val)))) ∧
  (∀ (n : Fin 64) (s : State),
    (s.serves (0x0202 + 16 * n.val) = true → exec (.phCtrlUnfence n) s = .next (s.served (0x0202 + 16 * n.val) (fun σ => if σ.passive then phRefuse n (twinRefuse σ) else (
        match σ.railOf n with
        | none => phRefuse n σ
        | some r =>
          if σ.paired && σ.pair.role == .standby then phRefuse n σ
          else if σ.rails[r].state == .snuff then phRefuse n σ
          else if σ.phases[n].state == .fenced then forward (.unfence n) (unfencePhase n σ)
          else σ)))) ∧
    (s.serves (0x0202 + 16 * n.val) = false → exec (.phCtrlUnfence n) s = .next (s.turnedAway (0x0202 + 16 * n.val)))) ∧
  (∀ (n : Fin 64) (s : State),
    (s.serves (0x0202 + 16 * n.val) = true → exec (.phCtrlTallyClr n) s = .next (s.served (0x0202 + 16 * n.val) (fun σ => σ.updPhase n (fun x => { x with episodes := 0, fences := 0 })))) ∧
    (s.serves (0x0202 + 16 * n.val) = false → exec (.phCtrlTallyClr n) s = .next (s.turnedAway (0x0202 + 16 * n.val)))) ∧
  (∀ (n : Fin 64) (v : BitVec 16) (s : State),
    (s.serves (0x020C + 16 * n.val) = true → exec (.phTrimWrite n v) s = .next (s.served (0x020C + 16 * n.val) (fun σ => trimWrite .host (0x020C + 16 * n.val) v.toNat σ))) ∧
    (s.serves (0x020C + 16 * n.val) = false → exec (.phTrimWrite n v) s = .next (s.turnedAway (0x020C + 16 * n.val))))

/-- Where the host bus serves the write (a target that is not there answers NACK, a busy register is counted),
RAIL_CTRL_UNSNUFF releases a snuffed rail whose domain is off and whose OV comparator is clear, or sets REFUSED (R129),
RAIL_CTRL_TALLY_CLR clears the four tallies (R135), and RAIL_CTRL_NOSHED changes NOSHED of a rail that is there, and
with it the active set (R125); the standby of a pair sets WR_REFUSED instead (R264). RAIL_VSET_WRITE and RAIL_ILIM_WRITE
are protected writes (R49). -/
def Obligations.RailRegisterCommandsComplete : Prop :=
  (∀ (r : Fin 24) (s : State),
    (s.serves (0x0604 + 32 * r.val) = true → exec (.railCtrlUnsnuff r) s = .next (s.served (0x0604 + 32 * r.val) (fun σ => asActive (fun t => holdFollow (
        let offDom := match t.domainOf r with | some d => t.seq.doms[d].state.isOff | none => true
        if t.rails[r].state == .snuff then
          if offDom && !t.rails[r].ovCmp then forward (.unsnuff r) (railUnsnuff r t) else railRefuse r t
        else t)) σ))) ∧
    (s.serves (0x0604 + 32 * r.val) = false → exec (.railCtrlUnsnuff r) s = .next (s.turnedAway (0x0604 + 32 * r.val)))) ∧
  (∀ (r : Fin 24) (s : State),
    (s.serves (0x0604 + 32 * r.val) = true → exec (.railCtrlTallyClr r) s = .next (s.served (0x0604 + 32 * r.val) (fun σ => σ.updRail r (fun x => { x with sheds := 0, relights := 0, ovs := 0, uvs := 0 })))) ∧
    (s.serves (0x0604 + 32 * r.val) = false → exec (.railCtrlTallyClr r) s = .next (s.turnedAway (0x0604 + 32 * r.val)))) ∧
  (∀ (r : Fin 24) (on : Bool) (s : State),
    (s.serves (0x0604 + 32 * r.val) = true → exec (.railCtrlNoshed r on) s = .next (s.served (0x0604 + 32 * r.val) (fun σ =>
      if σ.rails[r].cfg.isNone || σ.rails[r].noshed == on then σ
      else asActive (fun t => forward (.trim (0x0604 + 32 * r.val) (bit01 on * 8)) (hostNoshed r on t)) σ))) ∧
    (s.serves (0x0604 + 32 * r.val) = false → exec (.railCtrlNoshed r on) s = .next (s.turnedAway (0x0604 + 32 * r.val)))) ∧
  (∀ (r : Fin 24) (v : BitVec 16) (s : State),
    (s.serves (0x0606 + 32 * r.val) = true → exec (.railVsetWrite r v) s = .next (s.served (0x0606 + 32 * r.val) (fun σ => trimWrite .host (0x0606 + 32 * r.val) v.toNat σ))) ∧
    (s.serves (0x0606 + 32 * r.val) = false → exec (.railVsetWrite r v) s = .next (s.turnedAway (0x0606 + 32 * r.val)))) ∧
  (∀ (r : Fin 24) (v : BitVec 16) (s : State),
    (s.serves (0x060A + 32 * r.val) = true → exec (.railIlimWrite r v) s = .next (s.served (0x060A + 32 * r.val) (fun σ => trimWrite .host (0x060A + 32 * r.val) v.toNat σ))) ∧
    (s.serves (0x060A + 32 * r.val) = false → exec (.railIlimWrite r v) s = .next (s.turnedAway (0x060A + 32 * r.val))))

/-- Where the host bus serves the write (a target that is not there answers NACK, a busy register is counted),
LP_CTRL_TALLY_CLR clears the five tallies of a port (R158) and LP_CTRL_NOTICE_CLR its notices (R148); SEQ_DOM_START,
SEQ_DOM_STOP, SEQ_DOM_SHUTOFF, SEQ_DOM_UNLATCH and SEQ_DOM_RETRY_CLR do what Table 7.11 says of the state of the domain,
and the standby of a pair refuses them (R183, R264); SEQ_DOM_TALLY_CLR clears the two tallies (R186). -/
def Obligations.PortAndDomainRegisterCommandsComplete : Prop :=
  (∀ (p : Fin 8) (s : State),
    (s.serves (0x0904 + 32 * p.val) = true → exec (.lpCtrlTallyClr p) s = .next (s.served (0x0904 + 32 * p.val) (fun σ => σ.updPort p (fun x => { x with good := 0, crcErr := 0, framing := 0, refused := 0, retries := 0 })))) ∧
    (s.serves (0x0904 + 32 * p.val) = false → exec (.lpCtrlTallyClr p) s = .next (s.turnedAway (0x0904 + 32 * p.val)))) ∧
  (∀ (p : Fin 8) (s : State),
    (s.serves (0x0904 + 32 * p.val) = true → exec (.lpCtrlNoticeClr p) s = .next (s.served (0x0904 + 32 * p.val) (fun σ => asActive (fun τ =>
        τ.updPort p (fun x => { x with subs := x.subs.map (fun n => { n with settled := false, sfail := false, dim := false, fault := false }) })) σ))) ∧
    (s.serves (0x0904 + 32 * p.val) = false → exec (.lpCtrlNoticeClr p) s = .next (s.turnedAway (0x0904 + 32 * p.val)))) ∧
  (∀ (d : Fin 8) (s : State),
    (s.serves (0x0A04 + 16 * d.val) = true → exec (.seqDomStart d) s = .next (s.served (0x0A04 + 16 * d.val) (fun σ => holdFollow (domStrobe d (fun τ =>
        match τ.seq.doms[d].state with
        | .off => τ.updDom d (fun x => { x with state := .wait, req := true, auto := false, restartAt := none })
        | .wait => τ.updDom d (fun x => { x with restartAt := none })
        | .starting | .up => τ
        | .stopping | .reverse | .latched | .absent => seqRefuse d τ) σ)))) ∧
    (s.serves (0x0A04 + 16 * d.val) = false → exec (.seqDomStart d) s = .next (s.turnedAway (0x0A04 + 16 * d.val)))) ∧
  (∀ (d : Fin 8) (s : State),
    (s.serves (0x0A04 + 16 * d.val) = true → exec (.seqDomStop d) s = .next (s.served (0x0A04 + 16 * d.val) (fun σ => holdFollow (domStrobe d (fun τ =>
        match τ.seq.doms[d].state with
        | .wait => τ.updDom d (fun x => { x with state := .off, req := false, auto := false, restartAt := none })
        | .starting | .up => stopBegin d .off τ
        | .off | .stopping | .reverse | .latched => τ
        | .absent => seqRefuse d τ) σ)))) ∧
    (s.serves (0x0A04 + 16 * d.val) = false → exec (.seqDomStop d) s = .next (s.turnedAway (0x0A04 + 16 * d.val)))) ∧
  (∀ (d : Fin 8) (s : State),
    (s.serves (0x0A04 + 16 * d.val) = true → exec (.seqDomShutoff d) s = .next (s.served (0x0A04 + 16 * d.val) (fun σ => holdFollow (domStrobe d (fun τ =>
        if τ.seq.doms[d].state == .absent then seqRefuse d τ else seqShutoff (2 ^ d.val) τ) σ)))) ∧
    (s.serves (0x0A04 + 16 * d.val) = false → exec (.seqDomShutoff d) s = .next (s.turnedAway (0x0A04 + 16 * d.val)))) ∧
  (∀ (d : Fin 8) (s : State),
    (s.serves (0x0A04 + 16 * d.val) = true → exec (.seqDomUnlatch d) s = .next (s.served (0x0A04 + 16 * d.val) (fun σ => holdFollow (domStrobe d (fun τ =>
        if τ.seq.doms[d].state == .latched then
          let t := τ.updDom d (fun x => { x with state := .off, faults := [], req := false })
          t.each (t.slotsOf d) (fun n u => u.updSlot n (fun x => if x.state == .downFail then { x with state := .off } else x))
        else seqRefuse d τ) σ)))) ∧
    (s.serves (0x0A04 + 16 * d.val) = false → exec (.seqDomUnlatch d) s = .next (s.turnedAway (0x0A04 + 16 * d.val)))) ∧
  (∀ (d : Fin 8) (s : State),
    (s.serves (0x0A04 + 16 * d.val) = true → exec (.seqDomRetryClr d) s = .next (s.served (0x0A04 + 16 * d.val) (fun σ => holdFollow (domStrobe d (fun τ =>
        if τ.seq.doms[d].state == .absent then seqRefuse d τ else τ.updDom d (fun x => { x with faults := [] })) σ)))) ∧
    (s.serves (0x0A04 + 16 * d.val) = false → exec (.seqDomRetryClr d) s = .next (s.turnedAway (0x0A04 + 16 * d.val)))) ∧
  (∀ (d : Fin 8) (s : State),
    (s.serves (0x0A04 + 16 * d.val) = true → exec (.seqDomTallyClr d) s = .next (s.served (0x0A04 + 16 * d.val) (fun σ => holdFollow (σ.updDom d (fun x => { x with shutoffs := 0, noStarts := 0 }))))) ∧
    (s.serves (0x0A04 + 16 * d.val) = false → exec (.seqDomTallyClr d) s = .next (s.turnedAway (0x0A04 + 16 * d.val))))

/-- Where the host bus serves the write (a target that is not there answers NACK, a busy register is counted),
WM_CTRL_SELFTEST starts a self-test of the kind and tap that WM_CTRL holds, or sets REFUSED (R199), and with the
reserved TAP 3 starts none (the model's choice, log entry 107); WM_CTRL_TALLY_CLR clears the three tallies (R202);
WM_TICK_WRITE writes TICK with the kind and tap as they stand, WM_LOW_WRITE and WM_HIGH_WRITE the thresholds (R202), all
protected (R49); every write of WM_CTRL is one of its RWP and RW fields too. WM_SWEEP_CTRL_WRITE sets interval and tap
of the sweep and keeps them in the settings store (R200); with the reserved TAP 3 it changes nothing (the model's
choice, log entry 107). -/
def Obligations.MonitorRegisterCommandsComplete : Prop :=
  (∀ (m : Fin 96) (s : State),
    (s.serves (0x0C02 + 8 * m.val) = true → exec (.wmCtrlSelftest m) s = .next (s.served (0x0C02 + 8 * m.val) (fun σ => wmSelftest m (1 + (s.opened.reg (0x0C02 + 8 * m.val) &&& 0xFFCE)) (trimWrite .host (0x0C02 + 8 * m.val) (1 + (s.opened.reg (0x0C02 + 8 * m.val) &&& 0xFFCE)) (wmKeep m (1 + (s.opened.reg (0x0C02 + 8 * m.val) &&& 0xFFCE)) σ))))) ∧
    (s.serves (0x0C02 + 8 * m.val) = false → exec (.wmCtrlSelftest m) s = .next (s.turnedAway (0x0C02 + 8 * m.val)))) ∧
  (∀ (m : Fin 96) (s : State),
    (s.serves (0x0C02 + 8 * m.val) = true → exec (.wmCtrlTallyClr m) s = .next (s.served (0x0C02 + 8 * m.val) (fun σ => (trimWrite .host (0x0C02 + 8 * m.val) (16 + (s.opened.reg (0x0C02 + 8 * m.val) &&& 0xFFCE)) (wmKeep m (16 + (s.opened.reg (0x0C02 + 8 * m.val) &&& 0xFFCE)) σ)).when
        ((trimWrite .host (0x0C02 + 8 * m.val) (16 + (s.opened.reg (0x0C02 + 8 * m.val) &&& 0xFFCE)) (wmKeep m (16 + (s.opened.reg (0x0C02 + 8 * m.val) &&& 0xFFCE)) σ)).watch.mons[m]).cfg.isSome (fun υ =>
        (υ.updMon m (fun x => { x with trips := 0 })).updWatch (fun w => { w with stFails := 0, skips := 0 }))))) ∧
    (s.serves (0x0C02 + 8 * m.val) = false → exec (.wmCtrlTallyClr m) s = .next (s.turnedAway (0x0C02 + 8 * m.val)))) ∧
  (∀ (m : Fin 96) (v : BitVec 10) (s : State),
    (s.serves (0x0C02 + 8 * m.val) = true → exec (.wmTickWrite m v) s = .next (s.served (0x0C02 + 8 * m.val) (fun σ => trimWrite .host (0x0C02 + 8 * m.val) (v.toNat * 64 + (s.opened.reg (0x0C02 + 8 * m.val) &&& 14)) (wmKeep m (v.toNat * 64 + (s.opened.reg (0x0C02 + 8 * m.val) &&& 14)) σ)))) ∧
    (s.serves (0x0C02 + 8 * m.val) = false → exec (.wmTickWrite m v) s = .next (s.turnedAway (0x0C02 + 8 * m.val)))) ∧
  (∀ (m : Fin 96) (v : BitVec 16) (s : State),
    (s.serves (0x0C04 + 8 * m.val) = true → exec (.wmLowWrite m v) s = .next (s.served (0x0C04 + 8 * m.val) (fun σ => trimWrite .host (0x0C04 + 8 * m.val) v.toNat σ))) ∧
    (s.serves (0x0C04 + 8 * m.val) = false → exec (.wmLowWrite m v) s = .next (s.turnedAway (0x0C04 + 8 * m.val)))) ∧
  (∀ (m : Fin 96) (v : BitVec 16) (s : State),
    (s.serves (0x0C06 + 8 * m.val) = true → exec (.wmHighWrite m v) s = .next (s.served (0x0C06 + 8 * m.val) (fun σ => trimWrite .host (0x0C06 + 8 * m.val) v.toNat σ))) ∧
    (s.serves (0x0C06 + 8 * m.val) = false → exec (.wmHighWrite m v) s = .next (s.turnedAway (0x0C06 + 8 * m.val)))) ∧
  (∀ (v : BitVec 16) (s : State),
    (s.serves 0x0F30 = true → exec (.wmSweepCtrlWrite v) s = .next (s.served 0x0F30 (fun σ => if natBits v.toNat 8 2 = 3 then σ
      else saveSet (fun d => { d with interval := v.toNat % 256, tap := natBits v.toNat 8 2 })
        (sweepSet (v.toNat % 256) (natBits v.toNat 8 2) σ)))) ∧
    (s.serves 0x0F30 = false → exec (.wmSweepCtrlWrite v) s = .next (s.turnedAway 0x0F30))) ∧
  (∀ (m : Fin 96) (v : Nat) (s : State), wmKeep m v s =
      s.updMon m (fun x => { x with
        refused := x.refused || natBits v 2 2 = 3
        stKind := if x.cfg.isSome then natBits v 1 1 else x.stKind
        tap := if x.cfg.isSome && natBits v 2 2 != 3 then natBits v 2 2 else x.tap })) ∧
  (∀ (m : Fin 96) (v : Nat) (s : State), wmSelftest m v s =
      if natBits v 2 2 = 3 then s else hostSelftest m s)

/-- Where the host bus serves the write (a target that is not there answers NACK, a busy register is counted),
CT_CTRL_ARM arms a timer or, with the timer off, sets REFUSED (R194); CT_CTRL_MISSED_CLR clears MISSED (R202);
CT_PRESCALE_WRITE is a protected write of PRESCALE (R197), and so is the PRESCALE that the two strobes repeat;
HK_CTRL_TALLY_CLR clears the two tallies of housekeeping (R217); TH_LEVEL_WRITE is a protected write of a thermal level
(R217). -/
def Obligations.CaptureAndThermalRegisterCommandsComplete : Prop :=
  (∀ (t : Fin 16) (s : State),
    (s.serves (0x0F42 + 12 * t.val) = true → exec (.ctCtrlArm t) s = .next (s.served (0x0F42 + 12 * t.val) (fun σ => hostArm t (trimWrite .host (0x0F42 + 12 * t.val) (1 + (s.opened.reg (0x0F42 + 12 * t.val) &&& 0xF0)) σ)))) ∧
    (s.serves (0x0F42 + 12 * t.val) = false → exec (.ctCtrlArm t) s = .next (s.turnedAway (0x0F42 + 12 * t.val)))) ∧
  (∀ (t : Fin 16) (s : State),
    (s.serves (0x0F42 + 12 * t.val) = true → exec (.ctCtrlMissedClr t) s = .next (s.served (0x0F42 + 12 * t.val) (fun σ => (trimWrite .host (0x0F42 + 12 * t.val) (2 + (s.opened.reg (0x0F42 + 12 * t.val) &&& 0xF0)) σ).updCt t (fun x => { x with missed := 0 })))) ∧
    (s.serves (0x0F42 + 12 * t.val) = false → exec (.ctCtrlMissedClr t) s = .next (s.turnedAway (0x0F42 + 12 * t.val)))) ∧
  (∀ (t : Fin 16) (v : BitVec 4) (s : State),
    (s.serves (0x0F42 + 12 * t.val) = true → exec (.ctPrescaleWrite t v) s = .next (s.served (0x0F42 + 12 * t.val) (trimWrite .host (0x0F42 + 12 * t.val) (v.toNat * 16)))) ∧
    (s.serves (0x0F42 + 12 * t.val) = false → exec (.ctPrescaleWrite t v) s = .next (s.turnedAway (0x0F42 + 12 * t.val)))) ∧
  (∀ (s : State),
    (s.serves 0x0F02 = true → exec .hkCtrlTallyClr s = .next (s.served 0x0F02 (fun σ => σ.updHk (fun h => { h with dropped := 0, sensFault := 0 })))) ∧
    (s.serves 0x0F02 = false → exec .hkCtrlTallyClr s = .next (s.turnedAway 0x0F02))) ∧
  (∀ (lvl : ThLevel) (v : BitVec 16) (s : State),
    (s.serves (levelAddr lvl) = true → exec (.thLevelWrite lvl v) s = .next (s.served (levelAddr lvl) (fun σ => trimWrite .host (levelAddr lvl) v.toNat σ))) ∧
    (s.serves (levelAddr lvl) = false → exec (.thLevelWrite lvl v) s = .next (s.turnedAway (levelAddr lvl))))

/-- Where the host bus serves the write (a target that is not there answers NACK, a busy register is counted),
HU_CAP_WRITE sets the cap and recomputes what it limits, BC_CTRL_RESCAN selects the cartridge and examines it afresh
(R229, R235; on the active of a pair only), HU_CTRL_TALLY_CLR clears the four tallies (R242); EV_STAT_CLEAR clears the
pending bits written 1 and EV_IEN_WRITE sets the sixteen enables (R250); EV_CTRL_FAULTN_CLR, EV_CTRL_UNFENCE,
EV_CTRL_BLK_RELEASE, EV_CTRL_HOLD_CLR and EV_CTRL_CNT_CLR release FAULT_N (R251), a fenced unit (R245), the held blocks
(R247) and the held start (R248), and clear the count that EV_SEL names (R256); TALLY_CTRL_CLR_ALL clears the 24
tallies, or is refused in a proof window (R253). -/
def Obligations.HoldUpAndEventRegisterCommandsComplete : Prop :=
  (∀ (v : BitVec 16) (s : State),
    (s.serves 0x1006 = true → exec (.huCapWrite v) s = .next (s.served 0x1006 (fun σ => asActive (fun t => capRecompute (t.updHold (fun h => { h with cap := v.toNat }))) σ))) ∧
    (s.serves 0x1006 = false → exec (.huCapWrite v) s = .next (s.turnedAway 0x1006))) ∧
  (∀ (c : Fin 16) (s : State),
    (s.serves 0x1020 = true → exec (.bcCtrlRescan c) s = .next (s.served 0x1020 (fun σ => asActive (fun t => holdJudge (rescan c t)) (σ.updCarts (fun x => { x with index := c.val }))))) ∧
    (s.serves 0x1020 = false → exec (.bcCtrlRescan c) s = .next (s.turnedAway 0x1020))) ∧
  (∀ (s : State),
    (s.serves 0x1004 = true → exec .huCtrlTallyClr s = .next (s.served 0x1004 (fun σ => σ.updCarts (fun c => { c with nacks := 0, crc := 0, excl := 0, ctrWr := 0 })))) ∧
    (s.serves 0x1004 = false → exec .huCtrlTallyClr s = .next (s.turnedAway 0x1004))) ∧
  (∀ (i : Fin 12) (v : BitVec 16) (s : State),
    (s.serves (0x0100 + 2 * i.val) = true → exec (.evStatClear i v) s = .next (s.served (0x0100 + 2 * i.val) (fun σ => evSixteen i.val (fun j x => { x with pend := w1c x.pend v.toNat j }) σ))) ∧
    (s.serves (0x0100 + 2 * i.val) = false → exec (.evStatClear i v) s = .next (s.turnedAway (0x0100 + 2 * i.val)))) ∧
  (∀ (i : Fin 12) (v : BitVec 16) (s : State),
    (s.serves (0x0120 + 2 * i.val) = true → exec (.evIenWrite i v) s = .next (s.served (0x0120 + 2 * i.val) (fun σ => evSixteen i.val (fun j x => { x with ien := natBit v.toNat j }) σ))) ∧
    (s.serves (0x0120 + 2 * i.val) = false → exec (.evIenWrite i v) s = .next (s.turnedAway (0x0120 + 2 * i.val)))) ∧
  (∀ (s : State),
    (s.serves 0x0150 = true → exec .evCtrlFaultnClr s = .next (s.served 0x0150 (fun σ => (
        if σ.cfg.device.faultnMode = 1 then
          if σ.ev.fireQ.any (fun f => hasErr (σ.cfg.react.toList.getD f.source 0)) then evRefuse σ
          else σ.updEv (fun e => { e with latched := false, faultOn := false })
        else σ)))) ∧
    (s.serves 0x0150 = false → exec .evCtrlFaultnClr s = .next (s.turnedAway 0x0150))) ∧
  (∀ (s : State),
    (s.serves 0x0150 = true → exec .evCtrlUnfence s = .next (s.served 0x0150 (fun σ => evUnfence .host σ))) ∧
    (s.serves 0x0150 = false → exec .evCtrlUnfence s = .next (s.turnedAway 0x0150))) ∧
  (∀ (s : State),
    (s.serves 0x0150 = true → exec .evCtrlBlkRelease s = .next (s.served 0x0150 (fun σ => (
        let l := σ.ev.heldBlks
        let t := σ.updEv (fun e => { e with heldBlks := [], resets := e.resets.filter (fun r => !l.contains r.block) })
        t.each l (fun b u => match b with
          | .supervisorCore => u.updCore .supervisor (fun x => if x.state == .held then { x with state := .restarting } else x)
          | .ledgerCore => u.updCore .ledger (fun x => if x.state == .held then { x with state := .restarting } else x)
          | .linkCore => u.updCore .link (fun x => if x.state == .held then { x with state := .restarting } else x)
          | .ovPort k => portRetrain k (u.updOvPort k (fun p => if p.state == .fenced then { p with state := .training } else p))
          | .cartridge c => examine c (u.updCart c (fun x => { x with fenced := false }))
          | .memory => setAgain (memNext u)
          | .moduleBus => u.each (List.finRange 16) (fun c v => examine c v)
          | .port _ | .housekeeping | .pairLink | .hostBus | .servicePort | .chandler | .capture => u))))) ∧
    (s.serves 0x0150 = false → exec .evCtrlBlkRelease s = .next (s.turnedAway 0x0150))) ∧
  (∀ (s : State),
    (s.serves 0x0150 = true → exec .evCtrlHoldClr s = .next (s.served 0x0150 (fun σ => σ.updEv (fun e => { e with crHold := false })))) ∧
    (s.serves 0x0150 = false → exec .evCtrlHoldClr s = .next (s.turnedAway 0x0150))) ∧
  (∀ (s : State),
    (s.serves 0x0150 = true → exec .evCtrlCntClr s = .next (s.served 0x0150 (fun σ => match σ.evSel with
      | some n => σ.updSrc n (fun x => { x with count := 0 })
      | none => σ))) ∧
    (s.serves 0x0150 = false → exec .evCtrlCntClr s = .next (s.turnedAway 0x0150))) ∧
  (∀ (s : State),
    (s.serves 0x1780 = true → exec .tallyCtrlClrAll s = .next (s.served 0x1780 (fun σ => (
        if σ.upd.proof.isSome then σ.updEv (fun e => { e with tallyRef := true }) else σ.updEv (fun e => { e with tallies := Tab.all 24 0 }))))) ∧
    (s.serves 0x1780 = false → exec .tallyCtrlClrAll s = .next (s.turnedAway 0x1780)))

/-- Where the host bus serves the write (a target that is not there answers NACK, a busy register is counted),
PAIR_CTRL_YIELD begins a yield or is refused and PAIR_CTRL_TAKE asks the twin for the ownership or is refused (R276,
R277); PAIR_CTRL_FLAP_CLR forgets the reverts counted, PAIR_CTRL_NO_REVERT sets NO_REVERT, and PAIR_CTRL_TALLY_CLR
clears the four tallies (R281). No other field of PAIR_CTRL changes. -/
def Obligations.PairRegisterCommandsComplete : Prop :=
  (∀ (s : State),
    (s.serves 0x1104 = true → exec .pairCtrlYield s = .next (s.served 0x1104 (fun σ => (
        if σ.paired && σ.pair.role == .active && σ.twinStep then
          (if σ.pair.yielding || σ.pair.release.isSome then σ else yieldBegin false σ)
        else pairRefuse σ)))) ∧
    (s.serves 0x1104 = false → exec .pairCtrlYield s = .next (s.turnedAway 0x1104))) ∧
  (∀ (s : State),
    (s.serves 0x1104 = true → exec .pairCtrlTake s = .next (s.served 0x1104 (fun σ => (
        let t := judgeStep σ
        if t.paired && t.pair.role == .standby && t.pair.inStep then
          sendCtrl .takeReq (t.updPair (fun p => { p with takeSent := true, takeRevert := false }))
        else pairRefuse t)))) ∧
    (s.serves 0x1104 = false → exec .pairCtrlTake s = .next (s.turnedAway 0x1104))) ∧
  (∀ (s : State),
    (s.serves 0x1104 = true → exec .pairCtrlFlapClr s = .next (s.served 0x1104 (fun σ => σ.updPair (fun p => { p with reverts := [] })))) ∧
    (s.serves 0x1104 = false → exec .pairCtrlFlapClr s = .next (s.turnedAway 0x1104))) ∧
  (∀ (on : Bool) (s : State),
    (s.serves 0x1104 = true → exec (.pairCtrlNoRevert on) s = .next (s.served 0x1104 (fun σ => σ.updPair (fun p => { p with noRevert := on })))) ∧
    (s.serves 0x1104 = false → exec (.pairCtrlNoRevert on) s = .next (s.turnedAway 0x1104))) ∧
  (∀ (s : State),
    (s.serves 0x1104 = true → exec .pairCtrlTallyClr s = .next (s.served 0x1104 (fun σ => σ.updPair (fun p => { p with crcTally := 0, retx := 0, handovers := 0, takeovers := 0 })))) ∧
    (s.serves 0x1104 = false → exec .pairCtrlTallyClr s = .next (s.turnedAway 0x1104)))

/-- Where the host bus serves the write (a target that is not there answers NACK, a busy register is counted),
OV_CTRL_ENUM, OV_CTRL_BARRIER, OV_CTRL_SNAP, OV_CTRL_RESET, OV_CTRL_REROUTE, OV_CTRL_RETURN and OV_CTRL_RECLAIM begin
their operations or set REFUSED (R285, R303, R304, R306, R310, R311, R312); OV_TIME_SET_WRITE takes effect whole with
its eighth byte and sets the global time of the acting root or of a device off the cascade (R301, R344); OV_TXN_GO
starts the transaction of the mailbox, or sets its REFUSED while one is in progress (R307), and what it lets in is
served. -/
def Obligations.OvrathRegisterCommandsComplete : Prop :=
  (∀ (s : State),
    (s.serves 0x1202 = true → exec .ovCtrlEnum s = .next (s.served 0x1202 (fun σ => (
        if σ.ov.acting then enumAtRoot σ else ovRefuse σ)))) ∧
    (s.serves 0x1202 = false → exec .ovCtrlEnum s = .next (s.turnedAway 0x1202))) ∧
  (∀ (s : State),
    (s.serves 0x1202 = true → exec .ovCtrlBarrier s = .next (s.served 0x1202 (fun σ => (
        if σ.ov.acting && !σ.ov.opOpen then
          let id := (σ.ov.opId + 1) % 256
          opTry (opBegin 1 id none (c0Root 0x11 id 0 0 σ))
        else ovRefuse σ)))) ∧
    (s.serves 0x1202 = false → exec .ovCtrlBarrier s = .next (s.turnedAway 0x1202))) ∧
  (∀ (s : State),
    (s.serves 0x1202 = true → exec .ovCtrlSnap s = .next (s.served 0x1202 (fun σ => (
        if σ.ov.acting && !σ.ov.opOpen then
          let id := (σ.ov.opId + 1) % 256
          let d := snapLead σ
          opTry (opBegin 2 id (some { capAt := σ.ov.gtime + us d.1, late := false }) (c0Root 0x12 id d.1 0 d.2))
        else ovRefuse σ)))) ∧
    (s.serves 0x1202 = false → exec .ovCtrlSnap s = .next (s.turnedAway 0x1202))) ∧
  (∀ (s : State),
    (s.serves 0x1202 = true → exec .ovCtrlReset s = .next (s.served 0x1202 (fun σ => (
        if σ.ov.acting then cascadeReset (c0Root 0x13 0 0 0 σ) else ovRefuse σ)))) ∧
    (s.serves 0x1202 = false → exec .ovCtrlReset s = .next (s.turnedAway 0x1202))) ∧
  (∀ (s : State),
    (s.serves 0x1202 = true → exec .ovCtrlReroute s = .next (s.served 0x1202 (fun σ => (
        if σ.ovOn && !σ.ov.upSpare && (σ.ov.ports[(1 : Fin 6)]).state == .spareIdle then reroute σ else ovRefuse σ)))) ∧
    (s.serves 0x1202 = false → exec .ovCtrlReroute s = .next (s.turnedAway 0x1202))) ∧
  (∀ (s : State),
    (s.serves 0x1202 = true → exec .ovCtrlReturn s = .next (s.served 0x1202 (fun σ => (
        if σ.ov.upSpare && σ.portUp 0 then unreroute σ else ovRefuse σ)))) ∧
    (s.serves 0x1202 = false → exec .ovCtrlReturn s = .next (s.turnedAway 0x1202))) ∧
  (∀ (s : State),
    (s.serves 0x1202 = true → exec .ovCtrlReclaim s = .next (s.served 0x1202 (fun σ => (
        if σ.cfg.ov.role = 1 then
          let t := σ.updOv (fun o => { o with acting := true, lostPorts := [], split := false, depth := 0, rootAddr := o.addr })
          let u := t.each (t.upDowns.filter (fun k => (t.ov.ports[k]).peer.any (fun l => l.role == 2))) (fun k v =>
            cNSend k (.cN 1 0x21 (v.ownHdr 0 false false 0) [1]) v)
          c0Root 0x16 0 0 0 u
        else ovRefuse σ)))) ∧
    (s.serves 0x1202 = false → exec .ovCtrlReclaim s = .next (s.turnedAway 0x1202))) ∧
  (∀ (v : BitVec 64) (s : State),
    (s.serves 0x1220 = true → exec (.ovTimeSetWrite v) s = .next (s.did (fun σ => σ.written 0x1220 0x1227 (fun τ =>
      if τ.ov.acting || !τ.ovOn then τ.updOv (fun o => { o with gtime := v.toNat % 2 ^ 64, timeSet := v.toNat % 2 ^ 64, slew := 0 })
      else τ)))) ∧
    (s.serves 0x1220 = false → exec (.ovTimeSetWrite v) s = .next (s.turnedAway 0x1220))) ∧
  (∀ s : State,
    (s.serves 0x1256 = true → exec .ovTxnGo s = .next (s.did (fun σ => serveWaiting (
      σ.written 0x1256 0x1257 (fun τ => ovGo (τ.updOv (fun o => { o with txnCount := o.txnCount % 8 }))))))) ∧
    (s.serves 0x1256 = false → exec .ovTxnGo s = .next (s.did (fun σ => serveWaiting (σ.hostServes 0x1256 (fun υ => υ))))))

/-- Where the host bus serves the write (a target that is not there answers NACK, a busy register is counted),
LG_CTRL_TRIGGER opens a record, or sets REFUSED while one is open (the model's choice, log entry 100); LG_CTRL_RELEASE
frees the selected record, and an open one sets REFUSED (R338); LG_CTRL_FLUSH_HOLD sets the bit (R330),
LG_CTRL_TALLY_CLR clears both tallies; LG_WIN_SEL_WRITE and LG_WIN_OFS_WRITE, the second whole with its fourth byte,
choose what the window shows and empty its buffer (R337, R392). -/
def Obligations.LedgerRegisterCommandsComplete : Prop :=
  (∀ (s : State),
    (s.serves 0x1402 = true → exec .lgCtrlTrigger s = .next (s.served 0x1402 (fun σ => (
        match σ.lg.openSlot with
        | some _ => { σ with lg := { σ.lg with refused := true } }
        | none => openRecord 1 255 0 0 σ)))) ∧
    (s.serves 0x1402 = false → exec .lgCtrlTrigger s = .next (s.turnedAway 0x1402))) ∧
  (∀ (s : State),
    (s.serves 0x1402 = true → exec .lgCtrlRelease s = .next (s.served 0x1402 (fun σ => (
        match (Tab.get? σ.lg.dir σ.lg.recSel).join with
        | some r =>
          if r.state == .opened then { σ with lg := { σ.lg with refused := true } }
          else { σ with
            lg := { σ.lg with dir := Tab.put σ.lg.dir σ.lg.recSel none, flush := σ.lg.flush.filter (fun i => i.val != σ.lg.recSel) }
            ch := if σ.lg.flush.any (fun i => i.val == σ.lg.recSel) then σ.ch.cancel .archive else σ.ch }
        | none => σ)))) ∧
    (s.serves 0x1402 = false → exec .lgCtrlRelease s = .next (s.turnedAway 0x1402))) ∧
  (∀ (on : Bool) (s : State),
    (s.serves 0x1402 = true → exec (.lgCtrlFlushHold on) s = .next (s.served 0x1402 (fun σ => σ.updLg (fun l => { l with flushHold := on })))) ∧
    (s.serves 0x1402 = false → exec (.lgCtrlFlushHold on) s = .next (s.turnedAway 0x1402))) ∧
  (∀ (s : State),
    (s.serves 0x1402 = true → exec .lgCtrlTallyClr s = .next (s.served 0x1402 (fun σ => σ.updLg (fun l => { l with eccCorr := 0, unflushed := 0 })))) ∧
    (s.serves 0x1402 = false → exec .lgCtrlTallyClr s = .next (s.turnedAway 0x1402))) ∧
  (∀ (v : BitVec 16) (s : State),
    (s.serves 0x1406 = true → exec (.lgWinSelWrite v) s = .next (s.served 0x1406 (fun σ => winDrop false (σ.updLg (fun l => { l with winSel := v.toNat % 4 }))))) ∧
    (s.serves 0x1406 = false → exec (.lgWinSelWrite v) s = .next (s.turnedAway 0x1406))) ∧
  (∀ (v : BitVec 32) (s : State),
    (s.serves 0x1408 = true → exec (.lgWinOfsWrite v) s = .next (s.did (fun σ => σ.written 0x1408 0x140B (fun τ =>
      winDrop false (τ.updLg (fun l => { l with winOfs := (v.toNat % 2 ^ 32) / 16384 * 16384 })))))) ∧
    (s.serves 0x1408 = false → exec (.lgWinOfsWrite v) s = .next (s.turnedAway 0x1408)))

/-- Where the host bus serves the write (a target that is not there answers NACK, a busy register is counted),
UPD_CTRL_ACTIVATE activates the staged image named, at once or at UPD_AT, UPD_CTRL_CANCEL cancels what is scheduled, or
without that the proof, UPD_CTRL_REVERT reverts the kind in KIND_SEL, each as its rules allow or with REFUSED, and
UPD_CTRL_CONFIRM confirms the proof (R374, R375, R379, R381). KIND_SEL and CONFIRM_S are written back as they stand; a
CONFIRM_S outside 1 to 600 is not taken. -/
def Obligations.UpdateRegisterCommandsComplete : Prop :=
  (∀ (s : State),
    (s.serves 0x1604 = true → exec .updCtrlActivate s = .next (s.served 0x1604 (fun σ => updHostActivate (σ.updUpd (fun v => { v with confirmS := if 1 ≤ v.confirmS % 1024 && v.confirmS % 1024 ≤ 600 then v.confirmS % 1024 else v.confirmS }))))) ∧
    (s.serves 0x1604 = false → exec .updCtrlActivate s = .next (s.turnedAway 0x1604))) ∧
  (∀ (s : State),
    (s.serves 0x1604 = true → exec .updCtrlCancel s = .next (s.served 0x1604 (fun σ => cancelNow (σ.updUpd (fun v => { v with confirmS := if 1 ≤ v.confirmS % 1024 && v.confirmS % 1024 ≤ 600 then v.confirmS % 1024 else v.confirmS }))))) ∧
    (s.serves 0x1604 = false → exec .updCtrlCancel s = .next (s.turnedAway 0x1604))) ∧
  (∀ (s : State),
    (s.serves 0x1604 = true → exec .updCtrlRevert s = .next (s.served 0x1604 (fun σ => updHostRevert (σ.updUpd (fun v => { v with confirmS := if 1 ≤ v.confirmS % 1024 && v.confirmS % 1024 ≤ 600 then v.confirmS % 1024 else v.confirmS }))))) ∧
    (s.serves 0x1604 = false → exec .updCtrlRevert s = .next (s.turnedAway 0x1604))) ∧
  (∀ (s : State),
    (s.serves 0x1604 = true → exec .updCtrlConfirm s = .next (s.served 0x1604 (fun σ => (
        (σ.updUpd (fun v => { v with confirmS := if 1 ≤ v.confirmS % 1024 && v.confirmS % 1024 ≤ 600 then v.confirmS % 1024 else v.confirmS })).updUpd (fun u => { u with proof := u.proof.map (fun p => { p with confirmed := true }) }))))) ∧
    (s.serves 0x1604 = false → exec .updCtrlConfirm s = .next (s.turnedAway 0x1604)))

/-- Where the host bus serves the write (a target that is not there answers NACK, a busy register is counted),
HB_CTRL_TALLY_CLR clears the four tallies, HB_CTRL_FLUSH discards the attention records that wait, one being sent apart,
and HB_CTRL_RECOVER recovers the bus with the pulses given where the controller may act, or is refused with REFUSED
while an attempt is in progress (R351, R356, R359); SLEEP_REQUEST asks for sleep, and is refused in READY with
SLEEP_POLICY 0 (R76; the model's reading, log entry 98); PRB_SEL_WRITE selects the source and page of the readback
(R391) and empties its buffer; GLB_UNLOCK_WRITE takes a key on the host path as R387 and R388 say, and on the Ovrath
path, in operation, as the request of the device named. -/
def Obligations.HostRegisterCommandsComplete : Prop :=
  (∀ (s : State),
    (s.serves 0x1504 = true → exec .hbCtrlTallyClr s = .next (s.served 0x1504 (fun σ => σ.updHb (fun h => { h with abandoned := 0, lostTally := 0, busyTally := 0, timeouts := 0 })))) ∧
    (s.serves 0x1504 = false → exec .hbCtrlTallyClr s = .next (s.turnedAway 0x1504))) ∧
  (∀ (s : State),
    (s.serves 0x1504 = true → exec .hbCtrlFlush s = .next (s.served 0x1504 (fun σ => (
        let keep := if σ.hb.sending.isSome then σ.hb.queue.take 1 else []
        attnLose (σ.hb.queue.length - keep.length)
          (σ.updHb (fun h => { h with queue := keep, backoff := none, sending := h.sending.map (fun _ => false) })))))) ∧
    (s.serves 0x1504 = false → exec .hbCtrlFlush s = .next (s.turnedAway 0x1504))) ∧
  (∀ (pulses : Nat) (s : State),
    (s.serves 0x1504 = true → exec (.hbCtrlRecover pulses) s = .next (s.did (fun σ =>
      let t := σ.written 0x1504 0x1505 (fun τ => τ)
      if t.hostAcks && t.mode != .start then
        (if t.hb.sending.isSome then t.updHb (fun h => { h with refused := true })
         else if t.attnOn then busRecover pulses t else t)
      else t))) ∧
    (s.serves 0x1504 = false → exec (.hbCtrlRecover pulses) s = .next (s.did (fun σ =>
      let t := σ.hostServes 0x1504 (fun υ => υ)
      if t.hostAcks && t.mode != .start then
        (if t.hb.sending.isSome then t.updHb (fun h => { h with refused := true })
         else if t.attnOn then busRecover pulses t else t)
      else t)))) ∧
  (∀ (s : State),
    (s.serves 0x0032 = true → exec .sleepRequest s = .next (s.served 0x0032 (fun σ => (
        if σ.mode == .ready && σ.cfg.device.sleepPolicy = 0 then σ.updSlp (fun x => { x with refused := true }) else requestSleep σ)))) ∧
    (s.serves 0x0032 = false → exec .sleepRequest s = .next (s.turnedAway 0x0032))) ∧
  (∀ (v : BitVec 16) (s : State),
    (s.serves 0x0040 = true → exec (.prbSelWrite v) s = .next (s.served 0x0040 (fun σ => winDrop true (σ.updGlb (fun g => { g with prbSel := natBits v.toNat 0 1, prbPage := natBits v.toNat 4 4 }))))) ∧
    (s.serves 0x0040 = false → exec (.prbSelWrite v) s = .next (s.turnedAway 0x0040))) ∧
  (∀ (v : BitVec 16) (s : State),
    (s.serves 0x0014 = true → exec (.glbUnlockWrite .host v) s = .next (s.served 0x0014 (unlockWrite .host v.toNat))) ∧
    (s.serves 0x0014 = false → exec (.glbUnlockWrite .host v) s = .next (s.turnedAway 0x0014))) ∧
  (∀ (who : BitVec 18) (v : BitVec 16) (s : State), exec (.glbUnlockWrite (.ovrath who) v) s = .next (s.did (fun σ =>
      if σ.running then (writeUnit (.ovrath who) 0x0014 2 v.toNat σ).2 else σ)))

/-- HB_SET_POINTER sets the pointer with two bytes, ends after its first byte alone with no effect, and with a count
reads on from the pointer, its own or the one held; REGISTER_WRITE is a write transaction with its bytes (R342 to R346);
HOST_BUS_STOP discards a part of a value and sets ODD (R344); HB_LOW_TIMEOUT abandons the transaction (R350),
HB_RECOVERY recovers the bus (R356); ATTN_ATTEMPT begins an attempt where the controller is free, and ends it, or both
at once: it delivers the record at the head of the queue or counts a failure (R352 to R355), ATTN_BACKOFF_EXPIRY ends
the back-off (R354); WINDOW_LINE_FETCH fills a line that was asked for (R392); UNLOCK_DISARM_TIMEOUT and
UNLOCK_IDLE_LOCK wait for their times and disarm (R388) or lock (R389) a path. -/
def Obligations.HostBusCommandsComplete : Prop :=
  (∀ (p : PtrBytes) (count : Nat) (s : State), exec (.hbSetPointer p count) s = .next (s.did (fun σ => (
        match p with
        | .held => if count = 0 then σ else hostRead σ.hb.ptr count σ
        | .high _ => if σ.hostAcks then hostStop σ else hostNack σ
        | .both ph pl =>
          let a := ph.toNat * 256 + pl.toNat
          if count = 0 || a % 2 = 1 then hostBurst a [] σ else hostRead a count σ)))) ∧
  (∀ (ph pl : BitVec 8) (s : State), exec (.hbSetPointer (.both ph pl) 0) s = .next (s.did (fun σ =>
      let a := ph.toNat * 256 + pl.toNat
      if !σ.hostAcks then hostNack σ else if a % 2 = 1 then badPtr (hostStop σ) else setPtr a (hostStop σ)))) ∧
  (∀ (ptr : BitVec 16) (data : List (BitVec 8)) (s : State),
    exec (.registerWrite ptr data) s = .next (s.did (fun σ => serveWaiting (
        if !σ.hostAcks then hostNack σ
        else
          let t := hostStop σ
          if ptr.toNat % 2 = 1 then badPtr t
          else
            let u := setPtr ptr.toNat t
            if data.isEmpty then u
            else if u.mode == .start then nackBusy u
            else
              let r := burst .host (ptr.toNat % 65536) [] data u
              let v := r.2.2.2.updHb (fun h => { h with
                ptr := r.2.2.1
                lone := r.2.1.zipIdx.map (fun x => ((r.2.2.1 + 65536 - r.2.1.length + x.2) % 65536, x.1)) })
              if r.1 = 1 then nackBusy v else v)))) ∧
  (∀ s : State, exec .hostBusStop s = .next (s.did (fun σ => (
        if σ.hb.lone.isEmpty then σ else σ.updHb (fun h => { h with lone := [], stat := h.stat ||| 4 }))))) ∧
  (∀ (line : BusLine) (s : State), exec (.hbLowTimeout line) s = .next (s.did (fun σ => (
        let bit := match line with | .scl => 4 | .sda => 5
        let t := attnEnd .timeout (hostStop σ)
        fire 172 bit (addTally 19 1 (t.updHb (fun h => { h with
          stat := h.stat ||| 2 ^ bit
          timeouts := sat255 h.timeouts
          sdaStuck := h.sdaStuck || (line == .sda && σ.attnOn) }))))))) ∧
  (∀ (res : AttnResult) (s : State), exec (.attnAttempt res) s = .next (s.did (fun σ => (
        if σ.hb.sending.isSome then (if res == .started then σ else attnEnd res σ)
        else match σ.hb.queue with
        | [] => σ
        | a :: _ =>
          if !σ.attnFree then σ
          else if res == .started then σ.updHb (fun h => { h with sending := some true })
          else attnResult res a σ)))) ∧
  (∀ s : State, exec .attnBackoffExpiry s = .next (s.did (fun σ => (
        σ.updHb (fun h => { h with backoff := none }))))) ∧
  (∀ (pulses : Nat) (s : State), exec (.hbRecovery pulses) s = .next (s.did (fun σ => (
        if σ.hb.sdaStuck && σ.attnOn then busRecover pulses σ else σ)))) ∧
  (∀ (pat : Bool) (line : Nat) (s : State), exec (.windowLineFetch pat line) s = .next (s.did (fun σ => (
        let fill (l : List WinLine) : List WinLine :=
          l.map (fun x => if x.line == line && x.bytes.isNone then { x with bytes := some (σ.lineBytes pat line) } else x)
        if σ.readBusy (if pat then 0xC000 else 0x8000) then σ
        else
          let a := (if pat then 0xC000 else 0x8000) + 32 * line
          let u := σ.when ((if pat then σ.hb.winP else σ.hb.winL).any (fun x => x.line == line && x.bytes.isNone))
            (spaceFetch (σ.winSpace a).1 (σ.winSpace a).2)
          let t := if pat then u.updHb (fun h => { h with winP := fill h.winP }) else u.updHb (fun h => { h with winL := fill h.winL })
          { t with free := if !pat && σ.lg.winSel = 1 then σ.free + 131072 else σ.free })))) ∧
  (∀ (ov : Bool) (s : State), exec (.unlockDisarmTimeout ov) s = .next (s.waited (s.disarmAt ov) (fun σ => (
        let p : Path := if ov then .ovrath 0 else .host
        let l := σ.lockPath p
        if l.armed && l.armedAt + ms 1 ≤ σ.now then updLock p (fun x => { x with armed := false }) σ else σ)))) ∧
  (∀ (ov : Bool) (s : State), exec (.unlockIdleLock ov) s = .next (s.waited (s.relockAt ov) (fun σ => (
        let p : Path := if ov then .ovrath 0 else .host
        let l := σ.lockPath p
        if l.unlocked && l.usedAt + sec 10 ≤ σ.now then updLock p (fun x => { x with unlocked := false }) σ else σ))))

/-- PH_RES_READ, RAIL_RES_READ, CT_RES_READ, HK_RES_READ, TH_RES_READ, HU_RES_READ, EV_TIME_READ, TALLY_READ,
OV_TIME_READ, LG_REC_INFO_READ, LEDGER_WINDOW_READ and PATTERN_WINDOW_READ are combined reads from their addresses
(R342, R345 to R347): a target that is not there answers NACK, a busy register is counted, and else (readsNow) the
bytes, the pointer and what the snapshot marks are those of readOut; readAway is what a read that is not served leaves.
-/
def Obligations.ReadCommandsComplete : Prop :=
  (∀ (n : Fin 64) (count : Nat) (s : State),
    let σ := s.opened
    (σ.readsNow (0x0204 + 16 * n.val) count = true → exec (.phResRead n count) s = .next (s.closed (σ.readOut (0x0204 + 16 * n.val) count))) ∧
    (σ.readsNow (0x0204 + 16 * n.val) count = false → exec (.phResRead n count) s = .next (s.closed (σ.readAway (0x0204 + 16 * n.val) count)))) ∧
  (∀ (r : Fin 24) (count : Nat) (s : State),
    let σ := s.opened
    (σ.readsNow (0x0610 + 32 * r.val) count = true → exec (.railResRead r count) s = .next (s.closed (σ.readOut (0x0610 + 32 * r.val) count))) ∧
    (σ.readsNow (0x0610 + 32 * r.val) count = false → exec (.railResRead r count) s = .next (s.closed (σ.readAway (0x0610 + 32 * r.val) count)))) ∧
  (∀ (t : Fin 16) (count : Nat) (s : State),
    let σ := s.opened
    (σ.readsNow (0x0F44 + 12 * t.val) count = true → exec (.ctResRead t count) s = .next (s.closed (σ.readOut (0x0F44 + 12 * t.val) count))) ∧
    (σ.readsNow (0x0F44 + 12 * t.val) count = false → exec (.ctResRead t count) s = .next (s.closed (σ.readAway (0x0F44 + 12 * t.val) count)))) ∧
  (∀ (count : Nat) (s : State),
    let σ := s.opened
    (σ.readsNow 0x0F08 count = true → exec (.hkResRead count) s = .next (s.closed (σ.readOut 0x0F08 count))) ∧
    (σ.readsNow 0x0F08 count = false → exec (.hkResRead count) s = .next (s.closed (σ.readAway 0x0F08 count)))) ∧
  (∀ (count : Nat) (s : State),
    let σ := s.opened
    (σ.readsNow 0x0F10 count = true → exec (.thResRead count) s = .next (s.closed (σ.readOut 0x0F10 count))) ∧
    (σ.readsNow 0x0F10 count = false → exec (.thResRead count) s = .next (s.closed (σ.readAway 0x0F10 count)))) ∧
  (∀ (count : Nat) (s : State),
    let σ := s.opened
    (σ.readsNow 0x1014 count = true → exec (.huResRead count) s = .next (s.closed (σ.readOut 0x1014 count))) ∧
    (σ.readsNow 0x1014 count = false → exec (.huResRead count) s = .next (s.closed (σ.readAway 0x1014 count)))) ∧
  (∀ (count : Nat) (s : State),
    let σ := s.opened
    (σ.readsNow 0x0144 count = true → exec (.evTimeRead count) s = .next (s.closed (σ.readOut 0x0144 count))) ∧
    (σ.readsNow 0x0144 count = false → exec (.evTimeRead count) s = .next (s.closed (σ.readAway 0x0144 count)))) ∧
  (∀ (i : Fin 32) (count : Nat) (s : State),
    let σ := s.opened
    (σ.readsNow (0x1700 + 4 * i.val) count = true → exec (.tallyRead i count) s = .next (s.closed (σ.readOut (0x1700 + 4 * i.val) count))) ∧
    (σ.readsNow (0x1700 + 4 * i.val) count = false → exec (.tallyRead i count) s = .next (s.closed (σ.readAway (0x1700 + 4 * i.val) count)))) ∧
  (∀ (count : Nat) (s : State),
    let σ := s.opened
    (σ.readsNow 0x1218 count = true → exec (.ovTimeRead count) s = .next (s.closed (σ.readOut 0x1218 count))) ∧
    (σ.readsNow 0x1218 count = false → exec (.ovTimeRead count) s = .next (s.closed (σ.readAway 0x1218 count)))) ∧
  (∀ (count : Nat) (s : State),
    let σ := s.opened
    (σ.readsNow 0x1420 count = true → exec (.lgRecInfoRead count) s = .next (s.closed (σ.readOut 0x1420 count))) ∧
    (σ.readsNow 0x1420 count = false → exec (.lgRecInfoRead count) s = .next (s.closed (σ.readAway 0x1420 count)))) ∧
  (∀ (ofs : BitVec 14) (count : Nat) (s : State),
    let σ := s.opened
    (σ.readsNow (0x8000 + ofs.toNat) count = true → exec (.ledgerWindowRead ofs count) s = .next (s.closed (σ.readOut (0x8000 + ofs.toNat) count))) ∧
    (σ.readsNow (0x8000 + ofs.toNat) count = false → exec (.ledgerWindowRead ofs count) s = .next (s.closed (σ.readAway (0x8000 + ofs.toNat) count)))) ∧
  (∀ (ofs : BitVec 14) (count : Nat) (s : State),
    let σ := s.opened
    (σ.readsNow (0xC000 + ofs.toNat) count = true → exec (.patternWindowRead ofs count) s = .next (s.closed (σ.readOut (0xC000 + ofs.toNat) count))) ∧
    (σ.readsNow (0xC000 + ofs.toNat) count = false → exec (.patternWindowRead ofs count) s = .next (s.closed (σ.readAway (0xC000 + ofs.toNat) count))))

/-- Every request goes through spRequest, which Table 16.2 answers before it acts (a bad CRC, a repeat of the tag, a
wrong length, a port that is fenced or busy); of a request that is taken (spTakes) each effect and answer is stated in
full: SP_OPEN, SP_CLOSE, SP_INFO, SP_READ, SP_STAGE_BEGIN, SP_STAGE_DATA, SP_STAGE_ABORT, SP_ACTIVATE, SP_CANCEL,
SP_REVERT and SP_CONFIRM do what Table 16.3 says of them, and SP_UNKNOWN_COMMAND is answered as unknown (R365, R367,
R370, R374, R379). -/
def Obligations.ServicePortCommandsComplete : Prop :=
  (∀ (tag : BitVec 8) (q : SpEnd) (mode : BitVec 8) (s : State),
    exec (.spOpen tag q mode) s = .next (s.did (fun σ => spRequest 1 tag.toNat [mode] q (spOpenDo mode.toNat) σ)) ∧
    (let σ := s.opened
    σ.spTakes 1 tag.toNat [mode] q = true →
      let τ := σ.spTaken 1 tag.toNat
      (τ.mode == .testWait || τ.sp.mode.isSome →
          exec (.spOpen tag q mode) s = .next (s.closed (spAnswer 3 tag.toNat [] τ))) ∧
      (¬(τ.mode == .testWait || τ.sp.mode.isSome) →
          (2 < mode.toNat →
              exec (.spOpen tag q mode) s = .next (s.closed (spAnswer 4 tag.toNat [] τ))) ∧
          (¬(2 < mode.toNat) →
              let ok : Bool := match mode.toNat with
                | 0 => τ.cfg.sp.readout
                | 1 => τ.cfg.sp.update
                | _ => τ.mode == .test || τ.ch.blank
              (ok →
                  exec (.spOpen tag q mode) s = .next (s.closed (
                    spAnswer 0 tag.toNat [] (τ.updSp (fun p => { p with mode := some mode.toNat }))))) ∧
              (¬(ok) →
                  exec (.spOpen tag q mode) s = .next (s.closed (spAnswer 6 tag.toNat [] τ))))))) ∧
  (∀ (tag : BitVec 8) (q : SpEnd) (s : State),
    exec (.spClose tag q) s = .next (s.did (fun σ => spRequest 2 tag.toNat [] q spCloseDo σ)) ∧
    (let σ := s.opened
    σ.spTakes 2 tag.toNat [] q = true →
      let τ := σ.spTaken 2 tag.toNat
      (τ.sp.mode = none →
          exec (.spClose tag q) s = .next (s.closed (spAnswer 5 tag.toNat [] τ))) ∧
      (∀ m, τ.sp.mode = some m →
          ([0, 1, 2].contains m →
              exec (.spClose tag q) s = .next (s.closed (spAnswer 0 tag.toNat [] (closeSession τ)))) ∧
          (¬([0, 1, 2].contains m) →
              exec (.spClose tag q) s = .next (s.closed (spAnswer 3 tag.toNat [] τ)))))) ∧
  (∀ (tag : BitVec 8) (q : SpEnd) (s : State),
    exec (.spInfo tag q) s = .next (s.did (fun σ => spRequest 3 tag.toNat [] q spInfoDo σ)) ∧
    (let σ := s.opened
    σ.spTakes 3 tag.toNat [] q = true →
      let τ := σ.spTaken 3 tag.toNat
      (τ.sp.mode = none →
          exec (.spInfo tag q) s = .next (s.closed (spAnswer 5 tag.toNat [] τ))) ∧
      (∀ m, τ.sp.mode = some m →
          ([0, 1, 2].contains m →
              exec (.spInfo tag q) s = .next (s.closed (
                spAnswer 0 tag.toNat (leBytes 2 0x7720 ++ leBytes 2 τ.updFw ++ leBytes 2 τ.chdStat ++ leBytes 4 τ.ch.seq ++ leBytes 2 τ.updStat ++
                  leBytes 2 τ.updReason) τ))) ∧
          (¬([0, 1, 2].contains m) →
              exec (.spInfo tag q) s = .next (s.closed (spAnswer 3 tag.toNat [] τ)))))) ∧
  (∀ (tag : BitVec 8) (q : SpEnd) (space : BitVec 8) (ofs : BitVec 32) (count : BitVec 16) (s : State),
    exec (.spRead tag q space ofs count) s = .next (s.did (fun σ => spRequest 0x10 tag.toNat ([space] ++ leBytes 4 ofs.toNat ++ leBytes 2 count.toNat) q (spReadDo space.toNat ofs.toNat count.toNat) σ)) ∧
    (let σ := s.opened
    σ.spTakes 0x10 tag.toNat ([space] ++ leBytes 4 ofs.toNat ++ leBytes 2 count.toNat) q = true →
      let τ := σ.spTaken 0x10 tag.toNat
      (τ.sp.mode = none →
          exec (.spRead tag q space ofs count) s = .next (s.closed (spAnswer 5 tag.toNat [] τ))) ∧
      (∀ m, τ.sp.mode = some m →
          ([0, 1].contains m →
              (5 < space.toNat || count.toNat = 0 || 1024 < count.toNat || τ.spSpace space.toNat < ofs.toNat + count.toNat →
                  exec (.spRead tag q space ofs count) s = .next (s.closed (spAnswer 4 tag.toNat [] τ))) ∧
              (¬(5 < space.toNat || count.toNat = 0 || 1024 < count.toNat || τ.spSpace space.toNat < ofs.toNat + count.toNat) →
                  (τ.memDown space.toNat →
                      exec (.spRead tag q space ofs count) s = .next (s.closed (spAnswer 8 tag.toNat [] τ))) ∧
                  (¬(τ.memDown space.toNat) →
                      exec (.spRead tag q space ofs count) s = .next (s.closed (
                        let t := spaceFetch space.toNat ofs.toNat τ
                        spAnswer 0 tag.toNat ((List.range count.toNat).map (fun i => τ.spaceByte space.toNat (ofs.toNat + i))) (if space.toNat = 1 then { t with free := t.free + 131072 } else t)))))) ∧
          (¬([0, 1].contains m) →
              exec (.spRead tag q space ofs count) s = .next (s.closed (spAnswer 3 tag.toNat [] τ)))))) ∧
  (∀ (tag : BitVec 8) (q : SpEnd) (payload : List (BitVec 8)) (s : State),
    exec (.spStageBegin tag q payload) s = .next (s.did (fun σ => spRequest 0x20 tag.toNat payload q (spStageBeginDo payload) σ)) ∧
    (let σ := s.opened
    σ.spTakes 0x20 tag.toNat payload q = true →
      let τ := σ.spTaken 0x20 tag.toNat
      (τ.sp.mode = none →
          exec (.spStageBegin tag q payload) s = .next (s.closed (spAnswer 5 tag.toNat [] τ))) ∧
      (∀ m, τ.sp.mode = some m →
          ([1].contains m →
              (payload.length != 256 →
                  exec (.spStageBegin tag q payload) s = .next (s.closed (spAnswer 4 tag.toNat [] τ))) ∧
              (¬(payload.length != 256) →
                  (!τ.coreUp .supervisor →
                      exec (.spStageBegin tag q payload) s = .next (s.closed (
                        let r := spUpdate (fun t => (0, t)) τ
                        spAnswer r.1 tag.toNat r.2.1 r.2.2))) ∧
                  (τ.coreUp .supervisor →
                      exec (.spStageBegin tag q payload) s = .next (s.closed (
                        let r := stageBegin payload false τ
                        let r := spPending (if r.1 = 7 then spTry r else (r.1, [], r.2))
                        spAnswer r.1 tag.toNat r.2.1 r.2.2))))) ∧
          (¬([1].contains m) →
              exec (.spStageBegin tag q payload) s = .next (s.closed (spAnswer 3 tag.toNat [] τ)))))) ∧
  (∀ (tag : BitVec 8) (q : SpEnd) (ofs : BitVec 32) (data : List (BitVec 8)) (s : State),
    exec (.spStageData tag q ofs data) s = .next (s.did (fun σ => spRequest 0x21 tag.toNat (leBytes 4 ofs.toNat ++ data) q (spStageDataDo ofs.toNat data) σ)) ∧
    (let σ := s.opened
    σ.spTakes 0x21 tag.toNat (leBytes 4 ofs.toNat ++ data) q = true →
      let τ := σ.spTaken 0x21 tag.toNat
      (τ.sp.mode = none →
          exec (.spStageData tag q ofs data) s = .next (s.closed (spAnswer 5 tag.toNat [] τ))) ∧
      (∀ m, τ.sp.mode = some m →
          ([1].contains m →
              (1024 < data.length →
                  exec (.spStageData tag q ofs data) s = .next (s.closed (spAnswer 4 tag.toNat [] τ))) ∧
              (¬(1024 < data.length) →
                  (!τ.coreUp .supervisor →
                      exec (.spStageData tag q ofs data) s = .next (s.closed (
                        let r := spUpdate (fun t => (0, t)) τ
                        spAnswer r.1 tag.toNat r.2.1 r.2.2))) ∧
                  (τ.coreUp .supervisor →
                      exec (.spStageData tag q ofs data) s = .next (s.closed (
                        let r := stageData ofs.toNat data false τ
                        let r := spPending (r.1, [], r.2)
                        spAnswer r.1 tag.toNat r.2.1 r.2.2))))) ∧
          (¬([1].contains m) →
              exec (.spStageData tag q ofs data) s = .next (s.closed (spAnswer 3 tag.toNat [] τ)))))) ∧
  (∀ (tag : BitVec 8) (q : SpEnd) (s : State),
    exec (.spStageAbort tag q) s = .next (s.did (fun σ => spRequest 0x22 tag.toNat [] q spAbortDo σ)) ∧
    (let σ := s.opened
    σ.spTakes 0x22 tag.toNat [] q = true →
      let τ := σ.spTaken 0x22 tag.toNat
      (τ.sp.mode = none →
          exec (.spStageAbort tag q) s = .next (s.closed (spAnswer 5 tag.toNat [] τ))) ∧
      (∀ m, τ.sp.mode = some m →
          ([1].contains m →
              exec (.spStageAbort tag q) s = .next (s.closed (
                let r := spUpdate (fun s =>
                (0, if (match s.upd.staging with | some g => !g.ov | none => false) then stageAbandon s else s)) τ
                spAnswer r.1 tag.toNat r.2.1 r.2.2))) ∧
          (¬([1].contains m) →
              exec (.spStageAbort tag q) s = .next (s.closed (spAnswer 3 tag.toNat [] τ)))))) ∧
  (∀ (tag : BitVec 8) (q : SpEnd) (imgId : BitVec 32) (confirm : BitVec 16) (atTime : BitVec 64) (s : State),
    exec (.spActivate tag q imgId confirm atTime) s = .next (s.did (fun σ => spRequest 0x23 tag.toNat (leBytes 4 imgId.toNat ++ leBytes 2 confirm.toNat ++ leBytes 8 atTime.toNat) q (spActivateDo imgId.toNat confirm.toNat atTime.toNat) σ)) ∧
    (let σ := s.opened
    σ.spTakes 0x23 tag.toNat (leBytes 4 imgId.toNat ++ leBytes 2 confirm.toNat ++ leBytes 8 atTime.toNat) q = true →
      let τ := σ.spTaken 0x23 tag.toNat
      (τ.sp.mode = none →
          exec (.spActivate tag q imgId confirm atTime) s = .next (s.closed (spAnswer 5 tag.toNat [] τ))) ∧
      (∀ m, τ.sp.mode = some m →
          ([1].contains m →
              (confirm.toNat = 0 || 600 < confirm.toNat →
                  exec (.spActivate tag q imgId confirm atTime) s = .next (s.closed (spAnswer 4 tag.toNat [] τ))) ∧
              (¬(confirm.toNat = 0 || 600 < confirm.toNat) →
                  exec (.spActivate tag q imgId confirm atTime) s = .next (s.closed (
                    let r := spUpdate (fun t =>
                     if atTime.toNat = 0 then activateNow imgId.toNat confirm.toNat t
                     else if t.paired && t.pair.role != .active then (7, t.updUpd (fun u => { u with why := 5 }))
                     else scheduleAt ⟨0, imgId.toNat, confirm.toNat, atTime.toNat, false⟩ t) τ
                    spAnswer r.1 tag.toNat r.2.1 r.2.2)))) ∧
          (¬([1].contains m) →
              exec (.spActivate tag q imgId confirm atTime) s = .next (s.closed (spAnswer 3 tag.toNat [] τ)))))) ∧
  (∀ (tag : BitVec 8) (q : SpEnd) (s : State),
    exec (.spCancel tag q) s = .next (s.did (fun σ => spRequest 0x24 tag.toNat [] q spCancelDo σ)) ∧
    (let σ := s.opened
    σ.spTakes 0x24 tag.toNat [] q = true →
      let τ := σ.spTaken 0x24 tag.toNat
      (τ.sp.mode = none →
          exec (.spCancel tag q) s = .next (s.closed (spAnswer 5 tag.toNat [] τ))) ∧
      (∀ m, τ.sp.mode = some m →
          ([1].contains m →
              exec (.spCancel tag q) s = .next (s.closed (
                let r := spUpdate (fun s => (0, cancelNow s)) τ
                spAnswer r.1 tag.toNat r.2.1 r.2.2))) ∧
          (¬([1].contains m) →
              exec (.spCancel tag q) s = .next (s.closed (spAnswer 3 tag.toNat [] τ)))))) ∧
  (∀ (tag : BitVec 8) (q : SpEnd) (mode : BitVec 8) (s : State),
    exec (.spRevert tag q mode) s = .next (s.did (fun σ => spRequest 0x25 tag.toNat [mode] q (spRevertDo mode.toNat) σ)) ∧
    (let σ := s.opened
    σ.spTakes 0x25 tag.toNat [mode] q = true →
      let τ := σ.spTaken 0x25 tag.toNat
      (τ.sp.mode = none →
          exec (.spRevert tag q mode) s = .next (s.closed (spAnswer 5 tag.toNat [] τ))) ∧
      (∀ m, τ.sp.mode = some m →
          ([1].contains m →
              (mode.toNat = 1 →
                  exec (.spRevert tag q mode) s = .next (s.closed (
                    let r := spUpdate revertPat τ
                    spAnswer r.1 tag.toNat r.2.1 r.2.2))) ∧
              (¬(mode.toNat = 1) →
                  (mode.toNat = 2 →
                      exec (.spRevert tag q mode) s = .next (s.closed (
                        let r := spUpdate revertFw τ
                        spAnswer r.1 tag.toNat r.2.1 r.2.2))) ∧
                  (¬(mode.toNat = 2) →
                      exec (.spRevert tag q mode) s = .next (s.closed (spAnswer 4 tag.toNat [] τ))))) ∧
          (¬([1].contains m) →
              exec (.spRevert tag q mode) s = .next (s.closed (spAnswer 3 tag.toNat [] τ)))))) ∧
  (∀ (tag : BitVec 8) (q : SpEnd) (s : State),
    exec (.spConfirm tag q) s = .next (s.did (fun σ => spRequest 0x26 tag.toNat [] q spConfirmDo σ)) ∧
    (let σ := s.opened
    σ.spTakes 0x26 tag.toNat [] q = true →
      let τ := σ.spTaken 0x26 tag.toNat
      (τ.sp.mode = none →
          exec (.spConfirm tag q) s = .next (s.closed (spAnswer 5 tag.toNat [] τ))) ∧
      (∀ m, τ.sp.mode = some m →
          ([1].contains m →
              exec (.spConfirm tag q) s = .next (s.closed (
                let r := spUpdate (fun s => (0, confirmProof s)) τ
                spAnswer r.1 tag.toNat r.2.1 r.2.2))) ∧
          (¬([1].contains m) →
              exec (.spConfirm tag q) s = .next (s.closed (spAnswer 3 tag.toNat [] τ)))))) ∧
  (∀ (cmd tag : BitVec 8) (q : SpEnd) (s : State),
    exec (.spUnknownCommand cmd tag q) s = .next (s.did (fun σ => spRequest cmd.toNat tag.toNat [] q unknownDo σ)) ∧
    (let σ := s.opened
    σ.spTakes cmd.toNat tag.toNat [] q = true →
      let τ := σ.spTaken cmd.toNat tag.toNat
      exec (.spUnknownCommand cmd tag q) s = .next (s.closed (spAnswer 3 tag.toNat [] τ))))

/-- SP_MEM_ERASE, SP_MEM_WRITE and SP_MEM_READ act on the external memory in factory mode, SP_KEY_WRITE writes a key
slot (R365, R366); TEST_CHALLENGE and TEST_ENTER lead into the test mode (R255); each through spRequest; SP_FETCH takes
the response (R362); SP_SESSION_TIMEOUT and OV_STAGING_SILENCE wait for their times and close the session (R365) or
abandon the staging (R367). -/
def Obligations.ServiceMemoryCommandsComplete : Prop :=
  (∀ (tag : BitVec 8) (q : SpEnd) (dev : BitVec 8) (ofs : BitVec 32) (s : State),
    exec (.spMemErase tag q dev ofs) s = .next (s.did (fun σ => spRequest 0x40 tag.toNat ([dev] ++ leBytes 4 ofs.toNat) q (
        inSession [2] (fun τ =>
        if !memArgOk dev.toNat ofs.toNat 4096 || ofs.toNat % 4096 != 0 then (4, [], τ)
        else spPending (0, [], memBegin (if τ.ch.isNor dev.toNat then [{ dev := dev.toNat, use := .factory, ofs := ofs.toNat, erase := true }]
          else programOps .factory dev.toNat ofs.toNat (List.replicate 4096 0xFF)) τ))) σ))) ∧
  (∀ (tag : BitVec 8) (q : SpEnd) (dev : BitVec 8) (ofs : BitVec 32) (data : List (BitVec 8)) (s : State),
    exec (.spMemWrite tag q dev ofs data) s = .next (s.did (fun σ => spRequest 0x41 tag.toNat ([dev] ++ leBytes 4 ofs.toNat ++ data) q (
        inSession [2] (fun τ =>
        if !memArgOk dev.toNat ofs.toNat data.length || data.isEmpty || 256 < data.length || 256 < ofs.toNat % 256 + data.length then (4, [], τ)
        else spPending (0, [], memBegin (programOps .factory dev.toNat ofs.toNat data) τ))) σ))) ∧
  (∀ (tag : BitVec 8) (q : SpEnd) (dev : BitVec 8) (ofs : BitVec 32) (count : BitVec 16) (s : State),
    exec (.spMemRead tag q dev ofs count) s = .next (s.did (fun σ => spRequest 0x42 tag.toNat ([dev] ++ leBytes 4 ofs.toNat ++ leBytes 2 count.toNat) q (
        inSession [2] (fun τ =>
        if !memArgOk dev.toNat ofs.toNat count.toNat || count.toNat = 0 || 1024 < count.toNat then (4, [], τ)
        else if τ.blockDown .memory then (8, [], τ)
        else (0, τ.ch.memBytes dev.toNat ofs.toNat count.toNat, memFetch dev.toNat ofs.toNat τ))) σ))) ∧
  (∀ (tag : BitVec 8) (q : SpEnd) (slot : BitVec 8) (key : List (BitVec 8)) (s : State),
    exec (.spKeyWrite tag q slot key) s = .next (s.did (fun σ => spRequest 0x43 tag.toNat ([slot] ++ key) q (
        inSession [2] (fun τ =>
        if h : slot.toNat < 5 then
          (if key.length = (if slot.toNat = 4 then 64 else 32) then
            (0, [], τ.updUpd (fun u => { u with keys := u.keys.set slot.toNat (some key) }))
           else (4, [], τ))
        else (4, [], τ))) σ))) ∧
  (∀ (tag : BitVec 8) (q : SpEnd) (s : State), exec (.testChallenge tag q) s = .next (s.did (fun σ => spRequest 0x7D tag.toNat [] q (
        fun τ =>
        if τ.glb.straps.testN then (3, [], τ)
        else
          let c := Config.challenge τ.free
          (0, leBytes 8 Config.devUid.toNat ++ c, { (τ.updEv (fun e => { e with challenge := some c })) with free := τ.free + 1 })) σ))) ∧
  (∀ (tag : BitVec 8) (q : SpEnd) (payload : List (BitVec 8)) (s : State),
    exec (.testEnter tag q payload) s = .next (s.did (fun σ => spRequest 0x7E tag.toNat payload q (
        fun τ =>
        if τ.glb.straps.testN then (3, [], τ)
        else if payload.length != 32 then (4, [], τ)
        else
          let good := match τ.ev.challenge with
            | some c => τ.ev.testBad < 3 &&
                payload == hmacSha256 (leBytes 32 Config.factoryKey.toNat) (c ++ leBytes 8 Config.devUid.toNat)
            | none => false
          let t := τ.updEv (fun e => { e with challenge := none })
          if good then (0, [], { t with mode := if t.mode == .testWait then .test else t.mode })
          else (7, [], t.updEv (fun e => { e with testBad := e.testBad + 1 }))) σ))) ∧
  (∀ s : State, exec .spFetch s = .next (s.did (fun σ => (
        if σ.spOn then
          let r := σ.sp.answer
          let body := [byteOf r.status, byteOf r.tag] ++ leBytes 2 r.payload.length ++ r.payload
          σ.updSp (fun p => { p with rdata := 0xFF :: body ++ leBytes 2 (crc16 body) })
        else σ.updSp (fun p => { p with rdata := [] }))))) ∧
  (∀ s : State, exec .spSessionTimeout s = .next (s.waited s.sessionDue (fun σ => (
        if σ.sp.mode.isSome && σ.sp.lastGood + sec σ.cfg.sp.sessionTo ≤ σ.now then fire 176 1 (closeSession σ) else σ)))) ∧
  (∀ s : State, exec .ovStagingSilence s = .next (s.waited s.silenceDue (fun σ => (
        match σ.upd.staging with
        | some g => if g.ov && σ.upd.stage == .staging && g.last + sec σ.cfg.sp.sessionTo ≤ σ.now then stageAbandon σ else σ
        | none => σ))))

/-- IMAGE_VERIFY looks again at the images where a restart calls for it and judges a complete staging (R367);
CORE_CONFIRM and CORE_TRIAL_TIMEOUT end the trial of a core image, kept or returned (R370); PROOF_WINDOW_END waits for
the end of the proof window and proves what has passed (R374); PAIR_SEQUENCE_HALT waits and halts the standby-first
sequence (R378); SCHEDULED_ACTIVATION waits for the lamplighter tick at or after the scheduled global time and activates
(R380). -/
def Obligations.UpdateCommandsComplete : Prop :=
  (∀ s : State, exec .imageVerify s = .next (s.did (fun σ => (
        let s := if σ.upd.recheck then recheckImages σ else σ
        match s.upd.staging with
        | some g =>
          if s.upd.stage == .checking && s.coreUp .supervisor && !s.blockDown .memory && !s.ch.writing .staging then
            imageCheck g.header (s.stageRegion g.kind) s
          else s
        | none => s)))) ∧
  (∀ (c : CoreId) (s : State), exec (.coreConfirm c) s = .next (s.did (fun σ => (
        match σ.upd.trial with
        | some t =>
          if t.core == c && σ.coreUp c then
            trialNext t.imgId t.confirm t.todo
              (saveSet (fun d => { d with fw := d.fw.set (coreNum c) σ.upd.fw[coreNum c], trial := none })
                (σ.updUpd (fun u => { u with keep := if c = .supervisor then none else u.keep })))
          else σ
        | none => σ)))) ∧
  (∀ (c : CoreId) (s : State), exec (.coreTrialTimeout c) s = .next (s.waited (s.trialDue c) (fun σ => (
        match σ.upd.trial with
        | some t => if t.core == c && t.ends ≤ σ.now && (c == .supervisor || σ.coreUp .supervisor) then trialFail σ else σ
        | none => σ)))) ∧
  (∀ s : State, exec .proofWindowEnd s = .next (s.waited s.proofDue (fun σ => (
        match σ.upd.proof with
        | none => σ
        | some p =>
          if p.ends ≤ σ.now && σ.coreUp .supervisor then
            (if σ.proofConds.all (fun k => σ.condEnds k.1 p.confirmed && !σ.condBroken k.1 k.2) then proofPass σ else proofFail σ)
          else σ)))) ∧
  (∀ s : State, exec .pairSequenceHalt s = .next (s.waited s.seqDue (fun σ => (
        match σ.upd.pairSeq with
        | some q => if due σ.now q.deadline && σ.coreUp .supervisor then pairHalt 5 σ else σ
        | none => σ)))) ∧
  (∀ s : State, exec .scheduledActivation s = .next (s.afterWait State.schedWait (fun σ => (
        match σ.upd.set.sched with
        | none => σ
        | some d =>
          if σ.mode != .ready || σ.ov.gtime < d.at_ || (σ.arch.refClk && (σ.now - σ.seq.tickAt) % us 10 != 0) then σ
          else
            let t := saveSet (fun x => { x with sched := none }) σ
            let p := activateNow d.imgId d.confirm t
            if p.1 = 0 then p.2 else skipSched p.1 p.2))))

/-- Every command, with every operand and in every state, answers a next state: none faults and none is refused. The
commands that wait are those that waited before, and no firing is left to carry out. -/
def Obligations.EveryCommandAnswers : Prop :=
  ∀ (c : Instr) (s : State), ∃ t : State, exec c s = .next t ∧ t.pending = s.pending ∧ t.ev.fireQ = []

/-- A command carried out with other commands waiting leaves what it leaves otherwise, but for the commands that wait.
-/
def Obligations.CommandsDoNotSeeTheQueue : Prop :=
  ∀ (c : Instr) (l : List Instr) (s t : State), exec c s = .next t →
    exec c { s with pending := l } = .next { t with pending := l }

/-- From a state with no command waiting, as many steps as there are commands in a queue carry out exactly those
commands, first in, first out, each on what the one before it left, and end with no command waiting. -/
def Obligations.TheQueueRunsInOrder : Prop :=
  ∀ (l : List Instr) (s : State), s.pending = [] →
    State.steps l.length { s with pending := l } = s.after l ∧ (s.after l).pending = []

/-- In every state whose external memories are in canonical form (addresses strictly rising, no entry equal to what an
erased byte reads), a step that answers a next state leaves them so, whatever the command at the front of the queue, and
an idle step too. -/
def Obligations.TheMemoriesStayCanonical : Prop :=
  ∀ s t : State, s.memWf = true → step s = .next t → t.memWf = true

/-- Whatever command is carried out and whatever follows from it, the straps stay as latched unless the command is
POR_RELEASE, RESET_N_RELEASE or CRESET_RESTART, which start the chip (R56), and the key slots stay as written unless it
is SP_KEY_WRITE (R366). -/
def Obligations.TheStrapsAndTheKeysStay : Prop :=
  ∀ (c : Instr) (s t : State), exec c s = .next t →
    ((∀ x, c ≠ .porRelease x) → (∀ x, c ≠ .resetNRelease x) → (∀ x, c ≠ .cresetRestart x) → t.glb.straps = s.glb.straps) ∧
    ((∀ g k n d, c ≠ .spKeyWrite g k n d) → t.upd.keys = s.upd.keys)

/-- A command other than those of mayProgram leaves every byte of both external memories as it was: what it leaves is
what follows (State.closed) from a state with the same memories. -/
def Obligations.OtherCommandsLeaveTheMemories : Prop :=
  ∀ (c : Instr) (s t : State), mayProgram c = false → exec c s = .next t →
    ∃ v u : State, u.ch.dev0 = s.ch.dev0 ∧ u.ch.dev1 = s.ch.dev1 ∧ t = v.closed u

/-- Where a command's own effect leaves a unit that is not held in reset, is single (R279), has no firing, no condition
of a proof, no rollback, no standby-first sequence and no barrier or snapshot to follow up, its feeds judged under the
AUX_FALL in force, EV_DEGR as last recorded, SHARE at VOWN and the transaction on the module bus sent, nothing follows
but the count of the idle time (R76): every field of the state other than the start of that idle time is as the effect
left it. -/
def Obligations.AQuietEffectSettlesAtOnce : Prop :=
  ∀ t : State, t.resetHeld = false → t.quiet = true →
    settle t = watchIdle t ∧ ∃ i, settle t = { t with slp := { t.slp with idleAt := i } }

/-- On an empty queue a step answers the state one nanosecond later on the model's clock, with the lines empty and the
class-0 frames whose turn has come sent: the model's choice, log entry 11, no rule of the spec. -/
def Obligations.AnIdleStepPassesOneNanosecond : Prop :=
  ∀ s : State, s.pending = [] →
    step s = .next (egressAll (State.elapse { s with outbox := [] } 1)) ∧ (State.elapse s 1).now = s.now + 1

/-- At reset the part is held in power-on reset with every PWM output in tri-state, every enable low, OWN_N released and
FAULT_N asserted (R56); no pattern is in force, no event is pending, every tally is 0, no port of Ovrath is up, no
record is held, both paths of protected writes are locked, the external memories read erased (the model's choice, log
entry 7) and are in canonical form, no key is written, and no command waits. -/
def Obligations.ResetState : Prop :=
  State.reset.mode = .por ∧ State.reset.step = 0 ∧ State.reset.resetHeld = true ∧
    (∀ n : Fin 64, State.reset.phases[n].cfg = none ∧ State.reset.phases[n].pwm = .z) ∧
    (∀ r : Fin 24, State.reset.rails[r].cfg = none) ∧ (∀ n : Fin 48, State.reset.seq.slots[n].en = false) ∧
    State.reset.pair.own = false ∧ State.reset.faultN = true ∧ State.reset.intN = false ∧
    (∀ i : Fin 24, State.reset.ev.tallies[i] = 0) ∧ (∀ i : Fin 16, State.reset.lg.dir[i] = none) ∧
    (∀ k : Fin 6, State.reset.ov.ports[k].state = .disabled) ∧
    State.reset.glb.lockHost.unlocked = false ∧ State.reset.glb.lockOv.unlocked = false ∧
    (∀ d a : Nat, State.reset.ch.memByte d a = 0xFF) ∧ State.reset.memWf = true ∧
    (∀ i : Fin 5, State.reset.upd.keys[i] = none) ∧ State.reset.pending = []

/-- A message number N (16 bits) that comes for a pair identifier whose window holds H is judged by d = (N - H) modulo
65,536: with d in 1 to 32,767 it is accepted and the window moves up to N, keeping the record of the 64 numbers up to N;
within the window, from H - 63 to H, it is discarded if recorded, and else accepted and recorded; and any other is older
than the window and discarded. Each discard adds 1 to TALLY_DUP. An acceptance changes nothing but the windows. -/
def Obligations.TheDuplicateWindow : Prop :=
  ∀ (paddr pairId : Nat) (n h : BitVec 16) (s : State) (w : DupWin), w.high = h.toNat →
    s.pair.wins.find? (fun x => x.paddr == paddr && x.pairId == pairId) = some w →
    let d := (n - h).toNat
    let r := dupAccept paddr pairId n.toNat s
    let after := r.2.pair.wins.find? (fun x => x.paddr == paddr && x.pairId == pairId)
    let kept := r.2 = { s with pair := { s.pair with wins := r.2.pair.wins } }
    (1 ≤ d → d ≤ 32767 → r.1 = true ∧ kept ∧ ∃ v, after = some v ∧ v.high = n.toNat ∧
      ∀ m : BitVec 16, m.toNat ∈ v.seen ↔ m = n ∨ m.toNat ∈ w.seen ∧ (n - m).toNat ≤ 63) ∧
    (¬(1 ≤ d ∧ d ≤ 32767) → (h - n).toNat ≤ 63 → n.toNat ∈ w.seen → r = (false, addTally 18 1 s)) ∧
    (¬(1 ≤ d ∧ d ≤ 32767) → (h - n).toNat ≤ 63 → n.toNat ∉ w.seen → r.1 = true ∧ kept ∧ ∃ v, after = some v ∧
      v.high = h.toNat ∧ ∀ m : BitVec 16, m.toNat ∈ v.seen ↔ m = n ∨ m.toNat ∈ w.seen) ∧
    (¬(1 ≤ d ∧ d ≤ 32767) → 63 < (h - n).toNat → r = (false, addTally 18 1 s))

/-- On a path that is not another requester's: a write of 0x0000 to GLB_UNLOCK locks it at once; the key expected next,
KEY2 = 0x88DF where KEY1 waits within its 1 ms and KEY1 = 0x7720 on any other path, locked or unlocked, arms or unlocks
it; and any other value breaks the sequence: the path is left locked and unarmed whatever its state before, BAD_UNLOCK
is set and EV175 is raised (R349), and nothing else changes. A write of any other register disarms the path and raises
no flag; 1 ms without KEY2 disarms it too. -/
def Obligations.TheUnlockSequence : Prop :=
  (∀ (p : Path) (v : BitVec 16) (s : State), (s.lockPath p).who = pathWho p →
    let l := s.lockPath p
    let armed : Bool := l.armed && decide (s.now ≤ l.armedAt + 1000000)
    let next : Nat := if armed then 0x88DF else 0x7720
    let t := unlockWrite p v.toNat s
    (v = 0 → t.lockPath p = { armed := false, unlocked := false } ∧ t.hb = s.hb ∧ t.ev = s.ev) ∧
    (v ≠ 0 → v.toNat ≠ next → (t.lockPath p).unlocked = false ∧ (t.lockPath p).armed = false ∧
      t.hb = { s.hb with stat := s.hb.stat ||| 0x200 } ∧ t.ev = { s.ev with fireQ := s.ev.fireQ ++ [⟨175, 9⟩] }) ∧
    (v.toNat = next → armed = true → t.lockPath p = { l with armed := false, unlocked := true, usedAt := s.now }) ∧
    (v.toNat = next → armed = false → t.lockPath p = { l with armed := true, armedAt := s.now }) ∧
    { t with glb := s.glb, hb := s.hb, ev := s.ev } = s) ∧
  (∀ (p : Path) (a : Nat) (s : State), a ≠ 0x0014 →
    (disarm p a s).lockPath p = { s.lockPath p with armed := false } ∧ { disarm p a s with glb := s.glb } = s) ∧
  (∀ s : State, s.glb.lockHost.armed = true → s.glb.lockHost.armedAt + 1000000 ≤ s.now →
    disarmDue false s = { s with glb := { s.glb with lockHost := { s.glb.lockHost with armed := false } } }) ∧
  (∀ s : State, s.glb.lockOv.armed = true → s.glb.lockOv.armedAt + 1000000 ≤ s.now →
    disarmDue true s = { s with glb := { s.glb with lockOv := { s.glb.lockOv with armed := false } } })

/-- A protected write (R49) on a path that is not open to its requester (R387, R389) leaves every phase, rail, monitor,
timer, housekeeping value and the trim overlay as they were. On the host bus of a unit that takes writes, it sets
LOCKED_WR and raises EV175 exactly where the bits written differ from the values in force (R349); on Ovrath it is
answered REFUSED there (Table 13.11). -/
def Obligations.TrimWritesNeedTheUnlock : Prop :=
  (∀ (p : Path) (a v : Nat) (s : State), s.openFor p = false →
    let t := trimWrite p a v s
    t.phases = s.phases ∧ t.rails = s.rails ∧ t.watch = s.watch ∧ t.hk = s.hk ∧ t.ch = s.ch ∧ t.glb = s.glb) ∧
  (∀ (a v : Nat) (s : State), s.openFor .host = false → rwpMask a ≠ 0 → s.rwpHere a = true → s.passive = false →
    trimWrite .host a v s =
      if s.rwpDiffers a v then fire 175 8 { s with hb := { s.hb with stat := s.hb.stat ||| 0x100 } } else s) ∧
  (∀ (who : BitVec 18) (a v : Nat) (s : State), s.openFor (.ovrath who) = false → rwpMask a ≠ 0 → s.rwpHere a = true →
    s.rwpDiffers a v = true → (writeUnit (.ovrath who) a 2 v s).1 = 2)

/-- From the same two predecessors, a decoder (reconstruct) makes of the residuals of any samples of 12 bits, coded with
any E, as many samples, each within E of the one captured (R323), exactly it where E is 0, and ends with the encoder's
own two last samples (R320). -/
def Obligations.TheCodecStaysWithinE : Prop :=
  ∀ (e x1 x2 : Nat) (xs : List Nat), (∀ x ∈ xs, x ≤ 4095) →
    let c := codeSamples e x1 x2 xs
    let r := reconstruct e x1 x2 c.1
    r.2 = c.2 ∧ r.1.length = xs.length ∧
    ∀ (i : Nat) (x y : Nat), xs[i]? = some x → r.1[i]? = some y → x ≤ y + e ∧ y ≤ x + e ∧ (e = 0 → y = x)

/-- The Rice parameter chosen is in 0 to 13, gives no longer a block than any other, and is the lowest that does; and
whatever the samples, a block of 32 samples takes 16 bits and the length of the coding chosen, raw only where it is
shorter, and so at most 432 bits (R322). -/
def Obligations.ABlockFits432Bits : Prop :=
  (∀ us : List Nat, bestK us ≤ 13 ∧ ∀ k, k ≤ 13 → riceLen (bestK us) us ≤ riceLen k us ∧
      (riceLen k us = riceLen (bestK us) us → bestK us ≤ k)) ∧
  (∀ (e x1 x2 flags : Nat) (xs : List Nat), xs.length = 32 →
    let us := (codeSamples e x1 x2 xs).1.map zigzag
    (codeBlock e x1 x2 flags xs).1.2 = 16 + min (riceLen (bestK us) us) 416 ∧ (codeBlock e x1 x2 flags xs).1.2 ≤ 432)

/-- With the memories in canonical form, a program of a NOR device leaves each byte of its range the AND of what it was
and the byte given, one of another device the byte given, and an erase leaves 0xFF (R63); every byte outside the range,
and every byte of the other device, reads as before. -/
def Obligations.ProgramAndEraseWriteTheirCells : Prop :=
  ∀ (dev : Nat) (s : State), dev < 2 → s.memWf = true →
    (∀ (nor : Bool) (a : Nat) (bs : List Byte) (d x : Nat), (memProgram dev nor a bs s).ch.memByte d x =
      if d = dev ∧ a ≤ x ∧ x < a + bs.length then
        (if nor then s.ch.memByte dev x &&& bs.getD (x - a) 0 else bs.getD (x - a) 0)
      else s.ch.memByte d x) ∧
    (∀ (a n d x : Nat), (memErase dev a n s).ch.memByte d x =
      if d = dev ∧ a ≤ x ∧ x < a + n then 0xFF else s.ch.memByte d x)

/-- The target acknowledges its address from step 11 of the start, in operation, and not while its block is in reset or
the part is in reset, factory test or sleep (R341); a write or a read that is not acknowledged leaves all as it was but
the busy bit and its tally, and nothing at all in reset (R346, Table 15.2). -/
def Obligations.AnUnansweredHostIsCounted : Prop :=
  (∀ s : State, s.hostAcks = true ↔ s.ev.inReset.contains .hostBus = false ∧
      (s.mode = .ready ∨ s.mode = .toSleep ∨ s.mode = .start ∧ 11 ≤ s.step)) ∧
  (∀ (a n : Nat) (bs : List Byte) (s : State), s.hostAcks = false →
    hostBurst a bs s = hostNack s ∧ hostRead a n s = hostNack s ∧
    (s.mode = .por ∨ s.mode = .creset ∨ s.mode = .held → hostNack s = s) ∧
    (s.mode ≠ .por → s.mode ≠ .creset → s.mode ≠ .held → hostNack s = { s with hb := { s.hb with
      stat := s.hb.stat ||| 1, busyTally := min 255 (s.hb.busyTally + 1) } }))

/-- A tally saturates at 0xFFFFFFFF and no other changes with it; RESET_N held low for 1 us clears every tally but
TALLY_CRESET, POR_ASSERT clears them all; CLR_ALL clears them all, and is refused while a proof window is open (R253).
-/
def Obligations.TheTalliesSaturateAndClear : Prop :=
  (∀ (i j : Fin 24) (k : Nat) (s : State), (addTally i k s).ev.tallies[j] =
      if j = i then min 0xFFFFFFFF (s.ev.tallies[i] + k) else s.ev.tallies[j]) ∧
  (∀ (lowNs : Nat) (s : State), 1000 ≤ lowNs → s.mode ≠ .por → ∃ t, exec (.resetNAssert lowNs) s = .next t ∧
      t.mode = .held ∧ ∀ i : Fin 24, i ≠ 4 → t.ev.tallies[i] = 0) ∧
  (∀ (k : Fin 5) (s : State), ∃ t, exec (.porAssert k) s = .next t ∧ t.mode = .por ∧ ∀ i : Fin 24, t.ev.tallies[i] = 0) ∧
  (∀ s : State, s.upd.proof = none → ∀ i : Fin 24, (talliesClear s).ev.tallies[i] = 0) ∧
  (∀ s : State, s.upd.proof ≠ none → talliesClear s = { s with ev := { s.ev with tallyRef := true } })

/-- A firing sets its source's pending bit, raises its count, saturating at 255, and keeps its sub-index, the global
time and whether its reaction is FENCE; it is the last source, TALLY 0 rises, and no other source and no other tally
changes (R243, R253). INT_N is asserted exactly while some source whose reaction in force includes INT is pending and
enabled (R250). -/
def Obligations.AFiringIsRecorded : Prop :=
  (∀ (n : Fin 192) (sub e cause : Nat) (s : State),
    let t := recordFiring n sub e cause s
    t.ev.src[n] = { s.ev.src[n] with
      pend := true, fired := true, fence := e % 16 == 3, count := min 255 (s.ev.src[n].count + 1), sub := sub, time := s.ov.gtime } ∧
    (∀ m : Fin 192, m ≠ n → t.ev.src[m] = s.ev.src[m]) ∧ t.ev.last = n.val ∧
    t.ev.tallies[(0 : Fin 24)] = min 0xFFFFFFFF (s.ev.tallies[(0 : Fin 24)] + 1) ∧
    (∀ i : Fin 24, i ≠ 0 → t.ev.tallies[i] = s.ev.tallies[i])) ∧
  (∀ s : State, s.intN = true ↔ ∃ n : Fin 192, s.ev.src[n].pend = true ∧ s.ev.src[n].ien = true ∧ hasInt s.cfg.react[n] = true)
end

