-- ==== Sys2Proof/Laws/State.lean ====
section
/-! SUPPORT. What each named update of State does to each field: one lemma per field per update, so that no proof unfolds a
record update. Each is true by rfl; the parentheses keep simp from using it as a definitional step, which would leave the
Decidable instances of a rewritten condition behind. -/
namespace Sys2Proof.Machine

section Updates
variable (s : State)

@[simp] theorem State.updPhase_now (n : Fin 64) (f : PhaseS → PhaseS) : (s.updPhase n f).now = s.now := (rfl)
@[simp] theorem State.updPhase_free (n : Fin 64) (f : PhaseS → PhaseS) : (s.updPhase n f).free = s.free := (rfl)
@[simp] theorem State.updPhase_mode (n : Fin 64) (f : PhaseS → PhaseS) : (s.updPhase n f).mode = s.mode := (rfl)
@[simp] theorem State.updPhase_step (n : Fin 64) (f : PhaseS → PhaseS) : (s.updPhase n f).step = s.step := (rfl)
@[simp] theorem State.updPhase_wakeStep (n : Fin 64) (f : PhaseS → PhaseS) : (s.updPhase n f).wakeStep = s.wakeStep := (rfl)
@[simp] theorem State.updPhase_arch (n : Fin 64) (f : PhaseS → PhaseS) : (s.updPhase n f).arch = s.arch := (rfl)
@[simp] theorem State.updPhase_feeds (n : Fin 64) (f : PhaseS → PhaseS) : (s.updPhase n f).feeds = s.feeds := (rfl)
@[simp] theorem State.updPhase_ch (n : Fin 64) (f : PhaseS → PhaseS) : (s.updPhase n f).ch = s.ch := (rfl)
@[simp] theorem State.updPhase_slp (n : Fin 64) (f : PhaseS → PhaseS) : (s.updPhase n f).slp = s.slp := (rfl)
@[simp] theorem State.updPhase_phases (n : Fin 64) (f : PhaseS → PhaseS) : (s.updPhase n f).phases = s.phases.upd n f := (rfl)
@[simp] theorem State.updPhase_rails (n : Fin 64) (f : PhaseS → PhaseS) : (s.updPhase n f).rails = s.rails := (rfl)
@[simp] theorem State.updPhase_ports (n : Fin 64) (f : PhaseS → PhaseS) : (s.updPhase n f).ports = s.ports := (rfl)
@[simp] theorem State.updPhase_seq (n : Fin 64) (f : PhaseS → PhaseS) : (s.updPhase n f).seq = s.seq := (rfl)
@[simp] theorem State.updPhase_watch (n : Fin 64) (f : PhaseS → PhaseS) : (s.updPhase n f).watch = s.watch := (rfl)
@[simp] theorem State.updPhase_hk (n : Fin 64) (f : PhaseS → PhaseS) : (s.updPhase n f).hk = s.hk := (rfl)
@[simp] theorem State.updPhase_hold (n : Fin 64) (f : PhaseS → PhaseS) : (s.updPhase n f).hold = s.hold := (rfl)
@[simp] theorem State.updPhase_carts (n : Fin 64) (f : PhaseS → PhaseS) : (s.updPhase n f).carts = s.carts := (rfl)
@[simp] theorem State.updPhase_ev (n : Fin 64) (f : PhaseS → PhaseS) : (s.updPhase n f).ev = s.ev := (rfl)
@[simp] theorem State.updPhase_glb (n : Fin 64) (f : PhaseS → PhaseS) : (s.updPhase n f).glb = s.glb := (rfl)
@[simp] theorem State.updPhase_pair (n : Fin 64) (f : PhaseS → PhaseS) : (s.updPhase n f).pair = s.pair := (rfl)
@[simp] theorem State.updPhase_ov (n : Fin 64) (f : PhaseS → PhaseS) : (s.updPhase n f).ov = s.ov := (rfl)
@[simp] theorem State.updPhase_lg (n : Fin 64) (f : PhaseS → PhaseS) : (s.updPhase n f).lg = s.lg := (rfl)
@[simp] theorem State.updPhase_hb (n : Fin 64) (f : PhaseS → PhaseS) : (s.updPhase n f).hb = s.hb := (rfl)
@[simp] theorem State.updPhase_sp (n : Fin 64) (f : PhaseS → PhaseS) : (s.updPhase n f).sp = s.sp := (rfl)
@[simp] theorem State.updPhase_upd (n : Fin 64) (f : PhaseS → PhaseS) : (s.updPhase n f).upd = s.upd := (rfl)
@[simp] theorem State.updPhase_outbox (n : Fin 64) (f : PhaseS → PhaseS) : (s.updPhase n f).outbox = s.outbox := (rfl)
@[simp] theorem State.updPhase_pending (n : Fin 64) (f : PhaseS → PhaseS) : (s.updPhase n f).pending = s.pending := (rfl)

@[simp] theorem State.updRail_now (r : Fin 24) (f : RailS → RailS) : (s.updRail r f).now = s.now := (rfl)
@[simp] theorem State.updRail_free (r : Fin 24) (f : RailS → RailS) : (s.updRail r f).free = s.free := (rfl)
@[simp] theorem State.updRail_mode (r : Fin 24) (f : RailS → RailS) : (s.updRail r f).mode = s.mode := (rfl)
@[simp] theorem State.updRail_step (r : Fin 24) (f : RailS → RailS) : (s.updRail r f).step = s.step := (rfl)
@[simp] theorem State.updRail_wakeStep (r : Fin 24) (f : RailS → RailS) : (s.updRail r f).wakeStep = s.wakeStep := (rfl)
@[simp] theorem State.updRail_arch (r : Fin 24) (f : RailS → RailS) : (s.updRail r f).arch = s.arch := (rfl)
@[simp] theorem State.updRail_feeds (r : Fin 24) (f : RailS → RailS) : (s.updRail r f).feeds = s.feeds := (rfl)
@[simp] theorem State.updRail_ch (r : Fin 24) (f : RailS → RailS) : (s.updRail r f).ch = s.ch := (rfl)
@[simp] theorem State.updRail_slp (r : Fin 24) (f : RailS → RailS) : (s.updRail r f).slp = s.slp := (rfl)
@[simp] theorem State.updRail_phases (r : Fin 24) (f : RailS → RailS) : (s.updRail r f).phases = s.phases := (rfl)
@[simp] theorem State.updRail_rails (r : Fin 24) (f : RailS → RailS) : (s.updRail r f).rails = s.rails.upd r f := (rfl)
@[simp] theorem State.updRail_ports (r : Fin 24) (f : RailS → RailS) : (s.updRail r f).ports = s.ports := (rfl)
@[simp] theorem State.updRail_seq (r : Fin 24) (f : RailS → RailS) : (s.updRail r f).seq = s.seq := (rfl)
@[simp] theorem State.updRail_watch (r : Fin 24) (f : RailS → RailS) : (s.updRail r f).watch = s.watch := (rfl)
@[simp] theorem State.updRail_hk (r : Fin 24) (f : RailS → RailS) : (s.updRail r f).hk = s.hk := (rfl)
@[simp] theorem State.updRail_hold (r : Fin 24) (f : RailS → RailS) : (s.updRail r f).hold = s.hold := (rfl)
@[simp] theorem State.updRail_carts (r : Fin 24) (f : RailS → RailS) : (s.updRail r f).carts = s.carts := (rfl)
@[simp] theorem State.updRail_ev (r : Fin 24) (f : RailS → RailS) : (s.updRail r f).ev = s.ev := (rfl)
@[simp] theorem State.updRail_glb (r : Fin 24) (f : RailS → RailS) : (s.updRail r f).glb = s.glb := (rfl)
@[simp] theorem State.updRail_pair (r : Fin 24) (f : RailS → RailS) : (s.updRail r f).pair = s.pair := (rfl)
@[simp] theorem State.updRail_ov (r : Fin 24) (f : RailS → RailS) : (s.updRail r f).ov = s.ov := (rfl)
@[simp] theorem State.updRail_lg (r : Fin 24) (f : RailS → RailS) : (s.updRail r f).lg = s.lg := (rfl)
@[simp] theorem State.updRail_hb (r : Fin 24) (f : RailS → RailS) : (s.updRail r f).hb = s.hb := (rfl)
@[simp] theorem State.updRail_sp (r : Fin 24) (f : RailS → RailS) : (s.updRail r f).sp = s.sp := (rfl)
@[simp] theorem State.updRail_upd (r : Fin 24) (f : RailS → RailS) : (s.updRail r f).upd = s.upd := (rfl)
@[simp] theorem State.updRail_outbox (r : Fin 24) (f : RailS → RailS) : (s.updRail r f).outbox = s.outbox := (rfl)
@[simp] theorem State.updRail_pending (r : Fin 24) (f : RailS → RailS) : (s.updRail r f).pending = s.pending := (rfl)

@[simp] theorem State.updPort_now (p : Fin 8) (f : PortS → PortS) : (s.updPort p f).now = s.now := (rfl)
@[simp] theorem State.updPort_free (p : Fin 8) (f : PortS → PortS) : (s.updPort p f).free = s.free := (rfl)
@[simp] theorem State.updPort_mode (p : Fin 8) (f : PortS → PortS) : (s.updPort p f).mode = s.mode := (rfl)
@[simp] theorem State.updPort_step (p : Fin 8) (f : PortS → PortS) : (s.updPort p f).step = s.step := (rfl)
@[simp] theorem State.updPort_wakeStep (p : Fin 8) (f : PortS → PortS) : (s.updPort p f).wakeStep = s.wakeStep := (rfl)
@[simp] theorem State.updPort_arch (p : Fin 8) (f : PortS → PortS) : (s.updPort p f).arch = s.arch := (rfl)
@[simp] theorem State.updPort_feeds (p : Fin 8) (f : PortS → PortS) : (s.updPort p f).feeds = s.feeds := (rfl)
@[simp] theorem State.updPort_ch (p : Fin 8) (f : PortS → PortS) : (s.updPort p f).ch = s.ch := (rfl)
@[simp] theorem State.updPort_slp (p : Fin 8) (f : PortS → PortS) : (s.updPort p f).slp = s.slp := (rfl)
@[simp] theorem State.updPort_phases (p : Fin 8) (f : PortS → PortS) : (s.updPort p f).phases = s.phases := (rfl)
@[simp] theorem State.updPort_rails (p : Fin 8) (f : PortS → PortS) : (s.updPort p f).rails = s.rails := (rfl)
@[simp] theorem State.updPort_ports (p : Fin 8) (f : PortS → PortS) : (s.updPort p f).ports = s.ports.upd p f := (rfl)
@[simp] theorem State.updPort_seq (p : Fin 8) (f : PortS → PortS) : (s.updPort p f).seq = s.seq := (rfl)
@[simp] theorem State.updPort_watch (p : Fin 8) (f : PortS → PortS) : (s.updPort p f).watch = s.watch := (rfl)
@[simp] theorem State.updPort_hk (p : Fin 8) (f : PortS → PortS) : (s.updPort p f).hk = s.hk := (rfl)
@[simp] theorem State.updPort_hold (p : Fin 8) (f : PortS → PortS) : (s.updPort p f).hold = s.hold := (rfl)
@[simp] theorem State.updPort_carts (p : Fin 8) (f : PortS → PortS) : (s.updPort p f).carts = s.carts := (rfl)
@[simp] theorem State.updPort_ev (p : Fin 8) (f : PortS → PortS) : (s.updPort p f).ev = s.ev := (rfl)
@[simp] theorem State.updPort_glb (p : Fin 8) (f : PortS → PortS) : (s.updPort p f).glb = s.glb := (rfl)
@[simp] theorem State.updPort_pair (p : Fin 8) (f : PortS → PortS) : (s.updPort p f).pair = s.pair := (rfl)
@[simp] theorem State.updPort_ov (p : Fin 8) (f : PortS → PortS) : (s.updPort p f).ov = s.ov := (rfl)
@[simp] theorem State.updPort_lg (p : Fin 8) (f : PortS → PortS) : (s.updPort p f).lg = s.lg := (rfl)
@[simp] theorem State.updPort_hb (p : Fin 8) (f : PortS → PortS) : (s.updPort p f).hb = s.hb := (rfl)
@[simp] theorem State.updPort_sp (p : Fin 8) (f : PortS → PortS) : (s.updPort p f).sp = s.sp := (rfl)
@[simp] theorem State.updPort_upd (p : Fin 8) (f : PortS → PortS) : (s.updPort p f).upd = s.upd := (rfl)
@[simp] theorem State.updPort_outbox (p : Fin 8) (f : PortS → PortS) : (s.updPort p f).outbox = s.outbox := (rfl)
@[simp] theorem State.updPort_pending (p : Fin 8) (f : PortS → PortS) : (s.updPort p f).pending = s.pending := (rfl)

@[simp] theorem State.updDom_now (d : Fin 8) (f : DomS → DomS) : (s.updDom d f).now = s.now := (rfl)
@[simp] theorem State.updDom_free (d : Fin 8) (f : DomS → DomS) : (s.updDom d f).free = s.free := (rfl)
@[simp] theorem State.updDom_mode (d : Fin 8) (f : DomS → DomS) : (s.updDom d f).mode = s.mode := (rfl)
@[simp] theorem State.updDom_step (d : Fin 8) (f : DomS → DomS) : (s.updDom d f).step = s.step := (rfl)
@[simp] theorem State.updDom_wakeStep (d : Fin 8) (f : DomS → DomS) : (s.updDom d f).wakeStep = s.wakeStep := (rfl)
@[simp] theorem State.updDom_arch (d : Fin 8) (f : DomS → DomS) : (s.updDom d f).arch = s.arch := (rfl)
@[simp] theorem State.updDom_feeds (d : Fin 8) (f : DomS → DomS) : (s.updDom d f).feeds = s.feeds := (rfl)
@[simp] theorem State.updDom_ch (d : Fin 8) (f : DomS → DomS) : (s.updDom d f).ch = s.ch := (rfl)
@[simp] theorem State.updDom_slp (d : Fin 8) (f : DomS → DomS) : (s.updDom d f).slp = s.slp := (rfl)
@[simp] theorem State.updDom_phases (d : Fin 8) (f : DomS → DomS) : (s.updDom d f).phases = s.phases := (rfl)
@[simp] theorem State.updDom_rails (d : Fin 8) (f : DomS → DomS) : (s.updDom d f).rails = s.rails := (rfl)
@[simp] theorem State.updDom_ports (d : Fin 8) (f : DomS → DomS) : (s.updDom d f).ports = s.ports := (rfl)
@[simp] theorem State.updDom_seq (d : Fin 8) (f : DomS → DomS) : (s.updDom d f).seq = { s.seq with doms := s.seq.doms.upd d f } := (rfl)
@[simp] theorem State.updDom_watch (d : Fin 8) (f : DomS → DomS) : (s.updDom d f).watch = s.watch := (rfl)
@[simp] theorem State.updDom_hk (d : Fin 8) (f : DomS → DomS) : (s.updDom d f).hk = s.hk := (rfl)
@[simp] theorem State.updDom_hold (d : Fin 8) (f : DomS → DomS) : (s.updDom d f).hold = s.hold := (rfl)
@[simp] theorem State.updDom_carts (d : Fin 8) (f : DomS → DomS) : (s.updDom d f).carts = s.carts := (rfl)
@[simp] theorem State.updDom_ev (d : Fin 8) (f : DomS → DomS) : (s.updDom d f).ev = s.ev := (rfl)
@[simp] theorem State.updDom_glb (d : Fin 8) (f : DomS → DomS) : (s.updDom d f).glb = s.glb := (rfl)
@[simp] theorem State.updDom_pair (d : Fin 8) (f : DomS → DomS) : (s.updDom d f).pair = s.pair := (rfl)
@[simp] theorem State.updDom_ov (d : Fin 8) (f : DomS → DomS) : (s.updDom d f).ov = s.ov := (rfl)
@[simp] theorem State.updDom_lg (d : Fin 8) (f : DomS → DomS) : (s.updDom d f).lg = s.lg := (rfl)
@[simp] theorem State.updDom_hb (d : Fin 8) (f : DomS → DomS) : (s.updDom d f).hb = s.hb := (rfl)
@[simp] theorem State.updDom_sp (d : Fin 8) (f : DomS → DomS) : (s.updDom d f).sp = s.sp := (rfl)
@[simp] theorem State.updDom_upd (d : Fin 8) (f : DomS → DomS) : (s.updDom d f).upd = s.upd := (rfl)
@[simp] theorem State.updDom_outbox (d : Fin 8) (f : DomS → DomS) : (s.updDom d f).outbox = s.outbox := (rfl)
@[simp] theorem State.updDom_pending (d : Fin 8) (f : DomS → DomS) : (s.updDom d f).pending = s.pending := (rfl)

@[simp] theorem State.updSlot_now (n : Fin 48) (f : SlotS → SlotS) : (s.updSlot n f).now = s.now := (rfl)
@[simp] theorem State.updSlot_free (n : Fin 48) (f : SlotS → SlotS) : (s.updSlot n f).free = s.free := (rfl)
@[simp] theorem State.updSlot_mode (n : Fin 48) (f : SlotS → SlotS) : (s.updSlot n f).mode = s.mode := (rfl)
@[simp] theorem State.updSlot_step (n : Fin 48) (f : SlotS → SlotS) : (s.updSlot n f).step = s.step := (rfl)
@[simp] theorem State.updSlot_wakeStep (n : Fin 48) (f : SlotS → SlotS) : (s.updSlot n f).wakeStep = s.wakeStep := (rfl)
@[simp] theorem State.updSlot_arch (n : Fin 48) (f : SlotS → SlotS) : (s.updSlot n f).arch = s.arch := (rfl)
@[simp] theorem State.updSlot_feeds (n : Fin 48) (f : SlotS → SlotS) : (s.updSlot n f).feeds = s.feeds := (rfl)
@[simp] theorem State.updSlot_ch (n : Fin 48) (f : SlotS → SlotS) : (s.updSlot n f).ch = s.ch := (rfl)
@[simp] theorem State.updSlot_slp (n : Fin 48) (f : SlotS → SlotS) : (s.updSlot n f).slp = s.slp := (rfl)
@[simp] theorem State.updSlot_phases (n : Fin 48) (f : SlotS → SlotS) : (s.updSlot n f).phases = s.phases := (rfl)
@[simp] theorem State.updSlot_rails (n : Fin 48) (f : SlotS → SlotS) : (s.updSlot n f).rails = s.rails := (rfl)
@[simp] theorem State.updSlot_ports (n : Fin 48) (f : SlotS → SlotS) : (s.updSlot n f).ports = s.ports := (rfl)
@[simp] theorem State.updSlot_seq (n : Fin 48) (f : SlotS → SlotS) : (s.updSlot n f).seq = { s.seq with slots := s.seq.slots.upd n f } := (rfl)
@[simp] theorem State.updSlot_watch (n : Fin 48) (f : SlotS → SlotS) : (s.updSlot n f).watch = s.watch := (rfl)
@[simp] theorem State.updSlot_hk (n : Fin 48) (f : SlotS → SlotS) : (s.updSlot n f).hk = s.hk := (rfl)
@[simp] theorem State.updSlot_hold (n : Fin 48) (f : SlotS → SlotS) : (s.updSlot n f).hold = s.hold := (rfl)
@[simp] theorem State.updSlot_carts (n : Fin 48) (f : SlotS → SlotS) : (s.updSlot n f).carts = s.carts := (rfl)
@[simp] theorem State.updSlot_ev (n : Fin 48) (f : SlotS → SlotS) : (s.updSlot n f).ev = s.ev := (rfl)
@[simp] theorem State.updSlot_glb (n : Fin 48) (f : SlotS → SlotS) : (s.updSlot n f).glb = s.glb := (rfl)
@[simp] theorem State.updSlot_pair (n : Fin 48) (f : SlotS → SlotS) : (s.updSlot n f).pair = s.pair := (rfl)
@[simp] theorem State.updSlot_ov (n : Fin 48) (f : SlotS → SlotS) : (s.updSlot n f).ov = s.ov := (rfl)
@[simp] theorem State.updSlot_lg (n : Fin 48) (f : SlotS → SlotS) : (s.updSlot n f).lg = s.lg := (rfl)
@[simp] theorem State.updSlot_hb (n : Fin 48) (f : SlotS → SlotS) : (s.updSlot n f).hb = s.hb := (rfl)
@[simp] theorem State.updSlot_sp (n : Fin 48) (f : SlotS → SlotS) : (s.updSlot n f).sp = s.sp := (rfl)
@[simp] theorem State.updSlot_upd (n : Fin 48) (f : SlotS → SlotS) : (s.updSlot n f).upd = s.upd := (rfl)
@[simp] theorem State.updSlot_outbox (n : Fin 48) (f : SlotS → SlotS) : (s.updSlot n f).outbox = s.outbox := (rfl)
@[simp] theorem State.updSlot_pending (n : Fin 48) (f : SlotS → SlotS) : (s.updSlot n f).pending = s.pending := (rfl)

@[simp] theorem State.updMon_now (m : Fin 96) (f : MonS → MonS) : (s.updMon m f).now = s.now := (rfl)
@[simp] theorem State.updMon_free (m : Fin 96) (f : MonS → MonS) : (s.updMon m f).free = s.free := (rfl)
@[simp] theorem State.updMon_mode (m : Fin 96) (f : MonS → MonS) : (s.updMon m f).mode = s.mode := (rfl)
@[simp] theorem State.updMon_step (m : Fin 96) (f : MonS → MonS) : (s.updMon m f).step = s.step := (rfl)
@[simp] theorem State.updMon_wakeStep (m : Fin 96) (f : MonS → MonS) : (s.updMon m f).wakeStep = s.wakeStep := (rfl)
@[simp] theorem State.updMon_arch (m : Fin 96) (f : MonS → MonS) : (s.updMon m f).arch = s.arch := (rfl)
@[simp] theorem State.updMon_feeds (m : Fin 96) (f : MonS → MonS) : (s.updMon m f).feeds = s.feeds := (rfl)
@[simp] theorem State.updMon_ch (m : Fin 96) (f : MonS → MonS) : (s.updMon m f).ch = s.ch := (rfl)
@[simp] theorem State.updMon_slp (m : Fin 96) (f : MonS → MonS) : (s.updMon m f).slp = s.slp := (rfl)
@[simp] theorem State.updMon_phases (m : Fin 96) (f : MonS → MonS) : (s.updMon m f).phases = s.phases := (rfl)
@[simp] theorem State.updMon_rails (m : Fin 96) (f : MonS → MonS) : (s.updMon m f).rails = s.rails := (rfl)
@[simp] theorem State.updMon_ports (m : Fin 96) (f : MonS → MonS) : (s.updMon m f).ports = s.ports := (rfl)
@[simp] theorem State.updMon_seq (m : Fin 96) (f : MonS → MonS) : (s.updMon m f).seq = s.seq := (rfl)
@[simp] theorem State.updMon_watch (m : Fin 96) (f : MonS → MonS) : (s.updMon m f).watch = { s.watch with mons := s.watch.mons.upd m f } := (rfl)
@[simp] theorem State.updMon_hk (m : Fin 96) (f : MonS → MonS) : (s.updMon m f).hk = s.hk := (rfl)
@[simp] theorem State.updMon_hold (m : Fin 96) (f : MonS → MonS) : (s.updMon m f).hold = s.hold := (rfl)
@[simp] theorem State.updMon_carts (m : Fin 96) (f : MonS → MonS) : (s.updMon m f).carts = s.carts := (rfl)
@[simp] theorem State.updMon_ev (m : Fin 96) (f : MonS → MonS) : (s.updMon m f).ev = s.ev := (rfl)
@[simp] theorem State.updMon_glb (m : Fin 96) (f : MonS → MonS) : (s.updMon m f).glb = s.glb := (rfl)
@[simp] theorem State.updMon_pair (m : Fin 96) (f : MonS → MonS) : (s.updMon m f).pair = s.pair := (rfl)
@[simp] theorem State.updMon_ov (m : Fin 96) (f : MonS → MonS) : (s.updMon m f).ov = s.ov := (rfl)
@[simp] theorem State.updMon_lg (m : Fin 96) (f : MonS → MonS) : (s.updMon m f).lg = s.lg := (rfl)
@[simp] theorem State.updMon_hb (m : Fin 96) (f : MonS → MonS) : (s.updMon m f).hb = s.hb := (rfl)
@[simp] theorem State.updMon_sp (m : Fin 96) (f : MonS → MonS) : (s.updMon m f).sp = s.sp := (rfl)
@[simp] theorem State.updMon_upd (m : Fin 96) (f : MonS → MonS) : (s.updMon m f).upd = s.upd := (rfl)
@[simp] theorem State.updMon_outbox (m : Fin 96) (f : MonS → MonS) : (s.updMon m f).outbox = s.outbox := (rfl)
@[simp] theorem State.updMon_pending (m : Fin 96) (f : MonS → MonS) : (s.updMon m f).pending = s.pending := (rfl)

@[simp] theorem State.updCt_now (t : Fin 16) (f : CtS → CtS) : (s.updCt t f).now = s.now := (rfl)
@[simp] theorem State.updCt_free (t : Fin 16) (f : CtS → CtS) : (s.updCt t f).free = s.free := (rfl)
@[simp] theorem State.updCt_mode (t : Fin 16) (f : CtS → CtS) : (s.updCt t f).mode = s.mode := (rfl)
@[simp] theorem State.updCt_step (t : Fin 16) (f : CtS → CtS) : (s.updCt t f).step = s.step := (rfl)
@[simp] theorem State.updCt_wakeStep (t : Fin 16) (f : CtS → CtS) : (s.updCt t f).wakeStep = s.wakeStep := (rfl)
@[simp] theorem State.updCt_arch (t : Fin 16) (f : CtS → CtS) : (s.updCt t f).arch = s.arch := (rfl)
@[simp] theorem State.updCt_feeds (t : Fin 16) (f : CtS → CtS) : (s.updCt t f).feeds = s.feeds := (rfl)
@[simp] theorem State.updCt_ch (t : Fin 16) (f : CtS → CtS) : (s.updCt t f).ch = s.ch := (rfl)
@[simp] theorem State.updCt_slp (t : Fin 16) (f : CtS → CtS) : (s.updCt t f).slp = s.slp := (rfl)
@[simp] theorem State.updCt_phases (t : Fin 16) (f : CtS → CtS) : (s.updCt t f).phases = s.phases := (rfl)
@[simp] theorem State.updCt_rails (t : Fin 16) (f : CtS → CtS) : (s.updCt t f).rails = s.rails := (rfl)
@[simp] theorem State.updCt_ports (t : Fin 16) (f : CtS → CtS) : (s.updCt t f).ports = s.ports := (rfl)
@[simp] theorem State.updCt_seq (t : Fin 16) (f : CtS → CtS) : (s.updCt t f).seq = s.seq := (rfl)
@[simp] theorem State.updCt_watch (t : Fin 16) (f : CtS → CtS) : (s.updCt t f).watch = { s.watch with cts := s.watch.cts.upd t f } := (rfl)
@[simp] theorem State.updCt_hk (t : Fin 16) (f : CtS → CtS) : (s.updCt t f).hk = s.hk := (rfl)
@[simp] theorem State.updCt_hold (t : Fin 16) (f : CtS → CtS) : (s.updCt t f).hold = s.hold := (rfl)
@[simp] theorem State.updCt_carts (t : Fin 16) (f : CtS → CtS) : (s.updCt t f).carts = s.carts := (rfl)
@[simp] theorem State.updCt_ev (t : Fin 16) (f : CtS → CtS) : (s.updCt t f).ev = s.ev := (rfl)
@[simp] theorem State.updCt_glb (t : Fin 16) (f : CtS → CtS) : (s.updCt t f).glb = s.glb := (rfl)
@[simp] theorem State.updCt_pair (t : Fin 16) (f : CtS → CtS) : (s.updCt t f).pair = s.pair := (rfl)
@[simp] theorem State.updCt_ov (t : Fin 16) (f : CtS → CtS) : (s.updCt t f).ov = s.ov := (rfl)
@[simp] theorem State.updCt_lg (t : Fin 16) (f : CtS → CtS) : (s.updCt t f).lg = s.lg := (rfl)
@[simp] theorem State.updCt_hb (t : Fin 16) (f : CtS → CtS) : (s.updCt t f).hb = s.hb := (rfl)
@[simp] theorem State.updCt_sp (t : Fin 16) (f : CtS → CtS) : (s.updCt t f).sp = s.sp := (rfl)
@[simp] theorem State.updCt_upd (t : Fin 16) (f : CtS → CtS) : (s.updCt t f).upd = s.upd := (rfl)
@[simp] theorem State.updCt_outbox (t : Fin 16) (f : CtS → CtS) : (s.updCt t f).outbox = s.outbox := (rfl)
@[simp] theorem State.updCt_pending (t : Fin 16) (f : CtS → CtS) : (s.updCt t f).pending = s.pending := (rfl)

@[simp] theorem State.updCart_now (c : Fin 16) (f : CartS → CartS) : (s.updCart c f).now = s.now := (rfl)
@[simp] theorem State.updCart_free (c : Fin 16) (f : CartS → CartS) : (s.updCart c f).free = s.free := (rfl)
@[simp] theorem State.updCart_mode (c : Fin 16) (f : CartS → CartS) : (s.updCart c f).mode = s.mode := (rfl)
@[simp] theorem State.updCart_step (c : Fin 16) (f : CartS → CartS) : (s.updCart c f).step = s.step := (rfl)
@[simp] theorem State.updCart_wakeStep (c : Fin 16) (f : CartS → CartS) : (s.updCart c f).wakeStep = s.wakeStep := (rfl)
@[simp] theorem State.updCart_arch (c : Fin 16) (f : CartS → CartS) : (s.updCart c f).arch = s.arch := (rfl)
@[simp] theorem State.updCart_feeds (c : Fin 16) (f : CartS → CartS) : (s.updCart c f).feeds = s.feeds := (rfl)
@[simp] theorem State.updCart_ch (c : Fin 16) (f : CartS → CartS) : (s.updCart c f).ch = s.ch := (rfl)
@[simp] theorem State.updCart_slp (c : Fin 16) (f : CartS → CartS) : (s.updCart c f).slp = s.slp := (rfl)
@[simp] theorem State.updCart_phases (c : Fin 16) (f : CartS → CartS) : (s.updCart c f).phases = s.phases := (rfl)
@[simp] theorem State.updCart_rails (c : Fin 16) (f : CartS → CartS) : (s.updCart c f).rails = s.rails := (rfl)
@[simp] theorem State.updCart_ports (c : Fin 16) (f : CartS → CartS) : (s.updCart c f).ports = s.ports := (rfl)
@[simp] theorem State.updCart_seq (c : Fin 16) (f : CartS → CartS) : (s.updCart c f).seq = s.seq := (rfl)
@[simp] theorem State.updCart_watch (c : Fin 16) (f : CartS → CartS) : (s.updCart c f).watch = s.watch := (rfl)
@[simp] theorem State.updCart_hk (c : Fin 16) (f : CartS → CartS) : (s.updCart c f).hk = s.hk := (rfl)
@[simp] theorem State.updCart_hold (c : Fin 16) (f : CartS → CartS) : (s.updCart c f).hold = s.hold := (rfl)
@[simp] theorem State.updCart_carts (c : Fin 16) (f : CartS → CartS) : (s.updCart c f).carts = { s.carts with carts := s.carts.carts.upd c f } := (rfl)
@[simp] theorem State.updCart_ev (c : Fin 16) (f : CartS → CartS) : (s.updCart c f).ev = s.ev := (rfl)
@[simp] theorem State.updCart_glb (c : Fin 16) (f : CartS → CartS) : (s.updCart c f).glb = s.glb := (rfl)
@[simp] theorem State.updCart_pair (c : Fin 16) (f : CartS → CartS) : (s.updCart c f).pair = s.pair := (rfl)
@[simp] theorem State.updCart_ov (c : Fin 16) (f : CartS → CartS) : (s.updCart c f).ov = s.ov := (rfl)
@[simp] theorem State.updCart_lg (c : Fin 16) (f : CartS → CartS) : (s.updCart c f).lg = s.lg := (rfl)
@[simp] theorem State.updCart_hb (c : Fin 16) (f : CartS → CartS) : (s.updCart c f).hb = s.hb := (rfl)
@[simp] theorem State.updCart_sp (c : Fin 16) (f : CartS → CartS) : (s.updCart c f).sp = s.sp := (rfl)
@[simp] theorem State.updCart_upd (c : Fin 16) (f : CartS → CartS) : (s.updCart c f).upd = s.upd := (rfl)
@[simp] theorem State.updCart_outbox (c : Fin 16) (f : CartS → CartS) : (s.updCart c f).outbox = s.outbox := (rfl)
@[simp] theorem State.updCart_pending (c : Fin 16) (f : CartS → CartS) : (s.updCart c f).pending = s.pending := (rfl)

@[simp] theorem State.updOvPort_now (k : Fin 6) (f : OvPort → OvPort) : (s.updOvPort k f).now = s.now := (rfl)
@[simp] theorem State.updOvPort_free (k : Fin 6) (f : OvPort → OvPort) : (s.updOvPort k f).free = s.free := (rfl)
@[simp] theorem State.updOvPort_mode (k : Fin 6) (f : OvPort → OvPort) : (s.updOvPort k f).mode = s.mode := (rfl)
@[simp] theorem State.updOvPort_step (k : Fin 6) (f : OvPort → OvPort) : (s.updOvPort k f).step = s.step := (rfl)
@[simp] theorem State.updOvPort_wakeStep (k : Fin 6) (f : OvPort → OvPort) : (s.updOvPort k f).wakeStep = s.wakeStep := (rfl)
@[simp] theorem State.updOvPort_arch (k : Fin 6) (f : OvPort → OvPort) : (s.updOvPort k f).arch = s.arch := (rfl)
@[simp] theorem State.updOvPort_feeds (k : Fin 6) (f : OvPort → OvPort) : (s.updOvPort k f).feeds = s.feeds := (rfl)
@[simp] theorem State.updOvPort_ch (k : Fin 6) (f : OvPort → OvPort) : (s.updOvPort k f).ch = s.ch := (rfl)
@[simp] theorem State.updOvPort_slp (k : Fin 6) (f : OvPort → OvPort) : (s.updOvPort k f).slp = s.slp := (rfl)
@[simp] theorem State.updOvPort_phases (k : Fin 6) (f : OvPort → OvPort) : (s.updOvPort k f).phases = s.phases := (rfl)
@[simp] theorem State.updOvPort_rails (k : Fin 6) (f : OvPort → OvPort) : (s.updOvPort k f).rails = s.rails := (rfl)
@[simp] theorem State.updOvPort_ports (k : Fin 6) (f : OvPort → OvPort) : (s.updOvPort k f).ports = s.ports := (rfl)
@[simp] theorem State.updOvPort_seq (k : Fin 6) (f : OvPort → OvPort) : (s.updOvPort k f).seq = s.seq := (rfl)
@[simp] theorem State.updOvPort_watch (k : Fin 6) (f : OvPort → OvPort) : (s.updOvPort k f).watch = s.watch := (rfl)
@[simp] theorem State.updOvPort_hk (k : Fin 6) (f : OvPort → OvPort) : (s.updOvPort k f).hk = s.hk := (rfl)
@[simp] theorem State.updOvPort_hold (k : Fin 6) (f : OvPort → OvPort) : (s.updOvPort k f).hold = s.hold := (rfl)
@[simp] theorem State.updOvPort_carts (k : Fin 6) (f : OvPort → OvPort) : (s.updOvPort k f).carts = s.carts := (rfl)
@[simp] theorem State.updOvPort_ev (k : Fin 6) (f : OvPort → OvPort) : (s.updOvPort k f).ev = s.ev := (rfl)
@[simp] theorem State.updOvPort_glb (k : Fin 6) (f : OvPort → OvPort) : (s.updOvPort k f).glb = s.glb := (rfl)
@[simp] theorem State.updOvPort_pair (k : Fin 6) (f : OvPort → OvPort) : (s.updOvPort k f).pair = s.pair := (rfl)
@[simp] theorem State.updOvPort_ov (k : Fin 6) (f : OvPort → OvPort) : (s.updOvPort k f).ov = { s.ov with ports := s.ov.ports.upd k f } := (rfl)
@[simp] theorem State.updOvPort_lg (k : Fin 6) (f : OvPort → OvPort) : (s.updOvPort k f).lg = s.lg := (rfl)
@[simp] theorem State.updOvPort_hb (k : Fin 6) (f : OvPort → OvPort) : (s.updOvPort k f).hb = s.hb := (rfl)
@[simp] theorem State.updOvPort_sp (k : Fin 6) (f : OvPort → OvPort) : (s.updOvPort k f).sp = s.sp := (rfl)
@[simp] theorem State.updOvPort_upd (k : Fin 6) (f : OvPort → OvPort) : (s.updOvPort k f).upd = s.upd := (rfl)
@[simp] theorem State.updOvPort_outbox (k : Fin 6) (f : OvPort → OvPort) : (s.updOvPort k f).outbox = s.outbox := (rfl)
@[simp] theorem State.updOvPort_pending (k : Fin 6) (f : OvPort → OvPort) : (s.updOvPort k f).pending = s.pending := (rfl)

@[simp] theorem State.updFeed_now (i : Fin 2) (f : Feed → Feed) : (s.updFeed i f).now = s.now := (rfl)
@[simp] theorem State.updFeed_free (i : Fin 2) (f : Feed → Feed) : (s.updFeed i f).free = s.free := (rfl)
@[simp] theorem State.updFeed_mode (i : Fin 2) (f : Feed → Feed) : (s.updFeed i f).mode = s.mode := (rfl)
@[simp] theorem State.updFeed_step (i : Fin 2) (f : Feed → Feed) : (s.updFeed i f).step = s.step := (rfl)
@[simp] theorem State.updFeed_wakeStep (i : Fin 2) (f : Feed → Feed) : (s.updFeed i f).wakeStep = s.wakeStep := (rfl)
@[simp] theorem State.updFeed_arch (i : Fin 2) (f : Feed → Feed) : (s.updFeed i f).arch = s.arch := (rfl)
@[simp] theorem State.updFeed_feeds (i : Fin 2) (f : Feed → Feed) : (s.updFeed i f).feeds = s.feeds.upd i f := (rfl)
@[simp] theorem State.updFeed_ch (i : Fin 2) (f : Feed → Feed) : (s.updFeed i f).ch = s.ch := (rfl)
@[simp] theorem State.updFeed_slp (i : Fin 2) (f : Feed → Feed) : (s.updFeed i f).slp = s.slp := (rfl)
@[simp] theorem State.updFeed_phases (i : Fin 2) (f : Feed → Feed) : (s.updFeed i f).phases = s.phases := (rfl)
@[simp] theorem State.updFeed_rails (i : Fin 2) (f : Feed → Feed) : (s.updFeed i f).rails = s.rails := (rfl)
@[simp] theorem State.updFeed_ports (i : Fin 2) (f : Feed → Feed) : (s.updFeed i f).ports = s.ports := (rfl)
@[simp] theorem State.updFeed_seq (i : Fin 2) (f : Feed → Feed) : (s.updFeed i f).seq = s.seq := (rfl)
@[simp] theorem State.updFeed_watch (i : Fin 2) (f : Feed → Feed) : (s.updFeed i f).watch = s.watch := (rfl)
@[simp] theorem State.updFeed_hk (i : Fin 2) (f : Feed → Feed) : (s.updFeed i f).hk = s.hk := (rfl)
@[simp] theorem State.updFeed_hold (i : Fin 2) (f : Feed → Feed) : (s.updFeed i f).hold = s.hold := (rfl)
@[simp] theorem State.updFeed_carts (i : Fin 2) (f : Feed → Feed) : (s.updFeed i f).carts = s.carts := (rfl)
@[simp] theorem State.updFeed_ev (i : Fin 2) (f : Feed → Feed) : (s.updFeed i f).ev = s.ev := (rfl)
@[simp] theorem State.updFeed_glb (i : Fin 2) (f : Feed → Feed) : (s.updFeed i f).glb = s.glb := (rfl)
@[simp] theorem State.updFeed_pair (i : Fin 2) (f : Feed → Feed) : (s.updFeed i f).pair = s.pair := (rfl)
@[simp] theorem State.updFeed_ov (i : Fin 2) (f : Feed → Feed) : (s.updFeed i f).ov = s.ov := (rfl)
@[simp] theorem State.updFeed_lg (i : Fin 2) (f : Feed → Feed) : (s.updFeed i f).lg = s.lg := (rfl)
@[simp] theorem State.updFeed_hb (i : Fin 2) (f : Feed → Feed) : (s.updFeed i f).hb = s.hb := (rfl)
@[simp] theorem State.updFeed_sp (i : Fin 2) (f : Feed → Feed) : (s.updFeed i f).sp = s.sp := (rfl)
@[simp] theorem State.updFeed_upd (i : Fin 2) (f : Feed → Feed) : (s.updFeed i f).upd = s.upd := (rfl)
@[simp] theorem State.updFeed_outbox (i : Fin 2) (f : Feed → Feed) : (s.updFeed i f).outbox = s.outbox := (rfl)
@[simp] theorem State.updFeed_pending (i : Fin 2) (f : Feed → Feed) : (s.updFeed i f).pending = s.pending := (rfl)

@[simp] theorem State.updSrc_now (n : Fin 192) (f : EvSource → EvSource) : (s.updSrc n f).now = s.now := (rfl)
@[simp] theorem State.updSrc_free (n : Fin 192) (f : EvSource → EvSource) : (s.updSrc n f).free = s.free := (rfl)
@[simp] theorem State.updSrc_mode (n : Fin 192) (f : EvSource → EvSource) : (s.updSrc n f).mode = s.mode := (rfl)
@[simp] theorem State.updSrc_step (n : Fin 192) (f : EvSource → EvSource) : (s.updSrc n f).step = s.step := (rfl)
@[simp] theorem State.updSrc_wakeStep (n : Fin 192) (f : EvSource → EvSource) : (s.updSrc n f).wakeStep = s.wakeStep := (rfl)
@[simp] theorem State.updSrc_arch (n : Fin 192) (f : EvSource → EvSource) : (s.updSrc n f).arch = s.arch := (rfl)
@[simp] theorem State.updSrc_feeds (n : Fin 192) (f : EvSource → EvSource) : (s.updSrc n f).feeds = s.feeds := (rfl)
@[simp] theorem State.updSrc_ch (n : Fin 192) (f : EvSource → EvSource) : (s.updSrc n f).ch = s.ch := (rfl)
@[simp] theorem State.updSrc_slp (n : Fin 192) (f : EvSource → EvSource) : (s.updSrc n f).slp = s.slp := (rfl)
@[simp] theorem State.updSrc_phases (n : Fin 192) (f : EvSource → EvSource) : (s.updSrc n f).phases = s.phases := (rfl)
@[simp] theorem State.updSrc_rails (n : Fin 192) (f : EvSource → EvSource) : (s.updSrc n f).rails = s.rails := (rfl)
@[simp] theorem State.updSrc_ports (n : Fin 192) (f : EvSource → EvSource) : (s.updSrc n f).ports = s.ports := (rfl)
@[simp] theorem State.updSrc_seq (n : Fin 192) (f : EvSource → EvSource) : (s.updSrc n f).seq = s.seq := (rfl)
@[simp] theorem State.updSrc_watch (n : Fin 192) (f : EvSource → EvSource) : (s.updSrc n f).watch = s.watch := (rfl)
@[simp] theorem State.updSrc_hk (n : Fin 192) (f : EvSource → EvSource) : (s.updSrc n f).hk = s.hk := (rfl)
@[simp] theorem State.updSrc_hold (n : Fin 192) (f : EvSource → EvSource) : (s.updSrc n f).hold = s.hold := (rfl)
@[simp] theorem State.updSrc_carts (n : Fin 192) (f : EvSource → EvSource) : (s.updSrc n f).carts = s.carts := (rfl)
@[simp] theorem State.updSrc_ev (n : Fin 192) (f : EvSource → EvSource) : (s.updSrc n f).ev = { s.ev with src := s.ev.src.upd n f } := (rfl)
@[simp] theorem State.updSrc_glb (n : Fin 192) (f : EvSource → EvSource) : (s.updSrc n f).glb = s.glb := (rfl)
@[simp] theorem State.updSrc_pair (n : Fin 192) (f : EvSource → EvSource) : (s.updSrc n f).pair = s.pair := (rfl)
@[simp] theorem State.updSrc_ov (n : Fin 192) (f : EvSource → EvSource) : (s.updSrc n f).ov = s.ov := (rfl)
@[simp] theorem State.updSrc_lg (n : Fin 192) (f : EvSource → EvSource) : (s.updSrc n f).lg = s.lg := (rfl)
@[simp] theorem State.updSrc_hb (n : Fin 192) (f : EvSource → EvSource) : (s.updSrc n f).hb = s.hb := (rfl)
@[simp] theorem State.updSrc_sp (n : Fin 192) (f : EvSource → EvSource) : (s.updSrc n f).sp = s.sp := (rfl)
@[simp] theorem State.updSrc_upd (n : Fin 192) (f : EvSource → EvSource) : (s.updSrc n f).upd = s.upd := (rfl)
@[simp] theorem State.updSrc_outbox (n : Fin 192) (f : EvSource → EvSource) : (s.updSrc n f).outbox = s.outbox := (rfl)
@[simp] theorem State.updSrc_pending (n : Fin 192) (f : EvSource → EvSource) : (s.updSrc n f).pending = s.pending := (rfl)

@[simp] theorem State.updArch_now (f : ArchS → ArchS) : (s.updArch f).now = s.now := (rfl)
@[simp] theorem State.updArch_free (f : ArchS → ArchS) : (s.updArch f).free = s.free := (rfl)
@[simp] theorem State.updArch_mode (f : ArchS → ArchS) : (s.updArch f).mode = s.mode := (rfl)
@[simp] theorem State.updArch_step (f : ArchS → ArchS) : (s.updArch f).step = s.step := (rfl)
@[simp] theorem State.updArch_wakeStep (f : ArchS → ArchS) : (s.updArch f).wakeStep = s.wakeStep := (rfl)
@[simp] theorem State.updArch_arch (f : ArchS → ArchS) : (s.updArch f).arch = f s.arch := (rfl)
@[simp] theorem State.updArch_feeds (f : ArchS → ArchS) : (s.updArch f).feeds = s.feeds := (rfl)
@[simp] theorem State.updArch_ch (f : ArchS → ArchS) : (s.updArch f).ch = s.ch := (rfl)
@[simp] theorem State.updArch_slp (f : ArchS → ArchS) : (s.updArch f).slp = s.slp := (rfl)
@[simp] theorem State.updArch_phases (f : ArchS → ArchS) : (s.updArch f).phases = s.phases := (rfl)
@[simp] theorem State.updArch_rails (f : ArchS → ArchS) : (s.updArch f).rails = s.rails := (rfl)
@[simp] theorem State.updArch_ports (f : ArchS → ArchS) : (s.updArch f).ports = s.ports := (rfl)
@[simp] theorem State.updArch_seq (f : ArchS → ArchS) : (s.updArch f).seq = s.seq := (rfl)
@[simp] theorem State.updArch_watch (f : ArchS → ArchS) : (s.updArch f).watch = s.watch := (rfl)
@[simp] theorem State.updArch_hk (f : ArchS → ArchS) : (s.updArch f).hk = s.hk := (rfl)
@[simp] theorem State.updArch_hold (f : ArchS → ArchS) : (s.updArch f).hold = s.hold := (rfl)
@[simp] theorem State.updArch_carts (f : ArchS → ArchS) : (s.updArch f).carts = s.carts := (rfl)
@[simp] theorem State.updArch_ev (f : ArchS → ArchS) : (s.updArch f).ev = s.ev := (rfl)
@[simp] theorem State.updArch_glb (f : ArchS → ArchS) : (s.updArch f).glb = s.glb := (rfl)
@[simp] theorem State.updArch_pair (f : ArchS → ArchS) : (s.updArch f).pair = s.pair := (rfl)
@[simp] theorem State.updArch_ov (f : ArchS → ArchS) : (s.updArch f).ov = s.ov := (rfl)
@[simp] theorem State.updArch_lg (f : ArchS → ArchS) : (s.updArch f).lg = s.lg := (rfl)
@[simp] theorem State.updArch_hb (f : ArchS → ArchS) : (s.updArch f).hb = s.hb := (rfl)
@[simp] theorem State.updArch_sp (f : ArchS → ArchS) : (s.updArch f).sp = s.sp := (rfl)
@[simp] theorem State.updArch_upd (f : ArchS → ArchS) : (s.updArch f).upd = s.upd := (rfl)
@[simp] theorem State.updArch_outbox (f : ArchS → ArchS) : (s.updArch f).outbox = s.outbox := (rfl)
@[simp] theorem State.updArch_pending (f : ArchS → ArchS) : (s.updArch f).pending = s.pending := (rfl)

@[simp] theorem State.updCh_now (f : ChandlerS → ChandlerS) : (s.updCh f).now = s.now := (rfl)
@[simp] theorem State.updCh_free (f : ChandlerS → ChandlerS) : (s.updCh f).free = s.free := (rfl)
@[simp] theorem State.updCh_mode (f : ChandlerS → ChandlerS) : (s.updCh f).mode = s.mode := (rfl)
@[simp] theorem State.updCh_step (f : ChandlerS → ChandlerS) : (s.updCh f).step = s.step := (rfl)
@[simp] theorem State.updCh_wakeStep (f : ChandlerS → ChandlerS) : (s.updCh f).wakeStep = s.wakeStep := (rfl)
@[simp] theorem State.updCh_arch (f : ChandlerS → ChandlerS) : (s.updCh f).arch = s.arch := (rfl)
@[simp] theorem State.updCh_feeds (f : ChandlerS → ChandlerS) : (s.updCh f).feeds = s.feeds := (rfl)
@[simp] theorem State.updCh_ch (f : ChandlerS → ChandlerS) : (s.updCh f).ch = f s.ch := (rfl)
@[simp] theorem State.updCh_slp (f : ChandlerS → ChandlerS) : (s.updCh f).slp = s.slp := (rfl)
@[simp] theorem State.updCh_phases (f : ChandlerS → ChandlerS) : (s.updCh f).phases = s.phases := (rfl)
@[simp] theorem State.updCh_rails (f : ChandlerS → ChandlerS) : (s.updCh f).rails = s.rails := (rfl)
@[simp] theorem State.updCh_ports (f : ChandlerS → ChandlerS) : (s.updCh f).ports = s.ports := (rfl)
@[simp] theorem State.updCh_seq (f : ChandlerS → ChandlerS) : (s.updCh f).seq = s.seq := (rfl)
@[simp] theorem State.updCh_watch (f : ChandlerS → ChandlerS) : (s.updCh f).watch = s.watch := (rfl)
@[simp] theorem State.updCh_hk (f : ChandlerS → ChandlerS) : (s.updCh f).hk = s.hk := (rfl)
@[simp] theorem State.updCh_hold (f : ChandlerS → ChandlerS) : (s.updCh f).hold = s.hold := (rfl)
@[simp] theorem State.updCh_carts (f : ChandlerS → ChandlerS) : (s.updCh f).carts = s.carts := (rfl)
@[simp] theorem State.updCh_ev (f : ChandlerS → ChandlerS) : (s.updCh f).ev = s.ev := (rfl)
@[simp] theorem State.updCh_glb (f : ChandlerS → ChandlerS) : (s.updCh f).glb = s.glb := (rfl)
@[simp] theorem State.updCh_pair (f : ChandlerS → ChandlerS) : (s.updCh f).pair = s.pair := (rfl)
@[simp] theorem State.updCh_ov (f : ChandlerS → ChandlerS) : (s.updCh f).ov = s.ov := (rfl)
@[simp] theorem State.updCh_lg (f : ChandlerS → ChandlerS) : (s.updCh f).lg = s.lg := (rfl)
@[simp] theorem State.updCh_hb (f : ChandlerS → ChandlerS) : (s.updCh f).hb = s.hb := (rfl)
@[simp] theorem State.updCh_sp (f : ChandlerS → ChandlerS) : (s.updCh f).sp = s.sp := (rfl)
@[simp] theorem State.updCh_upd (f : ChandlerS → ChandlerS) : (s.updCh f).upd = s.upd := (rfl)
@[simp] theorem State.updCh_outbox (f : ChandlerS → ChandlerS) : (s.updCh f).outbox = s.outbox := (rfl)
@[simp] theorem State.updCh_pending (f : ChandlerS → ChandlerS) : (s.updCh f).pending = s.pending := (rfl)

@[simp] theorem State.updSlp_now (f : SleepS → SleepS) : (s.updSlp f).now = s.now := (rfl)
@[simp] theorem State.updSlp_free (f : SleepS → SleepS) : (s.updSlp f).free = s.free := (rfl)
@[simp] theorem State.updSlp_mode (f : SleepS → SleepS) : (s.updSlp f).mode = s.mode := (rfl)
@[simp] theorem State.updSlp_step (f : SleepS → SleepS) : (s.updSlp f).step = s.step := (rfl)
@[simp] theorem State.updSlp_wakeStep (f : SleepS → SleepS) : (s.updSlp f).wakeStep = s.wakeStep := (rfl)
@[simp] theorem State.updSlp_arch (f : SleepS → SleepS) : (s.updSlp f).arch = s.arch := (rfl)
@[simp] theorem State.updSlp_feeds (f : SleepS → SleepS) : (s.updSlp f).feeds = s.feeds := (rfl)
@[simp] theorem State.updSlp_ch (f : SleepS → SleepS) : (s.updSlp f).ch = s.ch := (rfl)
@[simp] theorem State.updSlp_slp (f : SleepS → SleepS) : (s.updSlp f).slp = f s.slp := (rfl)
@[simp] theorem State.updSlp_phases (f : SleepS → SleepS) : (s.updSlp f).phases = s.phases := (rfl)
@[simp] theorem State.updSlp_rails (f : SleepS → SleepS) : (s.updSlp f).rails = s.rails := (rfl)
@[simp] theorem State.updSlp_ports (f : SleepS → SleepS) : (s.updSlp f).ports = s.ports := (rfl)
@[simp] theorem State.updSlp_seq (f : SleepS → SleepS) : (s.updSlp f).seq = s.seq := (rfl)
@[simp] theorem State.updSlp_watch (f : SleepS → SleepS) : (s.updSlp f).watch = s.watch := (rfl)
@[simp] theorem State.updSlp_hk (f : SleepS → SleepS) : (s.updSlp f).hk = s.hk := (rfl)
@[simp] theorem State.updSlp_hold (f : SleepS → SleepS) : (s.updSlp f).hold = s.hold := (rfl)
@[simp] theorem State.updSlp_carts (f : SleepS → SleepS) : (s.updSlp f).carts = s.carts := (rfl)
@[simp] theorem State.updSlp_ev (f : SleepS → SleepS) : (s.updSlp f).ev = s.ev := (rfl)
@[simp] theorem State.updSlp_glb (f : SleepS → SleepS) : (s.updSlp f).glb = s.glb := (rfl)
@[simp] theorem State.updSlp_pair (f : SleepS → SleepS) : (s.updSlp f).pair = s.pair := (rfl)
@[simp] theorem State.updSlp_ov (f : SleepS → SleepS) : (s.updSlp f).ov = s.ov := (rfl)
@[simp] theorem State.updSlp_lg (f : SleepS → SleepS) : (s.updSlp f).lg = s.lg := (rfl)
@[simp] theorem State.updSlp_hb (f : SleepS → SleepS) : (s.updSlp f).hb = s.hb := (rfl)
@[simp] theorem State.updSlp_sp (f : SleepS → SleepS) : (s.updSlp f).sp = s.sp := (rfl)
@[simp] theorem State.updSlp_upd (f : SleepS → SleepS) : (s.updSlp f).upd = s.upd := (rfl)
@[simp] theorem State.updSlp_outbox (f : SleepS → SleepS) : (s.updSlp f).outbox = s.outbox := (rfl)
@[simp] theorem State.updSlp_pending (f : SleepS → SleepS) : (s.updSlp f).pending = s.pending := (rfl)

@[simp] theorem State.updWatch_now (f : WatchS → WatchS) : (s.updWatch f).now = s.now := (rfl)
@[simp] theorem State.updWatch_free (f : WatchS → WatchS) : (s.updWatch f).free = s.free := (rfl)
@[simp] theorem State.updWatch_mode (f : WatchS → WatchS) : (s.updWatch f).mode = s.mode := (rfl)
@[simp] theorem State.updWatch_step (f : WatchS → WatchS) : (s.updWatch f).step = s.step := (rfl)
@[simp] theorem State.updWatch_wakeStep (f : WatchS → WatchS) : (s.updWatch f).wakeStep = s.wakeStep := (rfl)
@[simp] theorem State.updWatch_arch (f : WatchS → WatchS) : (s.updWatch f).arch = s.arch := (rfl)
@[simp] theorem State.updWatch_feeds (f : WatchS → WatchS) : (s.updWatch f).feeds = s.feeds := (rfl)
@[simp] theorem State.updWatch_ch (f : WatchS → WatchS) : (s.updWatch f).ch = s.ch := (rfl)
@[simp] theorem State.updWatch_slp (f : WatchS → WatchS) : (s.updWatch f).slp = s.slp := (rfl)
@[simp] theorem State.updWatch_phases (f : WatchS → WatchS) : (s.updWatch f).phases = s.phases := (rfl)
@[simp] theorem State.updWatch_rails (f : WatchS → WatchS) : (s.updWatch f).rails = s.rails := (rfl)
@[simp] theorem State.updWatch_ports (f : WatchS → WatchS) : (s.updWatch f).ports = s.ports := (rfl)
@[simp] theorem State.updWatch_seq (f : WatchS → WatchS) : (s.updWatch f).seq = s.seq := (rfl)
@[simp] theorem State.updWatch_watch (f : WatchS → WatchS) : (s.updWatch f).watch = f s.watch := (rfl)
@[simp] theorem State.updWatch_hk (f : WatchS → WatchS) : (s.updWatch f).hk = s.hk := (rfl)
@[simp] theorem State.updWatch_hold (f : WatchS → WatchS) : (s.updWatch f).hold = s.hold := (rfl)
@[simp] theorem State.updWatch_carts (f : WatchS → WatchS) : (s.updWatch f).carts = s.carts := (rfl)
@[simp] theorem State.updWatch_ev (f : WatchS → WatchS) : (s.updWatch f).ev = s.ev := (rfl)
@[simp] theorem State.updWatch_glb (f : WatchS → WatchS) : (s.updWatch f).glb = s.glb := (rfl)
@[simp] theorem State.updWatch_pair (f : WatchS → WatchS) : (s.updWatch f).pair = s.pair := (rfl)
@[simp] theorem State.updWatch_ov (f : WatchS → WatchS) : (s.updWatch f).ov = s.ov := (rfl)
@[simp] theorem State.updWatch_lg (f : WatchS → WatchS) : (s.updWatch f).lg = s.lg := (rfl)
@[simp] theorem State.updWatch_hb (f : WatchS → WatchS) : (s.updWatch f).hb = s.hb := (rfl)
@[simp] theorem State.updWatch_sp (f : WatchS → WatchS) : (s.updWatch f).sp = s.sp := (rfl)
@[simp] theorem State.updWatch_upd (f : WatchS → WatchS) : (s.updWatch f).upd = s.upd := (rfl)
@[simp] theorem State.updWatch_outbox (f : WatchS → WatchS) : (s.updWatch f).outbox = s.outbox := (rfl)
@[simp] theorem State.updWatch_pending (f : WatchS → WatchS) : (s.updWatch f).pending = s.pending := (rfl)

@[simp] theorem State.updHk_now (f : HkS → HkS) : (s.updHk f).now = s.now := (rfl)
@[simp] theorem State.updHk_free (f : HkS → HkS) : (s.updHk f).free = s.free := (rfl)
@[simp] theorem State.updHk_mode (f : HkS → HkS) : (s.updHk f).mode = s.mode := (rfl)
@[simp] theorem State.updHk_step (f : HkS → HkS) : (s.updHk f).step = s.step := (rfl)
@[simp] theorem State.updHk_wakeStep (f : HkS → HkS) : (s.updHk f).wakeStep = s.wakeStep := (rfl)
@[simp] theorem State.updHk_arch (f : HkS → HkS) : (s.updHk f).arch = s.arch := (rfl)
@[simp] theorem State.updHk_feeds (f : HkS → HkS) : (s.updHk f).feeds = s.feeds := (rfl)
@[simp] theorem State.updHk_ch (f : HkS → HkS) : (s.updHk f).ch = s.ch := (rfl)
@[simp] theorem State.updHk_slp (f : HkS → HkS) : (s.updHk f).slp = s.slp := (rfl)
@[simp] theorem State.updHk_phases (f : HkS → HkS) : (s.updHk f).phases = s.phases := (rfl)
@[simp] theorem State.updHk_rails (f : HkS → HkS) : (s.updHk f).rails = s.rails := (rfl)
@[simp] theorem State.updHk_ports (f : HkS → HkS) : (s.updHk f).ports = s.ports := (rfl)
@[simp] theorem State.updHk_seq (f : HkS → HkS) : (s.updHk f).seq = s.seq := (rfl)
@[simp] theorem State.updHk_watch (f : HkS → HkS) : (s.updHk f).watch = s.watch := (rfl)
@[simp] theorem State.updHk_hk (f : HkS → HkS) : (s.updHk f).hk = f s.hk := (rfl)
@[simp] theorem State.updHk_hold (f : HkS → HkS) : (s.updHk f).hold = s.hold := (rfl)
@[simp] theorem State.updHk_carts (f : HkS → HkS) : (s.updHk f).carts = s.carts := (rfl)
@[simp] theorem State.updHk_ev (f : HkS → HkS) : (s.updHk f).ev = s.ev := (rfl)
@[simp] theorem State.updHk_glb (f : HkS → HkS) : (s.updHk f).glb = s.glb := (rfl)
@[simp] theorem State.updHk_pair (f : HkS → HkS) : (s.updHk f).pair = s.pair := (rfl)
@[simp] theorem State.updHk_ov (f : HkS → HkS) : (s.updHk f).ov = s.ov := (rfl)
@[simp] theorem State.updHk_lg (f : HkS → HkS) : (s.updHk f).lg = s.lg := (rfl)
@[simp] theorem State.updHk_hb (f : HkS → HkS) : (s.updHk f).hb = s.hb := (rfl)
@[simp] theorem State.updHk_sp (f : HkS → HkS) : (s.updHk f).sp = s.sp := (rfl)
@[simp] theorem State.updHk_upd (f : HkS → HkS) : (s.updHk f).upd = s.upd := (rfl)
@[simp] theorem State.updHk_outbox (f : HkS → HkS) : (s.updHk f).outbox = s.outbox := (rfl)
@[simp] theorem State.updHk_pending (f : HkS → HkS) : (s.updHk f).pending = s.pending := (rfl)

@[simp] theorem State.updHold_now (f : HoldS → HoldS) : (s.updHold f).now = s.now := (rfl)
@[simp] theorem State.updHold_free (f : HoldS → HoldS) : (s.updHold f).free = s.free := (rfl)
@[simp] theorem State.updHold_mode (f : HoldS → HoldS) : (s.updHold f).mode = s.mode := (rfl)
@[simp] theorem State.updHold_step (f : HoldS → HoldS) : (s.updHold f).step = s.step := (rfl)
@[simp] theorem State.updHold_wakeStep (f : HoldS → HoldS) : (s.updHold f).wakeStep = s.wakeStep := (rfl)
@[simp] theorem State.updHold_arch (f : HoldS → HoldS) : (s.updHold f).arch = s.arch := (rfl)
@[simp] theorem State.updHold_feeds (f : HoldS → HoldS) : (s.updHold f).feeds = s.feeds := (rfl)
@[simp] theorem State.updHold_ch (f : HoldS → HoldS) : (s.updHold f).ch = s.ch := (rfl)
@[simp] theorem State.updHold_slp (f : HoldS → HoldS) : (s.updHold f).slp = s.slp := (rfl)
@[simp] theorem State.updHold_phases (f : HoldS → HoldS) : (s.updHold f).phases = s.phases := (rfl)
@[simp] theorem State.updHold_rails (f : HoldS → HoldS) : (s.updHold f).rails = s.rails := (rfl)
@[simp] theorem State.updHold_ports (f : HoldS → HoldS) : (s.updHold f).ports = s.ports := (rfl)
@[simp] theorem State.updHold_seq (f : HoldS → HoldS) : (s.updHold f).seq = s.seq := (rfl)
@[simp] theorem State.updHold_watch (f : HoldS → HoldS) : (s.updHold f).watch = s.watch := (rfl)
@[simp] theorem State.updHold_hk (f : HoldS → HoldS) : (s.updHold f).hk = s.hk := (rfl)
@[simp] theorem State.updHold_hold (f : HoldS → HoldS) : (s.updHold f).hold = f s.hold := (rfl)
@[simp] theorem State.updHold_carts (f : HoldS → HoldS) : (s.updHold f).carts = s.carts := (rfl)
@[simp] theorem State.updHold_ev (f : HoldS → HoldS) : (s.updHold f).ev = s.ev := (rfl)
@[simp] theorem State.updHold_glb (f : HoldS → HoldS) : (s.updHold f).glb = s.glb := (rfl)
@[simp] theorem State.updHold_pair (f : HoldS → HoldS) : (s.updHold f).pair = s.pair := (rfl)
@[simp] theorem State.updHold_ov (f : HoldS → HoldS) : (s.updHold f).ov = s.ov := (rfl)
@[simp] theorem State.updHold_lg (f : HoldS → HoldS) : (s.updHold f).lg = s.lg := (rfl)
@[simp] theorem State.updHold_hb (f : HoldS → HoldS) : (s.updHold f).hb = s.hb := (rfl)
@[simp] theorem State.updHold_sp (f : HoldS → HoldS) : (s.updHold f).sp = s.sp := (rfl)
@[simp] theorem State.updHold_upd (f : HoldS → HoldS) : (s.updHold f).upd = s.upd := (rfl)
@[simp] theorem State.updHold_outbox (f : HoldS → HoldS) : (s.updHold f).outbox = s.outbox := (rfl)
@[simp] theorem State.updHold_pending (f : HoldS → HoldS) : (s.updHold f).pending = s.pending := (rfl)

@[simp] theorem State.updCarts_now (f : CartsS → CartsS) : (s.updCarts f).now = s.now := (rfl)
@[simp] theorem State.updCarts_free (f : CartsS → CartsS) : (s.updCarts f).free = s.free := (rfl)
@[simp] theorem State.updCarts_mode (f : CartsS → CartsS) : (s.updCarts f).mode = s.mode := (rfl)
@[simp] theorem State.updCarts_step (f : CartsS → CartsS) : (s.updCarts f).step = s.step := (rfl)
@[simp] theorem State.updCarts_wakeStep (f : CartsS → CartsS) : (s.updCarts f).wakeStep = s.wakeStep := (rfl)
@[simp] theorem State.updCarts_arch (f : CartsS → CartsS) : (s.updCarts f).arch = s.arch := (rfl)
@[simp] theorem State.updCarts_feeds (f : CartsS → CartsS) : (s.updCarts f).feeds = s.feeds := (rfl)
@[simp] theorem State.updCarts_ch (f : CartsS → CartsS) : (s.updCarts f).ch = s.ch := (rfl)
@[simp] theorem State.updCarts_slp (f : CartsS → CartsS) : (s.updCarts f).slp = s.slp := (rfl)
@[simp] theorem State.updCarts_phases (f : CartsS → CartsS) : (s.updCarts f).phases = s.phases := (rfl)
@[simp] theorem State.updCarts_rails (f : CartsS → CartsS) : (s.updCarts f).rails = s.rails := (rfl)
@[simp] theorem State.updCarts_ports (f : CartsS → CartsS) : (s.updCarts f).ports = s.ports := (rfl)
@[simp] theorem State.updCarts_seq (f : CartsS → CartsS) : (s.updCarts f).seq = s.seq := (rfl)
@[simp] theorem State.updCarts_watch (f : CartsS → CartsS) : (s.updCarts f).watch = s.watch := (rfl)
@[simp] theorem State.updCarts_hk (f : CartsS → CartsS) : (s.updCarts f).hk = s.hk := (rfl)
@[simp] theorem State.updCarts_hold (f : CartsS → CartsS) : (s.updCarts f).hold = s.hold := (rfl)
@[simp] theorem State.updCarts_carts (f : CartsS → CartsS) : (s.updCarts f).carts = f s.carts := (rfl)
@[simp] theorem State.updCarts_ev (f : CartsS → CartsS) : (s.updCarts f).ev = s.ev := (rfl)
@[simp] theorem State.updCarts_glb (f : CartsS → CartsS) : (s.updCarts f).glb = s.glb := (rfl)
@[simp] theorem State.updCarts_pair (f : CartsS → CartsS) : (s.updCarts f).pair = s.pair := (rfl)
@[simp] theorem State.updCarts_ov (f : CartsS → CartsS) : (s.updCarts f).ov = s.ov := (rfl)
@[simp] theorem State.updCarts_lg (f : CartsS → CartsS) : (s.updCarts f).lg = s.lg := (rfl)
@[simp] theorem State.updCarts_hb (f : CartsS → CartsS) : (s.updCarts f).hb = s.hb := (rfl)
@[simp] theorem State.updCarts_sp (f : CartsS → CartsS) : (s.updCarts f).sp = s.sp := (rfl)
@[simp] theorem State.updCarts_upd (f : CartsS → CartsS) : (s.updCarts f).upd = s.upd := (rfl)
@[simp] theorem State.updCarts_outbox (f : CartsS → CartsS) : (s.updCarts f).outbox = s.outbox := (rfl)
@[simp] theorem State.updCarts_pending (f : CartsS → CartsS) : (s.updCarts f).pending = s.pending := (rfl)

@[simp] theorem State.updEv_now (f : EventS → EventS) : (s.updEv f).now = s.now := (rfl)
@[simp] theorem State.updEv_free (f : EventS → EventS) : (s.updEv f).free = s.free := (rfl)
@[simp] theorem State.updEv_mode (f : EventS → EventS) : (s.updEv f).mode = s.mode := (rfl)
@[simp] theorem State.updEv_step (f : EventS → EventS) : (s.updEv f).step = s.step := (rfl)
@[simp] theorem State.updEv_wakeStep (f : EventS → EventS) : (s.updEv f).wakeStep = s.wakeStep := (rfl)
@[simp] theorem State.updEv_arch (f : EventS → EventS) : (s.updEv f).arch = s.arch := (rfl)
@[simp] theorem State.updEv_feeds (f : EventS → EventS) : (s.updEv f).feeds = s.feeds := (rfl)
@[simp] theorem State.updEv_ch (f : EventS → EventS) : (s.updEv f).ch = s.ch := (rfl)
@[simp] theorem State.updEv_slp (f : EventS → EventS) : (s.updEv f).slp = s.slp := (rfl)
@[simp] theorem State.updEv_phases (f : EventS → EventS) : (s.updEv f).phases = s.phases := (rfl)
@[simp] theorem State.updEv_rails (f : EventS → EventS) : (s.updEv f).rails = s.rails := (rfl)
@[simp] theorem State.updEv_ports (f : EventS → EventS) : (s.updEv f).ports = s.ports := (rfl)
@[simp] theorem State.updEv_seq (f : EventS → EventS) : (s.updEv f).seq = s.seq := (rfl)
@[simp] theorem State.updEv_watch (f : EventS → EventS) : (s.updEv f).watch = s.watch := (rfl)
@[simp] theorem State.updEv_hk (f : EventS → EventS) : (s.updEv f).hk = s.hk := (rfl)
@[simp] theorem State.updEv_hold (f : EventS → EventS) : (s.updEv f).hold = s.hold := (rfl)
@[simp] theorem State.updEv_carts (f : EventS → EventS) : (s.updEv f).carts = s.carts := (rfl)
@[simp] theorem State.updEv_ev (f : EventS → EventS) : (s.updEv f).ev = f s.ev := (rfl)
@[simp] theorem State.updEv_glb (f : EventS → EventS) : (s.updEv f).glb = s.glb := (rfl)
@[simp] theorem State.updEv_pair (f : EventS → EventS) : (s.updEv f).pair = s.pair := (rfl)
@[simp] theorem State.updEv_ov (f : EventS → EventS) : (s.updEv f).ov = s.ov := (rfl)
@[simp] theorem State.updEv_lg (f : EventS → EventS) : (s.updEv f).lg = s.lg := (rfl)
@[simp] theorem State.updEv_hb (f : EventS → EventS) : (s.updEv f).hb = s.hb := (rfl)
@[simp] theorem State.updEv_sp (f : EventS → EventS) : (s.updEv f).sp = s.sp := (rfl)
@[simp] theorem State.updEv_upd (f : EventS → EventS) : (s.updEv f).upd = s.upd := (rfl)
@[simp] theorem State.updEv_outbox (f : EventS → EventS) : (s.updEv f).outbox = s.outbox := (rfl)
@[simp] theorem State.updEv_pending (f : EventS → EventS) : (s.updEv f).pending = s.pending := (rfl)

@[simp] theorem State.updGlb_now (f : GlobalS → GlobalS) : (s.updGlb f).now = s.now := (rfl)
@[simp] theorem State.updGlb_free (f : GlobalS → GlobalS) : (s.updGlb f).free = s.free := (rfl)
@[simp] theorem State.updGlb_mode (f : GlobalS → GlobalS) : (s.updGlb f).mode = s.mode := (rfl)
@[simp] theorem State.updGlb_step (f : GlobalS → GlobalS) : (s.updGlb f).step = s.step := (rfl)
@[simp] theorem State.updGlb_wakeStep (f : GlobalS → GlobalS) : (s.updGlb f).wakeStep = s.wakeStep := (rfl)
@[simp] theorem State.updGlb_arch (f : GlobalS → GlobalS) : (s.updGlb f).arch = s.arch := (rfl)
@[simp] theorem State.updGlb_feeds (f : GlobalS → GlobalS) : (s.updGlb f).feeds = s.feeds := (rfl)
@[simp] theorem State.updGlb_ch (f : GlobalS → GlobalS) : (s.updGlb f).ch = s.ch := (rfl)
@[simp] theorem State.updGlb_slp (f : GlobalS → GlobalS) : (s.updGlb f).slp = s.slp := (rfl)
@[simp] theorem State.updGlb_phases (f : GlobalS → GlobalS) : (s.updGlb f).phases = s.phases := (rfl)
@[simp] theorem State.updGlb_rails (f : GlobalS → GlobalS) : (s.updGlb f).rails = s.rails := (rfl)
@[simp] theorem State.updGlb_ports (f : GlobalS → GlobalS) : (s.updGlb f).ports = s.ports := (rfl)
@[simp] theorem State.updGlb_seq (f : GlobalS → GlobalS) : (s.updGlb f).seq = s.seq := (rfl)
@[simp] theorem State.updGlb_watch (f : GlobalS → GlobalS) : (s.updGlb f).watch = s.watch := (rfl)
@[simp] theorem State.updGlb_hk (f : GlobalS → GlobalS) : (s.updGlb f).hk = s.hk := (rfl)
@[simp] theorem State.updGlb_hold (f : GlobalS → GlobalS) : (s.updGlb f).hold = s.hold := (rfl)
@[simp] theorem State.updGlb_carts (f : GlobalS → GlobalS) : (s.updGlb f).carts = s.carts := (rfl)
@[simp] theorem State.updGlb_ev (f : GlobalS → GlobalS) : (s.updGlb f).ev = s.ev := (rfl)
@[simp] theorem State.updGlb_glb (f : GlobalS → GlobalS) : (s.updGlb f).glb = f s.glb := (rfl)
@[simp] theorem State.updGlb_pair (f : GlobalS → GlobalS) : (s.updGlb f).pair = s.pair := (rfl)
@[simp] theorem State.updGlb_ov (f : GlobalS → GlobalS) : (s.updGlb f).ov = s.ov := (rfl)
@[simp] theorem State.updGlb_lg (f : GlobalS → GlobalS) : (s.updGlb f).lg = s.lg := (rfl)
@[simp] theorem State.updGlb_hb (f : GlobalS → GlobalS) : (s.updGlb f).hb = s.hb := (rfl)
@[simp] theorem State.updGlb_sp (f : GlobalS → GlobalS) : (s.updGlb f).sp = s.sp := (rfl)
@[simp] theorem State.updGlb_upd (f : GlobalS → GlobalS) : (s.updGlb f).upd = s.upd := (rfl)
@[simp] theorem State.updGlb_outbox (f : GlobalS → GlobalS) : (s.updGlb f).outbox = s.outbox := (rfl)
@[simp] theorem State.updGlb_pending (f : GlobalS → GlobalS) : (s.updGlb f).pending = s.pending := (rfl)

@[simp] theorem State.updPair_now (f : PairS → PairS) : (s.updPair f).now = s.now := (rfl)
@[simp] theorem State.updPair_free (f : PairS → PairS) : (s.updPair f).free = s.free := (rfl)
@[simp] theorem State.updPair_mode (f : PairS → PairS) : (s.updPair f).mode = s.mode := (rfl)
@[simp] theorem State.updPair_step (f : PairS → PairS) : (s.updPair f).step = s.step := (rfl)
@[simp] theorem State.updPair_wakeStep (f : PairS → PairS) : (s.updPair f).wakeStep = s.wakeStep := (rfl)
@[simp] theorem State.updPair_arch (f : PairS → PairS) : (s.updPair f).arch = s.arch := (rfl)
@[simp] theorem State.updPair_feeds (f : PairS → PairS) : (s.updPair f).feeds = s.feeds := (rfl)
@[simp] theorem State.updPair_ch (f : PairS → PairS) : (s.updPair f).ch = s.ch := (rfl)
@[simp] theorem State.updPair_slp (f : PairS → PairS) : (s.updPair f).slp = s.slp := (rfl)
@[simp] theorem State.updPair_phases (f : PairS → PairS) : (s.updPair f).phases = s.phases := (rfl)
@[simp] theorem State.updPair_rails (f : PairS → PairS) : (s.updPair f).rails = s.rails := (rfl)
@[simp] theorem State.updPair_ports (f : PairS → PairS) : (s.updPair f).ports = s.ports := (rfl)
@[simp] theorem State.updPair_seq (f : PairS → PairS) : (s.updPair f).seq = s.seq := (rfl)
@[simp] theorem State.updPair_watch (f : PairS → PairS) : (s.updPair f).watch = s.watch := (rfl)
@[simp] theorem State.updPair_hk (f : PairS → PairS) : (s.updPair f).hk = s.hk := (rfl)
@[simp] theorem State.updPair_hold (f : PairS → PairS) : (s.updPair f).hold = s.hold := (rfl)
@[simp] theorem State.updPair_carts (f : PairS → PairS) : (s.updPair f).carts = s.carts := (rfl)
@[simp] theorem State.updPair_ev (f : PairS → PairS) : (s.updPair f).ev = s.ev := (rfl)
@[simp] theorem State.updPair_glb (f : PairS → PairS) : (s.updPair f).glb = s.glb := (rfl)
@[simp] theorem State.updPair_pair (f : PairS → PairS) : (s.updPair f).pair = f s.pair := (rfl)
@[simp] theorem State.updPair_ov (f : PairS → PairS) : (s.updPair f).ov = s.ov := (rfl)
@[simp] theorem State.updPair_lg (f : PairS → PairS) : (s.updPair f).lg = s.lg := (rfl)
@[simp] theorem State.updPair_hb (f : PairS → PairS) : (s.updPair f).hb = s.hb := (rfl)
@[simp] theorem State.updPair_sp (f : PairS → PairS) : (s.updPair f).sp = s.sp := (rfl)
@[simp] theorem State.updPair_upd (f : PairS → PairS) : (s.updPair f).upd = s.upd := (rfl)
@[simp] theorem State.updPair_outbox (f : PairS → PairS) : (s.updPair f).outbox = s.outbox := (rfl)
@[simp] theorem State.updPair_pending (f : PairS → PairS) : (s.updPair f).pending = s.pending := (rfl)

@[simp] theorem State.updOv_now (f : OvS → OvS) : (s.updOv f).now = s.now := (rfl)
@[simp] theorem State.updOv_free (f : OvS → OvS) : (s.updOv f).free = s.free := (rfl)
@[simp] theorem State.updOv_mode (f : OvS → OvS) : (s.updOv f).mode = s.mode := (rfl)
@[simp] theorem State.updOv_step (f : OvS → OvS) : (s.updOv f).step = s.step := (rfl)
@[simp] theorem State.updOv_wakeStep (f : OvS → OvS) : (s.updOv f).wakeStep = s.wakeStep := (rfl)
@[simp] theorem State.updOv_arch (f : OvS → OvS) : (s.updOv f).arch = s.arch := (rfl)
@[simp] theorem State.updOv_feeds (f : OvS → OvS) : (s.updOv f).feeds = s.feeds := (rfl)
@[simp] theorem State.updOv_ch (f : OvS → OvS) : (s.updOv f).ch = s.ch := (rfl)
@[simp] theorem State.updOv_slp (f : OvS → OvS) : (s.updOv f).slp = s.slp := (rfl)
@[simp] theorem State.updOv_phases (f : OvS → OvS) : (s.updOv f).phases = s.phases := (rfl)
@[simp] theorem State.updOv_rails (f : OvS → OvS) : (s.updOv f).rails = s.rails := (rfl)
@[simp] theorem State.updOv_ports (f : OvS → OvS) : (s.updOv f).ports = s.ports := (rfl)
@[simp] theorem State.updOv_seq (f : OvS → OvS) : (s.updOv f).seq = s.seq := (rfl)
@[simp] theorem State.updOv_watch (f : OvS → OvS) : (s.updOv f).watch = s.watch := (rfl)
@[simp] theorem State.updOv_hk (f : OvS → OvS) : (s.updOv f).hk = s.hk := (rfl)
@[simp] theorem State.updOv_hold (f : OvS → OvS) : (s.updOv f).hold = s.hold := (rfl)
@[simp] theorem State.updOv_carts (f : OvS → OvS) : (s.updOv f).carts = s.carts := (rfl)
@[simp] theorem State.updOv_ev (f : OvS → OvS) : (s.updOv f).ev = s.ev := (rfl)
@[simp] theorem State.updOv_glb (f : OvS → OvS) : (s.updOv f).glb = s.glb := (rfl)
@[simp] theorem State.updOv_pair (f : OvS → OvS) : (s.updOv f).pair = s.pair := (rfl)
@[simp] theorem State.updOv_ov (f : OvS → OvS) : (s.updOv f).ov = f s.ov := (rfl)
@[simp] theorem State.updOv_lg (f : OvS → OvS) : (s.updOv f).lg = s.lg := (rfl)
@[simp] theorem State.updOv_hb (f : OvS → OvS) : (s.updOv f).hb = s.hb := (rfl)
@[simp] theorem State.updOv_sp (f : OvS → OvS) : (s.updOv f).sp = s.sp := (rfl)
@[simp] theorem State.updOv_upd (f : OvS → OvS) : (s.updOv f).upd = s.upd := (rfl)
@[simp] theorem State.updOv_outbox (f : OvS → OvS) : (s.updOv f).outbox = s.outbox := (rfl)
@[simp] theorem State.updOv_pending (f : OvS → OvS) : (s.updOv f).pending = s.pending := (rfl)

@[simp] theorem State.updLg_now (f : LedgerS → LedgerS) : (s.updLg f).now = s.now := (rfl)
@[simp] theorem State.updLg_free (f : LedgerS → LedgerS) : (s.updLg f).free = s.free := (rfl)
@[simp] theorem State.updLg_mode (f : LedgerS → LedgerS) : (s.updLg f).mode = s.mode := (rfl)
@[simp] theorem State.updLg_step (f : LedgerS → LedgerS) : (s.updLg f).step = s.step := (rfl)
@[simp] theorem State.updLg_wakeStep (f : LedgerS → LedgerS) : (s.updLg f).wakeStep = s.wakeStep := (rfl)
@[simp] theorem State.updLg_arch (f : LedgerS → LedgerS) : (s.updLg f).arch = s.arch := (rfl)
@[simp] theorem State.updLg_feeds (f : LedgerS → LedgerS) : (s.updLg f).feeds = s.feeds := (rfl)
@[simp] theorem State.updLg_ch (f : LedgerS → LedgerS) : (s.updLg f).ch = s.ch := (rfl)
@[simp] theorem State.updLg_slp (f : LedgerS → LedgerS) : (s.updLg f).slp = s.slp := (rfl)
@[simp] theorem State.updLg_phases (f : LedgerS → LedgerS) : (s.updLg f).phases = s.phases := (rfl)
@[simp] theorem State.updLg_rails (f : LedgerS → LedgerS) : (s.updLg f).rails = s.rails := (rfl)
@[simp] theorem State.updLg_ports (f : LedgerS → LedgerS) : (s.updLg f).ports = s.ports := (rfl)
@[simp] theorem State.updLg_seq (f : LedgerS → LedgerS) : (s.updLg f).seq = s.seq := (rfl)
@[simp] theorem State.updLg_watch (f : LedgerS → LedgerS) : (s.updLg f).watch = s.watch := (rfl)
@[simp] theorem State.updLg_hk (f : LedgerS → LedgerS) : (s.updLg f).hk = s.hk := (rfl)
@[simp] theorem State.updLg_hold (f : LedgerS → LedgerS) : (s.updLg f).hold = s.hold := (rfl)
@[simp] theorem State.updLg_carts (f : LedgerS → LedgerS) : (s.updLg f).carts = s.carts := (rfl)
@[simp] theorem State.updLg_ev (f : LedgerS → LedgerS) : (s.updLg f).ev = s.ev := (rfl)
@[simp] theorem State.updLg_glb (f : LedgerS → LedgerS) : (s.updLg f).glb = s.glb := (rfl)
@[simp] theorem State.updLg_pair (f : LedgerS → LedgerS) : (s.updLg f).pair = s.pair := (rfl)
@[simp] theorem State.updLg_ov (f : LedgerS → LedgerS) : (s.updLg f).ov = s.ov := (rfl)
@[simp] theorem State.updLg_lg (f : LedgerS → LedgerS) : (s.updLg f).lg = f s.lg := (rfl)
@[simp] theorem State.updLg_hb (f : LedgerS → LedgerS) : (s.updLg f).hb = s.hb := (rfl)
@[simp] theorem State.updLg_sp (f : LedgerS → LedgerS) : (s.updLg f).sp = s.sp := (rfl)
@[simp] theorem State.updLg_upd (f : LedgerS → LedgerS) : (s.updLg f).upd = s.upd := (rfl)
@[simp] theorem State.updLg_outbox (f : LedgerS → LedgerS) : (s.updLg f).outbox = s.outbox := (rfl)
@[simp] theorem State.updLg_pending (f : LedgerS → LedgerS) : (s.updLg f).pending = s.pending := (rfl)

@[simp] theorem State.updHb_now (f : HbS → HbS) : (s.updHb f).now = s.now := (rfl)
@[simp] theorem State.updHb_free (f : HbS → HbS) : (s.updHb f).free = s.free := (rfl)
@[simp] theorem State.updHb_mode (f : HbS → HbS) : (s.updHb f).mode = s.mode := (rfl)
@[simp] theorem State.updHb_step (f : HbS → HbS) : (s.updHb f).step = s.step := (rfl)
@[simp] theorem State.updHb_wakeStep (f : HbS → HbS) : (s.updHb f).wakeStep = s.wakeStep := (rfl)
@[simp] theorem State.updHb_arch (f : HbS → HbS) : (s.updHb f).arch = s.arch := (rfl)
@[simp] theorem State.updHb_feeds (f : HbS → HbS) : (s.updHb f).feeds = s.feeds := (rfl)
@[simp] theorem State.updHb_ch (f : HbS → HbS) : (s.updHb f).ch = s.ch := (rfl)
@[simp] theorem State.updHb_slp (f : HbS → HbS) : (s.updHb f).slp = s.slp := (rfl)
@[simp] theorem State.updHb_phases (f : HbS → HbS) : (s.updHb f).phases = s.phases := (rfl)
@[simp] theorem State.updHb_rails (f : HbS → HbS) : (s.updHb f).rails = s.rails := (rfl)
@[simp] theorem State.updHb_ports (f : HbS → HbS) : (s.updHb f).ports = s.ports := (rfl)
@[simp] theorem State.updHb_seq (f : HbS → HbS) : (s.updHb f).seq = s.seq := (rfl)
@[simp] theorem State.updHb_watch (f : HbS → HbS) : (s.updHb f).watch = s.watch := (rfl)
@[simp] theorem State.updHb_hk (f : HbS → HbS) : (s.updHb f).hk = s.hk := (rfl)
@[simp] theorem State.updHb_hold (f : HbS → HbS) : (s.updHb f).hold = s.hold := (rfl)
@[simp] theorem State.updHb_carts (f : HbS → HbS) : (s.updHb f).carts = s.carts := (rfl)
@[simp] theorem State.updHb_ev (f : HbS → HbS) : (s.updHb f).ev = s.ev := (rfl)
@[simp] theorem State.updHb_glb (f : HbS → HbS) : (s.updHb f).glb = s.glb := (rfl)
@[simp] theorem State.updHb_pair (f : HbS → HbS) : (s.updHb f).pair = s.pair := (rfl)
@[simp] theorem State.updHb_ov (f : HbS → HbS) : (s.updHb f).ov = s.ov := (rfl)
@[simp] theorem State.updHb_lg (f : HbS → HbS) : (s.updHb f).lg = s.lg := (rfl)
@[simp] theorem State.updHb_hb (f : HbS → HbS) : (s.updHb f).hb = f s.hb := (rfl)
@[simp] theorem State.updHb_sp (f : HbS → HbS) : (s.updHb f).sp = s.sp := (rfl)
@[simp] theorem State.updHb_upd (f : HbS → HbS) : (s.updHb f).upd = s.upd := (rfl)
@[simp] theorem State.updHb_outbox (f : HbS → HbS) : (s.updHb f).outbox = s.outbox := (rfl)
@[simp] theorem State.updHb_pending (f : HbS → HbS) : (s.updHb f).pending = s.pending := (rfl)

@[simp] theorem State.updSp_now (f : SpS → SpS) : (s.updSp f).now = s.now := (rfl)
@[simp] theorem State.updSp_free (f : SpS → SpS) : (s.updSp f).free = s.free := (rfl)
@[simp] theorem State.updSp_mode (f : SpS → SpS) : (s.updSp f).mode = s.mode := (rfl)
@[simp] theorem State.updSp_step (f : SpS → SpS) : (s.updSp f).step = s.step := (rfl)
@[simp] theorem State.updSp_wakeStep (f : SpS → SpS) : (s.updSp f).wakeStep = s.wakeStep := (rfl)
@[simp] theorem State.updSp_arch (f : SpS → SpS) : (s.updSp f).arch = s.arch := (rfl)
@[simp] theorem State.updSp_feeds (f : SpS → SpS) : (s.updSp f).feeds = s.feeds := (rfl)
@[simp] theorem State.updSp_ch (f : SpS → SpS) : (s.updSp f).ch = s.ch := (rfl)
@[simp] theorem State.updSp_slp (f : SpS → SpS) : (s.updSp f).slp = s.slp := (rfl)
@[simp] theorem State.updSp_phases (f : SpS → SpS) : (s.updSp f).phases = s.phases := (rfl)
@[simp] theorem State.updSp_rails (f : SpS → SpS) : (s.updSp f).rails = s.rails := (rfl)
@[simp] theorem State.updSp_ports (f : SpS → SpS) : (s.updSp f).ports = s.ports := (rfl)
@[simp] theorem State.updSp_seq (f : SpS → SpS) : (s.updSp f).seq = s.seq := (rfl)
@[simp] theorem State.updSp_watch (f : SpS → SpS) : (s.updSp f).watch = s.watch := (rfl)
@[simp] theorem State.updSp_hk (f : SpS → SpS) : (s.updSp f).hk = s.hk := (rfl)
@[simp] theorem State.updSp_hold (f : SpS → SpS) : (s.updSp f).hold = s.hold := (rfl)
@[simp] theorem State.updSp_carts (f : SpS → SpS) : (s.updSp f).carts = s.carts := (rfl)
@[simp] theorem State.updSp_ev (f : SpS → SpS) : (s.updSp f).ev = s.ev := (rfl)
@[simp] theorem State.updSp_glb (f : SpS → SpS) : (s.updSp f).glb = s.glb := (rfl)
@[simp] theorem State.updSp_pair (f : SpS → SpS) : (s.updSp f).pair = s.pair := (rfl)
@[simp] theorem State.updSp_ov (f : SpS → SpS) : (s.updSp f).ov = s.ov := (rfl)
@[simp] theorem State.updSp_lg (f : SpS → SpS) : (s.updSp f).lg = s.lg := (rfl)
@[simp] theorem State.updSp_hb (f : SpS → SpS) : (s.updSp f).hb = s.hb := (rfl)
@[simp] theorem State.updSp_sp (f : SpS → SpS) : (s.updSp f).sp = f s.sp := (rfl)
@[simp] theorem State.updSp_upd (f : SpS → SpS) : (s.updSp f).upd = s.upd := (rfl)
@[simp] theorem State.updSp_outbox (f : SpS → SpS) : (s.updSp f).outbox = s.outbox := (rfl)
@[simp] theorem State.updSp_pending (f : SpS → SpS) : (s.updSp f).pending = s.pending := (rfl)

@[simp] theorem State.updUpd_now (f : UpdS → UpdS) : (s.updUpd f).now = s.now := (rfl)
@[simp] theorem State.updUpd_free (f : UpdS → UpdS) : (s.updUpd f).free = s.free := (rfl)
@[simp] theorem State.updUpd_mode (f : UpdS → UpdS) : (s.updUpd f).mode = s.mode := (rfl)
@[simp] theorem State.updUpd_step (f : UpdS → UpdS) : (s.updUpd f).step = s.step := (rfl)
@[simp] theorem State.updUpd_wakeStep (f : UpdS → UpdS) : (s.updUpd f).wakeStep = s.wakeStep := (rfl)
@[simp] theorem State.updUpd_arch (f : UpdS → UpdS) : (s.updUpd f).arch = s.arch := (rfl)
@[simp] theorem State.updUpd_feeds (f : UpdS → UpdS) : (s.updUpd f).feeds = s.feeds := (rfl)
@[simp] theorem State.updUpd_ch (f : UpdS → UpdS) : (s.updUpd f).ch = s.ch := (rfl)
@[simp] theorem State.updUpd_slp (f : UpdS → UpdS) : (s.updUpd f).slp = s.slp := (rfl)
@[simp] theorem State.updUpd_phases (f : UpdS → UpdS) : (s.updUpd f).phases = s.phases := (rfl)
@[simp] theorem State.updUpd_rails (f : UpdS → UpdS) : (s.updUpd f).rails = s.rails := (rfl)
@[simp] theorem State.updUpd_ports (f : UpdS → UpdS) : (s.updUpd f).ports = s.ports := (rfl)
@[simp] theorem State.updUpd_seq (f : UpdS → UpdS) : (s.updUpd f).seq = s.seq := (rfl)
@[simp] theorem State.updUpd_watch (f : UpdS → UpdS) : (s.updUpd f).watch = s.watch := (rfl)
@[simp] theorem State.updUpd_hk (f : UpdS → UpdS) : (s.updUpd f).hk = s.hk := (rfl)
@[simp] theorem State.updUpd_hold (f : UpdS → UpdS) : (s.updUpd f).hold = s.hold := (rfl)
@[simp] theorem State.updUpd_carts (f : UpdS → UpdS) : (s.updUpd f).carts = s.carts := (rfl)
@[simp] theorem State.updUpd_ev (f : UpdS → UpdS) : (s.updUpd f).ev = s.ev := (rfl)
@[simp] theorem State.updUpd_glb (f : UpdS → UpdS) : (s.updUpd f).glb = s.glb := (rfl)
@[simp] theorem State.updUpd_pair (f : UpdS → UpdS) : (s.updUpd f).pair = s.pair := (rfl)
@[simp] theorem State.updUpd_ov (f : UpdS → UpdS) : (s.updUpd f).ov = s.ov := (rfl)
@[simp] theorem State.updUpd_lg (f : UpdS → UpdS) : (s.updUpd f).lg = s.lg := (rfl)
@[simp] theorem State.updUpd_hb (f : UpdS → UpdS) : (s.updUpd f).hb = s.hb := (rfl)
@[simp] theorem State.updUpd_sp (f : UpdS → UpdS) : (s.updUpd f).sp = s.sp := (rfl)
@[simp] theorem State.updUpd_upd (f : UpdS → UpdS) : (s.updUpd f).upd = f s.upd := (rfl)
@[simp] theorem State.updUpd_outbox (f : UpdS → UpdS) : (s.updUpd f).outbox = s.outbox := (rfl)
@[simp] theorem State.updUpd_pending (f : UpdS → UpdS) : (s.updUpd f).pending = s.pending := (rfl)

@[simp] theorem State.updCore_now (c : CoreId) (f : Core → Core) : (s.updCore c f).now = s.now := (rfl)
@[simp] theorem State.updCore_free (c : CoreId) (f : Core → Core) : (s.updCore c f).free = s.free := (rfl)
@[simp] theorem State.updCore_mode (c : CoreId) (f : Core → Core) : (s.updCore c f).mode = s.mode := (rfl)
@[simp] theorem State.updCore_step (c : CoreId) (f : Core → Core) : (s.updCore c f).step = s.step := (rfl)
@[simp] theorem State.updCore_wakeStep (c : CoreId) (f : Core → Core) : (s.updCore c f).wakeStep = s.wakeStep := (rfl)
@[simp] theorem State.updCore_feeds (c : CoreId) (f : Core → Core) : (s.updCore c f).feeds = s.feeds := (rfl)
@[simp] theorem State.updCore_ch (c : CoreId) (f : Core → Core) : (s.updCore c f).ch = s.ch := (rfl)
@[simp] theorem State.updCore_slp (c : CoreId) (f : Core → Core) : (s.updCore c f).slp = s.slp := (rfl)
@[simp] theorem State.updCore_phases (c : CoreId) (f : Core → Core) : (s.updCore c f).phases = s.phases := (rfl)
@[simp] theorem State.updCore_rails (c : CoreId) (f : Core → Core) : (s.updCore c f).rails = s.rails := (rfl)
@[simp] theorem State.updCore_ports (c : CoreId) (f : Core → Core) : (s.updCore c f).ports = s.ports := (rfl)
@[simp] theorem State.updCore_seq (c : CoreId) (f : Core → Core) : (s.updCore c f).seq = s.seq := (rfl)
@[simp] theorem State.updCore_watch (c : CoreId) (f : Core → Core) : (s.updCore c f).watch = s.watch := (rfl)
@[simp] theorem State.updCore_hk (c : CoreId) (f : Core → Core) : (s.updCore c f).hk = s.hk := (rfl)
@[simp] theorem State.updCore_hold (c : CoreId) (f : Core → Core) : (s.updCore c f).hold = s.hold := (rfl)
@[simp] theorem State.updCore_carts (c : CoreId) (f : Core → Core) : (s.updCore c f).carts = s.carts := (rfl)
@[simp] theorem State.updCore_ev (c : CoreId) (f : Core → Core) : (s.updCore c f).ev = s.ev := (rfl)
@[simp] theorem State.updCore_glb (c : CoreId) (f : Core → Core) : (s.updCore c f).glb = s.glb := (rfl)
@[simp] theorem State.updCore_pair (c : CoreId) (f : Core → Core) : (s.updCore c f).pair = s.pair := (rfl)
@[simp] theorem State.updCore_ov (c : CoreId) (f : Core → Core) : (s.updCore c f).ov = s.ov := (rfl)
@[simp] theorem State.updCore_lg (c : CoreId) (f : Core → Core) : (s.updCore c f).lg = s.lg := (rfl)
@[simp] theorem State.updCore_hb (c : CoreId) (f : Core → Core) : (s.updCore c f).hb = s.hb := (rfl)
@[simp] theorem State.updCore_sp (c : CoreId) (f : Core → Core) : (s.updCore c f).sp = s.sp := (rfl)
@[simp] theorem State.updCore_upd (c : CoreId) (f : Core → Core) : (s.updCore c f).upd = s.upd := (rfl)
@[simp] theorem State.updCore_outbox (c : CoreId) (f : Core → Core) : (s.updCore c f).outbox = s.outbox := (rfl)
@[simp] theorem State.updCore_pending (c : CoreId) (f : Core → Core) : (s.updCore c f).pending = s.pending := (rfl)

@[simp] theorem fire_now (src sub : Nat) : (fire src sub s).now = s.now := (rfl)
@[simp] theorem fire_free (src sub : Nat) : (fire src sub s).free = s.free := (rfl)
@[simp] theorem fire_mode (src sub : Nat) : (fire src sub s).mode = s.mode := (rfl)
@[simp] theorem fire_step (src sub : Nat) : (fire src sub s).step = s.step := (rfl)
@[simp] theorem fire_wakeStep (src sub : Nat) : (fire src sub s).wakeStep = s.wakeStep := (rfl)
@[simp] theorem fire_arch (src sub : Nat) : (fire src sub s).arch = s.arch := (rfl)
@[simp] theorem fire_feeds (src sub : Nat) : (fire src sub s).feeds = s.feeds := (rfl)
@[simp] theorem fire_ch (src sub : Nat) : (fire src sub s).ch = s.ch := (rfl)
@[simp] theorem fire_slp (src sub : Nat) : (fire src sub s).slp = s.slp := (rfl)
@[simp] theorem fire_phases (src sub : Nat) : (fire src sub s).phases = s.phases := (rfl)
@[simp] theorem fire_rails (src sub : Nat) : (fire src sub s).rails = s.rails := (rfl)
@[simp] theorem fire_ports (src sub : Nat) : (fire src sub s).ports = s.ports := (rfl)
@[simp] theorem fire_seq (src sub : Nat) : (fire src sub s).seq = s.seq := (rfl)
@[simp] theorem fire_watch (src sub : Nat) : (fire src sub s).watch = s.watch := (rfl)
@[simp] theorem fire_hk (src sub : Nat) : (fire src sub s).hk = s.hk := (rfl)
@[simp] theorem fire_hold (src sub : Nat) : (fire src sub s).hold = s.hold := (rfl)
@[simp] theorem fire_carts (src sub : Nat) : (fire src sub s).carts = s.carts := (rfl)
@[simp] theorem fire_ev (src sub : Nat) : (fire src sub s).ev = { s.ev with fireQ := s.ev.fireQ ++ [⟨src, sub⟩] } := (rfl)
@[simp] theorem fire_glb (src sub : Nat) : (fire src sub s).glb = s.glb := (rfl)
@[simp] theorem fire_pair (src sub : Nat) : (fire src sub s).pair = s.pair := (rfl)
@[simp] theorem fire_ov (src sub : Nat) : (fire src sub s).ov = s.ov := (rfl)
@[simp] theorem fire_lg (src sub : Nat) : (fire src sub s).lg = s.lg := (rfl)
@[simp] theorem fire_hb (src sub : Nat) : (fire src sub s).hb = s.hb := (rfl)
@[simp] theorem fire_sp (src sub : Nat) : (fire src sub s).sp = s.sp := (rfl)
@[simp] theorem fire_upd (src sub : Nat) : (fire src sub s).upd = s.upd := (rfl)
@[simp] theorem fire_outbox (src sub : Nat) : (fire src sub s).outbox = s.outbox := (rfl)
@[simp] theorem fire_pending (src sub : Nat) : (fire src sub s).pending = s.pending := (rfl)

@[simp] theorem addTally_now (i : Fin 24) (k : Nat) : (addTally i k s).now = s.now := (rfl)
@[simp] theorem addTally_free (i : Fin 24) (k : Nat) : (addTally i k s).free = s.free := (rfl)
@[simp] theorem addTally_mode (i : Fin 24) (k : Nat) : (addTally i k s).mode = s.mode := (rfl)
@[simp] theorem addTally_step (i : Fin 24) (k : Nat) : (addTally i k s).step = s.step := (rfl)
@[simp] theorem addTally_wakeStep (i : Fin 24) (k : Nat) : (addTally i k s).wakeStep = s.wakeStep := (rfl)
@[simp] theorem addTally_arch (i : Fin 24) (k : Nat) : (addTally i k s).arch = s.arch := (rfl)
@[simp] theorem addTally_feeds (i : Fin 24) (k : Nat) : (addTally i k s).feeds = s.feeds := (rfl)
@[simp] theorem addTally_ch (i : Fin 24) (k : Nat) : (addTally i k s).ch = s.ch := (rfl)
@[simp] theorem addTally_slp (i : Fin 24) (k : Nat) : (addTally i k s).slp = s.slp := (rfl)
@[simp] theorem addTally_phases (i : Fin 24) (k : Nat) : (addTally i k s).phases = s.phases := (rfl)
@[simp] theorem addTally_rails (i : Fin 24) (k : Nat) : (addTally i k s).rails = s.rails := (rfl)
@[simp] theorem addTally_ports (i : Fin 24) (k : Nat) : (addTally i k s).ports = s.ports := (rfl)
@[simp] theorem addTally_seq (i : Fin 24) (k : Nat) : (addTally i k s).seq = s.seq := (rfl)
@[simp] theorem addTally_watch (i : Fin 24) (k : Nat) : (addTally i k s).watch = s.watch := (rfl)
@[simp] theorem addTally_hk (i : Fin 24) (k : Nat) : (addTally i k s).hk = s.hk := (rfl)
@[simp] theorem addTally_hold (i : Fin 24) (k : Nat) : (addTally i k s).hold = s.hold := (rfl)
@[simp] theorem addTally_carts (i : Fin 24) (k : Nat) : (addTally i k s).carts = s.carts := (rfl)
@[simp] theorem addTally_ev (i : Fin 24) (k : Nat) : (addTally i k s).ev = { s.ev with tallies := s.ev.tallies.upd i (fun t => min 0xFFFFFFFF (t + k)) } := (rfl)
@[simp] theorem addTally_glb (i : Fin 24) (k : Nat) : (addTally i k s).glb = s.glb := (rfl)
@[simp] theorem addTally_pair (i : Fin 24) (k : Nat) : (addTally i k s).pair = s.pair := (rfl)
@[simp] theorem addTally_ov (i : Fin 24) (k : Nat) : (addTally i k s).ov = s.ov := (rfl)
@[simp] theorem addTally_lg (i : Fin 24) (k : Nat) : (addTally i k s).lg = s.lg := (rfl)
@[simp] theorem addTally_hb (i : Fin 24) (k : Nat) : (addTally i k s).hb = s.hb := (rfl)
@[simp] theorem addTally_sp (i : Fin 24) (k : Nat) : (addTally i k s).sp = s.sp := (rfl)
@[simp] theorem addTally_upd (i : Fin 24) (k : Nat) : (addTally i k s).upd = s.upd := (rfl)
@[simp] theorem addTally_outbox (i : Fin 24) (k : Nat) : (addTally i k s).outbox = s.outbox := (rfl)
@[simp] theorem addTally_pending (i : Fin 24) (k : Nat) : (addTally i k s).pending = s.pending := (rfl)

@[simp] theorem send_now (o : Out) : (send o s).now = s.now := (rfl)
@[simp] theorem send_free (o : Out) : (send o s).free = s.free := (rfl)
@[simp] theorem send_mode (o : Out) : (send o s).mode = s.mode := (rfl)
@[simp] theorem send_step (o : Out) : (send o s).step = s.step := (rfl)
@[simp] theorem send_wakeStep (o : Out) : (send o s).wakeStep = s.wakeStep := (rfl)
@[simp] theorem send_arch (o : Out) : (send o s).arch = s.arch := (rfl)
@[simp] theorem send_feeds (o : Out) : (send o s).feeds = s.feeds := (rfl)
@[simp] theorem send_ch (o : Out) : (send o s).ch = s.ch := (rfl)
@[simp] theorem send_slp (o : Out) : (send o s).slp = s.slp := (rfl)
@[simp] theorem send_phases (o : Out) : (send o s).phases = s.phases := (rfl)
@[simp] theorem send_rails (o : Out) : (send o s).rails = s.rails := (rfl)
@[simp] theorem send_ports (o : Out) : (send o s).ports = s.ports := (rfl)
@[simp] theorem send_seq (o : Out) : (send o s).seq = s.seq := (rfl)
@[simp] theorem send_watch (o : Out) : (send o s).watch = s.watch := (rfl)
@[simp] theorem send_hk (o : Out) : (send o s).hk = s.hk := (rfl)
@[simp] theorem send_hold (o : Out) : (send o s).hold = s.hold := (rfl)
@[simp] theorem send_carts (o : Out) : (send o s).carts = s.carts := (rfl)
@[simp] theorem send_ev (o : Out) : (send o s).ev = s.ev := (rfl)
@[simp] theorem send_glb (o : Out) : (send o s).glb = s.glb := (rfl)
@[simp] theorem send_pair (o : Out) : (send o s).pair = s.pair := (rfl)
@[simp] theorem send_ov (o : Out) : (send o s).ov = s.ov := (rfl)
@[simp] theorem send_lg (o : Out) : (send o s).lg = s.lg := (rfl)
@[simp] theorem send_hb (o : Out) : (send o s).hb = s.hb := (rfl)
@[simp] theorem send_sp (o : Out) : (send o s).sp = s.sp := (rfl)
@[simp] theorem send_upd (o : Out) : (send o s).upd = s.upd := (rfl)
@[simp] theorem send_outbox (o : Out) : (send o s).outbox = s.outbox ++ [o] := (rfl)
@[simp] theorem send_pending (o : Out) : (send o s).pending = s.pending := (rfl)

end Updates

/-! ### Tables -/

@[simp] theorem Tab.upd_same {n : Nat} {α : Type} (t : Tab n α) (i : Fin n) (f : α → α) : (t.upd i f)[i] = f t[i] := by
  simp [Tab.upd]

theorem Tab.upd_other {n : Nat} {α : Type} (t : Tab n α) (i j : Fin n) (f : α → α) (h : i ≠ j) : (t.upd i f)[j] = t[j] := by
  have h2 : i.val ≠ j.val := fun e => h (Fin.ext e)
  simp [Tab.upd, h2]

/-- A table entry changed twice. -/
theorem Tab.upd_upd {n : Nat} {α : Type} (t : Tab n α) (i : Fin n) (f g : α → α) :
    (t.upd i f).upd i g = t.upd i (fun x => g (f x)) := by
  simp [Tab.upd]

/-- Keeping an entry keeps the table. -/
theorem Tab.upd_id {n : Nat} {α : Type} (t : Tab n α) (i : Fin n) : t.upd i (fun x => x) = t := by
  simp [Tab.upd]

end Sys2Proof.Machine
end

