-- ==== Sys2Proof/Laws/Run.lean ====
section
/-! SUPPORT. The three ways in which a command is carried out (`run`, `runAfter`, `runTick`): each answers a next state, leaves
the queue of waiting commands as it was, leaves no firing to carry out, and is blind to that queue. Every meaning is one of the
three, so a claim about every command goes by cases over these lemmas. -/
namespace Sys2Proof.Machine

/-- The wait for a moment of global time leaves the queue alone. -/
theorem State.waitG_pending (t n : Nat) (s : State) : (State.waitG t n s).pending = s.pending := by
  induction n generalizing s with
  | zero => rfl
  | succ n ih =>
    unfold State.waitG
    split
    · rfl
    · exact ih _

@[simp] theorem State.waitTill_pending (s : State) (d : Option Nat) : (s.waitTill d).pending = s.pending := by
  cases d <;> rfl

@[simp] theorem State.waitGlobal_pending (s : State) (d : Option Nat) : (s.waitGlobal d).pending = s.pending := by
  cases d
  · rfl
  · exact State.waitG_pending _ _ _

@[simp] theorem lossWait_pending (s : State) : (lossWait s).pending = s.pending := by
  unfold lossWait
  dsimp only
  split
  · rfl
  · exact State.waitTill_pending _ _

@[simp] theorem State.schedWait_pending (s : State) : s.schedWait.pending = s.pending := by
  unfold State.schedWait
  exact (State.waitTill_pending _ _).trans (State.waitGlobal_pending _ _)

/-- A command carried out answers. -/
theorem run_next (f : State → State) (s : State) : ∃ t, run f s = .next t ∧ t.pending = s.pending ∧ t.ev.fireQ = [] :=
  ⟨_, rfl, rfl, rfl⟩

/-- A command at the end of a wait answers. -/
theorem runAfter_next (w f : State → State) (s : State) (hw : (w s).pending = s.pending) :
    ∃ t, runAfter w f s = .next t ∧ t.pending = s.pending ∧ t.ev.fireQ = [] := by
  obtain ⟨t, h1, h2, h3⟩ := run_next (fun u => f (egressAll u)) (w s)
  exact ⟨t, h1, h2.trans hw, h3⟩

/-- A slot's command at a tick answers. -/
theorem runTick_next (d : State → Option Nat) (f : State → State) (s : State) :
    ∃ t, runTick d f s = .next t ∧ t.pending = s.pending ∧ t.ev.fireQ = [] :=
  ⟨_, rfl, rfl, rfl⟩

/-- The wait for a moment of global time does not see the queue. -/
theorem State.waitG_blind (t n : Nat) (l : List Instr) (s : State) :
    State.waitG t n { s with pending := l } = { State.waitG t n s with pending := l } := by
  induction n generalizing s with
  | zero => rfl
  | succ n ih =>
    by_cases h : t ≤ s.ov.gtime || !s.clocked
    · have a : State.waitG t (n + 1) s = s := by
        unfold State.waitG
        exact if_pos h
      have b : State.waitG t (n + 1) { s with pending := l } = { s with pending := l } := by
        unfold State.waitG
        exact if_pos h
      rw [a, b]
    · have a : State.waitG t (n + 1) s = State.waitG t n (s.elapse ((t - s.ov.gtime) - (t - s.ov.gtime) / 500)) := by
        conv_lhs => unfold State.waitG
        exact if_neg h
      have b : State.waitG t (n + 1) { s with pending := l } =
          State.waitG t n { (s.elapse ((t - s.ov.gtime) - (t - s.ov.gtime) / 500)) with pending := l } := by
        conv_lhs => unfold State.waitG
        exact if_neg h
      rw [a, b, ih]

theorem State.waitTill_blind (d : Option Nat) (l : List Instr) (s : State) :
    State.waitTill { s with pending := l } d = { s.waitTill d with pending := l } := by
  cases d <;> rfl

theorem State.waitGlobal_blind (d : Option Nat) (l : List Instr) (s : State) :
    State.waitGlobal { s with pending := l } d = { s.waitGlobal d with pending := l } := by
  cases d
  · rfl
  · exact State.waitG_blind _ _ _ _

theorem lossWait_blind (l : List Instr) (s : State) : lossWait { s with pending := l } = { lossWait s with pending := l } := by
  unfold lossWait
  by_cases h : (draw s).1 % 2 = 0
  · have h2 : (draw { s with pending := l }).1 % 2 = 0 := h
    dsimp only
    rw [if_pos h2, if_pos h]
    rfl
  · have h2 : ¬(draw { s with pending := l }).1 % 2 = 0 := h
    dsimp only
    rw [if_neg h2, if_neg h]
    exact State.waitTill_blind _ l (draw s).2

theorem State.schedWait_blind (l : List Instr) (s : State) :
    State.schedWait { s with pending := l } = { s.schedWait with pending := l } := by
  unfold State.schedWait
  have e : State.waitGlobal { s with pending := l } (State.schedG { s with pending := l }) = { s.waitGlobal s.schedG with pending := l } :=
    State.waitGlobal_blind s.schedG l s
  dsimp only
  rw [e]
  exact State.waitTill_blind _ l (s.waitGlobal s.schedG)

/-- A command carried out is blind to the queue. -/
theorem run_blind (f : State → State) (l : List Instr) (s t : State) (h : run f s = .next t) :
    run f { s with pending := l } = .next { t with pending := l } := by
  injection h with e
  rw [← e]
  rfl

theorem runAfter_blind (w f : State → State) (l : List Instr) (s t : State)
    (hw : w { s with pending := l } = { w s with pending := l }) (h : runAfter w f s = .next t) :
    runAfter w f { s with pending := l } = .next { t with pending := l } := by
  unfold runAfter at *
  rw [hw]
  exact run_blind _ _ _ _ h

theorem runTick_blind (d : State → Option Nat) (f : State → State) (l : List Instr) (s t : State)
    (hd : d { s with pending := l } = d s) (h : runTick d f s = .next t) :
    runTick d f { s with pending := l } = .next { t with pending := l } := by
  unfold runTick at *
  rw [hd]
  injection h with e
  rw [← e]
  rfl

end Sys2Proof.Machine
end

