-- ==== Sys2Proof/Laws/Exec.lean ====
section
/-! SUPPORT. What each command is: one of `run`, `runAfter` and `runTick` of its own effect. A proof about a command rewrites
with its lemma here and goes on with the lemmas of `Sys2Proof.Laws.Run`, so that it never unfolds `exec`. -/
namespace Sys2Proof.Machine

theorem exec_handshakeStall (s : State) : exec .handshakeStall s = run handshakeStalled s := rfl
theorem exec_pllLockLoss (s : State) : exec .pllLockLoss s = run (fun t => holdFollow (pllLost t)) s := rfl
theorem exec_pllLockAcquired (s : State) : exec .pllLockAcquired s = run pllAcquired s := rfl
theorem exec_refClkLoss (s : State) : exec .refClkLoss s = run refLost s := rfl
theorem exec_refClkReturn (s : State) : exec .refClkReturn s = run refBack s := rfl
theorem exec_refClkHoldoverExpiry (s : State) : exec .refClkHoldoverExpiry s =
    runAfter (fun s => s.waitTill s.arch.holdover) (fun t => holdFollow (refHoldEnd t)) s := rfl
theorem exec_cdcAcceptFailure (s : State) : exec .cdcAcceptFailure s = run cdcRejected s := rfl
theorem exec_cdcToggleAck (l : ToggleLine) (s : State) : exec (.cdcToggleAck l) s = run (toggleAck l) s := rfl
theorem exec_islandRestartDone (i : Island) (s : State) : exec (.islandRestartDone i) s = run (islandUp i) s := rfl
theorem exec_coreWatchdogExpiry (c : CoreId) (s : State) : exec (.coreWatchdogExpiry c) s = run (coreWatchdog c) s := rfl
theorem exec_coreRestartDone (c : CoreId) (selfTestOk : Bool) (s : State) : exec (.coreRestartDone c selfTestOk) s =
    run (fun t => serveWaiting (coreRestarted c selfTestOk t)) s := rfl
theorem exec_porAssert (k : Fin 5) (s : State) : exec (.porAssert k) s = run (porAsserted k) s := rfl
theorem exec_porRelease (straps : Straps) (s : State) : exec (.porRelease straps) s = run (porReleased straps) s := rfl
theorem exec_resetNAssert (lowNs : Nat) (s : State) : exec (.resetNAssert lowNs) s = run (resetAsserted lowNs) s := rfl
theorem exec_resetNRelease (straps : Straps) (s : State) : exec (.resetNRelease straps) s =
    run (resetReleased straps) s := rfl
theorem exec_layoutDirectoryRead (s : State) : exec .layoutDirectoryRead s = run readLayout s := rfl
theorem exec_patternCandidateCheck (s : State) : exec .patternCandidateCheck s = run patternChecked s := rfl
theorem exec_patternApply (s : State) : exec .patternApply s = run patternApplied s := rfl
theorem exec_coreImageCheck (s : State) : exec .coreImageCheck s = run coresChecked s := rfl
theorem exec_coreStart (supOk : Bool) (ledOk : Bool) (lnkOk : Bool) (s : State) : exec (.coreStart supOk ledOk lnkOk) s =
    run (coresStart supOk ledOk lnkOk) s := rfl
theorem exec_settingsStoreRead (copy : StoreRead) (s : State) : exec (.settingsStoreRead copy) s =
    run (settingsRead copy.readable copy.migrates) s := rfl
theorem exec_ready (s : State) : exec .ready s = run readyNow s := rfl
theorem exec_feedQualified (f : FeedSense) (s : State) : exec (.feedQualified f) s =
    runAfter (fun s => s.waitTill (s.feedDue f.feed)) (feedQual f) s := rfl
theorem exec_inputQualifyRestart (i : QualInput) (s : State) : exec (.inputQualifyRestart i) s =
    run (qualifyRestart i) s := rfl
theorem exec_feedAbsent (f : FeedSense) (s : State) : exec (.feedAbsent f) s = run (feedGone f) s := rfl
theorem exec_feedGateOff (f : Fin 2) (s : State) : exec (.feedGateOff f) s = run (feedBelow f true) s := rfl
theorem exec_feedGateOn (f : Fin 2) (s : State) : exec (.feedGateOn f) s = run (feedBelow f false) s := rfl
theorem exec_memStatusPoll (busy : Bool) (s : State) : exec (.memStatusPoll busy) s = run (memPoll busy) s := rfl
theorem exec_memWriteTimeout (s : State) : exec .memWriteTimeout s =
    runAfter (fun s => s.waitTill s.memDue) memTimeout s := rfl
theorem exec_scrubSegmentCheck (seg : Nat) (crc : BitVec 32) (s : State) : exec (.scrubSegmentCheck seg crc) s =
    runAfter (fun s => s.waitTill (s.scrubDue seg)) (scrubCheck seg crc.toNat) s := rfl
theorem exec_scrubRepair (s : State) : exec .scrubRepair s = run scrubRepaired s := rfl
theorem exec_sleepRequest (s : State) : exec .sleepRequest s = run (hostWrite 0x0032 1) s := rfl
theorem exec_sleepIdleExpiry (s : State) : exec .sleepIdleExpiry s =
    runAfter (fun s => s.waitTill s.idleDue) idleSleep s := rfl
theorem exec_sleepEntry (s : State) : exec .sleepEntry s = run sleepEnter s := rfl
theorem exec_wakeRequest (src : Fin 8) (s : State) : exec (.wakeRequest src) s = run (wakeOn src) s := rfl
theorem exec_slpAlarmExpiry (s : State) : exec .slpAlarmExpiry s =
    runAfter (fun s => s.waitTill s.alarmDueAt) alarmDue s := rfl
theorem exec_wakeScrubPass (bad : List Nat) (s : State) : exec (.wakeScrubPass bad) s = run (wakeScrub bad) s := rfl
theorem exec_wakeComplete (s : State) : exec .wakeComplete s = run wakeDone s := rfl
theorem exec_pwmLeadingEdge (n : Fin 64) (s : State) : exec (.pwmLeadingEdge n) s =
    run (fun t => leadingEdge n (fwdEdge n t)) s := rfl
theorem exec_onTimeEnd (n : Fin 64) (why : OnEnd) (peak : BitVec 10) (ton : Nat) (s : State) : exec (.onTimeEnd n why peak ton) s =
    run (onTimeEnd n why peak ton) s := rfl
theorem exec_valleySampleConversion (n : Fin 64) (code : BitVec 10) (s : State) : exec (.valleySampleConversion n code) s =
    run (valleySample n code) s := rfl
theorem exec_phaseResultPublish (n : Fin 64) (s : State) : exec (.phaseResultPublish n) s = run (phasePublish n) s := rfl
theorem exec_phResRead (n : Fin 64) (count : Nat) (s : State) : exec (.phResRead n count) s =
    run (hostRead (0x0204 + 16 * n.val) count) s := rfl
theorem exec_phCtrlFence (n : Fin 64) (s : State) : exec (.phCtrlFence n) s =
    run (hostStrobe (0x0202 + 16 * n.val) 1) s := rfl
theorem exec_phCtrlUnfence (n : Fin 64) (s : State) : exec (.phCtrlUnfence n) s =
    run (hostStrobe (0x0202 + 16 * n.val) 2) s := rfl
theorem exec_phCtrlTallyClr (n : Fin 64) (s : State) : exec (.phCtrlTallyClr n) s =
    run (hostStrobe (0x0202 + 16 * n.val) 4) s := rfl
theorem exec_phTrimWrite (n : Fin 64) (v : BitVec 16) (s : State) : exec (.phTrimWrite n v) s =
    run (hostWrite (0x020C + 16 * n.val) v.toNat) s := rfl
theorem exec_compensatorSample (r : Fin 24) (e : Int) (sat : Bool) (vsnBad : Bool) (s : State) : exec (.compensatorSample r e sat vsnBad) s =
    run (railSample r e sat vsnBad) s := rfl
theorem exec_rampStep (r : Fin 24) (s : State) : exec (.rampStep r) s = run (fun t => holdFollow (rampStep r t)) s := rfl
theorem exec_dwellExpiry (r : Fin 24) (s : State) : exec (.dwellExpiry r) s =
    runAfter (fun s => s.waitTill (s.dwellDue r)) (dwellExpiry r) s := rfl
theorem exec_holdoffExpiry (r : Fin 24) (s : State) : exec (.holdoffExpiry r) s =
    runAfter (fun s => s.waitTill s.rails[r].holdAt) (holdoffEnd r) s := rfl
theorem exec_ovSnuff (r : Fin 24) (vsense : Nat) (s : State) : exec (.ovSnuff r vsense) s =
    run (ovChange (ovAct r) r vsense) s := rfl
theorem exec_uvComparatorChange (r : Fin 24) (vsense : Nat) (s : State) : exec (.uvComparatorChange r vsense) s =
    run (uvChange (uvAct r) r vsense) s := rfl
theorem exec_uvDelayExpiry (r : Fin 24) (s : State) : exec (.uvDelayExpiry r) s =
    runAfter (fun s => s.waitTill s.rails[r].uvAt) (uvDelayEnd r) s := rfl
theorem exec_railResultPublish (r : Fin 24) (s : State) : exec (.railResultPublish r) s = run (railPublish r) s := rfl
theorem exec_railResRead (r : Fin 24) (count : Nat) (s : State) : exec (.railResRead r count) s =
    run (hostRead (0x0610 + 32 * r.val) count) s := rfl
theorem exec_railCtrlUnsnuff (r : Fin 24) (s : State) : exec (.railCtrlUnsnuff r) s =
    run (hostStrobe (0x0604 + 32 * r.val) 1) s := rfl
theorem exec_railCtrlTallyClr (r : Fin 24) (s : State) : exec (.railCtrlTallyClr r) s =
    run (hostStrobe (0x0604 + 32 * r.val) 4) s := rfl
theorem exec_railCtrlNoshed (r : Fin 24) (on : Bool) (s : State) : exec (.railCtrlNoshed r on) s =
    run (hostField (0x0604 + 32 * r.val) 8 (bit01 on * 8)) s := rfl
theorem exec_railVsetWrite (r : Fin 24) (v : BitVec 16) (s : State) : exec (.railVsetWrite r v) s =
    run (hostWrite (0x0606 + 32 * r.val) v.toNat) s := rfl
theorem exec_railIlimWrite (r : Fin 24) (v : BitVec 16) (s : State) : exec (.railIlimWrite r v) s =
    run (hostWrite (0x060A + 32 * r.val) v.toNat) s := rfl
theorem exec_llFrameBoundary (p : Fin 8) (edges : Nat) (startOne : Bool) (s : State) : exec (.llFrameBoundary p edges startOne) s =
    run (llFrameEnd p edges startOne) s := rfl
theorem exec_setV (p : Fin 8) (sub : Fin 4) (tog : Bool) (payload : BitVec 16) (rcrc : BitVec 8) (s : State) : exec (.setV p sub tog payload rcrc) s =
    run (llRequest p sub 1 tog payload.toNat rcrc.toNat) s := rfl
theorem exec_preload (p : Fin 8) (sub : Fin 4) (tog : Bool) (payload : BitVec 16) (rcrc : BitVec 8) (s : State) : exec (.preload p sub tog payload rcrc) s =
    run (llRequest p sub 2 tog payload.toNat rcrc.toNat) s := rfl
theorem exec_llRead (p : Fin 8) (sub : Fin 4) (tog : Bool) (payload : BitVec 16) (rcrc : BitVec 8) (s : State) : exec (.llRead p sub tog payload rcrc) s =
    run (llRequest p sub 3 tog payload.toNat rcrc.toNat) s := rfl
theorem exec_noticeAck (p : Fin 8) (sub : Fin 4) (tog : Bool) (payload : BitVec 16) (rcrc : BitVec 8) (s : State) : exec (.noticeAck p sub tog payload rcrc) s =
    run (llRequest p sub 4 tog payload.toNat rcrc.toNat) s := rfl
theorem exec_dimAck (p : Fin 8) (sub : Fin 4) (tog : Bool) (payload : BitVec 16) (rcrc : BitVec 8) (s : State) : exec (.dimAck p sub tog payload rcrc) s =
    run (llRequest p sub 5 tog payload.toNat rcrc.toNat) s := rfl
theorem exec_llUnusedCommand (p : Fin 8) (cmd : BitVec 4) (sub : Fin 4) (tog : Bool) (payload : BitVec 16) (rcrc : BitVec 8) (s : State) : exec (.llUnusedCommand p cmd sub tog payload rcrc) s =
    run (llOther p sub cmd.toNat tog payload.toNat rcrc.toNat) s := rfl
theorem exec_settleTimeout (r : Fin 24) (s : State) : exec (.settleTimeout r) s =
    runAfter (fun s => s.waitTill (s.settleDue r)) (settleTimeout r) s := rfl
theorem exec_graceExpiry (r : Fin 24) (kind : LimitKind) (s : State) : exec (.graceExpiry r kind) s =
    runAfter (fun s => s.waitTill (s.graceDue r kind)) (graceExpiry r kind) s := rfl
theorem exec_lpCtrlTallyClr (p : Fin 8) (s : State) : exec (.lpCtrlTallyClr p) s =
    run (hostStrobe (0x0904 + 32 * p.val) 1) s := rfl
theorem exec_lpCtrlNoticeClr (p : Fin 8) (s : State) : exec (.lpCtrlNoticeClr p) s =
    run (hostStrobe (0x0904 + 32 * p.val) 2) s := rfl
theorem exec_lamplighterTick (s : State) : exec .lamplighterTick s =
    runAfter (fun s => s.waitTill s.tickDue) (fun t => holdFollow (lampTick t)) s := rfl
theorem exec_domainCommonStart (d : Fin 8) (s : State) : exec (.domainCommonStart d) s =
    runTick (fun s => s.startAt d) (fun t => holdFollow (commonStart d t)) s := rfl
theorem exec_slotSwitchOn (n : Fin 48) (s : State) : exec (.slotSwitchOn n) s =
    runTick (fun s => s.onTick n) (fun t => holdFollow (switchOn n t)) s := rfl
theorem exec_slotOffPoint (n : Fin 48) (s : State) : exec (.slotOffPoint n) s =
    runTick (fun s => s.offTick n) (fun t => holdFollow (offPoint n t)) s := rfl
theorem exec_upToExpiry (n : Fin 48) (s : State) : exec (.upToExpiry n) s =
    runTick (fun s => s.upTick n) (fun t => holdFollow (upToEnd n t)) s := rfl
theorem exec_downToExpiry (n : Fin 48) (s : State) : exec (.downToExpiry n) s =
    runTick (fun s => s.downTick n) (fun t => holdFollow (downToEnd n t)) s := rfl
theorem exec_pgInChange (n : Fin 48) (level : Bool) (s : State) : exec (.pgInChange n level) s =
    run (fun t => holdFollow (pgInEdge n level t)) s := rfl
theorem exec_domainInputQualified (d : Fin 8) (s : State) : exec (.domainInputQualified d) s =
    runAfter (fun s => s.waitTill (s.inputDue d)) (inputQualified d) s := rfl
theorem exec_domainInputLost (d : Fin 8) (s : State) : exec (.domainInputLost d) s =
    run (fun t => holdFollow (inputLost d t)) s := rfl
theorem exec_minOffExpiry (d : Fin 8) (s : State) : exec (.minOffExpiry d) s =
    runAfter (fun s => s.waitTill s.seq.doms[d].minOffAt) (minOffEnd d) s := rfl
theorem exec_restartExpiry (d : Fin 8) (s : State) : exec (.restartExpiry d) s =
    runAfter (fun s => s.waitTill s.seq.doms[d].restartAt) (restartEnd d) s := rfl
theorem exec_retryWindowExpiry (d : Fin 8) (s : State) : exec (.retryWindowExpiry d) s =
    runAfter (fun s => s.waitTill (s.retryDue d)) (retryAge d) s := rfl
theorem exec_seqDomStart (d : Fin 8) (s : State) : exec (.seqDomStart d) s = run (hostStrobe (0x0A04 + 16 * d.val) 1) s := rfl
theorem exec_seqDomStop (d : Fin 8) (s : State) : exec (.seqDomStop d) s = run (hostStrobe (0x0A04 + 16 * d.val) 2) s := rfl
theorem exec_seqDomShutoff (d : Fin 8) (s : State) : exec (.seqDomShutoff d) s =
    run (hostStrobe (0x0A04 + 16 * d.val) 4) s := rfl
theorem exec_seqDomUnlatch (d : Fin 8) (s : State) : exec (.seqDomUnlatch d) s =
    run (hostStrobe (0x0A04 + 16 * d.val) 8) s := rfl
theorem exec_seqDomRetryClr (d : Fin 8) (s : State) : exec (.seqDomRetryClr d) s =
    run (hostStrobe (0x0A04 + 16 * d.val) 16) s := rfl
theorem exec_seqDomTallyClr (d : Fin 8) (s : State) : exec (.seqDomTallyClr d) s =
    run (hostStrobe (0x0A04 + 16 * d.val) 32) s := rfl
theorem exec_wickSample (m : Fin 96) (v : Nat) (s : State) : exec (.wickSample m v) s =
    run (fun t => holdFollow (wickSample m v t)) s := rfl
theorem exec_continuousComparatorChange (m : Fin 96) (v : Nat) (s : State) : exec (.continuousComparatorChange m v) s =
    run (fun t => holdFollow (contChange m v t)) s := rfl
theorem exec_captureSaturate (t : Fin 16) (s : State) : exec (.captureSaturate t) s =
    runAfter (fun s => s.waitTill (s.saturateDue t)) (timerSaturate t) s := rfl
theorem exec_ctCtrlArm (t : Fin 16) (s : State) : exec (.ctCtrlArm t) s = run (hostStrobe (0x0F42 + 12 * t.val) 1) s := rfl
theorem exec_ctCtrlMissedClr (t : Fin 16) (s : State) : exec (.ctCtrlMissedClr t) s =
    run (hostStrobe (0x0F42 + 12 * t.val) 2) s := rfl
theorem exec_ctPrescaleWrite (t : Fin 16) (v : BitVec 4) (s : State) : exec (.ctPrescaleWrite t v) s =
    run (hostField (0x0F42 + 12 * t.val) 0xF0 (v.toNat * 16)) s := rfl
theorem exec_ctResRead (t : Fin 16) (count : Nat) (s : State) : exec (.ctResRead t count) s =
    run (hostRead (0x0F44 + 12 * t.val) count) s := rfl
theorem exec_wmCtrlSelftest (m : Fin 96) (s : State) : exec (.wmCtrlSelftest m) s =
    run (hostStrobe (0x0C02 + 8 * m.val) 1) s := rfl
theorem exec_selfTestSample (m : Fin 96) (low : Bool) (high : Bool) (v : Nat) (s : State) : exec (.selfTestSample m low high v) s =
    run (fun t => holdFollow (testSample m low high v t)) s := rfl
theorem exec_sweepVisit (s : State) : exec .sweepVisit s = run sweepVisit s := rfl
theorem exec_wmSweepCtrlWrite (v : BitVec 16) (s : State) : exec (.wmSweepCtrlWrite v) s =
    run (hostWrite 0x0F30 v.toNat) s := rfl
theorem exec_wmCtrlTallyClr (m : Fin 96) (s : State) : exec (.wmCtrlTallyClr m) s =
    run (hostStrobe (0x0C02 + 8 * m.val) 16) s := rfl
theorem exec_wmTickWrite (m : Fin 96) (v : BitVec 10) (s : State) : exec (.wmTickWrite m v) s =
    run (hostField (0x0C02 + 8 * m.val) 0xFFC0 (v.toNat * 64)) s := rfl
theorem exec_wmLowWrite (m : Fin 96) (v : BitVec 16) (s : State) : exec (.wmLowWrite m v) s =
    run (hostWrite (0x0C04 + 8 * m.val) v.toNat) s := rfl
theorem exec_wmHighWrite (m : Fin 96) (v : BitVec 16) (s : State) : exec (.wmHighWrite m v) s =
    run (hostWrite (0x0C06 + 8 * m.val) v.toNat) s := rfl
theorem exec_hkRoundStart (s : State) : exec .hkRoundStart s = runAfter (fun s => s.waitTill s.roundNext) roundStart s := rfl
theorem exec_hkConversionDone (ch : Fin 160) (val : BitVec 16) (q : HkReading) (s : State) : exec (.hkConversionDone ch val q) s =
    run (hkDone ch.val val.toNat q.sat q.vbe) s := rfl
theorem exec_hkConversionTimeout (ch : Fin 160) (s : State) : exec (.hkConversionTimeout ch) s =
    run (hkTimeout ch.val) s := rfl
theorem exec_hkRoundLate (s : State) : exec .hkRoundLate s = runAfter (fun s => s.waitTill s.roundDue) hkLate s := rfl
theorem exec_hkCtrlTallyClr (s : State) : exec .hkCtrlTallyClr s = run (hostWrite 0x0F02 1) s := rfl
theorem exec_thLevelWrite (lvl : ThLevel) (v : BitVec 16) (s : State) : exec (.thLevelWrite lvl v) s =
    run (hostWrite (levelAddr lvl) v.toNat) s := rfl
theorem exec_hkResRead (count : Nat) (s : State) : exec (.hkResRead count) s = run (hostRead 0x0F08 count) s := rfl
theorem exec_thResRead (count : Nat) (s : State) : exec (.thResRead count) s = run (hostRead 0x0F10 count) s := rfl
theorem exec_rideComparatorTrip (s : State) : exec .rideComparatorTrip s = run rideTrip s := rfl
theorem exec_rideComparatorClear (s : State) : exec .rideComparatorClear s = run rideClear s := rfl
theorem exec_handbackExpiry (s : State) : exec .handbackExpiry s =
    runAfter (fun s => s.waitTill s.handbackDue) handbackEnd s := rfl
theorem exec_maxRideExpiry (s : State) : exec .maxRideExpiry s = runAfter (fun s => s.waitTill s.rideDue) maxRide s := rfl
theorem exec_busBarQualified (s : State) : exec .busBarQualified s =
    runAfter (fun s => s.waitTill s.busDue) busQualified s := rfl
theorem exec_busBarAbsent (s : State) : exec .busBarAbsent s = run busAbsent s := rfl
theorem exec_shareSample (uv : Int) (s : State) : exec (.shareSample uv) s = run (shareSample uv) s := rfl
theorem exec_shareLoopStep (s : State) : exec .shareLoopStep s = run shareStep s := rfl
theorem exec_huCapWrite (v : BitVec 16) (s : State) : exec (.huCapWrite v) s = run (hostWrite 0x1006 v.toNat) s := rfl
theorem exec_mbTransactionDone (res : MbResult) (s : State) : exec (.mbTransactionDone res) s =
    run (fun t => holdJudge (mbDone res t)) s := rfl
theorem exec_mbFailureRetry (c : Fin 16) (s : State) : exec (.mbFailureRetry c) s =
    runAfter (fun s => s.waitTill (s.mbDue c false)) (mbRetry c false) s := rfl
theorem exec_mbBusyRetry (c : Fin 16) (s : State) : exec (.mbBusyRetry c) s =
    runAfter (fun s => s.waitTill (s.mbDue c true)) (mbRetry c true) s := rfl
theorem exec_mbLowTimeout (sdaStuck : Bool) (s : State) : exec (.mbLowTimeout sdaStuck) s =
    run (fun t => holdJudge (mbLowTimeout sdaStuck t)) s := rfl
theorem exec_cartridgeStatusPoll (c : Fin 16) (s : State) : exec (.cartridgeStatusPoll c) s = run (statusPoll c) s := rfl
theorem exec_authPoll (c : Fin 16) (s : State) : exec (.authPoll c) s = run (authPollNow c) s := rfl
theorem exec_authTimeout (c : Fin 16) (s : State) : exec (.authTimeout c) s =
    runAfter (fun s => s.waitTill (s.authDue c)) (fun t => holdJudge (authExpired c t)) s := rfl
theorem exec_reauthTimer (c : Fin 16) (s : State) : exec (.reauthTimer c) s =
    runAfter (fun s => s.waitTill (s.reauthDue c)) (fun t => holdJudge (reauth c t)) s := rfl
theorem exec_counterWritePeriod (s : State) : exec .counterWritePeriod s = run writeAllCounters s := rfl
theorem exec_bcCtrlRescan (c : Fin 16) (s : State) : exec (.bcCtrlRescan c) s = run (hostWrite 0x1020 (c.val + 16)) s := rfl
theorem exec_huCtrlTallyClr (s : State) : exec .huCtrlTallyClr s = run (hostWrite 0x1004 1) s := rfl
theorem exec_huResRead (count : Nat) (s : State) : exec (.huResRead count) s = run (hostRead 0x1014 count) s := rfl
theorem exec_faultnReleaseTimer (s : State) : exec .faultnReleaseTimer s =
    runAfter (fun s => s.waitTill s.faultnDue) faultnRelease s := rfl
theorem exec_cresetRestart (straps : Straps) (s : State) : exec (.cresetRestart straps) s =
    run (cresetRestarted straps) s := rfl
theorem exec_blockResetComplete (b : Block) (s : State) : exec (.blockResetComplete b) s = run (blockDone b) s := rfl
theorem exec_evStatClear (i : Fin 12) (v : BitVec 16) (s : State) : exec (.evStatClear i v) s =
    run (hostWrite (0x0100 + 2 * i.val) v.toNat) s := rfl
theorem exec_evIenWrite (i : Fin 12) (v : BitVec 16) (s : State) : exec (.evIenWrite i v) s =
    run (hostWrite (0x0120 + 2 * i.val) v.toNat) s := rfl
theorem exec_evCtrlFaultnClr (s : State) : exec .evCtrlFaultnClr s = run (hostWrite 0x0150 1) s := rfl
theorem exec_evCtrlUnfence (s : State) : exec .evCtrlUnfence s = run (hostWrite 0x0150 2) s := rfl
theorem exec_evCtrlBlkRelease (s : State) : exec .evCtrlBlkRelease s = run (hostWrite 0x0150 4) s := rfl
theorem exec_evCtrlHoldClr (s : State) : exec .evCtrlHoldClr s = run (hostWrite 0x0150 8) s := rfl
theorem exec_evCtrlCntClr (s : State) : exec .evCtrlCntClr s = run (hostWrite 0x0150 16) s := rfl
theorem exec_tallyCtrlClrAll (s : State) : exec .tallyCtrlClrAll s = run (hostWrite 0x1780 1) s := rfl
theorem exec_evTimeRead (count : Nat) (s : State) : exec (.evTimeRead count) s = run (hostRead 0x0144 count) s := rfl
theorem exec_tallyRead (i : Fin 32) (count : Nat) (s : State) : exec (.tallyRead i count) s =
    run (hostRead (0x1700 + 4 * i.val) count) s := rfl
theorem exec_testChallenge (tag : BitVec 8) (q : SpEnd) (s : State) : exec (.testChallenge tag q) s =
    run (spRequest 0x7D tag.toNat [] q testChallengeDo) s := rfl
theorem exec_testEnter (tag : BitVec 8) (q : SpEnd) (payload : List (BitVec 8)) (s : State) : exec (.testEnter tag q payload) s =
    run (spRequest 0x7E tag.toNat payload q (testEnterDo payload)) s := rfl
theorem exec_supplyRangeExit (k : Fin 5) (s : State) : exec (.supplyRangeExit k) s = run (supplyExit k) s := rfl
theorem exec_supplyRangeClear (s : State) : exec .supplyRangeClear s = run supplyClear s := rfl
theorem exec_pairLinkUp (s : State) : exec .pairLinkUp s = run pairLinked s := rfl
theorem exec_pairLinkLoss (s : State) : exec .pairLinkLoss s = runAfter lossWait pairDown s := rfl
theorem exec_plSyncHealthSend (s : State) : exec .plSyncHealthSend s = run syncHealth s := rfl
theorem exec_plStateSend (s : State) : exec .plStateSend s = run stateRow s := rfl
theorem exec_plCtrlRetryTimer (seq : BitVec 8) (s : State) : exec (.plCtrlRetryTimer seq) s =
    runAfter (fun s => s.waitTill (s.ctrlDue seq.toNat)) (ctrlRetry seq.toNat) s := rfl
theorem exec_plAck (crcOk : Bool) (seq : BitVec 8) (s : State) : exec (.plAck crcOk seq) s =
    run (onPair crcOk (ackIn seq.toNat)) s := rfl
theorem exec_plYield (crcOk : Bool) (seq : BitVec 8) (s : State) : exec (.plYield crcOk seq) s =
    run (onCtrl crcOk seq yieldIn) s := rfl
theorem exec_plRefuse (crcOk : Bool) (seq : BitVec 8) (s : State) : exec (.plRefuse crcOk seq) s =
    run (onCtrl crcOk seq refuseIn) s := rfl
theorem exec_plTakeReq (crcOk : Bool) (seq : BitVec 8) (s : State) : exec (.plTakeReq crcOk seq) s =
    run (onCtrl crcOk seq takeIn) s := rfl
theorem exec_plFence (crcOk : Bool) (seq : BitVec 8) (n : Fin 64) (s : State) : exec (.plFence crcOk seq n) s =
    run (onFollow crcOk seq (fwdArrive (.fence n))) s := rfl
theorem exec_plUnfence (crcOk : Bool) (seq : BitVec 8) (n : Fin 64) (s : State) : exec (.plUnfence crcOk seq n) s =
    run (onFollow crcOk seq (fwdArrive (.unfence n))) s := rfl
theorem exec_plSnuff (crcOk : Bool) (seq : BitVec 8) (r : Fin 24) (s : State) : exec (.plSnuff crcOk seq r) s =
    run (onFollow crcOk seq (fwdArrive (.snuff r))) s := rfl
theorem exec_plUnsnuff (crcOk : Bool) (seq : BitVec 8) (r : Fin 24) (s : State) : exec (.plUnsnuff crcOk seq r) s =
    run (onFollow crcOk seq (fwdArrive (.unsnuff r))) s := rfl
theorem exec_plShedAnnouncement (crcOk : Bool) (seq : BitVec 8) (r : Fin 24) (s : State) : exec (.plShedAnnouncement crcOk seq r) s =
    run (onFollow crcOk seq (fwdArrive (.shed r))) s := rfl
theorem exec_plRelight (crcOk : Bool) (seq : BitVec 8) (m : RelightMsg) (s : State) : exec (.plRelight crcOk seq m) s =
    run (onFollow crcOk seq (fwdArrive (.relight m.rail m.entry m.trig))) s := rfl
theorem exec_plDirectionChange (crcOk : Bool) (seq : BitVec 8) (discharge : Bool) (s : State) : exec (.plDirectionChange crcOk seq discharge) s =
    run (onFollow crcOk seq (fwdArrive (.direction discharge))) s := rfl
theorem exec_plLamplighterStep (crcOk : Bool) (seq : BitVec 8) (n : Fin 48) (on : Bool) (s : State) : exec (.plLamplighterStep crcOk seq n on) s =
    run (onFollow crcOk seq (fwdArrive (.lampStep n on))) s := rfl
theorem exec_plSlotVerdict (crcOk : Bool) (seq : BitVec 8) (v : Verdict) (s : State) : exec (.plSlotVerdict crcOk seq v) s =
    run (onCtrl crcOk seq (verdictIn v)) s := rfl
theorem exec_plDomainShutoff (crcOk : Bool) (seq : BitVec 8) (mask : BitVec 8) (s : State) : exec (.plDomainShutoff crcOk seq mask) s =
    run (onFollow crcOk seq (shutOff mask.toNat .fault)) s := rfl
theorem exec_plTrim (crcOk : Bool) (seq : BitVec 8) (addr : BitVec 16) (v : BitVec 16) (s : State) : exec (.plTrim crcOk seq addr v) s =
    run (onFollow crcOk seq (trimIn addr.toNat v.toNat)) s := rfl
theorem exec_plSync (crcOk : Bool) (entries : List SyncEntry) (s : State) : exec (.plSync crcOk entries) s =
    run (onPair crcOk (syncIn entries)) s := rfl
theorem exec_plHealth (crcOk : Bool) (h : Health) (s : State) : exec (.plHealth crcOk h) s =
    run (onPair crcOk (healthIn h)) s := rfl
theorem exec_plState (crcOk : Bool) (t : TwinShared) (s : State) : exec (.plState crcOk t) s =
    run (onPair crcOk (stateIn t)) s := rfl
theorem exec_plReport (crcOk : Bool) (rep : TwinReport) (s : State) : exec (.plReport crcOk rep) s =
    run (onPair crcOk (reportIn rep)) s := rfl
theorem exec_plStream (crcOk : Bool) (m : StreamMsg) (s : State) : exec (.plStream crcOk m) s =
    run (onPair crcOk (streamIn m)) s := rfl
theorem exec_ownershipDecision (s : State) : exec .ownershipDecision s =
    runAfter (fun s => s.waitTill s.decideDue) decide100 s := rfl
theorem exec_handoverOrigin (s : State) : exec .handoverOrigin s = run handOrigin s := rfl
theorem exec_peerOwnNChange (asserted : Bool) (s : State) : exec (.peerOwnNChange asserted) s =
    run (peerChange asserted) s := rfl
theorem exec_ownRelease (s : State) : exec .ownRelease s = runAfter (fun s => s.waitTill s.pair.release) ownReleased s := rfl
theorem exec_ownConflict (s : State) : exec .ownConflict s = runAfter (fun s => s.waitTill s.conflictDue) ownConflict s := rfl
theorem exec_revertHoldExpiry (s : State) : exec .revertHoldExpiry s =
    runAfter (fun s => s.waitTill s.pair.holdAt) revertDue s := rfl
theorem exec_verdictTimeout (s : State) : exec .verdictTimeout s =
    runAfter (fun s => s.waitTill s.verdictDue) verdictLate s := rfl
theorem exec_pairCtrlYield (s : State) : exec .pairCtrlYield s = run (hostStrobe 0x1104 1) s := rfl
theorem exec_pairCtrlTake (s : State) : exec .pairCtrlTake s = run (hostStrobe 0x1104 2) s := rfl
theorem exec_pairCtrlFlapClr (s : State) : exec .pairCtrlFlapClr s = run (hostStrobe 0x1104 4) s := rfl
theorem exec_pairCtrlNoRevert (on : Bool) (s : State) : exec (.pairCtrlNoRevert on) s =
    run (hostField 0x1104 8 (bit01 on * 8)) s := rfl
theorem exec_pairCtrlTallyClr (s : State) : exec .pairCtrlTallyClr s = run (hostStrobe 0x1104 16) s := rfl
theorem exec_ovLinkAligned (k : Fin 6) (s : State) : exec (.ovLinkAligned k) s = run (linkAligned k) s := rfl
theorem exec_ovLinkFrame (k : Fin 6) (e : FrameEnd) (l : LinkInfo) (s : State) : exec (.ovLinkFrame k e l) s =
    run (linkIn k e l) s := rfl
theorem exec_ovLinkFrameSend (k : Fin 6) (s : State) : exec (.ovLinkFrameSend k) s = run (linkSend k) s := rfl
theorem exec_ovLinkDown (k : Fin 6) (why : LinkLoss) (s : State) : exec (.ovLinkDown k why) s =
    runAfter (fun s => s.waitTill (s.silentDue k why)) (linkDown k why) s := rfl
theorem exec_ovFrameForward (k : Fin 6) (e : FrameEnd) (f : OvFrame) (s : State) : exec (.ovFrameForward k e f) s =
    run (forwardFrame k e f) s := rfl
theorem exec_ovCreditReturn (k : Fin 6) (cls : Fin 4) (credits : Nat) (s : State) : exec (.ovCreditReturn k cls credits) s =
    run (creditReturn k cls.val credits) s := rfl
theorem exec_ovEnum (k : Fin 6) (e : FrameEnd) (h : OvHdr) (s : State) : exec (.ovEnum k e h) s =
    run (onGood k e (fun u => takeMsg k 1 h (.enum k h) (if k == u.upPort && !u.ov.acting then cNDown false 1 2 h [0] u else u))) s := rfl
theorem exec_ovCount (k : Fin 6) (e : FrameEnd) (h : OvHdr) (n : Nat) (s : State) : exec (.ovCount k e h n) s =
    run (onLink k e h (.count k h n)) s := rfl
theorem exec_ovCountTimeout (s : State) : exec .ovCountTimeout s =
    runAfter (fun s => s.waitTill s.ov.enumAt) countTimeout s := rfl
theorem exec_ovAssign (k : Fin 6) (e : FrameEnd) (h : OvHdr) (base : Nat) (len : Nat) (s : State) : exec (.ovAssign k e h base len) s =
    run (onLink k e h (.assign k h base len)) s := rfl
theorem exec_ovTrip (k : Fin 6) (e : FrameEnd) (f : Ov0) (s : State) : exec (.ovTrip k e f) s = run (upIn k e 1 f) s := rfl
theorem exec_ovYield (k : Fin 6) (e : FrameEnd) (f : Ov0) (s : State) : exec (.ovYield k e f) s = run (upIn k e 2 f) s := rfl
theorem exec_ovSummary (k : Fin 6) (e : FrameEnd) (f : Ov0) (s : State) : exec (.ovSummary k e f) s =
    run (upIn k e 3 f) s := rfl
theorem exec_ovSummaryWindowEnd (k : Fin 6) (s : State) : exec (.ovSummaryWindowEnd k) s =
    runAfter (fun s => s.waitTill (s.windowDue k)) (summaryWindowEnd k) s := rfl
theorem exec_ovBarAck (k : Fin 6) (e : FrameEnd) (f : Ov0) (s : State) : exec (.ovBarAck k e f) s =
    run (ackFrame k e 1 f) s := rfl
theorem exec_ovSnapAck (k : Fin 6) (e : FrameEnd) (f : Ov0) (s : State) : exec (.ovSnapAck k e f) s =
    run (ackFrame k e 2 f) s := rfl
theorem exec_ovTmark (k : Fin 6) (e : FrameEnd) (f : Ov0) (s : State) : exec (.ovTmark k e f) s = run (tmarkIn k e f) s := rfl
theorem exec_ovBarrier (k : Fin 6) (e : FrameEnd) (f : Ov0) (s : State) : exec (.ovBarrier k e f) s =
    run (barrierIn k e f) s := rfl
theorem exec_ovSnap (k : Fin 6) (e : FrameEnd) (f : Ov0) (s : State) : exec (.ovSnap k e f) s = run (snapIn k e f) s := rfl
theorem exec_ovReset (k : Fin 6) (e : FrameEnd) (f : Ov0) (s : State) : exec (.ovReset k e f) s = run (resetIn k e f) s := rfl
theorem exec_ovFtrip (k : Fin 6) (e : FrameEnd) (f : Ov0) (s : State) : exec (.ovFtrip k e f) s = run (ftripIn k e f) s := rfl
theorem exec_ovFstart (k : Fin 6) (e : FrameEnd) (f : Ov0) (s : State) : exec (.ovFstart k e f) s =
    run (fstartIn k e f) s := rfl
theorem exec_ovRootchg (k : Fin 6) (e : FrameEnd) (f : Ov0) (s : State) : exec (.ovRootchg k e f) s =
    run (rootchgIn k e f) s := rfl
theorem exec_ovGraft (k : Fin 6) (e : FrameEnd) (h : OvHdr) (base : Nat) (len : Nat) (s : State) : exec (.ovGraft k e h base len) s =
    run (graftFrame k e h base len) s := rfl
theorem exec_ovUngraft (k : Fin 6) (e : FrameEnd) (h : OvHdr) (base : Nat) (len : Nat) (s : State) : exec (.ovUngraft k e h base len) s =
    run (ungraftFrame k e h base len) s := rfl
theorem exec_ovRdReq (k : Fin 6) (e : FrameEnd) (h : OvHdr) (addr : BitVec 16) (count : Nat) (s : State) : exec (.ovRdReq k e h addr count) s =
    run (rdFrame k e h addr.toNat count) s := rfl
theorem exec_ovWrReq (k : Fin 6) (e : FrameEnd) (h : OvHdr) (addr : BitVec 16) (data : List (BitVec 8)) (s : State) : exec (.ovWrReq k e h addr data) s =
    run (wrFrame k e h addr.toNat data) s := rfl
theorem exec_ovResp (k : Fin 6) (e : FrameEnd) (h : OvHdr) (status : BitVec 8) (data : List (BitVec 8)) (s : State) : exec (.ovResp k e h status data) s =
    run (respIn k e h status.toNat data) s := rfl
theorem exec_ovTime (k : Fin 6) (e : FrameEnd) (h : OvHdr) (mark : BitVec 16) (markMs : BitVec 16) (time : BitVec 64) (s : State) : exec (.ovTime k e h mark markMs time) s =
    run (timeIn k e h mark.toNat markMs.toNat time.toNat) s := rfl
theorem exec_ovRole (k : Fin 6) (e : FrameEnd) (h : OvHdr) (acting : Bool) (s : State) : exec (.ovRole k e h acting) s =
    run (onLink k e h (.role k h acting)) s := rfl
theorem exec_ovShareSp (k : Fin 6) (e : FrameEnd) (h : OvHdr) (v : BitVec 16) (s : State) : exec (.ovShareSp k e h v) s =
    run (shareIn k e h v.toNat) s := rfl
theorem exec_ovCap (k : Fin 6) (e : FrameEnd) (h : OvHdr) (v : BitVec 16) (s : State) : exec (.ovCap k e h v) s =
    run (capIn k e h v.toNat) s := rfl
theorem exec_ovActivate (k : Fin 6) (e : FrameEnd) (h : OvHdr) (a : ActivateCmd) (s : State) : exec (.ovActivate k e h a) s =
    run (activateIn k e h a) s := rfl
theorem exec_ovEvrec (k : Fin 6) (e : FrameEnd) (h : OvHdr) (rec : EvRec) (s : State) : exec (.ovEvrec k e h rec) s =
    run (evrecIn k e h rec) s := rfl
theorem exec_ovSnaprec (k : Fin 6) (e : FrameEnd) (h : OvHdr) (payload : List (BitVec 8)) (s : State) : exec (.ovSnaprec k e h payload) s =
    run (snaprecIn k e h payload) s := rfl
theorem exec_ovImgData (k : Fin 6) (e : FrameEnd) (h : OvHdr) (imgId : BitVec 32) (offset : BitVec 32) (data : List (BitVec 8)) (s : State) : exec (.ovImgData k e h imgId offset data) s =
    run (imgFrame k e h imgId.toNat offset.toNat data) s := rfl
theorem exec_ovPark (k : Fin 6) (s : State) : exec (.ovPark k) s = run (parkPort k) s := rfl
theorem exec_ovMarkTimer (s : State) : exec .ovMarkTimer s = runAfter (fun s => s.waitTill s.markDue) markTimer s := rfl
theorem exec_ovTimeHold (s : State) : exec .ovTimeHold s = runAfter (fun s => s.waitTill s.holdDue) timeHold s := rfl
theorem exec_ovBarrierTimeout (s : State) : exec .ovBarrierTimeout s =
    runAfter (fun s => s.waitTill s.ov.opEnds) barrierTimeout s := rfl
theorem exec_ovSnapCapture (s : State) : exec .ovSnapCapture s =
    runAfter (fun s => s.waitGlobal s.captureG) snapCapture s := rfl
theorem exec_ovTxnTimeout (tag : BitVec 7) (s : State) : exec (.ovTxnTimeout tag) s =
    runAfter (fun s => s.waitTill (s.txnDue tag.toNat)) (txnTimeout tag.toNat) s := rfl
theorem exec_ovAutoReroute (s : State) : exec .ovAutoReroute s =
    runAfter (fun s => s.waitTill s.rerouteDue) autoReroute s := rfl
theorem exec_ovDeputyTakeover (s : State) : exec .ovDeputyTakeover s =
    runAfter (fun s => s.waitTill s.deputyDue) deputyTakeover s := rfl
theorem exec_ovCtrlEnum (s : State) : exec .ovCtrlEnum s = run (hostWrite 0x1202 1) s := rfl
theorem exec_ovCtrlBarrier (s : State) : exec .ovCtrlBarrier s = run (hostWrite 0x1202 2) s := rfl
theorem exec_ovCtrlSnap (s : State) : exec .ovCtrlSnap s = run (hostWrite 0x1202 4) s := rfl
theorem exec_ovCtrlReset (s : State) : exec .ovCtrlReset s = run (hostWrite 0x1202 8) s := rfl
theorem exec_ovCtrlReroute (s : State) : exec .ovCtrlReroute s = run (hostWrite 0x1202 16) s := rfl
theorem exec_ovCtrlReturn (s : State) : exec .ovCtrlReturn s = run (hostWrite 0x1202 32) s := rfl
theorem exec_ovCtrlReclaim (s : State) : exec .ovCtrlReclaim s = run (hostWrite 0x1202 64) s := rfl
theorem exec_ovTxnGo (s : State) : exec .ovTxnGo s = run (fun t => serveWaiting (hostStrobe 0x1256 1 t)) s := rfl
theorem exec_ovTimeSetWrite (v : BitVec 64) (s : State) : exec (.ovTimeSetWrite v) s =
    run (hostBurst 0x1220 (leBytes 8 v.toNat)) s := rfl
theorem exec_ovTimeRead (count : Nat) (s : State) : exec (.ovTimeRead count) s = run (hostRead 0x1218 count) s := rfl
theorem exec_ledgerBlockWrite (ch : Fin 64) (samples : List (BitVec 12)) (t0 : BitVec 64) (s : State) : exec (.ledgerBlockWrite ch samples t0) s =
    run (ledgerBlock ch (samples.map (·.toNat)) t0.toNat) s := rfl
theorem exec_recordClose (s : State) : exec .recordClose s = runAfter (fun s => s.waitGlobal s.closeG) recordDue s := rfl
theorem exec_archiveFlushStart (s : State) : exec .archiveFlushStart s =
    runAfter (fun s => s.waitTill s.flushDue) flushStart s := rfl
theorem exec_archiveFlushDone (s : State) : exec .archiveFlushDone s = run flushDone s := rfl
theorem exec_lastGaspWriteDone (complete : Bool) (s : State) : exec (.lastGaspWriteDone complete) s =
    run (lgsDone complete) s := rfl
theorem exec_eccError (site : EccSite) (double : Bool) (s : State) : exec (.eccError site double) s =
    run (eccErr site double) s := rfl
theorem exec_lgCtrlTrigger (s : State) : exec .lgCtrlTrigger s = run (hostStrobe 0x1402 1) s := rfl
theorem exec_lgCtrlRelease (s : State) : exec .lgCtrlRelease s = run (hostStrobe 0x1402 2) s := rfl
theorem exec_lgCtrlFlushHold (on : Bool) (s : State) : exec (.lgCtrlFlushHold on) s =
    run (hostField 0x1402 4 (bit01 on * 4)) s := rfl
theorem exec_lgCtrlTallyClr (s : State) : exec .lgCtrlTallyClr s = run (hostStrobe 0x1402 8) s := rfl
theorem exec_lgRecInfoRead (count : Nat) (s : State) : exec (.lgRecInfoRead count) s = run (hostRead 0x1420 count) s := rfl
theorem exec_lgWinSelWrite (v : BitVec 16) (s : State) : exec (.lgWinSelWrite v) s = run (hostWrite 0x1406 v.toNat) s := rfl
theorem exec_lgWinOfsWrite (v : BitVec 32) (s : State) : exec (.lgWinOfsWrite v) s =
    run (hostBurst 0x1408 (leBytes 4 v.toNat)) s := rfl
theorem exec_prbSelWrite (v : BitVec 16) (s : State) : exec (.prbSelWrite v) s = run (hostWrite 0x0040 v.toNat) s := rfl
theorem exec_ledgerWindowRead (ofs : BitVec 14) (count : Nat) (s : State) : exec (.ledgerWindowRead ofs count) s =
    run (hostRead (0x8000 + ofs.toNat) count) s := rfl
theorem exec_patternWindowRead (ofs : BitVec 14) (count : Nat) (s : State) : exec (.patternWindowRead ofs count) s =
    run (hostRead (0xC000 + ofs.toNat) count) s := rfl
theorem exec_windowLineFetch (pat : Bool) (line : Nat) (s : State) : exec (.windowLineFetch pat line) s =
    run (lineFetch pat line) s := rfl
theorem exec_hbSetPointer (p : PtrBytes) (count : Nat) (s : State) : exec (.hbSetPointer p count) s =
    run (hostPointer p count) s := rfl
theorem exec_registerWrite (ptr : BitVec 16) (data : List (BitVec 8)) (s : State) : exec (.registerWrite ptr data) s =
    run (fun t => serveWaiting (hostBurst ptr.toNat data t)) s := rfl
theorem exec_hbLowTimeout (line : BusLine) (s : State) : exec (.hbLowTimeout line) s = run (lowTimeout line) s := rfl
theorem exec_attnAttempt (res : AttnResult) (s : State) : exec (.attnAttempt res) s = run (attnTry res) s := rfl
theorem exec_attnBackoffExpiry (s : State) : exec .attnBackoffExpiry s = run backoffEnd s := rfl
theorem exec_hbRecovery (pulses : Nat) (s : State) : exec (.hbRecovery pulses) s = run (recoverDue pulses) s := rfl
theorem exec_hbCtrlTallyClr (s : State) : exec .hbCtrlTallyClr s = run (hostWrite 0x1504 1) s := rfl
theorem exec_hbCtrlFlush (s : State) : exec .hbCtrlFlush s = run (hostWrite 0x1504 2) s := rfl
theorem exec_hbCtrlRecover (pulses : Nat) (s : State) : exec (.hbCtrlRecover pulses) s = run (recoverRow pulses) s := rfl
theorem exec_glbUnlockWrite (path : Path) (v : BitVec 16) (s : State) : exec (.glbUnlockWrite path v) s =
    run (unlockRow path v.toNat) s := rfl
theorem exec_unlockDisarmTimeout (ov : Bool) (s : State) : exec (.unlockDisarmTimeout ov) s =
    runAfter (fun s => s.waitTill (s.disarmAt ov)) (disarmDue ov) s := rfl
theorem exec_unlockIdleLock (ov : Bool) (s : State) : exec (.unlockIdleLock ov) s =
    runAfter (fun s => s.waitTill (s.relockAt ov)) (idleLockDue ov) s := rfl
theorem exec_spFetch (s : State) : exec .spFetch s = run fetchResp s := rfl
theorem exec_spOpen (tag : BitVec 8) (q : SpEnd) (mode : BitVec 8) (s : State) : exec (.spOpen tag q mode) s =
    run (spRequest 1 tag.toNat [mode] q (spOpenDo mode.toNat)) s := rfl
theorem exec_spClose (tag : BitVec 8) (q : SpEnd) (s : State) : exec (.spClose tag q) s =
    run (spRequest 2 tag.toNat [] q spCloseDo) s := rfl
theorem exec_spInfo (tag : BitVec 8) (q : SpEnd) (s : State) : exec (.spInfo tag q) s =
    run (spRequest 3 tag.toNat [] q spInfoDo) s := rfl
theorem exec_spRead (tag : BitVec 8) (q : SpEnd) (space : BitVec 8) (ofs : BitVec 32) (count : BitVec 16) (s : State) : exec (.spRead tag q space ofs count) s =
    run (spRequest 0x10 tag.toNat ([space] ++ leBytes 4 ofs.toNat ++ leBytes 2 count.toNat) q (spReadDo space.toNat ofs.toNat count.toNat)) s := rfl
theorem exec_spStageBegin (tag : BitVec 8) (q : SpEnd) (payload : List (BitVec 8)) (s : State) : exec (.spStageBegin tag q payload) s =
    run (spRequest 0x20 tag.toNat payload q (spStageBeginDo payload)) s := rfl
theorem exec_spStageData (tag : BitVec 8) (q : SpEnd) (ofs : BitVec 32) (data : List (BitVec 8)) (s : State) : exec (.spStageData tag q ofs data) s =
    run (spRequest 0x21 tag.toNat (leBytes 4 ofs.toNat ++ data) q (spStageDataDo ofs.toNat data)) s := rfl
theorem exec_spStageAbort (tag : BitVec 8) (q : SpEnd) (s : State) : exec (.spStageAbort tag q) s =
    run (spRequest 0x22 tag.toNat [] q spAbortDo) s := rfl
theorem exec_spActivate (tag : BitVec 8) (q : SpEnd) (imgId : BitVec 32) (confirm : BitVec 16) (atTime : BitVec 64) (s : State) : exec (.spActivate tag q imgId confirm atTime) s =
    run (spRequest 0x23 tag.toNat (leBytes 4 imgId.toNat ++ leBytes 2 confirm.toNat ++ leBytes 8 atTime.toNat) q (spActivateDo imgId.toNat confirm.toNat atTime.toNat)) s := rfl
theorem exec_spCancel (tag : BitVec 8) (q : SpEnd) (s : State) : exec (.spCancel tag q) s =
    run (spRequest 0x24 tag.toNat [] q spCancelDo) s := rfl
theorem exec_spRevert (tag : BitVec 8) (q : SpEnd) (mode : BitVec 8) (s : State) : exec (.spRevert tag q mode) s =
    run (spRequest 0x25 tag.toNat [mode] q (spRevertDo mode.toNat)) s := rfl
theorem exec_spConfirm (tag : BitVec 8) (q : SpEnd) (s : State) : exec (.spConfirm tag q) s =
    run (spRequest 0x26 tag.toNat [] q spConfirmDo) s := rfl
theorem exec_spMemErase (tag : BitVec 8) (q : SpEnd) (dev : BitVec 8) (ofs : BitVec 32) (s : State) : exec (.spMemErase tag q dev ofs) s =
    run (spRequest 0x40 tag.toNat ([dev] ++ leBytes 4 ofs.toNat) q (spEraseDo dev.toNat ofs.toNat)) s := rfl
theorem exec_spMemWrite (tag : BitVec 8) (q : SpEnd) (dev : BitVec 8) (ofs : BitVec 32) (data : List (BitVec 8)) (s : State) : exec (.spMemWrite tag q dev ofs data) s =
    run (spRequest 0x41 tag.toNat ([dev] ++ leBytes 4 ofs.toNat ++ data) q (spWriteDo dev.toNat ofs.toNat data)) s := rfl
theorem exec_spMemRead (tag : BitVec 8) (q : SpEnd) (dev : BitVec 8) (ofs : BitVec 32) (count : BitVec 16) (s : State) : exec (.spMemRead tag q dev ofs count) s =
    run (spRequest 0x42 tag.toNat ([dev] ++ leBytes 4 ofs.toNat ++ leBytes 2 count.toNat) q (spMemReadDo dev.toNat ofs.toNat count.toNat)) s := rfl
theorem exec_spKeyWrite (tag : BitVec 8) (q : SpEnd) (slot : BitVec 8) (key : List (BitVec 8)) (s : State) : exec (.spKeyWrite tag q slot key) s =
    run (spRequest 0x43 tag.toNat ([slot] ++ key) q (spKeyDo slot.toNat key)) s := rfl
theorem exec_spSessionTimeout (s : State) : exec .spSessionTimeout s =
    runAfter (fun s => s.waitTill s.sessionDue) sessionTimeout s := rfl
theorem exec_ovStagingSilence (s : State) : exec .ovStagingSilence s =
    runAfter (fun s => s.waitTill s.silenceDue) ovSilence s := rfl
theorem exec_imageVerify (s : State) : exec .imageVerify s = run imageVerified s := rfl
theorem exec_coreConfirm (c : CoreId) (s : State) : exec (.coreConfirm c) s = run (coreConfirmed c) s := rfl
theorem exec_coreTrialTimeout (c : CoreId) (s : State) : exec (.coreTrialTimeout c) s =
    runAfter (fun s => s.waitTill (s.trialDue c)) (coreTrialEnd c) s := rfl
theorem exec_proofWindowEnd (s : State) : exec .proofWindowEnd s = runAfter (fun s => s.waitTill s.proofDue) proofEnd s := rfl
theorem exec_pairSequenceHalt (s : State) : exec .pairSequenceHalt s =
    runAfter (fun s => s.waitTill s.seqDue) seqLate s := rfl
theorem exec_scheduledActivation (s : State) : exec .scheduledActivation s = runAfter State.schedWait schedDue s := rfl
theorem exec_updCtrlActivate (s : State) : exec .updCtrlActivate s = run (hostStrobe 0x1604 1) s := rfl
theorem exec_updCtrlCancel (s : State) : exec .updCtrlCancel s = run (hostStrobe 0x1604 2) s := rfl
theorem exec_updCtrlRevert (s : State) : exec .updCtrlRevert s = run (hostStrobe 0x1604 4) s := rfl
theorem exec_updCtrlConfirm (s : State) : exec .updCtrlConfirm s = run (hostStrobe 0x1604 8) s := rfl
theorem exec_continuousFilterExpiry (m : Fin 96) (high : Bool) (s : State) : exec (.continuousFilterExpiry m high) s =
    runAfter (fun s => s.waitTill (s.filterDue m high)) (fun t => holdFollow (contExpiry m high t)) s := rfl
theorem exec_groundHoldExpiry (s : State) : exec .groundHoldExpiry s =
    runAfter (fun s => s.waitTill s.groundDue) groundAge s := rfl
theorem exec_flapWindowExpiry (s : State) : exec .flapWindowExpiry s =
    runAfter (fun s => s.waitTill s.flapDue) flapAge s := rfl
theorem exec_streamFrameTimeout (s : State) : exec .streamFrameTimeout s = run streamLost s := rfl
theorem exec_ovUnlistedType (k : Fin 6) (e : FrameEnd) (s : State) : exec (.ovUnlistedType k e) s =
    run (unlisted k e) s := rfl
theorem exec_spUnknownCommand (cmd : BitVec 8) (tag : BitVec 8) (q : SpEnd) (s : State) : exec (.spUnknownCommand cmd tag q) s =
    run (spRequest cmd.toNat tag.toNat [] q unknownDo) s := rfl
theorem exec_hostBusStop (s : State) : exec .hostBusStop s = run hostStop s := rfl

end Sys2Proof.Machine
end

