-- ==== Sys2Proof/Laws/Fixed.lean ====
section
/-! SUPPORT. The latched straps (spec/03_start_and_memory.md R56) and the key store (spec/16_update.md R367, R374): every
operation but the sampling of the straps and the write of a key leaves both as they were (its lemma ends in `_fix`). -/
namespace Sys2Proof.Machine

@[simp] theorem State.updGlb_straps (s : State) (f : GlobalS → GlobalS) : (s.updGlb f).glb.straps = (f s.glb).straps := by
  unfold State.updGlb; simp

@[simp] theorem State.updGlb_keys (s : State) (f : GlobalS → GlobalS) : (s.updGlb f).upd.keys = s.upd.keys := by
  unfold State.updGlb; simp

@[simp] theorem State.updUpd_straps (s : State) (f : UpdS → UpdS) : (s.updUpd f).glb.straps = s.glb.straps := by
  unfold State.updUpd; simp

@[simp] theorem State.updUpd_keys (s : State) (f : UpdS → UpdS) : (s.updUpd f).upd.keys = (f s.upd).keys := by
  unfold State.updUpd; simp

@[simp] theorem ite_glb (c : Prop) {h : Decidable c} (a b : State) : (@ite _ c h a b).glb = @ite _ c h a.glb b.glb := by
  cases h <;> rfl

@[simp] theorem ite_upd (c : Prop) {h : Decidable c} (a b : State) : (@ite _ c h a b).upd = @ite _ c h a.upd b.upd := by
  cases h <;> rfl

@[simp] theorem ite_straps (c : Prop) {h : Decidable c} (a b : GlobalS) :
    (@ite _ c h a b).straps = @ite _ c h a.straps b.straps := by
  cases h <;> rfl

@[simp] theorem ite_keys (c : Prop) {h : Decidable c} (a b : UpdS) : (@ite _ c h a b).keys = @ite _ c h a.keys b.keys := by
  cases h <;> rfl

@[simp] theorem ite_any {α : Type} (c : Prop) {h : Decidable c} (a : α) : @ite _ c h a a = a := by
  cases h <;> rfl

@[simp] theorem State.each_fix {α : Type} (s : State) (l : List α) (f : α → State → State)
    (hf : ∀ (a : α) (t : State), (f a t).glb.straps = t.glb.straps ∧ (f a t).upd.keys = t.upd.keys) :
    (s.each l f).glb.straps = s.glb.straps ∧ (s.each l f).upd.keys = s.upd.keys := by
  unfold State.each
  induction l generalizing s with
  | nil => simp
  | cons a l ih => simp [List.foldl, ih, hf]

@[simp] theorem strobes_fix (v : Nat) (l : List (Nat × (State → State))) (s : State)
    (hl : ∀ x ∈ l, ∀ t : State, (x.2 t).glb.straps = t.glb.straps ∧ (x.2 t).upd.keys = t.upd.keys) :
    (strobes v l s).glb.straps = s.glb.straps ∧ (strobes v l s).upd.keys = s.upd.keys := by
  unfold strobes
  induction l generalizing s with
  | nil => simp
  | cons a l ih =>
    have ha := hl a (by simp)
    have hb := ih (if natBit v a.1 then a.2 s else s) (fun x hx => hl x (by simp [hx]))
    simp only [List.foldl]
    rw [hb.1, hb.2]
    split <;> simp [ha]


theorem foldPair_fix {α : Type} (l : List α) (x : Nat × State) (f : Nat × State → α → Nat × State)
    (hf : ∀ (a : Nat × State) (k : α), (f a k).2.glb.straps = a.2.glb.straps ∧ (f a k).2.upd.keys = a.2.upd.keys) :
    (l.foldl f x).2.glb.straps = x.2.glb.straps ∧ (l.foldl f x).2.upd.keys = x.2.upd.keys := by
  induction l generalizing x with
  | nil => exact ⟨rfl, rfl⟩
  | cons k l ih => rw [List.foldl_cons, (ih _).1, (ih _).2]; exact hf x k

theorem spJudge_fix (q : SpEnd) (act : SpAct) (s : State)
    (hact : ∀ t : State, (act t).2.2.glb.straps = t.glb.straps ∧ (act t).2.2.upd.keys = t.upd.keys) :
    (spJudge q act s).2.2.glb.straps = s.glb.straps ∧ (spJudge q act s).2.2.upd.keys = s.upd.keys := by
  unfold spJudge
  dsimp only
  split
  · exact hact _
  · exact ⟨rfl, rfl⟩
@[simp] theorem State.updPhase_fix (s : State) (n : Fin 64) (f : PhaseS → PhaseS) :
    (State.updPhase s n f).glb.straps = s.glb.straps ∧ (State.updPhase s n f).upd.keys = s.upd.keys := by
  unfold State.updPhase; repeat (first | (solve | simp [*]) | split | simp [*])

@[simp] theorem State.updRail_fix (s : State) (r : Fin 24) (f : RailS → RailS) :
    (State.updRail s r f).glb.straps = s.glb.straps ∧ (State.updRail s r f).upd.keys = s.upd.keys := by
  unfold State.updRail; repeat (first | (solve | simp [*]) | split | simp [*])

@[simp] theorem State.updPort_fix (s : State) (p : Fin 8) (f : PortS → PortS) :
    (State.updPort s p f).glb.straps = s.glb.straps ∧ (State.updPort s p f).upd.keys = s.upd.keys := by
  unfold State.updPort; repeat (first | (solve | simp [*]) | split | simp [*])

@[simp] theorem State.updDom_fix (s : State) (d : Fin 8) (f : DomS → DomS) :
    (State.updDom s d f).glb.straps = s.glb.straps ∧ (State.updDom s d f).upd.keys = s.upd.keys := by
  unfold State.updDom; repeat (first | (solve | simp [*]) | split | simp [*])

@[simp] theorem State.updSlot_fix (s : State) (n : Fin 48) (f : SlotS → SlotS) :
    (State.updSlot s n f).glb.straps = s.glb.straps ∧ (State.updSlot s n f).upd.keys = s.upd.keys := by
  unfold State.updSlot; repeat (first | (solve | simp [*]) | split | simp [*])

@[simp] theorem State.updMon_fix (s : State) (m : Fin 96) (f : MonS → MonS) :
    (State.updMon s m f).glb.straps = s.glb.straps ∧ (State.updMon s m f).upd.keys = s.upd.keys := by
  unfold State.updMon; repeat (first | (solve | simp [*]) | split | simp [*])

@[simp] theorem State.updCt_fix (s : State) (t : Fin 16) (f : CtS → CtS) :
    (State.updCt s t f).glb.straps = s.glb.straps ∧ (State.updCt s t f).upd.keys = s.upd.keys := by
  unfold State.updCt; repeat (first | (solve | simp [*]) | split | simp [*])

@[simp] theorem State.updCart_fix (s : State) (c : Fin 16) (f : CartS → CartS) :
    (State.updCart s c f).glb.straps = s.glb.straps ∧ (State.updCart s c f).upd.keys = s.upd.keys := by
  unfold State.updCart; repeat (first | (solve | simp [*]) | split | simp [*])

@[simp] theorem State.updOvPort_fix (s : State) (k : Fin 6) (f : OvPort → OvPort) :
    (State.updOvPort s k f).glb.straps = s.glb.straps ∧ (State.updOvPort s k f).upd.keys = s.upd.keys := by
  unfold State.updOvPort; repeat (first | (solve | simp [*]) | split | simp [*])

@[simp] theorem State.updFeed_fix (s : State) (i : Fin 2) (f : Feed → Feed) :
    (State.updFeed s i f).glb.straps = s.glb.straps ∧ (State.updFeed s i f).upd.keys = s.upd.keys := by
  unfold State.updFeed; repeat (first | (solve | simp [*]) | split | simp [*])

@[simp] theorem State.updSrc_fix (s : State) (n : Fin 192) (f : EvSource → EvSource) :
    (State.updSrc s n f).glb.straps = s.glb.straps ∧ (State.updSrc s n f).upd.keys = s.upd.keys := by
  unfold State.updSrc; repeat (first | (solve | simp [*]) | split | simp [*])

@[simp] theorem State.updCore_fix (s : State) (c : CoreId) (f : Core → Core) :
    (State.updCore s c f).glb.straps = s.glb.straps ∧ (State.updCore s c f).upd.keys = s.upd.keys := by
  unfold State.updCore; repeat (first | (solve | simp [*]) | split | simp [*])

@[simp] theorem State.updArch_fix (s : State) (f : ArchS → ArchS) :
    (State.updArch s f).glb.straps = s.glb.straps ∧ (State.updArch s f).upd.keys = s.upd.keys := by
  unfold State.updArch; repeat (first | (solve | simp [*]) | split | simp [*])

@[simp] theorem State.updCh_fix (s : State) (f : ChandlerS → ChandlerS) :
    (State.updCh s f).glb.straps = s.glb.straps ∧ (State.updCh s f).upd.keys = s.upd.keys := by
  unfold State.updCh; repeat (first | (solve | simp [*]) | split | simp [*])

@[simp] theorem State.updSlp_fix (s : State) (f : SleepS → SleepS) :
    (State.updSlp s f).glb.straps = s.glb.straps ∧ (State.updSlp s f).upd.keys = s.upd.keys := by
  unfold State.updSlp; repeat (first | (solve | simp [*]) | split | simp [*])

@[simp] theorem State.updWatch_fix (s : State) (f : WatchS → WatchS) :
    (State.updWatch s f).glb.straps = s.glb.straps ∧ (State.updWatch s f).upd.keys = s.upd.keys := by
  unfold State.updWatch; repeat (first | (solve | simp [*]) | split | simp [*])

@[simp] theorem State.updHk_fix (s : State) (f : HkS → HkS) :
    (State.updHk s f).glb.straps = s.glb.straps ∧ (State.updHk s f).upd.keys = s.upd.keys := by
  unfold State.updHk; repeat (first | (solve | simp [*]) | split | simp [*])

@[simp] theorem State.updHold_fix (s : State) (f : HoldS → HoldS) :
    (State.updHold s f).glb.straps = s.glb.straps ∧ (State.updHold s f).upd.keys = s.upd.keys := by
  unfold State.updHold; repeat (first | (solve | simp [*]) | split | simp [*])

@[simp] theorem State.updCarts_fix (s : State) (f : CartsS → CartsS) :
    (State.updCarts s f).glb.straps = s.glb.straps ∧ (State.updCarts s f).upd.keys = s.upd.keys := by
  unfold State.updCarts; repeat (first | (solve | simp [*]) | split | simp [*])

@[simp] theorem State.updEv_fix (s : State) (f : EventS → EventS) :
    (State.updEv s f).glb.straps = s.glb.straps ∧ (State.updEv s f).upd.keys = s.upd.keys := by
  unfold State.updEv; repeat (first | (solve | simp [*]) | split | simp [*])

@[simp] theorem State.updPair_fix (s : State) (f : PairS → PairS) :
    (State.updPair s f).glb.straps = s.glb.straps ∧ (State.updPair s f).upd.keys = s.upd.keys := by
  unfold State.updPair; repeat (first | (solve | simp [*]) | split | simp [*])

@[simp] theorem State.updOv_fix (s : State) (f : OvS → OvS) :
    (State.updOv s f).glb.straps = s.glb.straps ∧ (State.updOv s f).upd.keys = s.upd.keys := by
  unfold State.updOv; repeat (first | (solve | simp [*]) | split | simp [*])

@[simp] theorem State.updLg_fix (s : State) (f : LedgerS → LedgerS) :
    (State.updLg s f).glb.straps = s.glb.straps ∧ (State.updLg s f).upd.keys = s.upd.keys := by
  unfold State.updLg; repeat (first | (solve | simp [*]) | split | simp [*])

@[simp] theorem State.updHb_fix (s : State) (f : HbS → HbS) :
    (State.updHb s f).glb.straps = s.glb.straps ∧ (State.updHb s f).upd.keys = s.upd.keys := by
  unfold State.updHb; repeat (first | (solve | simp [*]) | split | simp [*])

@[simp] theorem State.updSp_fix (s : State) (f : SpS → SpS) :
    (State.updSp s f).glb.straps = s.glb.straps ∧ (State.updSp s f).upd.keys = s.upd.keys := by
  unfold State.updSp; repeat (first | (solve | simp [*]) | split | simp [*])

@[simp] theorem State.when_fix (s : State) (b : Bool) (f : State → State) (hf : ∀ (t : State), (f t).glb.straps = t.glb.straps ∧ (f t).upd.keys = t.upd.keys) :
    (State.when s b f).glb.straps = s.glb.straps ∧ (State.when s b f).upd.keys = s.upd.keys := by
  unfold State.when; repeat (first | (solve | simp [*]) | split | simp [*])

@[simp] theorem fire_fix (src : Nat) (sub : Nat) (s : State) :
    (fire src sub s).glb.straps = s.glb.straps ∧ (fire src sub s).upd.keys = s.upd.keys := by
  unfold fire; repeat (first | (solve | simp [*]) | split | simp [*])

@[simp] theorem fireIf_fix (b : Bool) (src : Nat) (sub : Nat) (s : State) :
    (fireIf b src sub s).glb.straps = s.glb.straps ∧ (fireIf b src sub s).upd.keys = s.upd.keys := by
  unfold fireIf; repeat (first | (solve | simp [*]) | split | simp [*])

@[simp] theorem draw_fix (s : State) :
    (draw s).2.glb.straps = s.glb.straps ∧ (draw s).2.upd.keys = s.upd.keys := by
  unfold draw; repeat (first | (solve | simp [*]) | split | simp [*])

@[simp] theorem addTally_fix (i : Fin 24) (k : Nat) (s : State) :
    (addTally i k s).glb.straps = s.glb.straps ∧ (addTally i k s).upd.keys = s.upd.keys := by
  unfold addTally; repeat (first | (solve | simp [*]) | split | simp [*])

@[simp] theorem toggle_fix (l : ToggleLine) (s : State) :
    (toggle l s).glb.straps = s.glb.straps ∧ (toggle l s).upd.keys = s.upd.keys := by
  unfold toggle; repeat (first | (solve | simp [*]) | split | simp [*])

@[simp] theorem ackLine_fix (l : ToggleLine) (s : State) :
    (ackLine l s).glb.straps = s.glb.straps ∧ (ackLine l s).upd.keys = s.upd.keys := by
  unfold ackLine; repeat (first | (solve | simp [*]) | split | simp [*])

@[simp] theorem send_fix (o : Out) (s : State) :
    (send o s).glb.straps = s.glb.straps ∧ (send o s).upd.keys = s.upd.keys := by
  unfold send; repeat (first | (solve | simp [*]) | split | simp [*])

@[simp] theorem logRaw_fix (e : LogEntry) (s : State) :
    (logRaw e s).glb.straps = s.glb.straps ∧ (logRaw e s).upd.keys = s.upd.keys := by
  unfold logRaw; repeat (first | (solve | simp [*]) | split | simp [*])

@[simp] theorem logEvent_fix (kind : Nat) (a : Nat) (b : Nat) (c : Nat) (s : State) :
    (logEvent kind a b c s).glb.straps = s.glb.straps ∧ (logEvent kind a b c s).upd.keys = s.upd.keys := by
  unfold logEvent; repeat (first | (solve | simp [*]) | split | simp [*])

@[simp] theorem logStep_fix (kind : Nat) (step : Nat) (a : Nat) (c : Nat) (s : State) :
    (logStep kind step a c s).glb.straps = s.glb.straps ∧ (logStep kind step a c s).upd.keys = s.upd.keys := by
  unfold logStep; repeat (first | (solve | simp [*]) | split | simp [*])

@[simp] theorem logBare_fix (kind : Nat) (step : Nat) (s : State) :
    (logBare kind step s).glb.straps = s.glb.straps ∧ (logBare kind step s).upd.keys = s.upd.keys := by
  unfold logBare; repeat (first | (solve | simp [*]) | split | simp [*])

@[simp] theorem pairOut_fix (f : PairFrame) (s : State) :
    (pairOut f s).glb.straps = s.glb.straps ∧ (pairOut f s).upd.keys = s.upd.keys := by
  unfold pairOut; repeat (first | (solve | simp [*]) | split | simp [*])

@[simp] theorem sendCtrl_fix (c : PairCmd) (s : State) :
    (sendCtrl c s).glb.straps = s.glb.straps ∧ (sendCtrl c s).upd.keys = s.upd.keys := by
  unfold sendCtrl; repeat (first | (solve | simp [*]) | split | simp [*])

@[simp] theorem forward_fix (c : PairCmd) (s : State) :
    (forward c s).glb.straps = s.glb.straps ∧ (forward c s).upd.keys = s.upd.keys := by
  unfold forward; repeat (first | (solve | simp [*]) | split | simp [*])

@[simp] theorem fwdTake_fix (mine : PairCmd → Bool) (act : PairCmd → State → State) (s : State) (hact : ∀ (x0 : PairCmd) (t : State), (act x0 t).glb.straps = t.glb.straps ∧ (act x0 t).upd.keys = t.upd.keys) :
    (fwdTake mine act s).glb.straps = s.glb.straps ∧ (fwdTake mine act s).upd.keys = s.upd.keys := by
  unfold fwdTake; repeat (first | (solve | simp [*]) | split | simp [*])

@[simp] theorem ovDrop_fix (k : Fin 6) (s : State) :
    (ovDrop k s).glb.straps = s.glb.straps ∧ (ovDrop k s).upd.keys = s.upd.keys := by
  unfold ovDrop; repeat (first | (solve | simp [*]) | split | simp [*])

@[simp] theorem dropEach_fix (l : List (Fin 6)) (s : State) :
    (dropEach l s).glb.straps = s.glb.straps ∧ (dropEach l s).upd.keys = s.upd.keys := by
  unfold dropEach; repeat (first | (solve | simp [*]) | split | simp [*])

@[simp] theorem c0Start_fix (k : Fin 6) (at_ : Nat) (t : Nat) (f : Ov0) (s : State) :
    (c0Start k at_ t f s).glb.straps = s.glb.straps ∧ (c0Start k at_ t f s).upd.keys = s.upd.keys := by
  unfold c0Start; repeat (first | (solve | simp [*]) | split | simp [*])

@[simp] theorem crGo_fix (k : Fin 6) (s : State) :
    (crGo k s).glb.straps = s.glb.straps ∧ (crGo k s).upd.keys = s.upd.keys := by
  unfold crGo; repeat (first | (solve | simp [*]) | split | simp [*])

@[simp] theorem creditPut_fix (k : Fin 6) (cls : Nat) (n : Nat) (s : State) :
    (creditPut k cls n s).glb.straps = s.glb.straps ∧ (creditPut k cls n s).upd.keys = s.upd.keys := by
  unfold creditPut; repeat (first | (solve | simp [*]) | split | simp [*])

@[simp] theorem creditBack_fix (f : OvFrame) (j : Option (Fin 6)) (s : State) :
    (creditBack f j s).glb.straps = s.glb.straps ∧ (creditBack f j s).upd.keys = s.upd.keys := by
  unfold creditBack; repeat (first | (solve | simp [*]) | split | simp [*])

@[simp] theorem longStart_fix (k : Fin 6) (at_ : Nat) (s : State) :
    (longStart k at_ s).glb.straps = s.glb.straps ∧ (longStart k at_ s).upd.keys = s.upd.keys := by
  unfold longStart; repeat (first | (solve | simp [*]) | split | simp [*])

@[simp] theorem longEnd_fix (k : Fin 6) (l : LongTx) (s : State) :
    (longEnd k l s).glb.straps = s.glb.straps ∧ (longEnd k l s).upd.keys = s.upd.keys := by
  unfold longEnd; repeat (first | (solve | simp [*]) | split | simp [*])

@[simp] theorem egDrain_fix (k : Fin 6) (a1 : Nat) (a2 : State) :
    (egDrain k a1 a2).glb.straps = a2.glb.straps ∧ (egDrain k a1 a2).upd.keys = a2.upd.keys := by
  induction a1 generalizing a2 with
  | zero => simp [egDrain]
  | succ n ih => unfold egDrain; repeat (first | (solve | simp [*]) | split | simp [*])

@[simp] theorem egAdvance_fix (k : Fin 6) (s : State) :
    (egAdvance k s).glb.straps = s.glb.straps ∧ (egAdvance k s).upd.keys = s.upd.keys := by
  unfold egAdvance; repeat (first | (solve | simp [*]) | split | simp [*])

@[simp] theorem countMerge_fix (k : Fin 6) (t : Nat) (f : Ov0) (s : State) :
    (countMerge k t f s).glb.straps = s.glb.straps ∧ (countMerge k t f s).upd.keys = s.upd.keys := by
  unfold countMerge; repeat (first | (solve | simp [*]) | split | simp [*])

@[simp] theorem c0Send_fix (k : Fin 6) (t : Nat) (f : Ov0) (s0 : State) :
    (c0Send k t f s0).glb.straps = s0.glb.straps ∧ (c0Send k t f s0).upd.keys = s0.upd.keys := by
  unfold c0Send; repeat (first | (solve | simp [*]) | split | simp [*])

@[simp] theorem c0Origin_fix (t : Nat) (f : Ov0) (s : State) :
    (c0Origin t f s).glb.straps = s.glb.straps ∧ (c0Origin t f s).upd.keys = s.upd.keys := by
  unfold c0Origin; repeat (first | (solve | simp [*]) | split | simp [*])

@[simp] theorem summaryWindowEnd_fix (k : Fin 6) (s : State) :
    (summaryWindowEnd k s).glb.straps = s.glb.straps ∧ (summaryWindowEnd k s).upd.keys = s.upd.keys := by
  unfold summaryWindowEnd; repeat (first | (solve | simp [*]) | split | simp [*])

@[simp] theorem longTry_fix (k : Fin 6) (s : State) :
    (longTry k s).glb.straps = s.glb.straps ∧ (longTry k s).upd.keys = s.upd.keys := by
  unfold longTry; repeat (first | (solve | simp [*]) | split | simp [*])

@[simp] theorem cNPut_fix (k : Fin 6) (f : OvFrame) (j : Option (Fin 6)) (s : State) :
    (cNPut k f j s).glb.straps = s.glb.straps ∧ (cNPut k f j s).upd.keys = s.upd.keys := by
  unfold cNPut; repeat (first | (solve | simp [*]) | split | simp [*])

@[simp] theorem cNSend_fix (k : Fin 6) (f : OvFrame) (s : State) :
    (cNSend k f s).glb.straps = s.glb.straps ∧ (cNSend k f s).upd.keys = s.upd.keys := by
  unfold cNSend; repeat (first | (solve | simp [*]) | split | simp [*])

@[simp] theorem egDiscard_fix (k : Fin 6) (s : State) :
    (egDiscard k s).glb.straps = s.glb.straps ∧ (egDiscard k s).upd.keys = s.upd.keys := by
  unfold egDiscard; repeat (first | (solve | simp [*]) | split | simp [*])

@[simp] theorem ownOut_fix (k : Fin 6) (f : OvFrame) (s : State) :
    (ownOut k f s).glb.straps = s.glb.straps ∧ (ownOut k f s).upd.keys = s.upd.keys := by
  unfold ownOut; repeat (first | (solve | simp [*]) | split | simp [*])

@[simp] theorem ovOut_fix (f : OvFrame) (s : State) :
    (ovOut f s).glb.straps = s.glb.straps ∧ (ovOut f s).upd.keys = s.upd.keys := by
  unfold ovOut; repeat (first | (solve | simp [*]) | split | simp [*])

@[simp] theorem ovAnswer_fix (h : OvHdr) (status : Nat) (data : List Byte) (s : State) :
    (ovAnswer h status data s).glb.straps = s.glb.straps ∧ (ovAnswer h status data s).upd.keys = s.upd.keys := by
  unfold ovAnswer; repeat (first | (solve | simp [*]) | split | simp [*])

@[simp] theorem ovClock_fix (k : Fin 6) (v : Isl) (s : State) :
    (ovClock k v s).glb.straps = s.glb.straps ∧ (ovClock k v s).upd.keys = s.upd.keys := by
  unfold ovClock; repeat (first | (solve | simp [*]) | split | simp [*])

@[simp] theorem portDown_fix (k : Fin 6) (s : State) :
    (portDown k s).glb.straps = s.glb.straps ∧ (portDown k s).upd.keys = s.upd.keys := by
  unfold portDown; repeat (first | (solve | simp [*]) | split | simp [*])

@[simp] theorem portError_fix (k : Fin 6) (s : State) :
    (portError k s).glb.straps = s.glb.straps ∧ (portError k s).upd.keys = s.upd.keys := by
  unfold portError; repeat (first | (solve | simp [*]) | split | simp [*])

@[simp] theorem rx_fix (k : Fin 6) (e : FrameEnd) (s : State) :
    (rx k e s).2.glb.straps = s.glb.straps ∧ (rx k e s).2.upd.keys = s.upd.keys := by
  unfold rx; repeat (first | (solve | simp [*]) | split | simp [*])

@[simp] theorem onGood_fix (k : Fin 6) (e : FrameEnd) (f : State → State) (s : State) (hf : ∀ (t : State), (f t).glb.straps = t.glb.straps ∧ (f t).upd.keys = t.upd.keys) :
    (onGood k e f s).glb.straps = s.glb.straps ∧ (onGood k e f s).upd.keys = s.upd.keys := by
  unfold onGood; repeat (first | (solve | simp [*]) | split | simp [*])

@[simp] theorem relayOut_fix (bad : Bool) (g : OvFrame) (from_ : Option (Fin 6)) (j : Fin 6) (s0 : State) :
    (relayOut bad g from_ j s0).glb.straps = s0.glb.straps ∧ (relayOut bad g from_ j s0).upd.keys = s0.upd.keys := by
  unfold relayOut; repeat (first | (solve | simp [*]) | split | simp [*])

@[simp] theorem c0Down_fix (bad : Bool) (t : Nat) (f : Ov0) (s : State) :
    (c0Down bad t f s).glb.straps = s.glb.straps ∧ (c0Down bad t f s).upd.keys = s.upd.keys := by
  unfold c0Down; repeat (first | (solve | simp [*]) | split | simp [*])

@[simp] theorem c0Root_fix (t : Nat) (a0 : Nat) (a1 : Nat) (a2 : Nat) (s : State) :
    (c0Root t a0 a1 a2 s).glb.straps = s.glb.straps ∧ (c0Root t a0 a1 a2 s).upd.keys = s.upd.keys := by
  unfold c0Root; repeat (first | (solve | simp [*]) | split | simp [*])

@[simp] theorem rootNamed_fix (src : Nat) (s : State) :
    (rootNamed src s).glb.straps = s.glb.straps ∧ (rootNamed src s).upd.keys = s.upd.keys := by
  unfold rootNamed; repeat (first | (solve | simp [*]) | split | simp [*])

@[simp] theorem c0On_fix (bad : Bool) (t : Nat) (f : Ov0) (s : State) :
    (c0On bad t f s).glb.straps = s.glb.straps ∧ (c0On bad t f s).upd.keys = s.upd.keys := by
  unfold c0On; repeat (first | (solve | simp [*]) | split | simp [*])

@[simp] theorem onRoot0_fix (k : Fin 6) (e : FrameEnd) (t : Nat) (f : Ov0) (act : State → State) (s : State) (hact : ∀ (t : State), (act t).glb.straps = t.glb.straps ∧ (act t).upd.keys = t.upd.keys) :
    (onRoot0 k e t f act s).glb.straps = s.glb.straps ∧ (onRoot0 k e t f act s).upd.keys = s.upd.keys := by
  unfold onRoot0; repeat (first | (solve | simp [*]) | split | simp [*])

@[simp] theorem onUp0_fix (k : Fin 6) (e : FrameEnd) (t : Nat) (f : Ov0) (act : State → State) (s : State) (hact : ∀ (t : State), (act t).glb.straps = t.glb.straps ∧ (act t).upd.keys = t.upd.keys) :
    (onUp0 k e t f act s).glb.straps = s.glb.straps ∧ (onUp0 k e t f act s).upd.keys = s.upd.keys := by
  unfold onUp0; repeat (first | (solve | simp [*]) | split | simp [*])

@[simp] theorem cNDown_fix (bad : Bool) (cls : Nat) (t : Nat) (h : OvHdr) (pl : List Byte) (s : State) :
    (cNDown bad cls t h pl s).glb.straps = s.glb.straps ∧ (cNDown bad cls t h pl s).upd.keys = s.upd.keys := by
  unfold cNDown; repeat (first | (solve | simp [*]) | split | simp [*])

@[simp] theorem dupAccept_fix (paddr : Nat) (pairId : Nat) (n : Nat) (s : State) :
    (dupAccept paddr pairId n s).2.glb.straps = s.glb.straps ∧ (dupAccept paddr pairId n s).2.upd.keys = s.upd.keys := by
  unfold dupAccept; repeat (first | (solve | simp [*]) | split | simp [*])

@[simp] theorem onceOnly_fix (paired : Bool) (src : Nat) (pairId : Nat) (pseq : Nat) (act : State → State) (s : State) (hact : ∀ (t : State), (act t).glb.straps = t.glb.straps ∧ (act t).upd.keys = t.upd.keys) :
    (onceOnly paired src pairId pseq act s).glb.straps = s.glb.straps ∧ (onceOnly paired src pairId pseq act s).upd.keys = s.upd.keys := by
  unfold onceOnly; repeat (first | (solve | simp [*]) | split | simp [*])

@[simp] theorem linkAligned_fix (k : Fin 6) (s : State) :
    (linkAligned k s).glb.straps = s.glb.straps ∧ (linkAligned k s).upd.keys = s.upd.keys := by
  unfold linkAligned; repeat (first | (solve | simp [*]) | split | simp [*])

@[simp] theorem notAdmit_fix (k : Fin 6) (why : Nat) (s : State) :
    (notAdmit k why s).glb.straps = s.glb.straps ∧ (notAdmit k why s).upd.keys = s.upd.keys := by
  unfold notAdmit; repeat (first | (solve | simp [*]) | split | simp [*])

@[simp] theorem linkSeen_fix (k : Fin 6) (l : LinkInfo) (u : State) :
    (linkSeen k l u).glb.straps = u.glb.straps ∧ (linkSeen k l u).upd.keys = u.upd.keys := by
  unfold linkSeen; repeat (first | (solve | simp [*]) | split | simp [*])

@[simp] theorem linkFrame_fix (k : Fin 6) (l : LinkInfo) (s0 : State) :
    (linkFrame k l s0).glb.straps = s0.glb.straps ∧ (linkFrame k l s0).upd.keys = s0.upd.keys := by
  unfold linkFrame; repeat (first | (solve | simp [*]) | split | simp [*])

@[simp] theorem linkDown_fix (k : Fin 6) (why : LinkLoss) (s : State) :
    (linkDown k why s).glb.straps = s.glb.straps ∧ (linkDown k why s).upd.keys = s.upd.keys := by
  unfold linkDown; repeat (first | (solve | simp [*]) | split | simp [*])

@[simp] theorem linkSend_fix (k : Fin 6) (s : State) :
    (linkSend k s).glb.straps = s.glb.straps ∧ (linkSend k s).upd.keys = s.upd.keys := by
  unfold linkSend; repeat (first | (solve | simp [*]) | split | simp [*])

@[simp] theorem forwardFrame_fix (k : Fin 6) (e : FrameEnd) (f : OvFrame) (s : State) :
    (forwardFrame k e f s).glb.straps = s.glb.straps ∧ (forwardFrame k e f s).upd.keys = s.upd.keys := by
  unfold forwardFrame; repeat (first | (solve | simp [*]) | split | simp [*])

@[simp] theorem creditReturn_fix (k : Fin 6) (cls : Nat) (credits : Nat) (s : State) :
    (creditReturn k cls credits s).glb.straps = s.glb.straps ∧ (creditReturn k cls credits s).upd.keys = s.upd.keys := by
  unfold creditReturn; repeat (first | (solve | simp [*]) | split | simp [*])

@[simp] theorem assignRange_fix (base : Nat) (len : Nat) (s : State) :
    (assignRange base len s).glb.straps = s.glb.straps ∧ (assignRange base len s).upd.keys = s.upd.keys := by
  unfold assignRange
  dsimp only
  simp only [State.updOv_fix]
  refine ⟨(foldPair_fix _ _ _ (fun a k => ?_)).1.trans (State.updOv_fix ..).1, (foldPair_fix _ _ _ (fun a k => ?_)).2.trans (State.updOv_fix ..).2⟩ <;>
    · split
      · simp
      · split <;> simp

@[simp] theorem enumFinish_fix (s : State) :
    (enumFinish s).glb.straps = s.glb.straps ∧ (enumFinish s).upd.keys = s.upd.keys := by
  unfold enumFinish; repeat (first | (solve | simp [*]) | split | simp [*])

@[simp] theorem enumBegin_fix (s : State) :
    (enumBegin s).glb.straps = s.glb.straps ∧ (enumBegin s).upd.keys = s.upd.keys := by
  unfold enumBegin; repeat (first | (solve | simp [*]) | split | simp [*])

@[simp] theorem enumCountIn_fix (k : Fin 6) (n : Nat) (s : State) :
    (enumCountIn k n s).glb.straps = s.glb.straps ∧ (enumCountIn k n s).upd.keys = s.upd.keys := by
  unfold enumCountIn; repeat (first | (solve | simp [*]) | split | simp [*])

@[simp] theorem enumAtRoot_fix (s : State) :
    (enumAtRoot s).glb.straps = s.glb.straps ∧ (enumAtRoot s).upd.keys = s.upd.keys := by
  unfold enumAtRoot; repeat (first | (solve | simp [*]) | split | simp [*])

@[simp] theorem graftIn_fix (k : Fin 6) (h : OvHdr) (base : Nat) (len : Nat) (s : State) :
    (graftIn k h base len s).glb.straps = s.glb.straps ∧ (graftIn k h base len s).upd.keys = s.upd.keys := by
  unfold graftIn; repeat (first | (solve | simp [*]) | split | simp [*])

@[simp] theorem graftOut_fix (k : Fin 6) (h : OvHdr) (base : Nat) (len : Nat) (s : State) :
    (graftOut k h base len s).glb.straps = s.glb.straps ∧ (graftOut k h base len s).upd.keys = s.upd.keys := by
  unfold graftOut; repeat (first | (solve | simp [*]) | split | simp [*])

@[simp] theorem reroute_fix (s : State) :
    (reroute s).glb.straps = s.glb.straps ∧ (reroute s).upd.keys = s.upd.keys := by
  unfold reroute; repeat (first | (solve | simp [*]) | split | simp [*])

@[simp] theorem unreroute_fix (s : State) :
    (unreroute s).glb.straps = s.glb.straps ∧ (unreroute s).upd.keys = s.upd.keys := by
  unfold unreroute; repeat (first | (solve | simp [*]) | split | simp [*])

@[simp] theorem ovRefuse_fix (s : State) :
    (ovRefuse s).glb.straps = s.glb.straps ∧ (ovRefuse s).upd.keys = s.upd.keys := by
  unfold ovRefuse; repeat (first | (solve | simp [*]) | split | simp [*])

@[simp] theorem portRetrain_fix (k : Fin 6) (s : State) :
    (portRetrain k s).glb.straps = s.glb.straps ∧ (portRetrain k s).upd.keys = s.upd.keys := by
  unfold portRetrain; repeat (first | (solve | simp [*]) | split | simp [*])

@[simp] theorem mailboxEnd_fix (status : Nat) (data : List Byte) (s : State) :
    (mailboxEnd status data s).glb.straps = s.glb.straps ∧ (mailboxEnd status data s).upd.keys = s.upd.keys := by
  unfold mailboxEnd; repeat (first | (solve | simp [*]) | split | simp [*])

@[simp] theorem txnEnd_fix (tag : Nat) (status : Nat) (data : List Byte) (s : State) :
    (txnEnd tag status data s).glb.straps = s.glb.straps ∧ (txnEnd tag status data s).upd.keys = s.upd.keys := by
  unfold txnEnd; repeat (first | (solve | simp [*]) | split | simp [*])

@[simp] theorem queuesLost_fix (s : State) :
    (queuesLost s).glb.straps = s.glb.straps ∧ (queuesLost s).upd.keys = s.upd.keys := by
  unfold queuesLost; repeat (first | (solve | simp [*]) | split | simp [*])

@[simp] theorem resetOut_fix (k : Fin 6) (s : State) :
    (resetOut k s).glb.straps = s.glb.straps ∧ (resetOut k s).upd.keys = s.upd.keys := by
  unfold resetOut; repeat (first | (solve | simp [*]) | split | simp [*])

@[simp] theorem cascadeReset_fix (s : State) :
    (cascadeReset s).glb.straps = s.glb.straps ∧ (cascadeReset s).upd.keys = s.upd.keys := by
  unfold cascadeReset; repeat (first | (solve | simp [*]) | split | simp [*])

@[simp] theorem opTry_fix (s : State) :
    (opTry s).glb.straps = s.glb.straps ∧ (opTry s).upd.keys = s.upd.keys := by
  unfold opTry; repeat (first | (solve | simp [*]) | split | simp [*])

@[simp] theorem opBegin_fix (kind : Nat) (id : Nat) (snap : Option SnapS) (s0 : State) :
    (opBegin kind id snap s0).glb.straps = s0.glb.straps ∧ (opBegin kind id snap s0).upd.keys = s0.upd.keys := by
  unfold opBegin; repeat (first | (solve | simp [*]) | split | simp [*])

@[simp] theorem opAck_fix (k : Fin 6) (kind : Nat) (f : Ov0) (s : State) :
    (opAck k kind f s).glb.straps = s.glb.straps ∧ (opAck k kind f s).upd.keys = s.upd.keys := by
  unfold opAck; repeat (first | (solve | simp [*]) | split | simp [*])

@[simp] theorem snapRail_fix (r : Fin 24) (vout : Nat) (isum : Nat) (s : State) :
    (snapRail r vout isum s).glb.straps = s.glb.straps ∧ (snapRail r vout isum s).upd.keys = s.upd.keys := by
  unfold snapRail; repeat (first | (solve | simp [*]) | split | simp [*])

@[simp] theorem timeOffset_fix (ofs : Int) (s : State) :
    (timeOffset ofs s).glb.straps = s.glb.straps ∧ (timeOffset ofs s).upd.keys = s.upd.keys := by
  unfold timeOffset; repeat (first | (solve | simp [*]) | split | simp [*])

@[simp] theorem timeFrame_fix (mark : Nat) (markMs : Nat) (time : Nat) (s : State) :
    (timeFrame mark markMs time s).glb.straps = s.glb.straps ∧ (timeFrame mark markMs time s).upd.keys = s.upd.keys := by
  unfold timeFrame; repeat (first | (solve | simp [*]) | split | simp [*])

@[simp] theorem enqueue_fix (m : OvMsg) (s : State) :
    (enqueue m s).2.glb.straps = s.glb.straps ∧ (enqueue m s).2.upd.keys = s.upd.keys := by
  unfold enqueue; repeat (first | (solve | simp [*]) | split | simp [*])

@[simp] theorem fitCode_fix (sg : Bool) (w : Nat) (v : Int) (s : State) :
    (fitCode sg w v s).2.glb.straps = s.glb.straps ∧ (fitCode sg w v s).2.upd.keys = s.upd.keys := by
  unfold fitCode; repeat (first | (solve | simp [*]) | split | simp [*])

@[simp] theorem updPhases_fix (l : List (Fin 64)) (f : PhaseS → PhaseS) (s : State) :
    (updPhases l f s).glb.straps = s.glb.straps ∧ (updPhases l f s).upd.keys = s.upd.keys := by
  unfold updPhases; repeat (first | (solve | simp [*]) | split | simp [*])

@[simp] theorem suspendCheck_fix (r : Fin 24) (s : State) :
    (suspendCheck r s).glb.straps = s.glb.straps ∧ (suspendCheck r s).upd.keys = s.upd.keys := by
  unfold suspendCheck; repeat (first | (solve | simp [*]) | split | simp [*])

@[simp] theorem suspendMoved_fix (r : Fin 24) (was : List (Fin 64)) (s : State) :
    (suspendMoved r was s).glb.straps = s.glb.straps ∧ (suspendMoved r was s).upd.keys = s.upd.keys := by
  unfold suspendMoved; repeat (first | (solve | simp [*]) | split | simp [*])

@[simp] theorem place_fix (r : Fin 24) (s : State) :
    (place r s).glb.straps = s.glb.straps ∧ (place r s).upd.keys = s.upd.keys := by
  unfold place; refine State.each_fix _ _ _ (fun x t => ?_); split <;> simp

@[simp] theorem joinUnits_fix (r : Fin 24) (l : List (Fin 64)) (s : State) :
    (joinUnits r l s).glb.straps = s.glb.straps ∧ (joinUnits r l s).upd.keys = s.upd.keys := by
  unfold joinUnits; repeat (first | (solve | simp [*]) | split | simp [*])

@[simp] theorem regroup_fix (r : Fin 24) (s : State) :
    (regroup r s).glb.straps = s.glb.straps ∧ (regroup r s).upd.keys = s.upd.keys := by
  unfold regroup; repeat (first | (solve | simp [*]) | split | simp [*])

@[simp] theorem cancelShed_fix (r : Fin 24) (s : State) :
    (cancelShed r s).glb.straps = s.glb.straps ∧ (cancelShed r s).upd.keys = s.upd.keys := by
  unfold cancelShed; repeat (first | (solve | simp [*]) | split | simp [*])

@[simp] theorem shedCheck_fix (r : Fin 24) (s : State) :
    (shedCheck r s).glb.straps = s.glb.straps ∧ (shedCheck r s).upd.keys = s.upd.keys := by
  unfold shedCheck; repeat (first | (solve | simp [*]) | split | simp [*])

@[simp] theorem fenceEngine_fix (n : Fin 64) (why : Nat) (s : State) :
    (fenceEngine n why s).glb.straps = s.glb.straps ∧ (fenceEngine n why s).upd.keys = s.upd.keys := by
  unfold fenceEngine; repeat (first | (solve | simp [*]) | split | simp [*])

@[simp] theorem fenceRail_fix (r : Fin 24) (n : Fin 64) (l : List (Fin 64)) (s : State) :
    (fenceRail r n l s).glb.straps = s.glb.straps ∧ (fenceRail r n l s).upd.keys = s.upd.keys := by
  unfold fenceRail; repeat (first | (solve | simp [*]) | split | simp [*])

@[simp] theorem fencePhase_fix (n : Fin 64) (why : Nat) (raise_ : Bool) (s : State) :
    (fencePhase n why raise_ s).glb.straps = s.glb.straps ∧ (fencePhase n why raise_ s).upd.keys = s.upd.keys := by
  unfold fencePhase; repeat (first | (solve | simp [*]) | split | simp [*])

@[simp] theorem fenceByCheck_fix (n : Fin 64) (why : Nat) (s : State) :
    (fenceByCheck n why s).glb.straps = s.glb.straps ∧ (fenceByCheck n why s).upd.keys = s.upd.keys := by
  unfold fenceByCheck; repeat (first | (solve | simp [*]) | split | simp [*])

@[simp] theorem unfencePhase_fix (n : Fin 64) (s : State) :
    (unfencePhase n s).glb.straps = s.glb.straps ∧ (unfencePhase n s).upd.keys = s.upd.keys := by
  unfold unfencePhase; repeat (first | (solve | simp [*]) | split | simp [*])

@[simp] theorem loadPhase_fix (n : Fin 64) (s : State) :
    (loadPhase n s).glb.straps = s.glb.straps ∧ (loadPhase n s).upd.keys = s.upd.keys := by
  unfold loadPhase; repeat (first | (solve | simp [*]) | split | simp [*])

@[simp] theorem onTimeEnd_fix (n : Fin 64) (why : OnEnd) (peak : BitVec 10) (ton : Nat) (s : State) :
    (onTimeEnd n why peak ton s).glb.straps = s.glb.straps ∧ (onTimeEnd n why peak ton s).upd.keys = s.upd.keys := by
  unfold onTimeEnd; repeat (first | (solve | simp [*]) | split | simp [*])

@[simp] theorem endOverdue_fix (n : Fin 64) (s : State) :
    (endOverdue n s).glb.straps = s.glb.straps ∧ (endOverdue n s).upd.keys = s.upd.keys := by
  unfold endOverdue; repeat (first | (solve | simp [*]) | split | simp [*])

@[simp] theorem leadPulse_fix (n : Fin 64) (r : Fin 24) (c : PhaseCfg) (s : State) :
    (leadPulse n r c s).glb.straps = s.glb.straps ∧ (leadPulse n r c s).upd.keys = s.upd.keys := by
  unfold leadPulse; repeat (first | (solve | simp [*]) | split | simp [*])

@[simp] theorem loadDemand_fix (r : Fin 24) (s : State) :
    (loadDemand r s).glb.straps = s.glb.straps ∧ (loadDemand r s).upd.keys = s.upd.keys := by
  unfold loadDemand; repeat (first | (solve | simp [*]) | split | simp [*])

@[simp] theorem ackDemand_fix (r : Fin 24) (s : State) :
    (ackDemand r s).glb.straps = s.glb.straps ∧ (ackDemand r s).upd.keys = s.upd.keys := by
  unfold ackDemand; repeat (first | (solve | simp [*]) | split | simp [*])

@[simp] theorem fenceIn_fix (n : Fin 64) (s : State) :
    (fenceIn n s).glb.straps = s.glb.straps ∧ (fenceIn n s).upd.keys = s.upd.keys := by
  unfold fenceIn; repeat (first | (solve | simp [*]) | split | simp [*])

@[simp] theorem fwdEdge_fix (n : Fin 64) (s : State) :
    (fwdEdge n s).glb.straps = s.glb.straps ∧ (fwdEdge n s).upd.keys = s.upd.keys := by
  unfold fwdEdge; repeat (first | (solve | simp [*]) | split | simp [*])

@[simp] theorem leadingEdge_fix (n : Fin 64) (s : State) :
    (leadingEdge n s).glb.straps = s.glb.straps ∧ (leadingEdge n s).upd.keys = s.upd.keys := by
  unfold leadingEdge
  dsimp only
  have h : ∀ t : State, ((s.unitOf n).foldl (fun u i => endOverdue i u) t).glb.straps = t.glb.straps ∧
      ((s.unitOf n).foldl (fun u i => endOverdue i u) t).upd.keys = t.upd.keys := by
    intro t
    induction s.unitOf n generalizing t with
    | nil => simp
    | cons i l ih => simp [List.foldl, ih]
  split
  · split
    · simp
    · split
      · simp [h]
      · repeat (first | (solve | simp [h]) | split)
  · simp

@[simp] theorem verdict_fix (n : Fin 64) (r : Fin 24) (c : PhaseCfg) (x : Period) (top : Bool) (s : State) :
    (verdict n r c x top s).glb.straps = s.glb.straps ∧ (verdict n r c x top s).upd.keys = s.upd.keys := by
  unfold verdict; repeat (first | (solve | simp [*]) | split | simp [*])

@[simp] theorem valleySample_fix (n : Fin 64) (code : BitVec 10) (s0 : State) :
    (valleySample n code s0).glb.straps = s0.glb.straps ∧ (valleySample n code s0).upd.keys = s0.upd.keys := by
  unfold valleySample; repeat (first | (solve | simp [*]) | split | simp [*])

@[simp] theorem phasePublish_fix (n : Fin 64) (s : State) :
    (phasePublish n s).glb.straps = s.glb.straps ∧ (phasePublish n s).upd.keys = s.upd.keys := by
  unfold phasePublish; dsimp only; split
  · split
    · exact ⟨by rw [(State.updPhase_fix ..).1, (fitCode_fix ..).1, (fitCode_fix ..).1, (fitCode_fix ..).1], by rw [(State.updPhase_fix ..).2, (fitCode_fix ..).2, (fitCode_fix ..).2, (fitCode_fix ..).2]⟩
    · simp
  · simp

@[simp] theorem phRefuse_fix (n : Fin 64) (s : State) :
    (phRefuse n s).glb.straps = s.glb.straps ∧ (phRefuse n s).upd.keys = s.upd.keys := by
  unfold phRefuse; repeat (first | (solve | simp [*]) | split | simp [*])

@[simp] theorem hostFence_fix (n : Fin 64) (s : State) :
    (hostFence n s).glb.straps = s.glb.straps ∧ (hostFence n s).upd.keys = s.upd.keys := by
  unfold hostFence; repeat (first | (solve | simp [*]) | split | simp [*])

@[simp] theorem hostUnfence_fix (n : Fin 64) (s : State) :
    (hostUnfence n s).glb.straps = s.glb.straps ∧ (hostUnfence n s).upd.keys = s.upd.keys := by
  unfold hostUnfence; repeat (first | (solve | simp [*]) | split | simp [*])

@[simp] theorem phTrim_fix (n : Fin 64) (v : BitVec 16) (s : State) :
    (phTrim n v s).glb.straps = s.glb.straps ∧ (phTrim n v s).upd.keys = s.upd.keys := by
  unfold phTrim; repeat (first | (solve | simp [*]) | split | simp [*])

@[simp] theorem updSub_fix (p : Fin 8) (k : Fin 4) (f : SubS → SubS) (s : State) :
    (updSub p k f s).glb.straps = s.glb.straps ∧ (updSub p k f s).upd.keys = s.upd.keys := by
  unfold updSub; repeat (first | (solve | simp [*]) | split | simp [*])

@[simp] theorem updNotice_fix (r : Fin 24) (f : SubS → SubS) (s : State) :
    (updNotice r f s).glb.straps = s.glb.straps ∧ (updNotice r f s).upd.keys = s.upd.keys := by
  unfold updNotice; repeat (first | (solve | simp [*]) | split | simp [*])

@[simp] theorem portCause_fix (p : Fin 8) (b : Nat) (s : State) :
    (portCause p b s).glb.straps = s.glb.straps ∧ (portCause p b s).upd.keys = s.upd.keys := by
  unfold portCause; repeat (first | (solve | simp [*]) | split | simp [*])

@[simp] theorem faultNotice_fix (r : Fin 24) (s : State) :
    (faultNotice r s).glb.straps = s.glb.straps ∧ (faultNotice r s).upd.keys = s.upd.keys := by
  unfold faultNotice; repeat (first | (solve | simp [*]) | split | simp [*])

@[simp] theorem announce_fix (r : Fin 24) (s : State) :
    (announce r s).glb.straps = s.glb.straps ∧ (announce r s).upd.keys = s.upd.keys := by
  unfold announce; repeat (first | (solve | simp [*]) | split | simp [*])

@[simp] theorem enterTerm_fix (r : Fin 24) (k : LimitKind) (f : Option Q) (s : State) :
    (enterTerm r k f s).glb.straps = s.glb.straps ∧ (enterTerm r k f s).upd.keys = s.upd.keys := by
  unfold enterTerm; repeat (first | (solve | simp [*]) | split | simp [*])

@[simp] theorem logLimit_fix (r : Fin 24) (s : State) :
    (logLimit r s).glb.straps = s.glb.straps ∧ (logLimit r s).upd.keys = s.upd.keys := by
  unfold logLimit; repeat (first | (solve | simp [*]) | split | simp [*])

@[simp] theorem firstEnforced_fix (k : LimitKind) (r : Fin 24) (was : Option Q) (s : State) :
    (firstEnforced k r was s).glb.straps = s.glb.straps ∧ (firstEnforced k r was s).upd.keys = s.upd.keys := by
  unfold firstEnforced; repeat (first | (solve | simp [*]) | split | simp [*])

@[simp] theorem judgeTerm_fix (k : LimitKind) (r : Fin 24) (s : State) :
    (judgeTerm k r s).glb.straps = s.glb.straps ∧ (judgeTerm k r s).upd.keys = s.upd.keys := by
  unfold judgeTerm; repeat (first | (solve | simp [*]) | split | simp [*])

@[simp] theorem sampleLimits_fix (r : Fin 24) (s : State) :
    (sampleLimits r s).glb.straps = s.glb.straps ∧ (sampleLimits r s).upd.keys = s.upd.keys := by
  unfold sampleLimits; repeat (first | (solve | simp [*]) | split | simp [*])

@[simp] theorem graceExpiry_fix (r : Fin 24) (k : LimitKind) (s : State) :
    (graceExpiry r k s).glb.straps = s.glb.straps ∧ (graceExpiry r k s).upd.keys = s.upd.keys := by
  unfold graceExpiry; repeat (first | (solve | simp [*]) | split | simp [*])

@[simp] theorem moveTarget_fix (r : Fin 24) (v0 : Nat) (slew : Nat) (s : State) :
    (moveTarget r v0 slew s).glb.straps = s.glb.straps ∧ (moveTarget r v0 slew s).upd.keys = s.upd.keys := by
  unfold moveTarget; repeat (first | (solve | simp [*]) | split | simp [*])

@[simp] theorem loadRail_fix (r : Fin 24) (s : State) :
    (loadRail r s).glb.straps = s.glb.straps ∧ (loadRail r s).upd.keys = s.upd.keys := by
  unfold loadRail; repeat (first | (solve | simp [*]) | split | simp [*])

@[simp] theorem offerDemand_fix (r : Fin 24) (s : State) :
    (offerDemand r s).glb.straps = s.glb.straps ∧ (offerDemand r s).upd.keys = s.upd.keys := by
  unfold offerDemand; repeat (first | (solve | simp [*]) | split | simp [*])

@[simp] theorem startVref_fix (r : Fin 24) (s : State) :
    (startVref r s).2.glb.straps = s.glb.straps ∧ (startVref r s).2.upd.keys = s.upd.keys := by
  unfold startVref; repeat (first | (solve | simp [*]) | split | simp [*])

@[simp] theorem railStart_fix (r : Fin 24) (s0 : State) :
    (railStart r s0).glb.straps = s0.glb.straps ∧ (railStart r s0).upd.keys = s0.upd.keys := by
  unfold railStart; repeat (first | (solve | simp [*]) | split | simp [*])

@[simp] theorem railStop_fix (r : Fin 24) (s : State) :
    (railStop r s).glb.straps = s.glb.straps ∧ (railStop r s).upd.keys = s.upd.keys := by
  unfold railStop; repeat (first | (solve | simp [*]) | split | simp [*])

@[simp] theorem phasesOff_fix (r : Fin 24) (s : State) :
    (phasesOff r s).glb.straps = s.glb.straps ∧ (phasesOff r s).upd.keys = s.upd.keys := by
  unfold phasesOff; repeat (first | (solve | simp [*]) | split | simp [*])

@[simp] theorem railCut_fix (r : Fin 24) (s : State) :
    (railCut r s).glb.straps = s.glb.straps ∧ (railCut r s).upd.keys = s.upd.keys := by
  unfold railCut; repeat (first | (solve | simp [*]) | split | simp [*])

@[simp] theorem railSnuff_fix (r : Fin 24) (s : State) :
    (railSnuff r s).glb.straps = s.glb.straps ∧ (railSnuff r s).upd.keys = s.upd.keys := by
  unfold railSnuff; repeat (first | (solve | simp [*]) | split | simp [*])

@[simp] theorem reassertSnuff_fix (r : Fin 24) (s : State) :
    (reassertSnuff r s).glb.straps = s.glb.straps ∧ (reassertSnuff r s).upd.keys = s.upd.keys := by
  unfold reassertSnuff; repeat (first | (solve | simp [*]) | split | simp [*])

@[simp] theorem railUnsnuff_fix (r : Fin 24) (s : State) :
    (railUnsnuff r s).glb.straps = s.glb.straps ∧ (railUnsnuff r s).upd.keys = s.upd.keys := by
  unfold railUnsnuff; repeat (first | (solve | simp [*]) | split | simp [*])

@[simp] theorem armUv_fix (r : Fin 24) (s : State) :
    (armUv r s).glb.straps = s.glb.straps ∧ (armUv r s).upd.keys = s.upd.keys := by
  unfold armUv; repeat (first | (solve | simp [*]) | split | simp [*])

@[simp] theorem readCmp_fix (o : Option Bool) (s : State) :
    (readCmp o s).2.glb.straps = s.glb.straps ∧ (readCmp o s).2.upd.keys = s.upd.keys := by
  unfold readCmp; repeat (first | (solve | simp [*]) | split | simp [*])

@[simp] theorem uvEvent_fix (r : Fin 24) (s : State) :
    (uvEvent r s).glb.straps = s.glb.straps ∧ (uvEvent r s).upd.keys = s.upd.keys := by
  unfold uvEvent; repeat (first | (solve | simp [*]) | split | simp [*])

@[simp] theorem uvStart_fix (ev : State → State) (r : Fin 24) (low : Bool) (s : State) (hev : ∀ (t : State), (ev t).glb.straps = t.glb.straps ∧ (ev t).upd.keys = t.upd.keys) :
    (uvStart ev r low s).glb.straps = s.glb.straps ∧ (uvStart ev r low s).upd.keys = s.upd.keys := by
  unfold uvStart; repeat (first | (solve | simp [*]) | split | simp [*])

@[simp] theorem uvJudge_fix (ev : State → State) (r : Fin 24) (s : State) (hev : ∀ (t : State), (ev t).glb.straps = t.glb.straps ∧ (ev t).upd.keys = t.upd.keys) :
    (uvJudge ev r s).glb.straps = s.glb.straps ∧ (uvJudge ev r s).upd.keys = s.upd.keys := by
  unfold uvJudge; repeat (first | (solve | simp [*]) | split | simp [*])

@[simp] theorem uvChange_fix (ev : State → State) (r : Fin 24) (v : Nat) (s : State) (hev : ∀ (t : State), (ev t).glb.straps = t.glb.straps ∧ (ev t).upd.keys = t.upd.keys) :
    (uvChange ev r v s).glb.straps = s.glb.straps ∧ (uvChange ev r v s).upd.keys = s.upd.keys := by
  unfold uvChange; repeat (first | (solve | simp [*]) | split | simp [*])

@[simp] theorem ovTrip_fix (r : Fin 24) (s : State) :
    (ovTrip r s).glb.straps = s.glb.straps ∧ (ovTrip r s).upd.keys = s.upd.keys := by
  unfold ovTrip; repeat (first | (solve | simp [*]) | split | simp [*])

@[simp] theorem ovChange_fix (act : State → State) (r : Fin 24) (v : Nat) (s : State) (hact : ∀ (t : State), (act t).glb.straps = t.glb.straps ∧ (act t).upd.keys = t.upd.keys) :
    (ovChange act r v s).glb.straps = s.glb.straps ∧ (ovChange act r v s).upd.keys = s.upd.keys := by
  unfold ovChange; repeat (first | (solve | simp [*]) | split | simp [*])

@[simp] theorem rampUpEnd_fix (r : Fin 24) (s : State) :
    (rampUpEnd r s).glb.straps = s.glb.straps ∧ (rampUpEnd r s).upd.keys = s.upd.keys := by
  unfold rampUpEnd; repeat (first | (solve | simp [*]) | split | simp [*])

@[simp] theorem startSettle_fix (r : Fin 24) (s : State) :
    (startSettle r s).glb.straps = s.glb.straps ∧ (startSettle r s).upd.keys = s.upd.keys := by
  unfold startSettle; repeat (first | (solve | simp [*]) | split | simp [*])

@[simp] theorem rampStep_fix (r : Fin 24) (s : State) :
    (rampStep r s).glb.straps = s.glb.straps ∧ (rampStep r s).upd.keys = s.upd.keys := by
  unfold rampStep; repeat (first | (solve | simp [*]) | split | simp [*])

@[simp] theorem slewStep_fix (r : Fin 24) (s : State) :
    (slewStep r s).glb.straps = s.glb.straps ∧ (slewStep r s).upd.keys = s.upd.keys := by
  unfold slewStep; repeat (first | (solve | simp [*]) | split | simp [*])

@[simp] theorem demandStep_fix (r : Fin 24) (e : Int) (sat : Bool) (s : State) :
    (demandStep r e sat s).glb.straps = s.glb.straps ∧ (demandStep r e sat s).upd.keys = s.upd.keys := by
  unfold demandStep; repeat (first | (solve | simp [*]) | split | simp [*])

@[simp] theorem moveUp_fix (r : Fin 24) (k : Nat) (s : State) :
    (moveUp r k s).glb.straps = s.glb.straps ∧ (moveUp r k s).upd.keys = s.upd.keys := by
  unfold moveUp; repeat (first | (solve | simp [*]) | split | simp [*])

@[simp] theorem holdOffStart_fix (r : Fin 24) (c : RailCfg) (s : State) :
    (holdOffStart r c s).glb.straps = s.glb.straps ∧ (holdOffStart r c s).upd.keys = s.upd.keys := by
  unfold holdOffStart; repeat (first | (solve | simp [*]) | split | simp [*])

@[simp] theorem relight_fix (r : Fin 24) (s : State) :
    (relight r s).glb.straps = s.glb.straps ∧ (relight r s).upd.keys = s.upd.keys := by
  unfold relight; repeat (first | (solve | simp [*]) | split | simp [*])

@[simp] theorem relightIn_fix (r : Fin 24) (k : Nat) (trig : Bool) (s : State) :
    (relightIn r k trig s).glb.straps = s.glb.straps ∧ (relightIn r k trig s).upd.keys = s.upd.keys := by
  unfold relightIn; repeat (first | (solve | simp [*]) | split | simp [*])

@[simp] theorem shedAnnounce_fix (r : Fin 24) (s : State) :
    (shedAnnounce r s).glb.straps = s.glb.straps ∧ (shedAnnounce r s).upd.keys = s.upd.keys := by
  unfold shedAnnounce; repeat (first | (solve | simp [*]) | split | simp [*])

@[simp] theorem dwellExpiry_fix (r : Fin 24) (s : State) :
    (dwellExpiry r s).glb.straps = s.glb.straps ∧ (dwellExpiry r s).upd.keys = s.upd.keys := by
  unfold dwellExpiry; repeat (first | (solve | simp [*]) | split | simp [*])

@[simp] theorem shedStep_fix (r : Fin 24) (e : Int) (s : State) :
    (shedStep r e s).glb.straps = s.glb.straps ∧ (shedStep r e s).upd.keys = s.upd.keys := by
  unfold shedStep; repeat (first | (solve | simp [*]) | split | simp [*])

@[simp] theorem pgStep_fix (r : Fin 24) (e : Int) (sat : Bool) (vref : Int) (s : State) :
    (pgStep r e sat vref s).glb.straps = s.glb.straps ∧ (pgStep r e sat vref s).upd.keys = s.upd.keys := by
  unfold pgStep; repeat (first | (solve | simp [*]) | split | simp [*])

@[simp] theorem settleStep_fix (r : Fin 24) (e : Int) (sat : Bool) (s : State) :
    (settleStep r e sat s).glb.straps = s.glb.straps ∧ (settleStep r e sat s).upd.keys = s.upd.keys := by
  unfold settleStep; repeat (first | (solve | simp [*]) | split | simp [*])

@[simp] theorem railCheck_fix (r : Fin 24) (bit : Nat) (s : State) :
    (railCheck r bit s).glb.straps = s.glb.straps ∧ (railCheck r bit s).upd.keys = s.upd.keys := by
  unfold railCheck; repeat (first | (solve | simp [*]) | split | simp [*])

@[simp] theorem railChecks_fix (r : Fin 24) (v : Int) (sat : Bool) (vsnBad : Bool) (s : State) :
    (railChecks r v sat vsnBad s).glb.straps = s.glb.straps ∧ (railChecks r v sat vsnBad s).upd.keys = s.upd.keys := by
  unfold railChecks; repeat (first | (solve | simp [*]) | split | simp [*])

@[simp] theorem snapTake_fix (r : Fin 24) (s : State) :
    (snapTake r s).glb.straps = s.glb.straps ∧ (snapTake r s).upd.keys = s.upd.keys := by
  unfold snapTake; repeat (first | (solve | simp [*]) | split | simp [*])

@[simp] theorem compensate_fix (r : Fin 24) (e : Int) (v : Int) (sat : Bool) (vsnBad : Bool) (ride : Bool) (vref : Int) (s : State) :
    (compensate r e v sat vsnBad ride vref s).glb.straps = s.glb.straps ∧ (compensate r e v sat vsnBad ride vref s).upd.keys = s.upd.keys := by
  unfold compensate; repeat (first | (solve | simp [*]) | split | simp [*])

@[simp] theorem newLevels_fix (uv : State → State) (ov : State → State) (r : Fin 24) (old : Option RailCfg) (s : State) (huv : ∀ (t : State), (uv t).glb.straps = t.glb.straps ∧ (uv t).upd.keys = t.upd.keys) (hov : ∀ (t : State), (ov t).glb.straps = t.glb.straps ∧ (ov t).upd.keys = t.upd.keys) :
    (newLevels uv ov r old s).glb.straps = s.glb.straps ∧ (newLevels uv ov r old s).upd.keys = s.upd.keys := by
  unfold newLevels; repeat (first | (solve | simp [*]) | split | simp [*])

@[simp] theorem compensator_fix (uv : State → State) (ov : State → State) (r : Fin 24) (e0 : Int) (sat : Bool) (vsnBad : Bool) (s : State) (huv : ∀ (t : State), (uv t).glb.straps = t.glb.straps ∧ (uv t).upd.keys = t.upd.keys) (hov : ∀ (t : State), (ov t).glb.straps = t.glb.straps ∧ (ov t).upd.keys = t.upd.keys) :
    (compensator uv ov r e0 sat vsnBad s).glb.straps = s.glb.straps ∧ (compensator uv ov r e0 sat vsnBad s).upd.keys = s.upd.keys := by
  unfold compensator; repeat (first | (solve | simp [*]) | split | simp [*])

@[simp] theorem railPublish_fix (r : Fin 24) (s : State) :
    (railPublish r s).glb.straps = s.glb.straps ∧ (railPublish r s).upd.keys = s.upd.keys := by
  unfold railPublish; repeat (first | (solve | simp [*]) | split | simp [*])

@[simp] theorem railRefuse_fix (r : Fin 24) (s : State) :
    (railRefuse r s).glb.straps = s.glb.straps ∧ (railRefuse r s).upd.keys = s.upd.keys := by
  unfold railRefuse; repeat (first | (solve | simp [*]) | split | simp [*])

@[simp] theorem hostUnsnuff_fix (r : Fin 24) (s : State) :
    (hostUnsnuff r s).glb.straps = s.glb.straps ∧ (hostUnsnuff r s).upd.keys = s.upd.keys := by
  unfold hostUnsnuff; repeat (first | (solve | simp [*]) | split | simp [*])

@[simp] theorem hostNoshed_fix (r : Fin 24) (on : Bool) (s : State) :
    (hostNoshed r on s).glb.straps = s.glb.straps ∧ (hostNoshed r on s).upd.keys = s.upd.keys := by
  unfold hostNoshed; repeat (first | (solve | simp [*]) | split | simp [*])

@[simp] theorem trimVset_fix (r : Fin 24) (v : Nat) (s : State) :
    (trimVset r v s).glb.straps = s.glb.straps ∧ (trimVset r v s).upd.keys = s.upd.keys := by
  unfold trimVset; repeat (first | (solve | simp [*]) | split | simp [*])

@[simp] theorem trimIlim_fix (r : Fin 24) (v : Nat) (s : State) :
    (trimIlim r v s).glb.straps = s.glb.straps ∧ (trimIlim r v s).upd.keys = s.upd.keys := by
  unfold trimIlim; repeat (first | (solve | simp [*]) | split | simp [*])

@[simp] theorem portClock_fix (p : Fin 8) (v : Isl) (s : State) :
    (portClock p v s).glb.straps = s.glb.straps ∧ (portClock p v s).upd.keys = s.upd.keys := by
  unfold portClock; repeat (first | (solve | simp [*]) | split | simp [*])

@[simp] theorem llSetV_fix (p : Fin 8) (k : Fin 4) (r : Fin 24) (payload : Nat) (s : State) :
    (llSetV p k r payload s).2.glb.straps = s.glb.straps ∧ (llSetV p k r payload s).2.upd.keys = s.upd.keys := by
  unfold llSetV; repeat (first | (solve | simp [*]) | split | simp [*])

@[simp] theorem llNoticeAck_fix (p : Fin 8) (payload : Nat) (s : State) :
    (llNoticeAck p payload s).glb.straps = s.glb.straps ∧ (llNoticeAck p payload s).upd.keys = s.upd.keys := by
  unfold llNoticeAck; repeat (first | (solve | simp [*]) | split | simp [*])

@[simp] theorem llExec_fix (p : Fin 8) (k : Fin 4) (q : LlReq) (s : State) :
    (llExec p k q s).2.glb.straps = s.glb.straps ∧ (llExec p k q s).2.upd.keys = s.upd.keys := by
  unfold llExec; repeat (first | (solve | simp [*]) | split | simp [*])

@[simp] theorem llRespond_fix (p : Fin 8) (rcrc : Nat) (code : Nat) (data : Nat) (s : State) :
    (llRespond p rcrc code data s).glb.straps = s.glb.straps ∧ (llRespond p rcrc code data s).upd.keys = s.upd.keys := by
  unfold llRespond; repeat (first | (solve | simp [*]) | split | simp [*])

@[simp] theorem llLoss_fix (p : Fin 8) (s : State) :
    (llLoss p s).glb.straps = s.glb.straps ∧ (llLoss p s).upd.keys = s.upd.keys := by
  unfold llLoss; repeat (first | (solve | simp [*]) | split | simp [*])

@[simp] theorem llBad_fix (p : Fin 8) (s : State) :
    (llBad p s).glb.straps = s.glb.straps ∧ (llBad p s).upd.keys = s.upd.keys := by
  unfold llBad; repeat (first | (solve | simp [*]) | split | simp [*])

@[simp] theorem llRequest_fix (p : Fin 8) (k : Fin 4) (cmd : Nat) (tog : Bool) (payload : Nat) (rcrc : Nat) (s0 : State) :
    (llRequest p k cmd tog payload rcrc s0).glb.straps = s0.glb.straps ∧ (llRequest p k cmd tog payload rcrc s0).upd.keys = s0.upd.keys := by
  unfold llRequest; repeat (first | (solve | simp [*]) | split | simp [*])

@[simp] theorem llBoundary_fix (p : Fin 8) (edges : Nat) (startOne : Bool) (s0 : State) :
    (llBoundary p edges startOne s0).glb.straps = s0.glb.straps ∧ (llBoundary p edges startOne s0).upd.keys = s0.upd.keys := by
  unfold llBoundary; repeat (first | (solve | simp [*]) | split | simp [*])

@[simp] theorem settleTimeout_fix (r : Fin 24) (s : State) :
    (settleTimeout r s).glb.straps = s.glb.straps ∧ (settleTimeout r s).upd.keys = s.upd.keys := by
  unfold settleTimeout; repeat (first | (solve | simp [*]) | split | simp [*])

@[simp] theorem noticeClear_fix (p : Fin 8) (s : State) :
    (noticeClear p s).glb.straps = s.glb.straps ∧ (noticeClear p s).upd.keys = s.upd.keys := by
  unfold noticeClear; repeat (first | (solve | simp [*]) | split | simp [*])

@[simp] theorem mbPut_fix (c : Fin 16) (k : MbKind) (s : State) :
    (mbPut c k s).glb.straps = s.glb.straps ∧ (mbPut c k s).upd.keys = s.upd.keys := by
  unfold mbPut; repeat (first | (solve | simp [*]) | split | simp [*])

@[simp] theorem dropWork_fix (c : Fin 16) (s : State) :
    (dropWork c s).glb.straps = s.glb.straps ∧ (dropWork c s).upd.keys = s.upd.keys := by
  unfold dropWork; repeat (first | (solve | simp [*]) | split | simp [*])

@[simp] theorem dropOp_fix (i : Nat) (s : State) :
    (dropOp i s).glb.straps = s.glb.straps ∧ (dropOp i s).upd.keys = s.upd.keys := by
  unfold dropOp; repeat (first | (solve | simp [*]) | split | simp [*])

@[simp] theorem watchMb_fix (s : State) :
    (watchMb s).glb.straps = s.glb.straps ∧ (watchMb s).upd.keys = s.upd.keys := by
  unfold watchMb; repeat (first | (solve | simp [*]) | split | simp [*])

@[simp] theorem judgeUsable_fix (s : State) :
    (judgeUsable s).glb.straps = s.glb.straps ∧ (judgeUsable s).upd.keys = s.upd.keys := by
  unfold judgeUsable; repeat (first | (solve | simp [*]) | split | simp [*])

@[simp] theorem excludeNow_fix (c : Fin 16) (why : Nat) (s : State) :
    (excludeNow c why s).glb.straps = s.glb.straps ∧ (excludeNow c why s).upd.keys = s.upd.keys := by
  unfold excludeNow; repeat (first | (solve | simp [*]) | split | simp [*])

@[simp] theorem exclude_fix (c : Fin 16) (why : Nat) (s : State) :
    (exclude c why s).glb.straps = s.glb.straps ∧ (exclude c why s).upd.keys = s.upd.keys := by
  unfold exclude; repeat (first | (solve | simp [*]) | split | simp [*])

@[simp] theorem examine_fix (c : Fin 16) (s : State) :
    (examine c s).glb.straps = s.glb.straps ∧ (examine c s).upd.keys = s.upd.keys := by
  unfold examine; repeat (first | (solve | simp [*]) | split | simp [*])

@[simp] theorem onIdentity_fix (c : Fin 16) (d : List Byte) (s : State) :
    (onIdentity c d s).glb.straps = s.glb.straps ∧ (onIdentity c d s).upd.keys = s.upd.keys := by
  unfold onIdentity; repeat (first | (solve | simp [*]) | split | simp [*])

@[simp] theorem challenge_fix (c : Fin 16) (s : State) :
    (challenge c s).glb.straps = s.glb.straps ∧ (challenge c s).upd.keys = s.upd.keys := by
  unfold challenge; repeat (first | (solve | simp [*]) | split | simp [*])

@[simp] theorem cartControl_fix (c : Fin 16) (s : State) :
    (cartControl c s).glb.straps = s.glb.straps ∧ (cartControl c s).upd.keys = s.upd.keys := by
  unfold cartControl; repeat (first | (solve | simp [*]) | split | simp [*])

@[simp] theorem onBanks_fix (c : Fin 16) (d : List Byte) (s : State) :
    (onBanks c d s).glb.straps = s.glb.straps ∧ (onBanks c d s).upd.keys = s.upd.keys := by
  unfold onBanks; repeat (first | (solve | simp [*]) | split | simp [*])

@[simp] theorem onResponse_fix (c : Fin 16) (d : List Byte) (s : State) :
    (onResponse c d s).glb.straps = s.glb.straps ∧ (onResponse c d s).upd.keys = s.upd.keys := by
  unfold onResponse; repeat (first | (solve | simp [*]) | split | simp [*])

@[simp] theorem writeCounters_fix (c : Fin 16) (s : State) :
    (writeCounters c s).glb.straps = s.glb.straps ∧ (writeCounters c s).upd.keys = s.upd.keys := by
  unfold writeCounters; repeat (first | (solve | simp [*]) | split | simp [*])

@[simp] theorem writeAllCounters_fix (s : State) :
    (writeAllCounters s).glb.straps = s.glb.straps ∧ (writeAllCounters s).upd.keys = s.upd.keys := by
  unfold writeAllCounters; repeat (first | (solve | simp [*]) | split | simp [*])

@[simp] theorem lifeCheck_fix (c : Fin 16) (s : State) :
    (lifeCheck c s).glb.straps = s.glb.straps ∧ (lifeCheck c s).upd.keys = s.upd.keys := by
  unfold lifeCheck; repeat (first | (solve | simp [*]) | split | simp [*])

@[simp] theorem integrate_fix (r : Fin 24) (s : State) :
    (integrate r s).glb.straps = s.glb.straps ∧ (integrate r s).upd.keys = s.upd.keys := by
  unfold integrate; repeat (first | (solve | simp [*]) | split | simp [*])

@[simp] theorem absentNow_fix (c : Fin 16) (s : State) :
    (absentNow c s).glb.straps = s.glb.straps ∧ (absentNow c s).upd.keys = s.upd.keys := by
  unfold absentNow; repeat (first | (solve | simp [*]) | split | simp [*])

@[simp] theorem cartAbsent_fix (c : Fin 16) (s : State) :
    (cartAbsent c s).glb.straps = s.glb.straps ∧ (cartAbsent c s).upd.keys = s.upd.keys := by
  unfold cartAbsent; repeat (first | (solve | simp [*]) | split | simp [*])

@[simp] theorem cartAfterRide_fix (c : Fin 16) (s : State) :
    (cartAfterRide c s).glb.straps = s.glb.straps ∧ (cartAfterRide c s).upd.keys = s.upd.keys := by
  unfold cartAfterRide; repeat (first | (solve | simp [*]) | split | simp [*])

@[simp] theorem mbSuccess_fix (o : MbOp) (d : List Byte) (s0 : State) :
    (mbSuccess o d s0).glb.straps = s0.glb.straps ∧ (mbSuccess o d s0).upd.keys = s0.upd.keys := by
  unfold mbSuccess; split
  · simp
  · simp
  · simp
  · split <;> simp
  · simp
  · dsimp only; split <;> simp
  · dsimp only; split
    · simp
    · split <;> simp
  · simp

@[simp] theorem mbGiveUp_fix (o : MbOp) (s : State) :
    (mbGiveUp o s).glb.straps = s.glb.straps ∧ (mbGiveUp o s).upd.keys = s.upd.keys := by
  unfold mbGiveUp; split
  · dsimp only; split <;> simp
  · split <;> simp
  · simp
  · simp
  · simp
  · simp
  · simp
  · simp

@[simp] theorem mbFail_fix (crc : Bool) (i : Nat) (o : MbOp) (s : State) :
    (mbFail crc i o s).glb.straps = s.glb.straps ∧ (mbFail crc i o s).upd.keys = s.upd.keys := by
  unfold mbFail; repeat (first | (solve | simp [*]) | split | simp [*])

@[simp] theorem mbRecover_fix (s : State) :
    (mbRecover s).glb.straps = s.glb.straps ∧ (mbRecover s).upd.keys = s.upd.keys := by
  unfold mbRecover; repeat (first | (solve | simp [*]) | split | simp [*])

@[simp] theorem mbDone_fix (res : MbResult) (s0 : State) :
    (mbDone res s0).glb.straps = s0.glb.straps ∧ (mbDone res s0).upd.keys = s0.upd.keys := by
  unfold mbDone; repeat (first | (solve | simp [*]) | split | simp [*])

@[simp] theorem mbRetry_fix (c : Fin 16) (busy : Bool) (s : State) :
    (mbRetry c busy s).glb.straps = s.glb.straps ∧ (mbRetry c busy s).upd.keys = s.upd.keys := by
  unfold mbRetry; repeat (first | (solve | simp [*]) | split | simp [*])

@[simp] theorem mbLowTimeout_fix (sdaStuck : Bool) (s : State) :
    (mbLowTimeout sdaStuck s).glb.straps = s.glb.straps ∧ (mbLowTimeout sdaStuck s).upd.keys = s.upd.keys := by
  unfold mbLowTimeout; repeat (first | (solve | simp [*]) | split | simp [*])

@[simp] theorem statusPoll_fix (c : Fin 16) (s : State) :
    (statusPoll c s).glb.straps = s.glb.straps ∧ (statusPoll c s).upd.keys = s.upd.keys := by
  unfold statusPoll; repeat (first | (solve | simp [*]) | split | simp [*])

@[simp] theorem authPollNow_fix (c : Fin 16) (s : State) :
    (authPollNow c s).glb.straps = s.glb.straps ∧ (authPollNow c s).upd.keys = s.upd.keys := by
  unfold authPollNow; repeat (first | (solve | simp [*]) | split | simp [*])

@[simp] theorem authExpired_fix (c : Fin 16) (s : State) :
    (authExpired c s).glb.straps = s.glb.straps ∧ (authExpired c s).upd.keys = s.upd.keys := by
  unfold authExpired; repeat (first | (solve | simp [*]) | split | simp [*])

@[simp] theorem reauth_fix (c : Fin 16) (s : State) :
    (reauth c s).glb.straps = s.glb.straps ∧ (reauth c s).upd.keys = s.upd.keys := by
  unfold reauth; repeat (first | (solve | simp [*]) | split | simp [*])

@[simp] theorem rescan_fix (c : Fin 16) (s : State) :
    (rescan c s).glb.straps = s.glb.straps ∧ (rescan c s).upd.keys = s.upd.keys := by
  unfold rescan; repeat (first | (solve | simp [*]) | split | simp [*])

@[simp] theorem holdDrop_fix (r : Fin 24) (s : State) :
    (holdDrop r s).glb.straps = s.glb.straps ∧ (holdDrop r s).upd.keys = s.upd.keys := by
  unfold holdDrop; repeat (first | (solve | simp [*]) | split | simp [*])

@[simp] theorem holdSwitch_fix (r : Fin 24) (dis : Bool) (s : State) :
    (holdSwitch r dis s).glb.straps = s.glb.straps ∧ (holdSwitch r dis s).upd.keys = s.upd.keys := by
  unfold holdSwitch; repeat (first | (solve | simp [*]) | split | simp [*])

@[simp] theorem rideEnd_fix (spent : Bool) (s : State) :
    (rideEnd spent s).glb.straps = s.glb.straps ∧ (rideEnd spent s).upd.keys = s.upd.keys := by
  unfold rideEnd; dsimp only
  refine ⟨(State.each_fix _ _ _ (fun c t => by simp)).1.trans ?_, (State.each_fix _ _ _ (fun c t => by simp)).2.trans ?_⟩ <;>
    simp

@[simp] theorem enterCharge_fix (r : Fin 24) (s : State) :
    (enterCharge r s).glb.straps = s.glb.straps ∧ (enterCharge r s).upd.keys = s.upd.keys := by
  unfold enterCharge; repeat (first | (solve | simp [*]) | split | simp [*])

@[simp] theorem enterIdle_fix (r : Fin 24) (s : State) :
    (enterIdle r s).glb.straps = s.glb.straps ∧ (enterIdle r s).upd.keys = s.upd.keys := by
  unfold enterIdle; repeat (first | (solve | simp [*]) | split | simp [*])

@[simp] theorem chargeOrIdle_fix (r : Fin 24) (s : State) :
    (chargeOrIdle r s).glb.straps = s.glb.straps ∧ (chargeOrIdle r s).upd.keys = s.upd.keys := by
  unfold chargeOrIdle; repeat (first | (solve | simp [*]) | split | simp [*])

@[simp] theorem rideSpent_fix (r : Fin 24) (b : Nat) (s : State) :
    (rideSpent r b s).glb.straps = s.glb.straps ∧ (rideSpent r b s).upd.keys = s.upd.keys := by
  unfold rideSpent; repeat (first | (solve | simp [*]) | split | simp [*])

@[simp] theorem holdJudge_fix (s : State) :
    (holdJudge s).glb.straps = s.glb.straps ∧ (holdJudge s).upd.keys = s.upd.keys := by
  unfold holdJudge; repeat (first | (solve | simp [*]) | split | simp [*])

@[simp] theorem rideDemand_fix (r : Fin 24) (s : State) :
    (rideDemand r s).glb.straps = s.glb.straps ∧ (rideDemand r s).upd.keys = s.upd.keys := by
  unfold rideDemand; repeat (first | (solve | simp [*]) | split | simp [*])

@[simp] theorem enterRide_fix (r : Fin 24) (s : State) :
    (enterRide r s).glb.straps = s.glb.straps ∧ (enterRide r s).upd.keys = s.upd.keys := by
  unfold enterRide; repeat (first | (solve | simp [*]) | split | simp [*])

@[simp] theorem rideBegin_fix (r : Fin 24) (s : State) :
    (rideBegin r s).glb.straps = s.glb.straps ∧ (rideBegin r s).upd.keys = s.upd.keys := by
  simp [rideBegin]

@[simp] theorem rideTrip_fix (s : State) :
    (rideTrip s).glb.straps = s.glb.straps ∧ (rideTrip s).upd.keys = s.upd.keys := by
  unfold rideTrip; repeat (first | (solve | simp [*]) | split | simp [*])

@[simp] theorem rideClear_fix (s : State) :
    (rideClear s).glb.straps = s.glb.straps ∧ (rideClear s).upd.keys = s.upd.keys := by
  unfold rideClear; repeat (first | (solve | simp [*]) | split | simp [*])

@[simp] theorem handbackEnd_fix (s : State) :
    (handbackEnd s).glb.straps = s.glb.straps ∧ (handbackEnd s).upd.keys = s.upd.keys := by
  unfold handbackEnd; repeat (first | (solve | simp [*]) | split | simp [*])

@[simp] theorem maxRide_fix (s : State) :
    (maxRide s).glb.straps = s.glb.straps ∧ (maxRide s).upd.keys = s.upd.keys := by
  unfold maxRide; repeat (first | (solve | simp [*]) | split | simp [*])

@[simp] theorem judgeBusLost_fix (s : State) :
    (judgeBusLost s).glb.straps = s.glb.straps ∧ (judgeBusLost s).upd.keys = s.upd.keys := by
  unfold judgeBusLost; repeat (first | (solve | simp [*]) | split | simp [*])

@[simp] theorem busQualified_fix (s : State) :
    (busQualified s).glb.straps = s.glb.straps ∧ (busQualified s).upd.keys = s.upd.keys := by
  unfold busQualified; repeat (first | (solve | simp [*]) | split | simp [*])

@[simp] theorem busAbsent_fix (s : State) :
    (busAbsent s).glb.straps = s.glb.straps ∧ (busAbsent s).upd.keys = s.upd.keys := by
  unfold busAbsent; repeat (first | (solve | simp [*]) | split | simp [*])

@[simp] theorem uvAct_fix (r : Fin 24) (s : State) :
    (uvAct r s).glb.straps = s.glb.straps ∧ (uvAct r s).upd.keys = s.upd.keys := by
  unfold uvAct; repeat (first | (solve | simp [*]) | split | simp [*])

@[simp] theorem shareSample_fix (uv : Int) (s : State) :
    (shareSample uv s).glb.straps = s.glb.straps ∧ (shareSample uv s).upd.keys = s.upd.keys := by
  unfold shareSample; repeat (first | (solve | simp [*]) | split | simp [*])

@[simp] theorem setOfs_fix (o : Int) (s : State) :
    (setOfs o s).glb.straps = s.glb.straps ∧ (setOfs o s).upd.keys = s.upd.keys := by
  unfold setOfs; repeat (first | (solve | simp [*]) | split | simp [*])

@[simp] theorem watchShare_fix (s : State) :
    (watchShare s).glb.straps = s.glb.straps ∧ (watchShare s).upd.keys = s.upd.keys := by
  unfold watchShare; repeat (first | (solve | simp [*]) | split | simp [*])

@[simp] theorem shareStep_fix (s : State) :
    (shareStep s).glb.straps = s.glb.straps ∧ (shareStep s).upd.keys = s.upd.keys := by
  unfold shareStep; repeat (first | (solve | simp [*]) | split | simp [*])

@[simp] theorem reLimit_fix (s : State) :
    (reLimit s).glb.straps = s.glb.straps ∧ (reLimit s).upd.keys = s.upd.keys := by
  unfold reLimit; repeat (first | (solve | simp [*]) | split | simp [*])

@[simp] theorem capRecompute_fix (s : State) :
    (capRecompute s).glb.straps = s.glb.straps ∧ (capRecompute s).upd.keys = s.upd.keys := by
  unfold capRecompute; repeat (first | (solve | simp [*]) | split | simp [*])

@[simp] theorem logSeq_fix (d : Fin 8) (n : Nat) (step : Nat) (s : State) :
    (logSeq d n step s).glb.straps = s.glb.straps ∧ (logSeq d n step s).upd.keys = s.upd.keys := by
  unfold logSeq; repeat (first | (solve | simp [*]) | split | simp [*])

@[simp] theorem domCause_fix (d : Fin 8) (b : Nat) (s : State) :
    (domCause d b s).glb.straps = s.glb.straps ∧ (domCause d b s).upd.keys = s.upd.keys := by
  unfold domCause; repeat (first | (solve | simp [*]) | split | simp [*])

@[simp] theorem loadDom_fix (d : Fin 8) (s : State) :
    (loadDom d s).glb.straps = s.glb.straps ∧ (loadDom d s).upd.keys = s.upd.keys := by
  unfold loadDom; repeat (first | (solve | simp [*]) | split | simp [*])

@[simp] theorem startMinOff_fix (d : Fin 8) (s : State) :
    (startMinOff d s).glb.straps = s.glb.straps ∧ (startMinOff d s).upd.keys = s.upd.keys := by
  unfold startMinOff; repeat (first | (solve | simp [*]) | split | simp [*])

@[simp] theorem cutSlot_fix (n : Fin 48) (s : State) :
    (cutSlot n s).glb.straps = s.glb.straps ∧ (cutSlot n s).upd.keys = s.upd.keys := by
  unfold cutSlot; repeat (first | (solve | simp [*]) | split | simp [*])

@[simp] theorem afterCut_fix (d : Fin 8) (by_ : CutBy) (s : State) :
    (afterCut d by_ s).glb.straps = s.glb.straps ∧ (afterCut d by_ s).upd.keys = s.upd.keys := by
  unfold afterCut; repeat (first | (solve | simp [*]) | split | simp [*])

@[simp] theorem stopEnd_fix (d : Fin 8) (s : State) :
    (stopEnd d s).glb.straps = s.glb.straps ∧ (stopEnd d s).upd.keys = s.upd.keys := by
  unfold stopEnd; repeat (first | (solve | simp [*]) | split | simp [*])

@[simp] theorem countCut_fix (d : Fin 8) (s : State) :
    (countCut d s).glb.straps = s.glb.straps ∧ (countCut d s).upd.keys = s.upd.keys := by
  unfold countCut; repeat (first | (solve | simp [*]) | split | simp [*])

@[simp] theorem cutStop_fix (d : Fin 8) (by_ : CutBy) (s : State) :
    (cutStop d by_ s).glb.straps = s.glb.straps ∧ (cutStop d by_ s).upd.keys = s.upd.keys := by
  unfold cutStop; repeat (first | (solve | simp [*]) | split | simp [*])

@[simp] theorem cutDom_fix (d : Fin 8) (by_ : CutBy) (s : State) :
    (cutDom d by_ s).glb.straps = s.glb.straps ∧ (cutDom d by_ s).upd.keys = s.upd.keys := by
  unfold cutDom; repeat (first | (solve | simp [*]) | split | simp [*])

@[simp] theorem holdFollow_fix (s : State) :
    (holdFollow s).glb.straps = s.glb.straps ∧ (holdFollow s).upd.keys = s.upd.keys := by
  unfold holdFollow; repeat (first | (solve | simp [*]) | split | simp [*])

@[simp] theorem shutOff_fix (mask : Nat) (by_ : CutBy) (s : State) :
    (shutOff mask by_ s).glb.straps = s.glb.straps ∧ (shutOff mask by_ s).upd.keys = s.upd.keys := by
  unfold shutOff; repeat (first | (solve | simp [*]) | split | simp [*])

@[simp] theorem countFault_fix (d : Fin 8) (s : State) :
    (countFault d s).glb.straps = s.glb.straps ∧ (countFault d s).upd.keys = s.upd.keys := by
  unfold countFault; dsimp only; split
  · rw [(domCause_fix ..).1, (domCause_fix ..).2, (State.updDom_fix ..).1, (State.updDom_fix ..).2]; split <;> simp
  · simp

@[simp] theorem reportVerdict_fix (v : Verdict) (act : State → State) (s : State) (hact : ∀ (t : State), (act t).glb.straps = t.glb.straps ∧ (act t).upd.keys = t.upd.keys) :
    (reportVerdict v act s).glb.straps = s.glb.straps ∧ (reportVerdict v act s).upd.keys = s.upd.keys := by
  unfold reportVerdict; repeat (first | (solve | simp [*]) | split | simp [*])

@[simp] theorem runFault_fix (n : Fin 48) (s : State) :
    (runFault n s).glb.straps = s.glb.straps ∧ (runFault n s).upd.keys = s.upd.keys := by
  unfold runFault; repeat (first | (solve | simp [*]) | split | simp [*])

@[simp] theorem judgeRun_fix (l : List (Fin 48)) (s : State) :
    (judgeRun l s).glb.straps = s.glb.straps ∧ (judgeRun l s).upd.keys = s.upd.keys := by
  unfold judgeRun; repeat (first | (solve | simp [*]) | split | simp [*])

@[simp] theorem warnTrip_fix (m : Fin 96) (s : State) :
    (warnTrip m s).glb.straps = s.glb.straps ∧ (warnTrip m s).upd.keys = s.upd.keys := by
  unfold warnTrip; repeat (first | (solve | simp [*]) | split | simp [*])

@[simp] theorem discardInput_fix (d : Fin 8) (s : State) :
    (discardInput d s).glb.straps = s.glb.straps ∧ (discardInput d s).upd.keys = s.upd.keys := by
  unfold discardInput; repeat (first | (solve | simp [*]) | split | simp [*])

@[simp] theorem planStop_fix (d : Fin 8) (tick : Nat) (assigned : Bool) (s : State) :
    (planStop d tick assigned s).glb.straps = s.glb.straps ∧ (planStop d tick assigned s).upd.keys = s.upd.keys := by
  unfold planStop; repeat (first | (solve | simp [*]) | split | simp [*])

@[simp] theorem stopBegin_fix (d : Fin 8) (after : AfterStop) (s : State) :
    (stopBegin d after s).glb.straps = s.glb.straps ∧ (stopBegin d after s).upd.keys = s.upd.keys := by
  unfold stopBegin; repeat (first | (solve | simp [*]) | split | simp [*])

@[simp] theorem failStart_fix (d : Fin 8) (n : Fin 48) (s : State) :
    (failStart d n s).glb.straps = s.glb.straps ∧ (failStart d n s).upd.keys = s.upd.keys := by
  unfold failStart; repeat (first | (solve | simp [*]) | split | simp [*])

@[simp] theorem tickUp_fix (d : Fin 8) (s : State) :
    (tickUp d s).glb.straps = s.glb.straps ∧ (tickUp d s).upd.keys = s.upd.keys := by
  unfold tickUp; repeat (first | (solve | simp [*]) | split | simp [*])

@[simp] theorem tickDown_fix (d : Fin 8) (s : State) :
    (tickDown d s).glb.straps = s.glb.straps ∧ (tickDown d s).upd.keys = s.upd.keys := by
  unfold tickDown; repeat (first | (solve | simp [*]) | split | simp [*])

@[simp] theorem judgeTick_fix (s : State) :
    (judgeTick s).glb.straps = s.glb.straps ∧ (judgeTick s).upd.keys = s.upd.keys := by
  unfold judgeTick; repeat (first | (solve | simp [*]) | split | simp [*])

@[simp] theorem commonStart_fix (d : Fin 8) (s : State) :
    (commonStart d s).glb.straps = s.glb.straps ∧ (commonStart d s).upd.keys = s.upd.keys := by
  unfold commonStart; repeat (first | (solve | simp [*]) | split | simp [*])

@[simp] theorem slotOn_fix (n : Fin 48) (s : State) :
    (slotOn n s).glb.straps = s.glb.straps ∧ (slotOn n s).upd.keys = s.upd.keys := by
  unfold slotOn; repeat (first | (solve | simp [*]) | split | simp [*])

@[simp] theorem switchOn_fix (n : Fin 48) (s : State) :
    (switchOn n s).glb.straps = s.glb.straps ∧ (switchOn n s).upd.keys = s.upd.keys := by
  unfold switchOn; repeat (first | (solve | simp [*]) | split | simp [*])

@[simp] theorem slotOff_fix (n : Fin 48) (s : State) :
    (slotOff n s).glb.straps = s.glb.straps ∧ (slotOff n s).upd.keys = s.upd.keys := by
  unfold slotOff; repeat (first | (solve | simp [*]) | split | simp [*])

@[simp] theorem lampIn_fix (n : Fin 48) (on : Bool) (s : State) :
    (lampIn n on s).glb.straps = s.glb.straps ∧ (lampIn n on s).upd.keys = s.upd.keys := by
  unfold lampIn; repeat (first | (solve | simp [*]) | split | simp [*])

@[simp] theorem fwdTick_fix (s : State) :
    (fwdTick s).glb.straps = s.glb.straps ∧ (fwdTick s).upd.keys = s.upd.keys := by
  unfold fwdTick; exact fwdTake_fix _ _ _ (fun c t => by split <;> simp)

@[simp] theorem lampTick_fix (s : State) :
    (lampTick s).glb.straps = s.glb.straps ∧ (lampTick s).upd.keys = s.upd.keys := by
  unfold lampTick; repeat (first | (solve | simp [*]) | split | simp [*])

@[simp] theorem offPoint_fix (n : Fin 48) (s : State) :
    (offPoint n s).glb.straps = s.glb.straps ∧ (offPoint n s).upd.keys = s.upd.keys := by
  unfold offPoint; repeat (first | (solve | simp [*]) | split | simp [*])

@[simp] theorem upToEnd_fix (n : Fin 48) (s : State) :
    (upToEnd n s).glb.straps = s.glb.straps ∧ (upToEnd n s).upd.keys = s.upd.keys := by
  unfold upToEnd; repeat (first | (solve | simp [*]) | split | simp [*])

@[simp] theorem downToEnd_fix (n : Fin 48) (s : State) :
    (downToEnd n s).glb.straps = s.glb.straps ∧ (downToEnd n s).upd.keys = s.upd.keys := by
  unfold downToEnd; repeat (first | (solve | simp [*]) | split | simp [*])

@[simp] theorem pgInEdge_fix (n : Fin 48) (level : Bool) (s : State) :
    (pgInEdge n level s).glb.straps = s.glb.straps ∧ (pgInEdge n level s).upd.keys = s.upd.keys := by
  unfold pgInEdge; repeat (first | (solve | simp [*]) | split | simp [*])

@[simp] theorem inputQualified_fix (d : Fin 8) (s : State) :
    (inputQualified d s).glb.straps = s.glb.straps ∧ (inputQualified d s).upd.keys = s.upd.keys := by
  unfold inputQualified; repeat (first | (solve | simp [*]) | split | simp [*])

@[simp] theorem inputLost_fix (d : Fin 8) (s : State) :
    (inputLost d s).glb.straps = s.glb.straps ∧ (inputLost d s).upd.keys = s.upd.keys := by
  unfold inputLost; repeat (first | (solve | simp [*]) | split | simp [*])

@[simp] theorem minOffEnd_fix (d : Fin 8) (s : State) :
    (minOffEnd d s).glb.straps = s.glb.straps ∧ (minOffEnd d s).upd.keys = s.upd.keys := by
  unfold minOffEnd; repeat (first | (solve | simp [*]) | split | simp [*])

@[simp] theorem restartEnd_fix (d : Fin 8) (s : State) :
    (restartEnd d s).glb.straps = s.glb.straps ∧ (restartEnd d s).upd.keys = s.upd.keys := by
  unfold restartEnd; repeat (first | (solve | simp [*]) | split | simp [*])

@[simp] theorem retryAge_fix (d : Fin 8) (s : State) :
    (retryAge d s).glb.straps = s.glb.straps ∧ (retryAge d s).upd.keys = s.upd.keys := by
  unfold retryAge; repeat (first | (solve | simp [*]) | split | simp [*])

@[simp] theorem seqRefuse_fix (d : Fin 8) (s : State) :
    (seqRefuse d s).glb.straps = s.glb.straps ∧ (seqRefuse d s).upd.keys = s.upd.keys := by
  unfold seqRefuse; repeat (first | (solve | simp [*]) | split | simp [*])

@[simp] theorem seqStart_fix (d : Fin 8) (s : State) :
    (seqStart d s).glb.straps = s.glb.straps ∧ (seqStart d s).upd.keys = s.upd.keys := by
  unfold seqStart; repeat (first | (solve | simp [*]) | split | simp [*])

@[simp] theorem seqStop_fix (d : Fin 8) (s : State) :
    (seqStop d s).glb.straps = s.glb.straps ∧ (seqStop d s).upd.keys = s.upd.keys := by
  unfold seqStop; repeat (first | (solve | simp [*]) | split | simp [*])

@[simp] theorem seqShutoff_fix (mask : Nat) (s : State) :
    (seqShutoff mask s).glb.straps = s.glb.straps ∧ (seqShutoff mask s).upd.keys = s.upd.keys := by
  unfold seqShutoff; repeat (first | (solve | simp [*]) | split | simp [*])

@[simp] theorem hostShutoff_fix (d : Fin 8) (s : State) :
    (hostShutoff d s).glb.straps = s.glb.straps ∧ (hostShutoff d s).upd.keys = s.upd.keys := by
  unfold hostShutoff; repeat (first | (solve | simp [*]) | split | simp [*])

@[simp] theorem seqUnlatch_fix (d : Fin 8) (s : State) :
    (seqUnlatch d s).glb.straps = s.glb.straps ∧ (seqUnlatch d s).upd.keys = s.upd.keys := by
  unfold seqUnlatch; repeat (first | (solve | simp [*]) | split | simp [*])

@[simp] theorem seqRetryClr_fix (d : Fin 8) (s : State) :
    (seqRetryClr d s).glb.straps = s.glb.straps ∧ (seqRetryClr d s).upd.keys = s.upd.keys := by
  unfold seqRetryClr; repeat (first | (solve | simp [*]) | split | simp [*])

@[simp] theorem seqStrobe_fix (d : Fin 8) (f : State → State) (s : State) (hf : ∀ (t : State), (f t).glb.straps = t.glb.straps ∧ (f t).upd.keys = t.upd.keys) :
    (seqStrobe d f s).glb.straps = s.glb.straps ∧ (seqStrobe d f s).upd.keys = s.upd.keys := by
  unfold seqStrobe; repeat (first | (solve | simp [*]) | split | simp [*])

@[simp] theorem linksReact_fix (src : Nat) (s : State) :
    (linksReact src s).glb.straps = s.glb.straps ∧ (linksReact src s).upd.keys = s.upd.keys := by
  unfold linksReact; repeat (first | (solve | simp [*]) | split | simp [*])

@[simp] theorem domainReact_fix (src : Nat) (sub : Nat) (s : State) :
    (domainReact src sub s).glb.straps = s.glb.straps ∧ (domainReact src sub s).upd.keys = s.upd.keys := by
  unfold domainReact; repeat (first | (solve | simp [*]) | split | simp [*])

@[simp] theorem retryReact_fix (src : Nat) (sub : Nat) (s : State) :
    (retryReact src sub s).glb.straps = s.glb.straps ∧ (retryReact src sub s).upd.keys = s.upd.keys := by
  unfold retryReact; repeat (first | (solve | simp [*]) | split | simp [*])

@[simp] theorem ovInStop_fix (r : Fin 24) (s : State) :
    (ovInStop r s).glb.straps = s.glb.straps ∧ (ovInStop r s).upd.keys = s.upd.keys := by
  unfold ovInStop; repeat (first | (solve | simp [*]) | split | simp [*])

@[simp] theorem ovAct_fix (r : Fin 24) (s : State) :
    (ovAct r s).glb.straps = s.glb.straps ∧ (ovAct r s).upd.keys = s.upd.keys := by
  unfold ovAct; repeat (first | (solve | simp [*]) | split | simp [*])

@[simp] theorem pllShutoff_fix (s : State) :
    (pllShutoff s).glb.straps = s.glb.straps ∧ (pllShutoff s).upd.keys = s.upd.keys := by
  unfold pllShutoff; repeat (first | (solve | simp [*]) | split | simp [*])

@[simp] theorem wakeBegin_fix (bit : Nat) (s : State) :
    (wakeBegin bit s).glb.straps = s.glb.straps ∧ (wakeBegin bit s).upd.keys = s.upd.keys := by
  unfold wakeBegin; repeat (first | (solve | simp [*]) | split | simp [*])

@[simp] theorem monLoadNow_fix (m : Fin 96) (s : State) :
    (monLoadNow m s).glb.straps = s.glb.straps ∧ (monLoadNow m s).upd.keys = s.upd.keys := by
  unfold monLoadNow; repeat (first | (solve | simp [*]) | split | simp [*])

@[simp] theorem ctArm_fix (t : Fin 16) (s : State) :
    (ctArm t s).glb.straps = s.glb.straps ∧ (ctArm t s).upd.keys = s.upd.keys := by
  unfold ctArm; repeat (first | (solve | simp [*]) | split | simp [*])

@[simp] theorem ctLost_fix (t : Fin 16) (s : State) :
    (ctLost t s).glb.straps = s.glb.straps ∧ (ctLost t s).upd.keys = s.upd.keys := by
  unfold ctLost; repeat (first | (solve | simp [*]) | split | simp [*])

@[simp] theorem ctSaturate_fix (t : Fin 16) (s : State) :
    (ctSaturate t s).glb.straps = s.glb.straps ∧ (ctSaturate t s).upd.keys = s.upd.keys := by
  unfold ctSaturate; repeat (first | (solve | simp [*]) | split | simp [*])

@[simp] theorem ctCapture_fix (t : Fin 16) (mon : Nat) (comp : Nat) (s0 : State) :
    (ctCapture t mon comp s0).glb.straps = s0.glb.straps ∧ (ctCapture t mon comp s0).upd.keys = s0.upd.keys := by
  unfold ctCapture; repeat (first | (solve | simp [*]) | split | simp [*])

@[simp] theorem ctEdge_fix (t : Fin 16) (mon : Nat) (comp : Nat) (first : Bool) (second : Bool) (s : State) :
    (ctEdge t mon comp first second s).glb.straps = s.glb.straps ∧ (ctEdge t mon comp first second s).upd.keys = s.upd.keys := by
  unfold ctEdge; repeat (first | (solve | simp [*]) | split | simp [*])

@[simp] theorem ctFeed_fix (m : Fin 96) (comp : Nat) (s : State) :
    (ctFeed m comp s).glb.straps = s.glb.straps ∧ (ctFeed m comp s).upd.keys = s.upd.keys := by
  unfold ctFeed; repeat (first | (solve | simp [*]) | split | simp [*])

@[simp] theorem inputTrip_fix (m : Fin 96) (comp : Nat) (s : State) :
    (inputTrip m comp s).glb.straps = s.glb.straps ∧ (inputTrip m comp s).upd.keys = s.upd.keys := by
  unfold inputTrip; repeat (first | (solve | simp [*]) | split | simp [*])

@[simp] theorem tripEdge_fix (m : Fin 96) (comp : Nat) (s : State) :
    (tripEdge m comp s).glb.straps = s.glb.straps ∧ (tripEdge m comp s).upd.keys = s.upd.keys := by
  unfold tripEdge; repeat (first | (solve | simp [*]) | split | simp [*])

@[simp] theorem wickDecide_fix (m : Fin 96) (v : Nat) (s0 : State) :
    (wickDecide m v s0).glb.straps = s0.glb.straps ∧ (wickDecide m v s0).upd.keys = s0.upd.keys := by
  unfold wickDecide; repeat (first | (solve | simp [*]) | split | simp [*])

@[simp] theorem contDecide_fix (m : Fin 96) (v : Nat) (s0 : State) :
    (contDecide m v s0).glb.straps = s0.glb.straps ∧ (contDecide m v s0).upd.keys = s0.upd.keys := by
  unfold contDecide; repeat (first | (solve | simp [*]) | split | simp [*])

@[simp] theorem monDecide_fix (m : Fin 96) (v : Nat) (s : State) :
    (monDecide m v s).glb.straps = s.glb.straps ∧ (monDecide m v s).upd.keys = s.upd.keys := by
  unfold monDecide; repeat (first | (solve | simp [*]) | split | simp [*])

@[simp] theorem wickSample_fix (m : Fin 96) (v : Nat) (s : State) :
    (wickSample m v s).glb.straps = s.glb.straps ∧ (wickSample m v s).upd.keys = s.upd.keys := by
  unfold wickSample; repeat (first | (solve | simp [*]) | split | simp [*])

@[simp] theorem contChange_fix (m : Fin 96) (v : Nat) (s : State) :
    (contChange m v s).glb.straps = s.glb.straps ∧ (contChange m v s).upd.keys = s.upd.keys := by
  unfold contChange; repeat (first | (solve | simp [*]) | split | simp [*])

@[simp] theorem contExpiry_fix (m : Fin 96) (high : Bool) (s0 : State) :
    (contExpiry m high s0).glb.straps = s0.glb.straps ∧ (contExpiry m high s0).upd.keys = s0.upd.keys := by
  unfold contExpiry; repeat (first | (solve | simp [*]) | split | simp [*])

@[simp] theorem testStart_fix (m : Fin 96) (tie : Bool) (tap : Nat) (sweep : Bool) (s : State) :
    (testStart m tie tap sweep s).glb.straps = s.glb.straps ∧ (testStart m tie tap sweep s).upd.keys = s.upd.keys := by
  unfold testStart; repeat (first | (solve | simp [*]) | split | simp [*])

@[simp] theorem hostSelftest_fix (m : Fin 96) (s : State) :
    (hostSelftest m s).glb.straps = s.glb.straps ∧ (hostSelftest m s).upd.keys = s.upd.keys := by
  unfold hostSelftest; repeat (first | (solve | simp [*]) | split | simp [*])

@[simp] theorem testOutcome_fix (m : Fin 96) (t : SelfTest) (s0 : State) :
    (testOutcome m t s0).glb.straps = s0.glb.straps ∧ (testOutcome m t s0).upd.keys = s0.upd.keys := by
  unfold testOutcome; repeat (first | (solve | simp [*]) | split | simp [*])

@[simp] theorem testSample_fix (m : Fin 96) (low : Bool) (high : Bool) (v : Nat) (s : State) :
    (testSample m low high v s).glb.straps = s.glb.straps ∧ (testSample m low high v s).upd.keys = s.upd.keys := by
  unfold testSample; repeat (first | (solve | simp [*]) | split | simp [*])

@[simp] theorem sweepVisit_fix (s : State) :
    (sweepVisit s).glb.straps = s.glb.straps ∧ (sweepVisit s).upd.keys = s.upd.keys := by
  unfold sweepVisit; repeat (first | (solve | simp [*]) | split | simp [*])

@[simp] theorem sweepRenew_fix (s : State) :
    (sweepRenew s).glb.straps = s.glb.straps ∧ (sweepRenew s).upd.keys = s.upd.keys := by
  unfold sweepRenew; repeat (first | (solve | simp [*]) | split | simp [*])

@[simp] theorem sweepSet_fix (interval : Nat) (tap : Nat) (s : State) :
    (sweepSet interval tap s).glb.straps = s.glb.straps ∧ (sweepSet interval tap s).upd.keys = s.upd.keys := by
  unfold sweepSet; repeat (first | (solve | simp [*]) | split | simp [*])

@[simp] theorem hostArm_fix (t : Fin 16) (s : State) :
    (hostArm t s).glb.straps = s.glb.straps ∧ (hostArm t s).upd.keys = s.upd.keys := by
  unfold hostArm; repeat (first | (solve | simp [*]) | split | simp [*])

@[simp] theorem trimPrescale_fix (t : Fin 16) (k : Nat) (s : State) :
    (trimPrescale t k s).glb.straps = s.glb.straps ∧ (trimPrescale t k s).upd.keys = s.upd.keys := by
  unfold trimPrescale; repeat (first | (solve | simp [*]) | split | simp [*])

@[simp] theorem trimMon_fix (m : Fin 96) (f : MonCfg → MonCfg) (s : State) :
    (trimMon m f s).glb.straps = s.glb.straps ∧ (trimMon m f s).upd.keys = s.upd.keys := by
  unfold trimMon; repeat (first | (solve | simp [*]) | split | simp [*])

@[simp] theorem trimTick_fix (m : Fin 96) (k : Nat) (s : State) :
    (trimTick m k s).glb.straps = s.glb.straps ∧ (trimTick m k s).upd.keys = s.upd.keys := by
  unfold trimTick; repeat (first | (solve | simp [*]) | split | simp [*])

@[simp] theorem trimLow_fix (m : Fin 96) (v : Nat) (s : State) :
    (trimLow m v s).glb.straps = s.glb.straps ∧ (trimLow m v s).upd.keys = s.upd.keys := by
  unfold trimLow; repeat (first | (solve | simp [*]) | split | simp [*])

@[simp] theorem trimHigh_fix (m : Fin 96) (v : Nat) (s : State) :
    (trimHigh m v s).glb.straps = s.glb.straps ∧ (trimHigh m v s).upd.keys = s.upd.keys := by
  unfold trimHigh; repeat (first | (solve | simp [*]) | split | simp [*])

@[simp] theorem hkPut_fix (ch : Nat) (f : HkVal → HkVal) (s : State) :
    (hkPut ch f s).glb.straps = s.glb.straps ∧ (hkPut ch f s).upd.keys = s.upd.keys := by
  unfold hkPut; repeat (first | (solve | simp [*]) | split | simp [*])

@[simp] theorem hkDrop_fix (ch : Nat) (s : State) :
    (hkDrop ch s).glb.straps = s.glb.straps ∧ (hkDrop ch s).upd.keys = s.upd.keys := by
  unfold hkDrop; repeat (first | (solve | simp [*]) | split | simp [*])

@[simp] theorem sensorBad_fix (ch : Nat) (s : State) :
    (sensorBad ch s).glb.straps = s.glb.straps ∧ (sensorBad ch s).upd.keys = s.upd.keys := by
  unfold sensorBad; repeat (first | (solve | simp [*]) | split | simp [*])

@[simp] theorem sensorGood_fix (ch : Nat) (val : Nat) (s : State) :
    (sensorGood ch val s).glb.straps = s.glb.straps ∧ (sensorGood ch val s).upd.keys = s.upd.keys := by
  unfold sensorGood; repeat (first | (solve | simp [*]) | split | simp [*])

@[simp] theorem judgeHs_fix (s : State) :
    (judgeHs s).glb.straps = s.glb.straps ∧ (judgeHs s).upd.keys = s.upd.keys := by
  unfold judgeHs; repeat (first | (solve | simp [*]) | split | simp [*])

@[simp] theorem applyF_fix (s : State) :
    (applyF s).glb.straps = s.glb.straps ∧ (applyF s).upd.keys = s.upd.keys := by
  unfold applyF; repeat (first | (solve | simp [*]) | split | simp [*])

@[simp] theorem applyDim_fix (s : State) :
    (applyDim s).glb.straps = s.glb.straps ∧ (applyDim s).upd.keys = s.upd.keys := by
  unfold applyDim; repeat (first | (solve | simp [*]) | split | simp [*])

@[simp] theorem dimStep_fix (tmax : Int) (setNow : Bool) (s : State) :
    (dimStep tmax setNow s).glb.straps = s.glb.straps ∧ (dimStep tmax setNow s).upd.keys = s.upd.keys := by
  unfold dimStep; repeat (first | (solve | simp [*]) | split | simp [*])

@[simp] theorem thermalVerdict_fix (s : State) :
    (thermalVerdict s).glb.straps = s.glb.straps ∧ (thermalVerdict s).upd.keys = s.upd.keys := by
  unfold thermalVerdict; repeat (first | (solve | simp [*]) | split | simp [*])

@[simp] theorem judgeTaps_fix (s : State) :
    (judgeTaps s).glb.straps = s.glb.straps ∧ (judgeTaps s).upd.keys = s.upd.keys := by
  unfold judgeTaps; repeat (first | (solve | simp [*]) | split | simp [*])

@[simp] theorem judgeXchk_fix (s : State) :
    (judgeXchk s).glb.straps = s.glb.straps ∧ (judgeXchk s).upd.keys = s.upd.keys := by
  unfold judgeXchk; repeat (first | (solve | simp [*]) | split | simp [*])

@[simp] theorem sendReport_fix (s : State) :
    (sendReport s).glb.straps = s.glb.straps ∧ (sendReport s).upd.keys = s.upd.keys := by
  unfold sendReport; repeat (first | (solve | simp [*]) | split | simp [*])

@[simp] theorem roundEnd_fix (s0 : State) :
    (roundEnd s0).glb.straps = s0.glb.straps ∧ (roundEnd s0).upd.keys = s0.upd.keys := by
  unfold roundEnd; repeat (first | (solve | simp [*]) | split | simp [*])

@[simp] theorem hkNext_fix (ch : Nat) (s : State) :
    (hkNext ch s).glb.straps = s.glb.straps ∧ (hkNext ch s).upd.keys = s.upd.keys := by
  unfold hkNext; repeat (first | (solve | simp [*]) | split | simp [*])

@[simp] theorem loadEnforce_fix (n : Nat) (s : State) :
    (loadEnforce n s).glb.straps = s.glb.straps ∧ (loadEnforce n s).upd.keys = s.upd.keys := by
  unfold loadEnforce; repeat (first | (solve | simp [*]) | split | simp [*])

@[simp] theorem loadThermal_fix (s : State) :
    (loadThermal s).glb.straps = s.glb.straps ∧ (loadThermal s).upd.keys = s.upd.keys := by
  unfold loadThermal; repeat (first | (solve | simp [*]) | split | simp [*])

@[simp] theorem hkStart_fix (s0 : State) :
    (hkStart s0).glb.straps = s0.glb.straps ∧ (hkStart s0).upd.keys = s0.upd.keys := by
  unfold hkStart; repeat (first | (solve | simp [*]) | split | simp [*])

@[simp] theorem hkDone_fix (ch : Nat) (val : Nat) (sat : Bool) (vbe : Nat × Nat × Nat) (s0 : State) :
    (hkDone ch val sat vbe s0).glb.straps = s0.glb.straps ∧ (hkDone ch val sat vbe s0).upd.keys = s0.upd.keys := by
  unfold hkDone; repeat (first | (solve | simp [*]) | split | simp [*])

@[simp] theorem hkTimeout_fix (ch : Nat) (s : State) :
    (hkTimeout ch s).glb.straps = s.glb.straps ∧ (hkTimeout ch s).upd.keys = s.upd.keys := by
  unfold hkTimeout; repeat (first | (solve | simp [*]) | split | simp [*])

@[simp] theorem hkLate_fix (s : State) :
    (hkLate s).glb.straps = s.glb.straps ∧ (hkLate s).upd.keys = s.upd.keys := by
  unfold hkLate; repeat (first | (solve | simp [*]) | split | simp [*])

@[simp] theorem trimLevel_fix (lvl : ThLevel) (v : Nat) (s : State) :
    (trimLevel lvl v s).glb.straps = s.glb.straps ∧ (trimLevel lvl v s).upd.keys = s.upd.keys := by
  unfold trimLevel; repeat (first | (solve | simp [*]) | split | simp [*])

@[simp] theorem thermalClear_fix (s : State) :
    (thermalClear s).glb.straps = s.glb.straps ∧ (thermalClear s).upd.keys = s.upd.keys := by
  unfold thermalClear; repeat (first | (solve | simp [*]) | split | simp [*])

@[simp] theorem memPut_fix (dev : Nat) (a1 : Nat) (a2 : List Byte) (a3 : State) :
    (memPut dev a1 a2 a3).glb.straps = a3.glb.straps ∧ (memPut dev a1 a2 a3).upd.keys = a3.upd.keys := by
  induction a2 generalizing a1 a3 with
  | nil => simp [memPut]
  | cons b bs ih =>
    unfold memPut
    rw [(ih _ _).1, (ih _ _).2]
    split
    · simp
    · split <;> simp

@[simp] theorem memErase_fix (dev : Nat) (a : Nat) (n : Nat) (s : State) :
    (memErase dev a n s).glb.straps = s.glb.straps ∧ (memErase dev a n s).upd.keys = s.upd.keys := by
  unfold memErase; repeat (first | (solve | simp [*]) | split | simp [*])

@[simp] theorem memProgram_fix (dev : Nat) (nor : Bool) (a : Nat) (bs : List Byte) (s : State) :
    (memProgram dev nor a bs s).glb.straps = s.glb.straps ∧ (memProgram dev nor a bs s).upd.keys = s.upd.keys := by
  unfold memProgram; repeat (first | (solve | simp [*]) | split | simp [*])

@[simp] theorem memFetch_fix (dev : Nat) (a : Nat) (s : State) :
    (memFetch dev a s).glb.straps = s.glb.straps ∧ (memFetch dev a s).upd.keys = s.upd.keys := by
  unfold memFetch; repeat (first | (solve | simp [*]) | split | simp [*])

@[simp] theorem regionFetch_fix (i : Nat) (o : Nat) (s : State) :
    (regionFetch i o s).glb.straps = s.glb.straps ∧ (regionFetch i o s).upd.keys = s.upd.keys := by
  unfold regionFetch; repeat (first | (solve | simp [*]) | split | simp [*])

@[simp] theorem memCommand_fix (o : MemOp) (s : State) :
    (memCommand o s).glb.straps = s.glb.straps ∧ (memCommand o s).upd.keys = s.upd.keys := by
  unfold memCommand; repeat (first | (solve | simp [*]) | split | simp [*])

@[simp] theorem memPerform_fix (o : MemOp) (s : State) :
    (memPerform o s).glb.straps = s.glb.straps ∧ (memPerform o s).upd.keys = s.upd.keys := by
  unfold memPerform; repeat (first | (solve | simp [*]) | split | simp [*])

@[simp] theorem spEnd_fix (status : Nat) (s : State) :
    (spEnd status s).glb.straps = s.glb.straps ∧ (spEnd status s).upd.keys = s.upd.keys := by
  unfold spEnd; repeat (first | (solve | simp [*]) | split | simp [*])

@[simp] theorem memEnd_fix (u : MemUse) (s : State) :
    (memEnd u s).glb.straps = s.glb.straps ∧ (memEnd u s).upd.keys = s.upd.keys := by
  unfold memEnd; repeat (first | (solve | simp [*]) | split | simp [*])

@[simp] theorem memGo_fix (a0 : List MemOp) (a1 : State) :
    (memGo a0 a1).glb.straps = a1.glb.straps ∧ (memGo a0 a1).upd.keys = a1.upd.keys := by
  induction a0 generalizing a1 with
  | nil => simp [memGo]
  | cons o l ih =>
    unfold memGo
    dsimp only
    split
    · rw [(ih _).1, (ih _).2]; split <;> simp
    · split
      · simp
      · rw [(ih _).1, (ih _).2]; split <;> simp

@[simp] theorem memNext_fix (s : State) :
    (memNext s).glb.straps = s.glb.straps ∧ (memNext s).upd.keys = s.upd.keys := by
  unfold memNext; repeat (first | (solve | simp [*]) | split | simp [*])

@[simp] theorem memBegin_fix (l : List MemOp) (s : State) :
    (memBegin l s).glb.straps = s.glb.straps ∧ (memBegin l s).upd.keys = s.upd.keys := by
  unfold memBegin; repeat (first | (solve | simp [*]) | split | simp [*])

@[simp] theorem takePage_fix (j : Fin 64) (t : Nat) (since : Nat) (carry : Nat × Nat) (s : State) :
    (takePage j t since carry s).glb.straps = s.glb.straps ∧ (takePage j t since carry s).upd.keys = s.upd.keys := by
  unfold takePage; repeat (first | (solve | simp [*]) | split | simp [*])

@[simp] theorem updPage_fix (n : Nat) (f : Page → Page) (s : State) :
    (updPage n f s).glb.straps = s.glb.straps ∧ (updPage n f s).upd.keys = s.upd.keys := by
  unfold updPage; repeat (first | (solve | simp [*]) | split | simp [*])

@[simp] theorem releaseSlot_fix (i : Fin 16) (s : State) :
    (releaseSlot i s).glb.straps = s.glb.straps ∧ (releaseSlot i s).upd.keys = s.upd.keys := by
  unfold releaseSlot; repeat (first | (solve | simp [*]) | split | simp [*])

@[simp] theorem makeRoom_fix (s : State) :
    (makeRoom s).glb.straps = s.glb.straps ∧ (makeRoom s).upd.keys = s.upd.keys := by
  unfold makeRoom; repeat (first | (solve | simp [*]) | split | simp [*])

@[simp] theorem closeSlot_fix (i : Fin 16) (t : Nat) (creset : Bool) (s : State) :
    (closeSlot i t creset s).glb.straps = s.glb.straps ∧ (closeSlot i t creset s).upd.keys = s.upd.keys := by
  unfold closeSlot; repeat (first | (solve | simp [*]) | split | simp [*])

@[simp] theorem closeOpen_fix (creset : Bool) (s : State) :
    (closeOpen creset s).glb.straps = s.glb.straps ∧ (closeOpen creset s).upd.keys = s.upd.keys := by
  unfold closeOpen; repeat (first | (solve | simp [*]) | split | simp [*])

@[simp] theorem shrinkTo_fix (a0 : Nat) (a1 : State) :
    (shrinkTo a0 a1).glb.straps = a1.glb.straps ∧ (shrinkTo a0 a1).upd.keys = a1.upd.keys := by
  induction a0 generalizing a1 with
  | zero => simp [shrinkTo]
  | succ n ih => unfold shrinkTo; split <;> simp [ih]

@[simp] theorem limitPages_fix (s : State) :
    (limitPages s).glb.straps = s.glb.straps ∧ (limitPages s).upd.keys = s.upd.keys := by
  unfold limitPages; repeat (first | (solve | simp [*]) | split | simp [*])

@[simp] theorem openRecord_fix (kind : Nat) (src : Nat) (sub : Nat) (count : Nat) (s : State) :
    (openRecord kind src sub count s).glb.straps = s.glb.straps ∧ (openRecord kind src sub count s).upd.keys = s.upd.keys := by
  unfold openRecord; repeat (first | (solve | simp [*]) | split | simp [*])

@[simp] theorem ledgerFiring_fix (src : Nat) (sub : Nat) (quiet : Bool) (s : State) :
    (ledgerFiring src sub quiet s).glb.straps = s.glb.straps ∧ (ledgerFiring src sub quiet s).upd.keys = s.upd.keys := by
  unfold ledgerFiring; repeat (first | (solve | simp [*]) | split | simp [*])

@[simp] theorem holdLate_fix (j : Fin 64) (n : Nat) (t0 : Nat) (d : Nat) (s : State) :
    (holdLate j n t0 d s).glb.straps = s.glb.straps ∧ (holdLate j n t0 d s).upd.keys = s.upd.keys := by
  unfold holdLate; repeat (first | (solve | simp [*]) | split | simp [*])

@[simp] theorem pageFor_fix (j : Fin 64) (t0 : Nat) (s : State) :
    (pageFor j t0 s).glb.straps = s.glb.straps ∧ (pageFor j t0 s).upd.keys = s.upd.keys := by
  unfold pageFor; repeat (first | (solve | simp [*]) | split | simp [*])

@[simp] theorem holdTail_fix (j : Fin 64) (t0 : Nat) (d : Nat) (page : Option Nat) (s : State) :
    (holdTail j t0 d page s).glb.straps = s.glb.straps ∧ (holdTail j t0 d page s).upd.keys = s.upd.keys := by
  unfold holdTail; repeat (first | (solve | simp [*]) | split | simp [*])

@[simp] theorem putBlock_fix (j : Fin 64) (t0 : Nat) (d : Nat) (blk : Nat × Nat) (x1 : Nat) (x2 : Nat) (s0 : State) :
    (putBlock j t0 d blk x1 x2 s0).glb.straps = s0.glb.straps ∧ (putBlock j t0 d blk x1 x2 s0).upd.keys = s0.upd.keys := by
  unfold putBlock
  dsimp only
  split
  · exact pageFor_fix ..
  · split
    · exact pageFor_fix ..
    · split <;> simp only [limitPages_fix, holdLate_fix, holdTail_fix, takePage_fix, State.updLg_fix, updPage_fix, pageFor_fix, and_self]

@[simp] theorem codeOne_fix (j : Fin 64) (ch : LedgerChan) (t0 : Nat) (samples : List Nat) (s : State) :
    (codeOne j ch t0 samples s).glb.straps = s.glb.straps ∧ (codeOne j ch t0 samples s).upd.keys = s.upd.keys := by
  unfold codeOne; repeat (first | (solve | simp [*]) | split | simp [*])

@[simp] theorem codeLine_fix (j : Fin 64) (ch : LedgerChan) (keep : Nat) (a3 : Nat) (a4 : State) :
    (codeLine j ch keep a3 a4).glb.straps = a4.glb.straps ∧ (codeLine j ch keep a3 a4).upd.keys = a4.upd.keys := by
  induction a3 generalizing a4 with
  | zero => simp [codeLine]
  | succ n ih =>
    unfold codeLine
    split
    · exact ⟨rfl, rfl⟩
    · split
      · exact ⟨rfl, rfl⟩
      · rw [(ih _).1, (ih _).2]; simp

@[simp] theorem ledgerBlock_fix (j : Fin 64) (samples : List Nat) (t0 : Nat) (s : State) :
    (ledgerBlock j samples t0 s).glb.straps = s.glb.straps ∧ (ledgerBlock j samples t0 s).upd.keys = s.upd.keys := by
  unfold ledgerBlock; repeat (first | (solve | simp [*]) | split | simp [*])

@[simp] theorem emptyLines_fix (s : State) :
    (emptyLines s).glb.straps = s.glb.straps ∧ (emptyLines s).upd.keys = s.upd.keys := by
  unfold emptyLines; exact State.each_fix _ _ _ (fun j u => by split <;> simp)

@[simp] theorem gapPages_fix (s : State) :
    (gapPages s).glb.straps = s.glb.straps ∧ (gapPages s).upd.keys = s.upd.keys := by
  unfold gapPages; repeat (first | (solve | simp [*]) | split | simp [*])

@[simp] theorem ledgerGap_fix (s : State) :
    (ledgerGap s).glb.straps = s.glb.straps ∧ (ledgerGap s).upd.keys = s.upd.keys := by
  unfold ledgerGap; repeat (first | (solve | simp [*]) | split | simp [*])

@[simp] theorem ledgerApply_fix (struct : Bool) (s : State) :
    (ledgerApply struct s).glb.straps = s.glb.straps ∧ (ledgerApply struct s).upd.keys = s.upd.keys := by
  unfold ledgerApply; repeat (first | (solve | simp [*]) | split | simp [*])

@[simp] theorem lgsStart_fix (cr : Option Nat) (o : Option Record) (s : State) :
    (lgsStart cr o s).glb.straps = s.glb.straps ∧ (lgsStart cr o s).upd.keys = s.upd.keys := by
  unfold lgsStart; repeat (first | (solve | simp [*]) | split | simp [*])

@[simp] theorem lgsDone_fix (complete : Bool) (s : State) :
    (lgsDone complete s).glb.straps = s.glb.straps ∧ (lgsDone complete s).upd.keys = s.upd.keys := by
  unfold lgsDone; repeat (first | (solve | simp [*]) | split | simp [*])

@[simp] theorem archPast_fix (r : Record) (size : Nat) (s : State) :
    (archPast r size s).glb.straps = s.glb.straps ∧ (archPast r size s).upd.keys = s.upd.keys := by
  unfold archPast; repeat (first | (solve | simp [*]) | split | simp [*])

@[simp] theorem archWrite_fix (r : Record) (events : List LogEntry) (pages : List Page) (held : List Nat) (s : State) :
    (archWrite r events pages held s).glb.straps = s.glb.straps ∧ (archWrite r events pages held s).upd.keys = s.upd.keys := by
  unfold archWrite; repeat (first | (solve | simp [*]) | split | simp [*])

@[simp] theorem lgsExamine_fix (s : State) :
    (lgsExamine s).glb.straps = s.glb.straps ∧ (lgsExamine s).upd.keys = s.upd.keys := by
  unfold lgsExamine
  refine State.each_fix _ _ _ (fun i t => ?_)
  split
  · split <;> simp
  · simp

@[simp] theorem lgsCopy_fix (s : State) :
    (lgsCopy s).glb.straps = s.glb.straps ∧ (lgsCopy s).upd.keys = s.upd.keys := by
  unfold lgsCopy; repeat (first | (solve | simp [*]) | split | simp [*])

@[simp] theorem archRead_fix (s : State) :
    (archRead s).glb.straps = s.glb.straps ∧ (archRead s).upd.keys = s.upd.keys := by
  unfold archRead; repeat (first | (solve | simp [*]) | split | simp [*])

@[simp] theorem archFind_fix (s0 : State) :
    (archFind s0).glb.straps = s0.glb.straps ∧ (archFind s0).upd.keys = s0.upd.keys := by
  unfold archFind; repeat (first | (solve | simp [*]) | split | simp [*])

@[simp] theorem flushWrite_fix (i : Fin 16) (s : State) :
    (flushWrite i s).glb.straps = s.glb.straps ∧ (flushWrite i s).upd.keys = s.upd.keys := by
  unfold flushWrite; repeat (first | (solve | simp [*]) | split | simp [*])

@[simp] theorem flushStart_fix (s0 : State) :
    (flushStart s0).glb.straps = s0.glb.straps ∧ (flushStart s0).upd.keys = s0.upd.keys := by
  unfold flushStart; repeat (first | (solve | simp [*]) | split | simp [*])

@[simp] theorem flushDone_fix (s : State) :
    (flushDone s).glb.straps = s.glb.straps ∧ (flushDone s).upd.keys = s.upd.keys := by
  unfold flushDone; repeat (first | (solve | simp [*]) | split | simp [*])

@[simp] theorem flushPause_fix (s : State) :
    (flushPause s).glb.straps = s.glb.straps ∧ (flushPause s).upd.keys = s.upd.keys := by
  unfold flushPause; repeat (first | (solve | simp [*]) | split | simp [*])

@[simp] theorem flushAbandon_fix (s : State) :
    (flushAbandon s).glb.straps = s.glb.straps ∧ (flushAbandon s).upd.keys = s.upd.keys := by
  unfold flushAbandon; repeat (first | (solve | simp [*]) | split | simp [*])

@[simp] theorem flushDamaged_fix (s : State) :
    (flushDamaged s).glb.straps = s.glb.straps ∧ (flushDamaged s).upd.keys = s.upd.keys := by
  unfold flushDamaged
  split
  · simp
  · split
    · simp
    · dsimp only
      split
      · simp
      · exact State.updCh_fix _ _

@[simp] theorem eccErr_fix (site : EccSite) (double : Bool) (s : State) :
    (eccErr site double s).glb.straps = s.glb.straps ∧ (eccErr site double s).upd.keys = s.upd.keys := by
  unfold eccErr; repeat (first | (solve | simp [*]) | split | simp [*])

@[simp] theorem lgTrigger_fix (s : State) :
    (lgTrigger s).glb.straps = s.glb.straps ∧ (lgTrigger s).upd.keys = s.upd.keys := by
  unfold lgTrigger; repeat (first | (solve | simp [*]) | split | simp [*])

@[simp] theorem lgRelease_fix (s : State) :
    (lgRelease s).glb.straps = s.glb.straps ∧ (lgRelease s).upd.keys = s.upd.keys := by
  unfold lgRelease; repeat (first | (solve | simp [*]) | split | simp [*])

@[simp] theorem drawList_fix (a0 : Nat) (a1 : State) :
    (drawList a0 a1).2.glb.straps = a1.glb.straps ∧ (drawList a0 a1).2.upd.keys = a1.upd.keys := by
  induction a0 generalizing a1 with
  | zero => simp [drawList]
  | succ n ih => unfold drawList; dsimp only; rw [(ih _).1, (ih _).2]; simp

@[simp] theorem writeSet_fix (s : State) :
    (writeSet s).glb.straps = s.glb.straps ∧ (writeSet s).upd.keys = s.upd.keys := by
  unfold writeSet; repeat (first | (solve | simp [*]) | split | simp [*])

@[simp] theorem setAgain_fix (s : State) :
    (setAgain s).glb.straps = s.glb.straps ∧ (setAgain s).upd.keys = s.upd.keys := by
  unfold setAgain; repeat (first | (solve | simp [*]) | split | simp [*])

@[simp] theorem saveSet_fix (f : SetData → SetData) (s : State) :
    (saveSet f s).glb.straps = s.glb.straps ∧ (saveSet f s).upd.keys = s.upd.keys := by
  unfold saveSet; repeat (first | (solve | simp [*]) | split | simp [*])

@[simp] theorem deliverTraps_fix (s : State) :
    (deliverTraps s).glb.straps = s.glb.straps ∧ (deliverTraps s).upd.keys = s.upd.keys := by
  unfold deliverTraps; repeat (first | (solve | simp [*]) | split | simp [*])

@[simp] theorem trap_fix (src : Nat) (sub : Nat) (entry : Nat) (cause : Nat) (time : Nat) (s : State) :
    (trap src sub entry cause time s).glb.straps = s.glb.straps ∧ (trap src sub entry cause time s).upd.keys = s.upd.keys := by
  unfold trap; repeat (first | (solve | simp [*]) | split | simp [*])

@[simp] theorem coreRestart_fix (c : CoreId) (s : State) :
    (coreRestart c s).glb.straps = s.glb.straps ∧ (coreRestart c s).upd.keys = s.upd.keys := by
  unfold coreRestart; repeat (first | (solve | simp [*]) | split | simp [*])

@[simp] theorem memSpoil_fix (o : MemOp) (s : State) :
    (memSpoil o s).glb.straps = s.glb.straps ∧ (memSpoil o s).upd.keys = s.upd.keys := by
  unfold memSpoil; repeat (first | (solve | simp [*]) | split | simp [*])

@[simp] theorem memAbandon_fix (s : State) :
    (memAbandon s).glb.straps = s.glb.straps ∧ (memAbandon s).upd.keys = s.upd.keys := by
  unfold memAbandon; repeat (first | (solve | simp [*]) | split | simp [*])

@[simp] theorem memTimeout_fix (s : State) :
    (memTimeout s).glb.straps = s.glb.straps ∧ (memTimeout s).upd.keys = s.upd.keys := by
  unfold memTimeout; repeat (first | (solve | simp [*]) | split | simp [*])

@[simp] theorem memPoll_fix (busy : Bool) (s : State) :
    (memPoll busy s).glb.straps = s.glb.straps ∧ (memPoll busy s).upd.keys = s.upd.keys := by
  unfold memPoll; repeat (first | (solve | simp [*]) | split | simp [*])

@[simp] theorem stageAbandon_fix (s : State) :
    (stageAbandon s).glb.straps = s.glb.straps ∧ (stageAbandon s).upd.keys = s.upd.keys := by
  unfold stageAbandon; repeat (first | (solve | simp [*]) | split | simp [*])

@[simp] theorem closeSession_fix (s : State) :
    (closeSession s).glb.straps = s.glb.straps ∧ (closeSession s).upd.keys = s.upd.keys := by
  unfold closeSession; repeat (first | (solve | simp [*]) | split | simp [*])

@[simp] theorem takePseq_fix (s : State) :
    (takePseq s).2.glb.straps = s.glb.straps ∧ (takePseq s).2.upd.keys = s.upd.keys := by
  unfold takePseq; repeat (first | (solve | simp [*]) | split | simp [*])

@[simp] theorem stream_fix (attn : Bool) (n : Nat) (bs : List Byte) (s : State) :
    (stream attn n bs s).glb.straps = s.glb.straps ∧ (stream attn n bs s).upd.keys = s.upd.keys := by
  unfold stream; repeat (first | (solve | simp [*]) | split | simp [*])

@[simp] theorem ovUp_fix (t : Nat) (a0 : Nat) (a1 : Nat) (s : State) :
    (ovUp t a0 a1 s).glb.straps = s.glb.straps ∧ (ovUp t a0 a1 s).upd.keys = s.upd.keys := by
  unfold ovUp; repeat (first | (solve | simp [*]) | split | simp [*])

@[simp] theorem ovEvrec_fix (src : Nat) (sub : Nat) (entry : Nat) (cause : Nat) (time : Nat) (s : State) :
    (ovEvrec src sub entry cause time s).glb.straps = s.glb.straps ∧ (ovEvrec src sub entry cause time s).upd.keys = s.upd.keys := by
  unfold ovEvrec; repeat (first | (solve | simp [*]) | split | simp [*])

@[simp] theorem attnLose_fix (n : Nat) (s : State) :
    (attnLose n s).glb.straps = s.glb.straps ∧ (attnLose n s).upd.keys = s.upd.keys := by
  unfold attnLose; repeat (first | (solve | simp [*]) | split | simp [*])

@[simp] theorem attnDiscard_fix (s : State) :
    (attnDiscard s).glb.straps = s.glb.straps ∧ (attnDiscard s).upd.keys = s.upd.keys := by
  unfold attnDiscard; repeat (first | (solve | simp [*]) | split | simp [*])

@[simp] theorem attnPush_fix (a : AttnRec) (s : State) :
    (attnPush a s).glb.straps = s.glb.straps ∧ (attnPush a s).upd.keys = s.upd.keys := by
  unfold attnPush; repeat (first | (solve | simp [*]) | split | simp [*])

@[simp] theorem attnFiring_fix (src : Nat) (sub : Nat) (cause : Nat) (time : Nat) (s : State) :
    (attnFiring src sub cause time s).glb.straps = s.glb.straps ∧ (attnFiring src sub cause time s).upd.keys = s.upd.keys := by
  unfold attnFiring; repeat (first | (solve | simp [*]) | split | simp [*])

@[simp] theorem sendFiring_fix (e : EvRec) (int : Bool) (s : State) :
    (sendFiring e int s).glb.straps = s.glb.straps ∧ (sendFiring e int s).upd.keys = s.upd.keys := by
  unfold sendFiring; repeat (first | (solve | simp [*]) | split | simp [*])

@[simp] theorem judgeStep_fix (s : State) :
    (judgeStep s).glb.straps = s.glb.straps ∧ (judgeStep s).upd.keys = s.upd.keys := by
  unfold judgeStep; split
  · exact State.updPair_fix ..
  · exact State.updPair_fix ..

@[simp] theorem watchStep_fix (s : State) :
    (watchStep s).glb.straps = s.glb.straps ∧ (watchStep s).upd.keys = s.upd.keys := by
  unfold watchStep; repeat (first | (solve | simp [*]) | split | simp [*])

@[simp] theorem judgeDiffs_fix (s : State) :
    (judgeDiffs s).glb.straps = s.glb.straps ∧ (judgeDiffs s).upd.keys = s.upd.keys := by
  unfold judgeDiffs; repeat (first | (solve | simp [*]) | split | simp [*])

@[simp] theorem yieldBegin_fix (ground : Bool) (s : State) :
    (yieldBegin ground s).glb.straps = s.glb.straps ∧ (yieldBegin ground s).upd.keys = s.upd.keys := by
  unfold yieldBegin; repeat (first | (solve | simp [*]) | split | simp [*])

@[simp] theorem groundArose_fix (s : State) :
    (groundArose s).glb.straps = s.glb.straps ∧ (groundArose s).upd.keys = s.upd.keys := by
  unfold groundArose; repeat (first | (solve | simp [*]) | split | simp [*])

@[simp] theorem setGround_fix (i : Fin 7) (b : Bool) (s : State) :
    (setGround i b s).glb.straps = s.glb.straps ∧ (setGround i b s).upd.keys = s.upd.keys := by
  unfold setGround; repeat (first | (solve | simp [*]) | split | simp [*])

@[simp] theorem pulseGround_fix (i : Fin 7) (s : State) :
    (pulseGround i s).glb.straps = s.glb.straps ∧ (pulseGround i s).upd.keys = s.upd.keys := by
  unfold pulseGround; repeat (first | (solve | simp [*]) | split | simp [*])

@[simp] theorem groundAgain_fix (i : Fin 7) (s : State) :
    (groundAgain i s).glb.straps = s.glb.straps ∧ (groundAgain i s).upd.keys = s.upd.keys := by
  unfold groundAgain; repeat (first | (solve | simp [*]) | split | simp [*])

@[simp] theorem judgeGrounds_fix (s : State) :
    (judgeGrounds s).glb.straps = s.glb.straps ∧ (judgeGrounds s).upd.keys = s.upd.keys := by
  unfold judgeGrounds; repeat (first | (solve | simp [*]) | split | simp [*])

@[simp] theorem ownTake_fix (sub : Nat) (s : State) :
    (ownTake sub s).glb.straps = s.glb.straps ∧ (ownTake sub s).upd.keys = s.upd.keys := by
  unfold ownTake; repeat (first | (solve | simp [*]) | split | simp [*])

@[simp] theorem ownDrop_fix (s : State) :
    (ownDrop s).glb.straps = s.glb.straps ∧ (ownDrop s).upd.keys = s.upd.keys := by
  unfold ownDrop; repeat (first | (solve | simp [*]) | split | simp [*])

@[simp] theorem watchOwn_fix (s : State) :
    (watchOwn s).glb.straps = s.glb.straps ∧ (watchOwn s).upd.keys = s.upd.keys := by
  unfold watchOwn; repeat (first | (solve | simp [*]) | split | simp [*])

@[simp] theorem badPairFrame_fix (s : State) :
    (badPairFrame s).glb.straps = s.glb.straps ∧ (badPairFrame s).upd.keys = s.upd.keys := by
  unfold badPairFrame; repeat (first | (solve | simp [*]) | split | simp [*])

@[simp] theorem onPair_fix (crcOk : Bool) (f : State → State) (s : State) (hf : ∀ (t : State), (f t).glb.straps = t.glb.straps ∧ (f t).upd.keys = t.upd.keys) :
    (onPair crcOk f s).glb.straps = s.glb.straps ∧ (onPair crcOk f s).upd.keys = s.upd.keys := by
  unfold onPair; repeat (first | (solve | simp [*]) | split | simp [*])

@[simp] theorem linkLost_fix (s : State) :
    (linkLost s).glb.straps = s.glb.straps ∧ (linkLost s).upd.keys = s.upd.keys := by
  unfold linkLost; repeat (first | (solve | simp [*]) | split | simp [*])

@[simp] theorem onCtrl_fix (crcOk : Bool) (seq : BitVec 8) (f : State → State) (s : State) (hf : ∀ (t : State), (f t).glb.straps = t.glb.straps ∧ (f t).upd.keys = t.upd.keys) :
    (onCtrl crcOk seq f s).glb.straps = s.glb.straps ∧ (onCtrl crcOk seq f s).upd.keys = s.upd.keys := by
  unfold onCtrl; repeat (first | (solve | simp [*]) | split | simp [*])

@[simp] theorem onFollow_fix (crcOk : Bool) (seq : BitVec 8) (f : State → State) (s : State) (hf : ∀ (t : State), (f t).glb.straps = t.glb.straps ∧ (f t).upd.keys = t.upd.keys) :
    (onFollow crcOk seq f s).glb.straps = s.glb.straps ∧ (onFollow crcOk seq f s).upd.keys = s.upd.keys := by
  unfold onFollow; repeat (first | (solve | simp [*]) | split | simp [*])

@[simp] theorem judgeGates_fix (s : State) :
    (judgeGates s).glb.straps = s.glb.straps ∧ (judgeGates s).upd.keys = s.upd.keys := by
  unfold judgeGates; repeat (first | (solve | simp [*]) | split | simp [*])

@[simp] theorem feedLost_fix (f : Fin 2) (s : State) :
    (feedLost f s).glb.straps = s.glb.straps ∧ (feedLost f s).upd.keys = s.upd.keys := by
  unfold feedLost; repeat (first | (solve | simp [*]) | split | simp [*])

@[simp] theorem feedQual_fix (x : FeedSense) (s0 : State) :
    (feedQual x s0).glb.straps = s0.glb.straps ∧ (feedQual x s0).upd.keys = s0.upd.keys := by
  unfold feedQual; repeat (first | (solve | simp [*]) | split | simp [*])

@[simp] theorem feedGone_fix (x : FeedSense) (s0 : State) :
    (feedGone x s0).glb.straps = s0.glb.straps ∧ (feedGone x s0).upd.keys = s0.upd.keys := by
  unfold feedGone; repeat (first | (solve | simp [*]) | split | simp [*])

@[simp] theorem watchFeeds_fix (s : State) :
    (watchFeeds s).glb.straps = s.glb.straps ∧ (watchFeeds s).upd.keys = s.upd.keys := by
  unfold watchFeeds; dsimp only
  split
  · simp
  · split
    · simp
    · refine ⟨(State.each_fix _ _ _ (fun f u => ?_)).1.trans (by simp), (State.each_fix _ _ _ (fun f u => ?_)).2.trans (by simp)⟩ <;>
        · split
          · split <;> simp
          · simp

@[simp] theorem feedBelow_fix (f : Fin 2) (b : Bool) (s : State) :
    (feedBelow f b s).glb.straps = s.glb.straps ∧ (feedBelow f b s).upd.keys = s.upd.keys := by
  unfold feedBelow; repeat (first | (solve | simp [*]) | split | simp [*])

@[simp] theorem qualifyRestart_fix (i : QualInput) (s : State) :
    (qualifyRestart i s).glb.straps = s.glb.straps ∧ (qualifyRestart i s).upd.keys = s.upd.keys := by
  unfold qualifyRestart; repeat (first | (solve | simp [*]) | split | simp [*])

@[simp] theorem discardTrims_fix (s : State) :
    (discardTrims s).glb.straps = s.glb.straps ∧ (discardTrims s).upd.keys = s.upd.keys := by
  unfold discardTrims; repeat (first | (solve | simp [*]) | split | simp [*])

@[simp] theorem leaveFence_fix (n : Fin 64) (s : State) :
    (leaveFence n s).glb.straps = s.glb.straps ∧ (leaveFence n s).upd.keys = s.upd.keys := by
  unfold leaveFence; repeat (first | (solve | simp [*]) | split | simp [*])

@[simp] theorem applyPhase_fix (old : Image) (new : Image) (n : Fin 64) (s : State) :
    (applyPhase old new n s).glb.straps = s.glb.straps ∧ (applyPhase old new n s).upd.keys = s.upd.keys := by
  unfold applyPhase; repeat (first | (solve | simp [*]) | split | simp [*])

@[simp] theorem recompare_fix (r : Fin 24) (old : RailCfg) (c : RailCfg) (s : State) :
    (recompare r old c s).glb.straps = s.glb.straps ∧ (recompare r old c s).upd.keys = s.upd.keys := by
  unfold recompare; repeat (first | (solve | simp [*]) | split | simp [*])

@[simp] theorem applyRail_fix (old : Image) (new : Image) (r : Fin 24) (s : State) :
    (applyRail old new r s).glb.straps = s.glb.straps ∧ (applyRail old new r s).upd.keys = s.upd.keys := by
  unfold applyRail; repeat (first | (solve | simp [*]) | split | simp [*])

@[simp] theorem applyPort_fix (new : Image) (p : Fin 8) (s : State) :
    (applyPort new p s).glb.straps = s.glb.straps ∧ (applyPort new p s).upd.keys = s.upd.keys := by
  unfold applyPort; repeat (first | (solve | simp [*]) | split | simp [*])

@[simp] theorem applyDom_fix (old : Image) (new : Image) (start : Bool) (d : Fin 8) (s : State) :
    (applyDom old new start d s).glb.straps = s.glb.straps ∧ (applyDom old new start d s).upd.keys = s.upd.keys := by
  unfold applyDom; repeat (first | (solve | simp [*]) | split | simp [*])

@[simp] theorem applySlot_fix (old : Image) (new : Image) (n : Fin 48) (s : State) :
    (applySlot old new n s).glb.straps = s.glb.straps ∧ (applySlot old new n s).upd.keys = s.upd.keys := by
  unfold applySlot; repeat (first | (solve | simp [*]) | split | simp [*])

@[simp] theorem applyMon_fix (new : Image) (m : Fin 96) (s : State) :
    (applyMon new m s).glb.straps = s.glb.straps ∧ (applyMon new m s).upd.keys = s.upd.keys := by
  unfold applyMon; repeat (first | (solve | simp [*]) | split | simp [*])

@[simp] theorem applyCt_fix (new : Image) (k : Fin 16) (s : State) :
    (applyCt new k s).glb.straps = s.glb.straps ∧ (applyCt new k s).upd.keys = s.upd.keys := by
  unfold applyCt; repeat (first | (solve | simp [*]) | split | simp [*])

@[simp] theorem applyHold_fix (old : Image) (new : Image) (s : State) :
    (applyHold old new s).glb.straps = s.glb.straps ∧ (applyHold old new s).upd.keys = s.upd.keys := by
  unfold applyHold; repeat (first | (solve | simp [*]) | split | simp [*])

@[simp] theorem applyCarts_fix (new : Image) (s : State) :
    (applyCarts new s).glb.straps = s.glb.straps ∧ (applyCarts new s).upd.keys = s.upd.keys := by
  unfold applyCarts; repeat (first | (solve | simp [*]) | split | simp [*])

@[simp] theorem applyOv_fix (old : Image) (new : Image) (start : Bool) (s : State) :
    (applyOv old new start s).glb.straps = s.glb.straps ∧ (applyOv old new start s).upd.keys = s.upd.keys := by
  unfold applyOv; repeat (first | (solve | simp [*]) | split | simp [*])

@[simp] theorem releaseBlocks_fix (s : State) :
    (releaseBlocks s).glb.straps = s.glb.straps ∧ (releaseBlocks s).upd.keys = s.upd.keys := by
  unfold releaseBlocks; refine (fun h => ⟨h.1.trans rfl, h.2.trans rfl⟩) (State.each_fix _ _ _ (fun b u => ?_)); split <;> simp

@[simp] theorem applyEvents_fix (old : Image) (new : Image) (s : State) :
    (applyEvents old new s).glb.straps = s.glb.straps ∧ (applyEvents old new s).upd.keys = s.upd.keys := by
  unfold applyEvents; repeat (first | (solve | simp [*]) | split | simp [*])

@[simp] theorem applyIslands_fix (s : State) :
    (applyIslands s).glb.straps = s.glb.straps ∧ (applyIslands s).upd.keys = s.upd.keys := by
  unfold applyIslands; repeat (first | (solve | simp [*]) | split | simp [*])

@[simp] theorem applyImage_fix (im : Image) (slot : Nat) (blank : Bool) (start : Bool) (s0 : State) :
    (applyImage im slot blank start s0).glb.straps = s0.glb.straps ∧ (applyImage im slot blank start s0).upd.keys = s0.upd.keys := by
  unfold applyImage; repeat (first | (solve | simp [*]) | split | simp [*])

@[simp] theorem setReason_fix (slot : Nat) (code : Nat) (ofs : Nat) (s : State) :
    (setReason slot code ofs s).glb.straps = s.glb.straps ∧ (setReason slot code ofs s).upd.keys = s.upd.keys := by
  unfold setReason; repeat (first | (solve | simp [*]) | split | simp [*])

@[simp] theorem checkSlot_fix (slot : Nat) (s0 : State) :
    (checkSlot slot s0).glb.straps = s0.glb.straps ∧ (checkSlot slot s0).upd.keys = s0.upd.keys := by
  unfold checkSlot; repeat (first | (solve | simp [*]) | split | simp [*])

@[simp] theorem cutWrite_fix (s : State) :
    (cutWrite s).glb.straps = s.glb.straps ∧ (cutWrite s).upd.keys = s.upd.keys := by
  unfold cutWrite; repeat (first | (solve | simp [*]) | split | simp [*])

@[simp] theorem chipReset_fix (warm : Bool) (creset : Bool) (keep : Bool) (m : Mode) (s0 : State) :
    (chipReset warm creset keep m s0).glb.straps = s0.glb.straps ∧ (chipReset warm creset keep m s0).upd.keys = s0.upd.keys := by
  unfold chipReset; repeat (first | (solve | simp [*]) | split | simp [*])

@[simp] theorem porAsserted_fix (k : Fin 5) (s : State) :
    (porAsserted k s).glb.straps = s.glb.straps ∧ (porAsserted k s).upd.keys = s.upd.keys := by
  unfold porAsserted; repeat (first | (solve | simp [*]) | split | simp [*])

@[simp] theorem resetAsserted_fix (lowNs : Nat) (s : State) :
    (resetAsserted lowNs s).glb.straps = s.glb.straps ∧ (resetAsserted lowNs s).upd.keys = s.upd.keys := by
  unfold resetAsserted; repeat (first | (solve | simp [*]) | split | simp [*])

@[simp] theorem pwmReload_fix (s : State) :
    (pwmReload s).glb.straps = s.glb.straps ∧ (pwmReload s).upd.keys = s.upd.keys := by
  unfold pwmReload; repeat (first | (solve | simp [*]) | split | simp [*])

@[simp] theorem pllLock_fix (s : State) :
    (pllLock s).glb.straps = s.glb.straps ∧ (pllLock s).upd.keys = s.upd.keys := by
  unfold pllLock; repeat (first | (solve | simp [*]) | split | simp [*])

@[simp] theorem pllAcquired_fix (s : State) :
    (pllAcquired s).glb.straps = s.glb.straps ∧ (pllAcquired s).upd.keys = s.upd.keys := by
  unfold pllAcquired; repeat (first | (solve | simp [*]) | split | simp [*])

@[simp] theorem pllLost_fix (s : State) :
    (pllLost s).glb.straps = s.glb.straps ∧ (pllLost s).upd.keys = s.upd.keys := by
  unfold pllLost; repeat (first | (solve | simp [*]) | split | simp [*])

@[simp] theorem refLost_fix (s : State) :
    (refLost s).glb.straps = s.glb.straps ∧ (refLost s).upd.keys = s.upd.keys := by
  unfold refLost; repeat (first | (solve | simp [*]) | split | simp [*])

@[simp] theorem refBack_fix (s : State) :
    (refBack s).glb.straps = s.glb.straps ∧ (refBack s).upd.keys = s.upd.keys := by
  unfold refBack; repeat (first | (solve | simp [*]) | split | simp [*])

@[simp] theorem refHoldEnd_fix (s : State) :
    (refHoldEnd s).glb.straps = s.glb.straps ∧ (refHoldEnd s).upd.keys = s.upd.keys := by
  unfold refHoldEnd; repeat (first | (solve | simp [*]) | split | simp [*])

@[simp] theorem takeLayout_fix (l : Layout) (mirror : Bool) (s : State) :
    (takeLayout l mirror s).glb.straps = s.glb.straps ∧ (takeLayout l mirror s).upd.keys = s.upd.keys := by
  unfold takeLayout; repeat (first | (solve | simp [*]) | split | simp [*])

@[simp] theorem noLayout_fix (s : State) :
    (noLayout s).glb.straps = s.glb.straps ∧ (noLayout s).upd.keys = s.upd.keys := by
  unfold noLayout; repeat (first | (solve | simp [*]) | split | simp [*])

@[simp] theorem readLayout_fix (s0 : State) :
    (readLayout s0).glb.straps = s0.glb.straps ∧ (readLayout s0).upd.keys = s0.upd.keys := by
  unfold readLayout; repeat (first | (solve | simp [*]) | split | simp [*])

@[simp] theorem layoutAgain_fix (s : State) :
    (layoutAgain s).glb.straps = s.glb.straps ∧ (layoutAgain s).upd.keys = s.upd.keys := by
  unfold layoutAgain; repeat (first | (solve | simp [*]) | split | simp [*])

@[simp] theorem candidateCheck_fix (s : State) :
    (candidateCheck s).glb.straps = s.glb.straps ∧ (candidateCheck s).upd.keys = s.upd.keys := by
  unfold candidateCheck; repeat (first | (solve | simp [*]) | split | simp [*])

@[simp] theorem startApply_fix (s : State) :
    (startApply s).glb.straps = s.glb.straps ∧ (startApply s).upd.keys = s.upd.keys := by
  unfold startApply; repeat (first | (solve | simp [*]) | split | simp [*])

@[simp] theorem coresChecked_fix (s0 : State) :
    (coresChecked s0).glb.straps = s0.glb.straps ∧ (coresChecked s0).upd.keys = s0.upd.keys := by
  unfold coresChecked; repeat (first | (solve | simp [*]) | split | simp [*])

@[simp] theorem coreBoot_fix (c : CoreId) (ok : Bool) (s : State) :
    (coreBoot c ok s).glb.straps = s.glb.straps ∧ (coreBoot c ok s).upd.keys = s.upd.keys := by
  unfold coreBoot; repeat (first | (solve | simp [*]) | split | simp [*])

@[simp] theorem coresStart_fix (sup : Bool) (led : Bool) (lnk : Bool) (s : State) :
    (coresStart sup led lnk s).glb.straps = s.glb.straps ∧ (coresStart sup led lnk s).upd.keys = s.upd.keys := by
  unfold coresStart; repeat (first | (solve | simp [*]) | split | simp [*])

@[simp] theorem settingsRead_fix (readable : Bool) (migrates : Bool) (s : State) :
    (settingsRead readable migrates s).glb.straps = s.glb.straps ∧ (settingsRead readable migrates s).upd.keys = s.upd.keys := by
  unfold settingsRead; repeat (first | (solve | simp [*]) | split | simp [*])

@[simp] theorem handshakeStalled_fix (s : State) :
    (handshakeStalled s).glb.straps = s.glb.straps ∧ (handshakeStalled s).upd.keys = s.upd.keys := by
  unfold handshakeStalled; repeat (first | (solve | simp [*]) | split | simp [*])

@[simp] theorem cdcRejected_fix (s : State) :
    (cdcRejected s).glb.straps = s.glb.straps ∧ (cdcRejected s).upd.keys = s.upd.keys := by
  unfold cdcRejected; repeat (first | (solve | simp [*]) | split | simp [*])

@[simp] theorem toggleAck_fix (l : ToggleLine) (s : State) :
    (toggleAck l s).glb.straps = s.glb.straps ∧ (toggleAck l s).upd.keys = s.upd.keys := by
  unfold toggleAck; repeat (first | (solve | simp [*]) | split | simp [*])

@[simp] theorem setIsland_fix (i : Island) (v : Isl) (s : State) :
    (setIsland i v s).glb.straps = s.glb.straps ∧ (setIsland i v s).upd.keys = s.upd.keys := by
  unfold setIsland; repeat (first | (solve | simp [*]) | split | simp [*])

@[simp] theorem islandUp_fix (i : Island) (s : State) :
    (islandUp i s).glb.straps = s.glb.straps ∧ (islandUp i s).upd.keys = s.upd.keys := by
  unfold islandUp; repeat (first | (solve | simp [*]) | split | simp [*])

@[simp] theorem coreWatchdog_fix (c : CoreId) (s : State) :
    (coreWatchdog c s).glb.straps = s.glb.straps ∧ (coreWatchdog c s).upd.keys = s.upd.keys := by
  unfold coreWatchdog; repeat (first | (solve | simp [*]) | split | simp [*])

@[simp] theorem supTakes_fix (s : State) :
    (supTakes s).glb.straps = s.glb.straps ∧ (supTakes s).upd.keys = s.upd.keys := by
  unfold supTakes; repeat (first | (solve | simp [*]) | split | simp [*])

@[simp] theorem coreBack_fix (c : CoreId) (ok : Bool) (s : State) :
    (coreBack c ok s).glb.straps = s.glb.straps ∧ (coreBack c ok s).upd.keys = s.upd.keys := by
  unfold coreBack; repeat (first | (solve | simp [*]) | split | simp [*])

@[simp] theorem supplyExit_fix (k : Fin 5) (s : State) :
    (supplyExit k s).glb.straps = s.glb.straps ∧ (supplyExit k s).upd.keys = s.upd.keys := by
  unfold supplyExit; repeat (first | (solve | simp [*]) | split | simp [*])

@[simp] theorem supplyClear_fix (s : State) :
    (supplyClear s).glb.straps = s.glb.straps ∧ (supplyClear s).upd.keys = s.upd.keys := by
  unfold supplyClear; repeat (first | (solve | simp [*]) | split | simp [*])

@[simp] theorem trimMismatch_fix (s : State) :
    (trimMismatch s).glb.straps = s.glb.straps ∧ (trimMismatch s).upd.keys = s.upd.keys := by
  unfold trimMismatch; repeat (first | (solve | simp [*]) | split | simp [*])

@[simp] theorem scrubCheck_fix (seg : Nat) (crc : Nat) (s : State) :
    (scrubCheck seg crc s).glb.straps = s.glb.straps ∧ (scrubCheck seg crc s).upd.keys = s.upd.keys := by
  unfold scrubCheck; repeat (first | (solve | simp [*]) | split | simp [*])

@[simp] theorem rereadFetch_fix (s : State) :
    (rereadFetch s).glb.straps = s.glb.straps ∧ (rereadFetch s).upd.keys = s.upd.keys := by
  unfold rereadFetch; repeat (first | (solve | simp [*]) | split | simp [*])

@[simp] theorem scrubRepaired_fix (s : State) :
    (scrubRepaired s).glb.straps = s.glb.straps ∧ (scrubRepaired s).upd.keys = s.upd.keys := by
  unfold scrubRepaired; repeat (first | (solve | simp [*]) | split | simp [*])

@[simp] theorem chandlerReread_fix (s : State) :
    (chandlerReread s).glb.straps = s.glb.straps ∧ (chandlerReread s).upd.keys = s.upd.keys := by
  unfold chandlerReread; repeat (first | (solve | simp [*]) | split | simp [*])

@[simp] theorem requestSleep_fix (s : State) :
    (requestSleep s).glb.straps = s.glb.straps ∧ (requestSleep s).upd.keys = s.upd.keys := by
  unfold requestSleep; repeat (first | (solve | simp [*]) | split | simp [*])

@[simp] theorem hostSleep_fix (s : State) :
    (hostSleep s).glb.straps = s.glb.straps ∧ (hostSleep s).upd.keys = s.upd.keys := by
  unfold hostSleep; repeat (first | (solve | simp [*]) | split | simp [*])

@[simp] theorem idleSleep_fix (s : State) :
    (idleSleep s).glb.straps = s.glb.straps ∧ (idleSleep s).upd.keys = s.upd.keys := by
  unfold idleSleep; repeat (first | (solve | simp [*]) | split | simp [*])

@[simp] theorem watchIdle_fix (s : State) :
    (watchIdle s).glb.straps = s.glb.straps ∧ (watchIdle s).upd.keys = s.upd.keys := by
  unfold watchIdle; repeat (first | (solve | simp [*]) | split | simp [*])

@[simp] theorem sleepQuiet_fix (s : State) :
    (sleepQuiet s).glb.straps = s.glb.straps ∧ (sleepQuiet s).upd.keys = s.upd.keys := by
  unfold sleepQuiet; repeat (first | (solve | simp [*]) | split | simp [*])

@[simp] theorem sleepHalt_fix (s : State) :
    (sleepHalt s).glb.straps = s.glb.straps ∧ (sleepHalt s).upd.keys = s.upd.keys := by
  unfold sleepHalt; repeat (first | (solve | simp [*]) | split | simp [*])

@[simp] theorem sleepEnter_fix (s : State) :
    (sleepEnter s).glb.straps = s.glb.straps ∧ (sleepEnter s).upd.keys = s.upd.keys := by
  unfold sleepEnter; repeat (first | (solve | simp [*]) | split | simp [*])

@[simp] theorem alarmDue_fix (s : State) :
    (alarmDue s).glb.straps = s.glb.straps ∧ (alarmDue s).upd.keys = s.upd.keys := by
  unfold alarmDue; repeat (first | (solve | simp [*]) | split | simp [*])

@[simp] theorem wakeOn_fix (src : Fin 8) (s : State) :
    (wakeOn src s).glb.straps = s.glb.straps ∧ (wakeOn src s).upd.keys = s.upd.keys := by
  unfold wakeOn; repeat (first | (solve | simp [*]) | split | simp [*])

@[simp] theorem wakePassed_fix (s : State) :
    (wakePassed s).glb.straps = s.glb.straps ∧ (wakePassed s).upd.keys = s.upd.keys := by
  unfold wakePassed; repeat (first | (solve | simp [*]) | split | simp [*])

@[simp] theorem wakeReread_fix (l : List Nat) (s : State) :
    (wakeReread l s).glb.straps = s.glb.straps ∧ (wakeReread l s).upd.keys = s.upd.keys := by
  unfold wakeReread; repeat (first | (solve | simp [*]) | split | simp [*])

@[simp] theorem wakeRestart_fix (s : State) :
    (wakeRestart s).glb.straps = s.glb.straps ∧ (wakeRestart s).upd.keys = s.upd.keys := by
  unfold wakeRestart; repeat (first | (solve | simp [*]) | split | simp [*])

@[simp] theorem wakeScrub_fix (bad : List Nat) (s : State) :
    (wakeScrub bad s).glb.straps = s.glb.straps ∧ (wakeScrub bad s).upd.keys = s.upd.keys := by
  unfold wakeScrub; repeat (first | (solve | simp [*]) | split | simp [*])

@[simp] theorem wakeDomains_fix (s : State) :
    (wakeDomains s).glb.straps = s.glb.straps ∧ (wakeDomains s).upd.keys = s.upd.keys := by
  unfold wakeDomains; repeat (first | (solve | simp [*]) | split | simp [*])

@[simp] theorem wakeMonitors_fix (s : State) :
    (wakeMonitors s).glb.straps = s.glb.straps ∧ (wakeMonitors s).upd.keys = s.upd.keys := by
  unfold wakeMonitors; repeat (first | (solve | simp [*]) | split | simp [*])

@[simp] theorem wakeUp_fix (s : State) :
    (wakeUp s).glb.straps = s.glb.straps ∧ (wakeUp s).upd.keys = s.upd.keys := by
  unfold wakeUp; repeat (first | (solve | simp [*]) | split | simp [*])

@[simp] theorem wakeLinks_fix (s : State) :
    (wakeLinks s).glb.straps = s.glb.straps ∧ (wakeLinks s).upd.keys = s.upd.keys := by
  unfold wakeLinks; repeat (first | (solve | simp [*]) | split | simp [*])

@[simp] theorem wakeReport_fix (s : State) :
    (wakeReport s).glb.straps = s.glb.straps ∧ (wakeReport s).upd.keys = s.upd.keys := by
  unfold wakeReport; repeat (first | (solve | simp [*]) | split | simp [*])

@[simp] theorem wakeResume_fix (s : State) :
    (wakeResume s).glb.straps = s.glb.straps ∧ (wakeResume s).upd.keys = s.upd.keys := by
  unfold wakeResume; repeat (first | (solve | simp [*]) | split | simp [*])

@[simp] theorem wakeDone_fix (s : State) :
    (wakeDone s).glb.straps = s.glb.straps ∧ (wakeDone s).upd.keys = s.upd.keys := by
  unfold wakeDone; repeat (first | (solve | simp [*]) | split | simp [*])

@[simp] theorem stageBegin_fix (h : List Byte) (ov : Bool) (s : State) :
    (stageBegin h ov s).2.glb.straps = s.glb.straps ∧ (stageBegin h ov s).2.upd.keys = s.upd.keys := by
  unfold stageBegin; repeat (first | (solve | simp [*]) | split | simp [*])

@[simp] theorem stageData_fix (ofs : Nat) (data : List Byte) (ov : Bool) (s : State) :
    (stageData ofs data ov s).2.glb.straps = s.glb.straps ∧ (stageData ofs data ov s).2.upd.keys = s.upd.keys := by
  unfold stageData; repeat (first | (solve | simp [*]) | split | simp [*])

@[simp] theorem stageDrop_fix (s : State) :
    (stageDrop s).glb.straps = s.glb.straps ∧ (stageDrop s).upd.keys = s.upd.keys := by
  unfold stageDrop; repeat (first | (solve | simp [*]) | split | simp [*])

@[simp] theorem chandlerResult_fix (slot : Nat) (code : Nat) (ofs : Nat) (s : State) :
    (chandlerResult slot code ofs s).glb.straps = s.glb.straps ∧ (chandlerResult slot code ofs s).upd.keys = s.upd.keys := by
  unfold chandlerResult; repeat (first | (solve | simp [*]) | split | simp [*])

@[simp] theorem imageResult_fix (h : List Byte) (region : Nat) (r : Nat × Nat × Nat × Bool) (s : State) :
    (imageResult h region r s).glb.straps = s.glb.straps ∧ (imageResult h region r s).upd.keys = s.upd.keys := by
  unfold imageResult; repeat (first | (solve | simp [*]) | split | simp [*])

@[simp] theorem imageCheck_fix (h : List Byte) (region : Nat) (s : State) :
    (imageCheck h region s).glb.straps = s.glb.straps ∧ (imageCheck h region s).upd.keys = s.upd.keys := by
  unfold imageCheck; repeat (first | (solve | simp [*]) | split | simp [*])

@[simp] theorem recheckImages_fix (s : State) :
    (recheckImages s).glb.straps = s.glb.straps ∧ (recheckImages s).upd.keys = s.upd.keys := by
  unfold recheckImages; repeat (first | (solve | simp [*]) | split | simp [*])

@[simp] theorem imageVerified_fix (s0 : State) :
    (imageVerified s0).glb.straps = s0.glb.straps ∧ (imageVerified s0).upd.keys = s0.upd.keys := by
  unfold imageVerified; repeat (first | (solve | simp [*]) | split | simp [*])

@[simp] theorem actDone_fix (imgId : Nat) (f : SetData → SetData) (s : State) :
    (actDone imgId f s).glb.straps = s.glb.straps ∧ (actDone imgId f s).upd.keys = s.upd.keys := by
  unfold actDone; repeat (first | (solve | simp [*]) | split | simp [*])

@[simp] theorem trialNext_fix (imgId : Nat) (confirm : Nat) (todo : List CoreId) (s : State) :
    (trialNext imgId confirm todo s).glb.straps = s.glb.straps ∧ (trialNext imgId confirm todo s).upd.keys = s.upd.keys := by
  unfold trialNext; repeat (first | (solve | simp [*]) | split | simp [*])

@[simp] theorem fwActivate_fix (imgId : Nat) (confirm : Nat) (s : State) :
    (fwActivate imgId confirm s).glb.straps = s.glb.straps ∧ (fwActivate imgId confirm s).upd.keys = s.upd.keys := by
  unfold fwActivate; repeat (first | (solve | simp [*]) | split | simp [*])

@[simp] theorem applyBegin_fix (slot : Nat) (s : State) :
    (applyBegin slot s).glb.straps = s.glb.straps ∧ (applyBegin slot s).upd.keys = s.upd.keys := by
  unfold applyBegin; repeat (first | (solve | simp [*]) | split | simp [*])

@[simp] theorem activateHere_fix (h : List Byte) (confirm : Nat) (s : State) :
    (activateHere h confirm s).glb.straps = s.glb.straps ∧ (activateHere h confirm s).upd.keys = s.upd.keys := by
  unfold activateHere; repeat (first | (solve | simp [*]) | split | simp [*])

@[simp] theorem markProved_fix (q : Nat) (s : State) :
    (markProved q s).glb.straps = s.glb.straps ∧ (markProved q s).upd.keys = s.upd.keys := by
  unfold markProved; repeat (first | (solve | simp [*]) | split | simp [*])

@[simp] theorem proofBegin_fix (prev : Option Nat) (hot : Bool) (s : State) :
    (proofBegin prev hot s).glb.straps = s.glb.straps ∧ (proofBegin prev hot s).upd.keys = s.upd.keys := by
  unfold proofBegin; repeat (first | (solve | simp [*]) | split | simp [*])

@[simp] theorem activateRefused_fix (w : Nat) (s : State) :
    (activateRefused w s).glb.straps = s.glb.straps ∧ (activateRefused w s).upd.keys = s.upd.keys := by
  unfold activateRefused; repeat (first | (solve | simp [*]) | split | simp [*])

@[simp] theorem seqEnd_fix (s : State) :
    (seqEnd s).glb.straps = s.glb.straps ∧ (seqEnd s).upd.keys = s.upd.keys := by
  unfold seqEnd; repeat (first | (solve | simp [*]) | split | simp [*])

@[simp] theorem seqFinish_fix (q : PairSeq) (s : State) :
    (seqFinish q s).glb.straps = s.glb.straps ∧ (seqFinish q s).upd.keys = s.upd.keys := by
  unfold seqFinish; repeat (first | (solve | simp [*]) | split | simp [*])

@[simp] theorem seqProve_fix (q : PairSeq) (s : State) :
    (seqProve q s).glb.straps = s.glb.straps ∧ (seqProve q s).upd.keys = s.upd.keys := by
  unfold seqProve; repeat (first | (solve | simp [*]) | split | simp [*])

@[simp] theorem activateNow_fix (imgId : Nat) (confirm : Nat) (s : State) :
    (activateNow imgId confirm s).2.glb.straps = s.glb.straps ∧ (activateNow imgId confirm s).2.upd.keys = s.upd.keys := by
  unfold activateNow; repeat (first | (solve | simp [*]) | split | simp [*])

@[simp] theorem scheduleAt_fix (d : Sched) (s : State) :
    (scheduleAt d s).2.glb.straps = s.glb.straps ∧ (scheduleAt d s).2.upd.keys = s.upd.keys := by
  unfold scheduleAt; repeat (first | (solve | simp [*]) | split | simp [*])

@[simp] theorem skipSched_fix (why : Nat) (s : State) :
    (skipSched why s).glb.straps = s.glb.straps ∧ (skipSched why s).upd.keys = s.upd.keys := by
  unfold skipSched; repeat (first | (solve | simp [*]) | split | simp [*])

@[simp] theorem schedDue_fix (s : State) :
    (schedDue s).glb.straps = s.glb.straps ∧ (schedDue s).upd.keys = s.upd.keys := by
  unfold schedDue; repeat (first | (solve | simp [*]) | split | simp [*])

@[simp] theorem activateFrame_fix (a : ActivateCmd) (s : State) :
    (activateFrame a s).glb.straps = s.glb.straps ∧ (activateFrame a s).upd.keys = s.upd.keys := by
  unfold activateFrame; repeat (first | (solve | simp [*]) | split | simp [*])

@[simp] theorem cancelSched_fix (s : State) :
    (cancelSched s).glb.straps = s.glb.straps ∧ (cancelSched s).upd.keys = s.upd.keys := by
  unfold cancelSched; repeat (first | (solve | simp [*]) | split | simp [*])

@[simp] theorem rollbackStep_fix (s : State) :
    (rollbackStep s).glb.straps = s.glb.straps ∧ (rollbackStep s).upd.keys = s.upd.keys := by
  unfold rollbackStep; repeat (first | (solve | simp [*]) | split | simp [*])

@[simp] theorem rollBack_fix (s : State) :
    (rollBack s).glb.straps = s.glb.straps ∧ (rollBack s).upd.keys = s.upd.keys := by
  unfold rollBack; repeat (first | (solve | simp [*]) | split | simp [*])

@[simp] theorem pairHalt_fix (why : Nat) (s : State) :
    (pairHalt why s).glb.straps = s.glb.straps ∧ (pairHalt why s).upd.keys = s.upd.keys := by
  unfold pairHalt; repeat (first | (solve | simp [*]) | split | simp [*])

@[simp] theorem proofFail_fix (s : State) :
    (proofFail s).glb.straps = s.glb.straps ∧ (proofFail s).upd.keys = s.upd.keys := by
  unfold proofFail; repeat (first | (solve | simp [*]) | split | simp [*])

@[simp] theorem proofPass_fix (s : State) :
    (proofPass s).glb.straps = s.glb.straps ∧ (proofPass s).upd.keys = s.upd.keys := by
  unfold proofPass; repeat (first | (solve | simp [*]) | split | simp [*])

@[simp] theorem proofEnd_fix (s : State) :
    (proofEnd s).glb.straps = s.glb.straps ∧ (proofEnd s).upd.keys = s.upd.keys := by
  unfold proofEnd; repeat (first | (solve | simp [*]) | split | simp [*])

@[simp] theorem proofBroken_fix (s : State) :
    (proofBroken s).glb.straps = s.glb.straps ∧ (proofBroken s).upd.keys = s.upd.keys := by
  unfold proofBroken; repeat (first | (solve | simp [*]) | split | simp [*])

@[simp] theorem judgeProof_fix (s : State) :
    (judgeProof s).glb.straps = s.glb.straps ∧ (judgeProof s).upd.keys = s.upd.keys := by
  unfold judgeProof; repeat (first | (solve | simp [*]) | split | simp [*])

@[simp] theorem proofFired_fix (src : Nat) (s : State) :
    (proofFired src s).glb.straps = s.glb.straps ∧ (proofFired src s).upd.keys = s.upd.keys := by
  unfold proofFired; repeat (first | (solve | simp [*]) | split | simp [*])

@[simp] theorem confirmProof_fix (s : State) :
    (confirmProof s).glb.straps = s.glb.straps ∧ (confirmProof s).upd.keys = s.upd.keys := by
  unfold confirmProof; repeat (first | (solve | simp [*]) | split | simp [*])

@[simp] theorem afterApply_fix (hot : Bool) (s : State) :
    (afterApply hot s).glb.straps = s.glb.straps ∧ (afterApply hot s).upd.keys = s.upd.keys := by
  unfold afterApply; repeat (first | (solve | simp [*]) | split | simp [*])

@[simp] theorem serviceApply_fix (s : State) :
    (serviceApply s).glb.straps = s.glb.straps ∧ (serviceApply s).upd.keys = s.upd.keys := by
  unfold serviceApply; repeat (first | (solve | simp [*]) | split | simp [*])

@[simp] theorem patternApplied_fix (s : State) :
    (patternApplied s).glb.straps = s.glb.straps ∧ (patternApplied s).upd.keys = s.upd.keys := by
  unfold patternApplied; repeat (first | (solve | simp [*]) | split | simp [*])

@[simp] theorem patternChecked_fix (s : State) :
    (patternChecked s).glb.straps = s.glb.straps ∧ (patternChecked s).upd.keys = s.upd.keys := by
  unfold patternChecked; repeat (first | (solve | simp [*]) | split | simp [*])

@[simp] theorem supFallsBack_fix (s : State) :
    (supFallsBack s).glb.straps = s.glb.straps ∧ (supFallsBack s).upd.keys = s.upd.keys := by
  unfold supFallsBack; repeat (first | (solve | simp [*]) | split | simp [*])

@[simp] theorem trialFail_fix (s : State) :
    (trialFail s).glb.straps = s.glb.straps ∧ (trialFail s).upd.keys = s.upd.keys := by
  unfold trialFail; repeat (first | (solve | simp [*]) | split | simp [*])

@[simp] theorem coreTrialEnd_fix (c : CoreId) (s : State) :
    (coreTrialEnd c s).glb.straps = s.glb.straps ∧ (coreTrialEnd c s).upd.keys = s.upd.keys := by
  unfold coreTrialEnd; repeat (first | (solve | simp [*]) | split | simp [*])

@[simp] theorem revertNext_fix (s : State) :
    (revertNext s).glb.straps = s.glb.straps ∧ (revertNext s).upd.keys = s.upd.keys := by
  unfold revertNext; repeat (first | (solve | simp [*]) | split | simp [*])

@[simp] theorem seqLate_fix (s : State) :
    (seqLate s).glb.straps = s.glb.straps ∧ (seqLate s).upd.keys = s.upd.keys := by
  unfold seqLate; repeat (first | (solve | simp [*]) | split | simp [*])

@[simp] theorem updAgain_fix (s : State) :
    (updAgain s).glb.straps = s.glb.straps ∧ (updAgain s).upd.keys = s.upd.keys := by
  unfold updAgain; repeat (first | (solve | simp [*]) | split | simp [*])

@[simp] theorem coreRestarted_fix (c : CoreId) (ok : Bool) (s : State) :
    (coreRestarted c ok s).glb.straps = s.glb.straps ∧ (coreRestarted c ok s).upd.keys = s.upd.keys := by
  unfold coreRestarted; repeat (first | (solve | simp [*]) | split | simp [*])

@[simp] theorem coreConfirmed_fix (c : CoreId) (s : State) :
    (coreConfirmed c s).glb.straps = s.glb.straps ∧ (coreConfirmed c s).upd.keys = s.upd.keys := by
  unfold coreConfirmed; repeat (first | (solve | simp [*]) | split | simp [*])

@[simp] theorem revertFw_fix (s : State) :
    (revertFw s).2.glb.straps = s.glb.straps ∧ (revertFw s).2.upd.keys = s.upd.keys := by
  unfold revertFw; repeat (first | (solve | simp [*]) | split | simp [*])

@[simp] theorem revertPat_fix (s : State) :
    (revertPat s).2.glb.straps = s.glb.straps ∧ (revertPat s).2.upd.keys = s.upd.keys := by
  unfold revertPat; repeat (first | (solve | simp [*]) | split | simp [*])

@[simp] theorem seqOwned_fix (byYield : Bool) (s : State) :
    (seqOwned byYield s).glb.straps = s.glb.straps ∧ (seqOwned byYield s).upd.keys = s.upd.keys := by
  unfold seqOwned; repeat (first | (solve | simp [*]) | split | simp [*])

@[simp] theorem seqOrder_fix (h : Health) (s : State) :
    (seqOrder h s).glb.straps = s.glb.straps ∧ (seqOrder h s).upd.keys = s.upd.keys := by
  unfold seqOrder; repeat (first | (solve | simp [*]) | split | simp [*])

@[simp] theorem seqHealth_fix (h : Health) (s : State) :
    (seqHealth h s).glb.straps = s.glb.straps ∧ (seqHealth h s).upd.keys = s.upd.keys := by
  unfold seqHealth; repeat (first | (solve | simp [*]) | split | simp [*])

@[simp] theorem seqGround_fix (s : State) :
    (seqGround s).glb.straps = s.glb.straps ∧ (seqGround s).upd.keys = s.upd.keys := by
  unfold seqGround; repeat (first | (solve | simp [*]) | split | simp [*])

@[simp] theorem readyDomains_fix (s : State) :
    (readyDomains s).glb.straps = s.glb.straps ∧ (readyDomains s).upd.keys = s.upd.keys := by
  unfold readyDomains; repeat (first | (solve | simp [*]) | split | simp [*])

@[simp] theorem readyRole_fix (s : State) :
    (readyRole s).glb.straps = s.glb.straps ∧ (readyRole s).upd.keys = s.upd.keys := by
  unfold readyRole; repeat (first | (solve | simp [*]) | split | simp [*])

@[simp] theorem readyServices_fix (s : State) :
    (readyServices s).glb.straps = s.glb.straps ∧ (readyServices s).upd.keys = s.upd.keys := by
  unfold readyServices; repeat (first | (solve | simp [*]) | split | simp [*])

@[simp] theorem readyProof_fix (s : State) :
    (readyProof s).glb.straps = s.glb.straps ∧ (readyProof s).upd.keys = s.upd.keys := by
  unfold readyProof; repeat (first | (solve | simp [*]) | split | simp [*])

@[simp] theorem readyNow_fix (s : State) :
    (readyNow s).glb.straps = s.glb.straps ∧ (readyNow s).upd.keys = s.upd.keys := by
  unfold readyNow; repeat (first | (solve | simp [*]) | split | simp [*])

@[simp] theorem fenceOvPort_fix (k : Fin 6) (s : State) :
    (fenceOvPort k s).glb.straps = s.glb.straps ∧ (fenceOvPort k s).upd.keys = s.upd.keys := by
  unfold fenceOvPort; repeat (first | (solve | simp [*]) | split | simp [*])

@[simp] theorem fenceCart_fix (c : Fin 16) (s : State) :
    (fenceCart c s).glb.straps = s.glb.straps ∧ (fenceCart c s).upd.keys = s.upd.keys := by
  unfold fenceCart; repeat (first | (solve | simp [*]) | split | simp [*])

@[simp] theorem fenceUnit_fix (src : Nat) (sub : Nat) (s : State) :
    (fenceUnit src sub s).glb.straps = s.glb.straps ∧ (fenceUnit src sub s).upd.keys = s.upd.keys := by
  unfold fenceUnit; repeat (first | (solve | simp [*]) | split | simp [*])

@[simp] theorem portReset_fix (p : Fin 8) (s : State) :
    (portReset p s).glb.straps = s.glb.straps ∧ (portReset p s).upd.keys = s.upd.keys := by
  unfold portReset; repeat (first | (solve | simp [*]) | split | simp [*])

@[simp] theorem examineAll_fix (s : State) :
    (examineAll s).glb.straps = s.glb.straps ∧ (examineAll s).upd.keys = s.upd.keys := by
  unfold examineAll; repeat (first | (solve | simp [*]) | split | simp [*])

@[simp] theorem pairLinkCut_fix (s : State) :
    (pairLinkCut s).glb.straps = s.glb.straps ∧ (pairLinkCut s).upd.keys = s.upd.keys := by
  unfold pairLinkCut; repeat (first | (solve | simp [*]) | split | simp [*])

@[simp] theorem blockStart_fix (b : Block) (s : State) :
    (blockStart b s).glb.straps = s.glb.straps ∧ (blockStart b s).upd.keys = s.upd.keys := by
  unfold blockStart; repeat (first | (solve | simp [*]) | split | simp [*])

@[simp] theorem blockHold_fix (b : Block) (s : State) :
    (blockHold b s).glb.straps = s.glb.straps ∧ (blockHold b s).upd.keys = s.upd.keys := by
  unfold blockHold; repeat (first | (solve | simp [*]) | split | simp [*])

@[simp] theorem blockReset_fix (b : Block) (s : State) :
    (blockReset b s).glb.straps = s.glb.straps ∧ (blockReset b s).upd.keys = s.upd.keys := by
  unfold blockReset; repeat (first | (solve | simp [*]) | split | simp [*])

@[simp] theorem blockDone_fix (b : Block) (s : State) :
    (blockDone b s).glb.straps = s.glb.straps ∧ (blockDone b s).upd.keys = s.upd.keys := by
  unfold blockDone; repeat (first | (solve | simp [*]) | split | simp [*])

@[simp] theorem resetOutputs_fix (s : State) :
    (resetOutputs s).glb.straps = s.glb.straps ∧ (resetOutputs s).upd.keys = s.upd.keys := by
  unfold resetOutputs; repeat (first | (solve | simp [*]) | split | simp [*])

@[simp] theorem cresetFire_fix (src : Nat) (s : State) :
    (cresetFire src s).glb.straps = s.glb.straps ∧ (cresetFire src s).upd.keys = s.upd.keys := by
  unfold cresetFire; repeat (first | (solve | simp [*]) | split | simp [*])

@[simp] theorem domainVerdicts_fix (src : Nat) (sub : Nat) (s : State) :
    (domainVerdicts src sub s).glb.straps = s.glb.straps ∧ (domainVerdicts src sub s).upd.keys = s.upd.keys := by
  unfold domainVerdicts; repeat (first | (solve | simp [*]) | split | simp [*])

@[simp] theorem carryOut_fix (src : Nat) (sub : Nat) (e : Nat) (s : State) :
    (carryOut src sub e s).glb.straps = s.glb.straps ∧ (carryOut src sub e s).upd.keys = s.upd.keys := by
  unfold carryOut; repeat (first | (solve | simp [*]) | split | simp [*])

@[simp] theorem carryOutHere_fix (src : Nat) (sub : Nat) (e : Nat) (s : State) :
    (carryOutHere src sub e s).glb.straps = s.glb.straps ∧ (carryOutHere src sub e s).upd.keys = s.upd.keys := by
  unfold carryOutHere; repeat (first | (solve | simp [*]) | split | simp [*])

@[simp] theorem recordFiring_fix (n : Fin 192) (sub : Nat) (e : Nat) (cause : Nat) (s : State) :
    (recordFiring n sub e cause s).glb.straps = s.glb.straps ∧ (recordFiring n sub e cause s).upd.keys = s.upd.keys := by
  unfold recordFiring; repeat (first | (solve | simp [*]) | split | simp [*])

@[simp] theorem announceFiring_fix (n : Fin 192) (sub : Nat) (e : Nat) (cause : Nat) (s : State) :
    (announceFiring n sub e cause s).glb.straps = s.glb.straps ∧ (announceFiring n sub e cause s).upd.keys = s.upd.keys := by
  unfold announceFiring; repeat (first | (solve | simp [*]) | split | simp [*])

@[simp] theorem errFiring_fix (s : State) :
    (errFiring s).glb.straps = s.glb.straps ∧ (errFiring s).upd.keys = s.upd.keys := by
  unfold errFiring; repeat (first | (solve | simp [*]) | split | simp [*])

@[simp] theorem softReactions_fix (n : Fin 192) (sub : Nat) (e : Nat) (cause : Nat) (s : State) :
    (softReactions n sub e cause s).glb.straps = s.glb.straps ∧ (softReactions n sub e cause s).upd.keys = s.upd.keys := by
  unfold softReactions; repeat (first | (solve | simp [*]) | split | simp [*])

@[simp] theorem yieldGround_fix (n : Nat) (e : Nat) (s : State) :
    (yieldGround n e s).glb.straps = s.glb.straps ∧ (yieldGround n e s).upd.keys = s.upd.keys := by
  unfold yieldGround; repeat (first | (solve | simp [*]) | split | simp [*])

@[simp] theorem fireOne_fix (n : Fin 192) (sub : Nat) (s : State) :
    (fireOne n sub s).glb.straps = s.glb.straps ∧ (fireOne n sub s).upd.keys = s.upd.keys := by
  unfold fireOne; repeat (first | (solve | simp [*]) | split | simp [*])

@[simp] theorem drain_fix (a0 : Nat) (a1 : State) :
    (drain a0 a1).glb.straps = a1.glb.straps ∧ (drain a0 a1).upd.keys = a1.upd.keys := by
  induction a0 generalizing a1 with
  | zero => simp [drain]
  | succ n ih => unfold drain; repeat (first | (solve | simp [*]) | split | simp [*])

@[simp] theorem carryHeld_fix (s : State) :
    (carryHeld s).glb.straps = s.glb.straps ∧ (carryHeld s).upd.keys = s.upd.keys := by
  unfold carryHeld; repeat (first | (solve | simp [*]) | split | simp [*])

@[simp] theorem yieldBlock_fix (s : State) :
    (yieldBlock s).glb.straps = s.glb.straps ∧ (yieldBlock s).upd.keys = s.upd.keys := by
  unfold yieldBlock; repeat (first | (solve | simp [*]) | split | simp [*])

@[simp] theorem watchYield_fix (s : State) :
    (watchYield s).glb.straps = s.glb.straps ∧ (watchYield s).upd.keys = s.upd.keys := by
  unfold watchYield; repeat (first | (solve | simp [*]) | split | simp [*])

@[simp] theorem watchPg_fix (s : State) :
    (watchPg s).glb.straps = s.glb.straps ∧ (watchPg s).upd.keys = s.upd.keys := by
  unfold watchPg; repeat (first | (solve | simp [*]) | split | simp [*])

@[simp] theorem sendState_fix (s : State) :
    (sendState s).glb.straps = s.glb.straps ∧ (sendState s).upd.keys = s.upd.keys := by
  unfold sendState; repeat (first | (solve | simp [*]) | split | simp [*])

@[simp] theorem watchShared_fix (s : State) :
    (watchShared s).glb.straps = s.glb.straps ∧ (watchShared s).upd.keys = s.upd.keys := by
  unfold watchShared; repeat (first | (solve | simp [*]) | split | simp [*])

@[simp] theorem watchDegr_fix (s : State) :
    (watchDegr s).glb.straps = s.glb.straps ∧ (watchDegr s).upd.keys = s.upd.keys := by
  unfold watchDegr; repeat (first | (solve | simp [*]) | split | simp [*])

@[simp] theorem settle_fix (s : State) :
    (settle s).glb.straps = s.glb.straps ∧ (settle s).upd.keys = s.upd.keys := by
  unfold settle; repeat (first | (solve | simp [*]) | split | simp [*])

@[simp] theorem finish_fix (s : State) (t : State) :
    (finish s t).glb.straps = t.glb.straps ∧ (finish s t).upd.keys = t.upd.keys := by
  unfold finish; repeat (first | (solve | simp [*]) | split | simp [*])

@[simp] theorem egressAll_fix (s : State) :
    (egressAll s).glb.straps = s.glb.straps ∧ (egressAll s).upd.keys = s.upd.keys := by
  unfold egressAll; repeat (first | (solve | simp [*]) | split | simp [*])

@[simp] theorem State.elapse_fix (s : State) (n : Nat) :
    (State.elapse s n).glb.straps = s.glb.straps ∧ (State.elapse s n).upd.keys = s.upd.keys := by
  unfold State.elapse; repeat (first | (solve | simp [*]) | split | simp [*])

@[simp] theorem idleTick_fix (s : State) :
    (idleTick s).glb.straps = s.glb.straps ∧ (idleTick s).upd.keys = s.upd.keys := by
  unfold idleTick; repeat (first | (solve | simp [*]) | split | simp [*])

@[simp] theorem State.waitTill_fix (s : State) (d : Option Nat) :
    (State.waitTill s d).glb.straps = s.glb.straps ∧ (State.waitTill s d).upd.keys = s.upd.keys := by
  unfold State.waitTill; repeat (first | (solve | simp [*]) | split | simp [*])

@[simp] theorem State.waitG_fix (t : Nat) (a1 : Nat) (a2 : State) :
    (State.waitG t a1 a2).glb.straps = a2.glb.straps ∧ (State.waitG t a1 a2).upd.keys = a2.upd.keys := by
  induction a1 generalizing a2 with
  | zero => simp [State.waitG]
  | succ n ih => unfold State.waitG; repeat (first | (solve | simp [*]) | split | simp [*])

@[simp] theorem State.waitGlobal_fix (s : State) (d : Option Nat) :
    (State.waitGlobal s d).glb.straps = s.glb.straps ∧ (State.waitGlobal s d).upd.keys = s.upd.keys := by
  unfold State.waitGlobal; repeat (first | (solve | simp [*]) | split | simp [*])

@[simp] theorem State.tickJump_fix (s : State) (u : Nat) :
    (State.tickJump s u).glb.straps = s.glb.straps ∧ (State.tickJump s u).upd.keys = s.upd.keys := by
  unfold State.tickJump; repeat (first | (solve | simp [*]) | split | simp [*])

@[simp] theorem tickTo_fix (t : Nat) (a1 : Nat) (a2 : State) :
    (tickTo t a1 a2).glb.straps = a2.glb.straps ∧ (tickTo t a1 a2).upd.keys = a2.upd.keys := by
  induction a1 generalizing a2 with
  | zero => exact ⟨rfl, rfl⟩
  | succ n ih =>
    unfold tickTo
    split
    · exact ⟨rfl, rfl⟩
    · dsimp only
      have h := settle_fix (holdFollow (judgeTick (fwdTick (a2.tickJump (a2.verdictTick t)))))
      generalize settle (holdFollow (judgeTick (fwdTick (a2.tickJump (a2.verdictTick t))))) = x at h ⊢
      have e := ih { x with ev := { x.ev with fireQ := [] } }
      simp only [holdFollow_fix, judgeTick_fix, fwdTick_fix, State.tickJump_fix] at h
      exact ⟨e.1.trans h.1, e.2.trans h.2⟩

@[simp] theorem snapLead_fix (s : State) :
    (snapLead s).2.glb.straps = s.glb.straps ∧ (snapLead s).2.upd.keys = s.upd.keys := by
  unfold snapLead; repeat (first | (solve | simp [*]) | split | simp [*])

@[simp] theorem ovHostEnum_fix (s : State) :
    (ovHostEnum s).glb.straps = s.glb.straps ∧ (ovHostEnum s).upd.keys = s.upd.keys := by
  unfold ovHostEnum; repeat (first | (solve | simp [*]) | split | simp [*])

@[simp] theorem ovHostBarrier_fix (s : State) :
    (ovHostBarrier s).glb.straps = s.glb.straps ∧ (ovHostBarrier s).upd.keys = s.upd.keys := by
  unfold ovHostBarrier; repeat (first | (solve | simp [*]) | split | simp [*])

@[simp] theorem ovHostSnap_fix (s : State) :
    (ovHostSnap s).glb.straps = s.glb.straps ∧ (ovHostSnap s).upd.keys = s.upd.keys := by
  unfold ovHostSnap; repeat (first | (solve | simp [*]) | split | simp [*])

@[simp] theorem ovHostReset_fix (s : State) :
    (ovHostReset s).glb.straps = s.glb.straps ∧ (ovHostReset s).upd.keys = s.upd.keys := by
  unfold ovHostReset; repeat (first | (solve | simp [*]) | split | simp [*])

@[simp] theorem ovHostReroute_fix (s : State) :
    (ovHostReroute s).glb.straps = s.glb.straps ∧ (ovHostReroute s).upd.keys = s.upd.keys := by
  unfold ovHostReroute; repeat (first | (solve | simp [*]) | split | simp [*])

@[simp] theorem ovHostReturn_fix (s : State) :
    (ovHostReturn s).glb.straps = s.glb.straps ∧ (ovHostReturn s).upd.keys = s.upd.keys := by
  unfold ovHostReturn; repeat (first | (solve | simp [*]) | split | simp [*])

@[simp] theorem ovHostReclaim_fix (s : State) :
    (ovHostReclaim s).glb.straps = s.glb.straps ∧ (ovHostReclaim s).upd.keys = s.upd.keys := by
  unfold ovHostReclaim; repeat (first | (solve | simp [*]) | split | simp [*])

@[simp] theorem ovGo_fix (s : State) :
    (ovGo s).glb.straps = s.glb.straps ∧ (ovGo s).upd.keys = s.upd.keys := by
  unfold ovGo; repeat (first | (solve | simp [*]) | split | simp [*])

@[simp] theorem txnTimeout_fix (tag : Nat) (s : State) :
    (txnTimeout tag s).glb.straps = s.glb.straps ∧ (txnTimeout tag s).upd.keys = s.upd.keys := by
  unfold txnTimeout; repeat (first | (solve | simp [*]) | split | simp [*])

@[simp] theorem markTimer_fix (s : State) :
    (markTimer s).glb.straps = s.glb.straps ∧ (markTimer s).upd.keys = s.upd.keys := by
  unfold markTimer; repeat (first | (solve | simp [*]) | split | simp [*])

@[simp] theorem timeHold_fix (s : State) :
    (timeHold s).glb.straps = s.glb.straps ∧ (timeHold s).upd.keys = s.upd.keys := by
  unfold timeHold; repeat (first | (solve | simp [*]) | split | simp [*])

@[simp] theorem barrierTimeout_fix (s : State) :
    (barrierTimeout s).glb.straps = s.glb.straps ∧ (barrierTimeout s).upd.keys = s.upd.keys := by
  unfold barrierTimeout; repeat (first | (solve | simp [*]) | split | simp [*])

@[simp] theorem snapCapture_fix (s : State) :
    (snapCapture s).glb.straps = s.glb.straps ∧ (snapCapture s).upd.keys = s.upd.keys := by
  unfold snapCapture; repeat (first | (solve | simp [*]) | split | simp [*])

@[simp] theorem autoReroute_fix (s : State) :
    (autoReroute s).glb.straps = s.glb.straps ∧ (autoReroute s).upd.keys = s.upd.keys := by
  unfold autoReroute; repeat (first | (solve | simp [*]) | split | simp [*])

@[simp] theorem deputyTakeover_fix (s : State) :
    (deputyTakeover s).glb.straps = s.glb.straps ∧ (deputyTakeover s).upd.keys = s.upd.keys := by
  unfold deputyTakeover; repeat (first | (solve | simp [*]) | split | simp [*])

@[simp] theorem parkPort_fix (k : Fin 6) (s : State) :
    (parkPort k s).glb.straps = s.glb.straps ∧ (parkPort k s).upd.keys = s.upd.keys := by
  unfold parkPort; repeat (first | (solve | simp [*]) | split | simp [*])

@[simp] theorem countTimeout_fix (s : State) :
    (countTimeout s).glb.straps = s.glb.straps ∧ (countTimeout s).upd.keys = s.upd.keys := by
  unfold countTimeout; repeat (first | (solve | simp [*]) | split | simp [*])

@[simp] theorem timeSet_fix (v : Nat) (s : State) :
    (timeSet v s).glb.straps = s.glb.straps ∧ (timeSet v s).upd.keys = s.upd.keys := by
  unfold timeSet; repeat (first | (solve | simp [*]) | split | simp [*])

@[simp] theorem twinRefuse_fix (s : State) :
    (twinRefuse s).glb.straps = s.glb.straps ∧ (twinRefuse s).upd.keys = s.upd.keys := by
  unfold twinRefuse; repeat (first | (solve | simp [*]) | split | simp [*])

@[simp] theorem asActive_fix (f : State → State) (s : State) (hf : ∀ (t : State), (f t).glb.straps = t.glb.straps ∧ (f t).upd.keys = t.upd.keys) :
    (asActive f s).glb.straps = s.glb.straps ∧ (asActive f s).upd.keys = s.upd.keys := by
  unfold asActive; repeat (first | (solve | simp [*]) | split | simp [*])

@[simp] theorem applyTrim_fix (a : Nat) (v : Nat) (s : State) :
    (applyTrim a v s).glb.straps = s.glb.straps ∧ (applyTrim a v s).upd.keys = s.upd.keys := by
  unfold applyTrim; repeat (first | (solve | simp [*]) | split | simp [*])

@[simp] theorem updLock_fix (p : Path) (f : LockPath → LockPath) (s : State) :
    (updLock p f s).glb.straps = s.glb.straps ∧ (updLock p f s).upd.keys = s.upd.keys := by
  unfold updLock; repeat (first | (solve | simp [*]) | split | simp [*])

@[simp] theorem trimWrite_fix (p : Path) (a : Nat) (v : Nat) (s : State) :
    (trimWrite p a v s).glb.straps = s.glb.straps ∧ (trimWrite p a v s).upd.keys = s.upd.keys := by
  unfold trimWrite; repeat (first | (solve | simp [*]) | split | simp [*])

@[simp] theorem breakLock_fix (p : Path) (s : State) :
    (breakLock p s).glb.straps = s.glb.straps ∧ (breakLock p s).upd.keys = s.upd.keys := by
  unfold breakLock; repeat (first | (solve | simp [*]) | split | simp [*])

@[simp] theorem unlockWrite_fix (p : Path) (v : Nat) (s : State) :
    (unlockWrite p v s).glb.straps = s.glb.straps ∧ (unlockWrite p v s).upd.keys = s.upd.keys := by
  unfold unlockWrite; repeat (first | (solve | simp [*]) | split | simp [*])

@[simp] theorem disarmDue_fix (ov : Bool) (s : State) :
    (disarmDue ov s).glb.straps = s.glb.straps ∧ (disarmDue ov s).upd.keys = s.upd.keys := by
  unfold disarmDue; repeat (first | (solve | simp [*]) | split | simp [*])

@[simp] theorem idleLockDue_fix (ov : Bool) (s : State) :
    (idleLockDue ov s).glb.straps = s.glb.straps ∧ (idleLockDue ov s).upd.keys = s.upd.keys := by
  unfold idleLockDue; repeat (first | (solve | simp [*]) | split | simp [*])

@[simp] theorem pairRefuse_fix (s : State) :
    (pairRefuse s).glb.straps = s.glb.straps ∧ (pairRefuse s).upd.keys = s.upd.keys := by
  unfold pairRefuse; repeat (first | (solve | simp [*]) | split | simp [*])

@[simp] theorem pairHostYield_fix (s : State) :
    (pairHostYield s).glb.straps = s.glb.straps ∧ (pairHostYield s).upd.keys = s.upd.keys := by
  unfold pairHostYield; repeat (first | (solve | simp [*]) | split | simp [*])

@[simp] theorem pairHostTake_fix (s : State) :
    (pairHostTake s).glb.straps = s.glb.straps ∧ (pairHostTake s).upd.keys = s.upd.keys := by
  unfold pairHostTake; repeat (first | (solve | simp [*]) | split | simp [*])

@[simp] theorem updRefuse_fix (s : State) :
    (updRefuse s).glb.straps = s.glb.straps ∧ (updRefuse s).upd.keys = s.upd.keys := by
  unfold updRefuse; repeat (first | (solve | simp [*]) | split | simp [*])

@[simp] theorem updTry_fix (r : Nat × State) :
    (updTry r).glb.straps = (r.2).glb.straps ∧ (updTry r).upd.keys = (r.2).upd.keys := by
  unfold updTry; repeat (first | (solve | simp [*]) | split | simp [*])

@[simp] theorem updHostActivate_fix (s : State) :
    (updHostActivate s).glb.straps = s.glb.straps ∧ (updHostActivate s).upd.keys = s.upd.keys := by
  unfold updHostActivate; repeat (first | (solve | simp [*]) | split | simp [*])

@[simp] theorem cancelNow_fix (s : State) :
    (cancelNow s).glb.straps = s.glb.straps ∧ (cancelNow s).upd.keys = s.upd.keys := by
  unfold cancelNow; repeat (first | (solve | simp [*]) | split | simp [*])

@[simp] theorem updHostRevert_fix (s : State) :
    (updHostRevert s).glb.straps = s.glb.straps ∧ (updHostRevert s).upd.keys = s.upd.keys := by
  unfold updHostRevert; repeat (first | (solve | simp [*]) | split | simp [*])

@[simp] theorem evRefuse_fix (s : State) :
    (evRefuse s).glb.straps = s.glb.straps ∧ (evRefuse s).upd.keys = s.upd.keys := by
  unfold evRefuse; repeat (first | (solve | simp [*]) | split | simp [*])

@[simp] theorem faultnClr_fix (s : State) :
    (faultnClr s).glb.straps = s.glb.straps ∧ (faultnClr s).upd.keys = s.upd.keys := by
  unfold faultnClr; repeat (first | (solve | simp [*]) | split | simp [*])

@[simp] theorem unfenceUnit_fix (src : Nat) (sub : Nat) (s : State) :
    (unfenceUnit src sub s).glb.straps = s.glb.straps ∧ (unfenceUnit src sub s).upd.keys = s.upd.keys := by
  unfold unfenceUnit; repeat (first | (solve | simp [*]) | split | simp [*])

@[simp] theorem evUnfence_fix (p : Path) (s : State) :
    (evUnfence p s).glb.straps = s.glb.straps ∧ (evUnfence p s).upd.keys = s.upd.keys := by
  unfold evUnfence; repeat (first | (solve | simp [*]) | split | simp [*])

@[simp] theorem talliesClear_fix (s : State) :
    (talliesClear s).glb.straps = s.glb.straps ∧ (talliesClear s).upd.keys = s.upd.keys := by
  unfold talliesClear; repeat (first | (solve | simp [*]) | split | simp [*])

@[simp] theorem wPhase_fix (p : Path) (n : Fin 64) (a : Nat) (v : Nat) (s : State) :
    (wPhase p n a v s).glb.straps = s.glb.straps ∧ (wPhase p n a v s).upd.keys = s.upd.keys := by
  unfold wPhase; repeat (first | (solve | simp [*]) | split | simp [*])

@[simp] theorem noshedWrite_fix (r : Fin 24) (a : Nat) (on : Bool) (s : State) :
    (noshedWrite r a on s).glb.straps = s.glb.straps ∧ (noshedWrite r a on s).upd.keys = s.upd.keys := by
  unfold noshedWrite; repeat (first | (solve | simp [*]) | split | simp [*])

@[simp] theorem wRail_fix (p : Path) (r : Fin 24) (a : Nat) (v : Nat) (s : State) :
    (wRail p r a v s).glb.straps = s.glb.straps ∧ (wRail p r a v s).upd.keys = s.upd.keys := by
  unfold wRail; repeat (first | (solve | simp [*]) | split | simp [*])

@[simp] theorem wPort_fix (p : Fin 8) (a : Nat) (v : Nat) (s : State) :
    (wPort p a v s).glb.straps = s.glb.straps ∧ (wPort p a v s).upd.keys = s.upd.keys := by
  unfold wPort; repeat (first | (solve | simp [*]) | split | simp [*])

@[simp] theorem domStrobe_fix (d : Fin 8) (f : State → State) (s : State) (hf : ∀ (t : State), (f t).glb.straps = t.glb.straps ∧ (f t).upd.keys = t.upd.keys) :
    (domStrobe d f s).glb.straps = s.glb.straps ∧ (domStrobe d f s).upd.keys = s.upd.keys := by
  unfold domStrobe; repeat (first | (solve | simp [*]) | split | simp [*])

@[simp] theorem wDom_fix (d : Fin 8) (a : Nat) (v : Nat) (s : State) :
    (wDom d a v s).glb.straps = s.glb.straps ∧ (wDom d a v s).upd.keys = s.upd.keys := by
  unfold wDom; repeat (first | (solve | simp [*]) | split | simp [*])

@[simp] theorem wmKeep_fix (m : Fin 96) (v : Nat) (s : State) :
    (wmKeep m v s).glb.straps = s.glb.straps ∧ (wmKeep m v s).upd.keys = s.upd.keys := by
  unfold wmKeep; repeat (first | (solve | simp [*]) | split | simp [*])

@[simp] theorem wmSelftest_fix (m : Fin 96) (v : Nat) (s : State) :
    (wmSelftest m v s).glb.straps = s.glb.straps ∧ (wmSelftest m v s).upd.keys = s.upd.keys := by
  unfold wmSelftest; repeat (first | (solve | simp [*]) | split | simp [*])

@[simp] theorem wMon_fix (p : Path) (m : Fin 96) (a : Nat) (v : Nat) (s : State) :
    (wMon p m a v s).glb.straps = s.glb.straps ∧ (wMon p m a v s).upd.keys = s.upd.keys := by
  unfold wMon; repeat (first | (solve | simp [*]) | split | simp [*])

@[simp] theorem wCt_fix (p : Path) (t : Fin 16) (a : Nat) (v : Nat) (s : State) :
    (wCt p t a v s).glb.straps = s.glb.straps ∧ (wCt p t a v s).upd.keys = s.upd.keys := by
  unfold wCt; repeat (first | (solve | simp [*]) | split | simp [*])

@[simp] theorem winDrop_fix (pat : Bool) (s : State) :
    (winDrop pat s).glb.straps = s.glb.straps ∧ (winDrop pat s).upd.keys = s.upd.keys := by
  unfold winDrop; repeat (first | (solve | simp [*]) | split | simp [*])

@[simp] theorem wGlobal_fix (a : Nat) (v : Nat) (s : State) :
    (wGlobal a v s).glb.straps = s.glb.straps ∧ (wGlobal a v s).upd.keys = s.upd.keys := by
  unfold wGlobal; repeat (first | (solve | simp [*]) | split | simp [*])

@[simp] theorem evSixteen_fix (i : Nat) (f : Nat → EvSource → EvSource) (s : State) :
    (evSixteen i f s).glb.straps = s.glb.straps ∧ (evSixteen i f s).upd.keys = s.upd.keys := by
  unfold evSixteen; repeat (first | (solve | simp [*]) | split | simp [*])

@[simp] theorem wEvent_fix (p : Path) (a : Nat) (v : Nat) (s : State) :
    (wEvent p a v s).glb.straps = s.glb.straps ∧ (wEvent p a v s).upd.keys = s.upd.keys := by
  unfold wEvent; split
  · simp
  · split
    · simp
    · split
      · simp
      · rw [(strobes_fix _ _ _ ?_).1, (strobes_fix _ _ _ ?_).2]
        · simp
        all_goals
          intro x hx t
          simp only [List.mem_cons, List.not_mem_nil, or_false] at hx
          rcases hx with rfl | rfl | rfl | rfl | rfl <;> first | (simp; done) | (dsimp only; split <;> simp)
      · simp

@[simp] theorem wHk_fix (p : Path) (a : Nat) (v : Nat) (s : State) :
    (wHk p a v s).glb.straps = s.glb.straps ∧ (wHk p a v s).upd.keys = s.upd.keys := by
  unfold wHk; repeat (first | (solve | simp [*]) | split | simp [*])

@[simp] theorem capWrite_fix (v : Nat) (s : State) :
    (capWrite v s).glb.straps = s.glb.straps ∧ (capWrite v s).upd.keys = s.upd.keys := by
  unfold capWrite; repeat (first | (solve | simp [*]) | split | simp [*])

@[simp] theorem wHu_fix (a : Nat) (v : Nat) (s : State) :
    (wHu a v s).glb.straps = s.glb.straps ∧ (wHu a v s).upd.keys = s.upd.keys := by
  unfold wHu; repeat (first | (solve | simp [*]) | split | simp [*])

@[simp] theorem wPair_fix (a : Nat) (v : Nat) (s : State) :
    (wPair a v s).glb.straps = s.glb.straps ∧ (wPair a v s).upd.keys = s.upd.keys := by
  unfold wPair; repeat (first | (solve | simp [*]) | split | simp [*])

@[simp] theorem ovSelWrite_fix (f : OvPort → OvPort) (s : State) :
    (ovSelWrite f s).glb.straps = s.glb.straps ∧ (ovSelWrite f s).upd.keys = s.upd.keys := by
  unfold ovSelWrite; repeat (first | (solve | simp [*]) | split | simp [*])

@[simp] theorem wOv_fix (a : Nat) (v : Nat) (s : State) :
    (wOv a v s).glb.straps = s.glb.straps ∧ (wOv a v s).upd.keys = s.upd.keys := by
  unfold wOv; repeat (first | (solve | simp [*]) | split | simp [*])

@[simp] theorem busRecover_fix (n : Nat) (s : State) :
    (busRecover n s).glb.straps = s.glb.straps ∧ (busRecover n s).upd.keys = s.upd.keys := by
  unfold busRecover; repeat (first | (solve | simp [*]) | split | simp [*])

@[simp] theorem hostRecover_fix (s : State) :
    (hostRecover s).glb.straps = s.glb.straps ∧ (hostRecover s).upd.keys = s.upd.keys := by
  unfold hostRecover; repeat (first | (solve | simp [*]) | split | simp [*])

@[simp] theorem wService_fix (a : Nat) (v : Nat) (s : State) :
    (wService a v s).glb.straps = s.glb.straps ∧ (wService a v s).upd.keys = s.upd.keys := by
  unfold wService; repeat (first | (solve | simp [*]) | split | simp [*])

@[simp] theorem regAct_fix (p : Path) (a : Nat) (v : Nat) (s : State) :
    (regAct p a v s).glb.straps = s.glb.straps ∧ (regAct p a v s).upd.keys = s.upd.keys := by
  unfold regAct; repeat (first | (solve | simp [*]) | split | simp [*])

@[simp] theorem wideAct_fix (a : Nat) (v : Nat) (s : State) :
    (wideAct a v s).glb.straps = s.glb.straps ∧ (wideAct a v s).upd.keys = s.upd.keys := by
  unfold wideAct; repeat (first | (solve | simp [*]) | split | simp [*])

@[simp] theorem disarm_fix (p : Path) (a : Nat) (s : State) :
    (disarm p a s).glb.straps = s.glb.straps ∧ (disarm p a s).upd.keys = s.upd.keys := by
  unfold disarm; repeat (first | (solve | simp [*]) | split | simp [*])

@[simp] theorem writeUnit_fix (p : Path) (a : Nat) (n : Nat) (v : Nat) (s : State) :
    (writeUnit p a n v s).2.glb.straps = s.glb.straps ∧ (writeUnit p a n v s).2.upd.keys = s.upd.keys := by
  unfold writeUnit; repeat (first | (solve | simp [*]) | split | simp [*])

@[simp] theorem burst_fix (p : Path) (a1 : Nat) (a2 : List Byte) (a3 : List Byte) (a4 : State) :
    (burst p a1 a2 a3 a4).2.2.2.glb.straps = a4.glb.straps ∧ (burst p a1 a2 a3 a4).2.2.2.upd.keys = a4.upd.keys := by
  induction a3 generalizing a1 a2 a4 with
  | nil => simp [burst]
  | cons b l ih =>
    unfold burst
    dsimp only
    split
    · simp
    · generalize (if a1 = (unitAt a1).1 then [b] else if (a2.length == a1 - (unitAt a1).1 && !a2.isEmpty) = true then a2 ++ [b] else []) = g
      split <;> simp [ih]

@[simp] theorem nackBusy_fix (s : State) :
    (nackBusy s).glb.straps = s.glb.straps ∧ (nackBusy s).upd.keys = s.upd.keys := by
  unfold nackBusy; repeat (first | (solve | simp [*]) | split | simp [*])

@[simp] theorem hostStop_fix (s : State) :
    (hostStop s).glb.straps = s.glb.straps ∧ (hostStop s).upd.keys = s.upd.keys := by
  unfold hostStop; repeat (first | (solve | simp [*]) | split | simp [*])

@[simp] theorem hostNack_fix (s : State) :
    (hostNack s).glb.straps = s.glb.straps ∧ (hostNack s).upd.keys = s.upd.keys := by
  unfold hostNack; repeat (first | (solve | simp [*]) | split | simp [*])

@[simp] theorem wantAt_fix (a : Nat) (s : State) :
    (wantAt a s).glb.straps = s.glb.straps ∧ (wantAt a s).upd.keys = s.upd.keys := by
  unfold wantAt; repeat (first | (solve | simp [*]) | split | simp [*])

@[simp] theorem setPtr_fix (a : Nat) (s : State) :
    (setPtr a s).glb.straps = s.glb.straps ∧ (setPtr a s).upd.keys = s.upd.keys := by
  unfold setPtr; repeat (first | (solve | simp [*]) | split | simp [*])

@[simp] theorem badPtr_fix (s : State) :
    (badPtr s).glb.straps = s.glb.straps ∧ (badPtr s).upd.keys = s.upd.keys := by
  unfold badPtr; repeat (first | (solve | simp [*]) | split | simp [*])

@[simp] theorem hostBurst_fix (a : Nat) (bs : List Byte) (s : State) :
    (hostBurst a bs s).glb.straps = s.glb.straps ∧ (hostBurst a bs s).upd.keys = s.upd.keys := by
  unfold hostBurst; repeat (first | (solve | simp [*]) | split | simp [*])

@[simp] theorem hostWrite_fix (a : Nat) (v : Nat) (s : State) :
    (hostWrite a v s).glb.straps = s.glb.straps ∧ (hostWrite a v s).upd.keys = s.upd.keys := by
  unfold hostWrite; repeat (first | (solve | simp [*]) | split | simp [*])

@[simp] theorem hostStrobe_fix (a : Nat) (bits : Nat) (s : State) :
    (hostStrobe a bits s).glb.straps = s.glb.straps ∧ (hostStrobe a bits s).upd.keys = s.upd.keys := by
  unfold hostStrobe; repeat (first | (solve | simp [*]) | split | simp [*])

@[simp] theorem hostField_fix (a : Nat) (m : Nat) (v : Nat) (s : State) :
    (hostField a m v s).glb.straps = s.glb.straps ∧ (hostField a m v s).upd.keys = s.upd.keys := by
  unfold hostField; repeat (first | (solve | simp [*]) | split | simp [*])

@[simp] theorem readMark_fix (base : Nat) (s : State) :
    (readMark base s).glb.straps = s.glb.straps ∧ (readMark base s).upd.keys = s.upd.keys := by
  unfold readMark; repeat (first | (solve | simp [*]) | split | simp [*])

@[simp] theorem takeSnap_fix (base : Nat) (s : State) :
    (takeSnap base s).glb.straps = s.glb.straps ∧ (takeSnap base s).upd.keys = s.upd.keys := by
  unfold takeSnap; repeat (first | (solve | simp [*]) | split | simp [*])

@[simp] theorem readByte_fix (a : Nat) (s : State) :
    (readByte a s).2.glb.straps = s.glb.straps ∧ (readByte a s).2.upd.keys = s.upd.keys := by
  unfold readByte; repeat (first | (solve | simp [*]) | split | simp [*])

@[simp] theorem readBytes_fix (a0 : Nat) (a1 : Nat) (a2 : State) :
    (readBytes a0 a1 a2).2.glb.straps = a2.glb.straps ∧ (readBytes a0 a1 a2).2.upd.keys = a2.upd.keys := by
  induction a1 generalizing a0 a2 with
  | zero => simp [readBytes]
  | succ n ih =>
    unfold readBytes
    split
    · simp
    · split
      · simp
      · rename_i b t hb
        have h := readByte_fix a0 a2
        rw [hb] at h
        simpa [ih] using h

@[simp] theorem hostRead_fix (a : Nat) (n : Nat) (s : State) :
    (hostRead a n s).glb.straps = s.glb.straps ∧ (hostRead a n s).upd.keys = s.upd.keys := by
  unfold hostRead; repeat (first | (solve | simp [*]) | split | simp [*])

@[simp] theorem hostPointer_fix (p : PtrBytes) (n : Nat) (s : State) :
    (hostPointer p n s).glb.straps = s.glb.straps ∧ (hostPointer p n s).upd.keys = s.upd.keys := by
  unfold hostPointer; repeat (first | (solve | simp [*]) | split | simp [*])

@[simp] theorem spaceFetch_fix (space : Nat) (o : Nat) (s : State) :
    (spaceFetch space o s).glb.straps = s.glb.straps ∧ (spaceFetch space o s).upd.keys = s.upd.keys := by
  unfold spaceFetch; repeat (first | (solve | simp [*]) | split | simp [*])

@[simp] theorem lineFetch_fix (pat : Bool) (line : Nat) (s : State) :
    (lineFetch pat line s).glb.straps = s.glb.straps ∧ (lineFetch pat line s).upd.keys = s.upd.keys := by
  unfold lineFetch; repeat (first | (solve | simp [*]) | split | simp [*])

@[simp] theorem recoverDue_fix (pulses : Nat) (s : State) :
    (recoverDue pulses s).glb.straps = s.glb.straps ∧ (recoverDue pulses s).upd.keys = s.upd.keys := by
  unfold recoverDue; repeat (first | (solve | simp [*]) | split | simp [*])

@[simp] theorem recoverRow_fix (pulses : Nat) (s : State) :
    (recoverRow pulses s).glb.straps = s.glb.straps ∧ (recoverRow pulses s).upd.keys = s.upd.keys := by
  unfold recoverRow; repeat (first | (solve | simp [*]) | split | simp [*])

@[simp] theorem attnPop_fix (s : State) :
    (attnPop s).glb.straps = s.glb.straps ∧ (attnPop s).upd.keys = s.upd.keys := by
  unfold attnPop; repeat (first | (solve | simp [*]) | split | simp [*])

@[simp] theorem attnFail_fix (a : AttnRec) (s : State) :
    (attnFail a s).glb.straps = s.glb.straps ∧ (attnFail a s).upd.keys = s.upd.keys := by
  unfold attnFail; repeat (first | (solve | simp [*]) | split | simp [*])

@[simp] theorem attnResult_fix (res : AttnResult) (a : AttnRec) (s : State) :
    (attnResult res a s).glb.straps = s.glb.straps ∧ (attnResult res a s).upd.keys = s.upd.keys := by
  unfold attnResult; repeat (first | (solve | simp [*]) | split | simp [*])

@[simp] theorem attnEnd_fix (res : AttnResult) (s : State) :
    (attnEnd res s).glb.straps = s.glb.straps ∧ (attnEnd res s).upd.keys = s.upd.keys := by
  unfold attnEnd; repeat (first | (solve | simp [*]) | split | simp [*])

@[simp] theorem lowTimeout_fix (l : BusLine) (s : State) :
    (lowTimeout l s).glb.straps = s.glb.straps ∧ (lowTimeout l s).upd.keys = s.upd.keys := by
  unfold lowTimeout; repeat (first | (solve | simp [*]) | split | simp [*])

@[simp] theorem attnTry_fix (res : AttnResult) (s : State) :
    (attnTry res s).glb.straps = s.glb.straps ∧ (attnTry res s).upd.keys = s.upd.keys := by
  unfold attnTry; repeat (first | (solve | simp [*]) | split | simp [*])

@[simp] theorem backoffEnd_fix (s : State) :
    (backoffEnd s).glb.straps = s.glb.straps ∧ (backoffEnd s).upd.keys = s.upd.keys := by
  unfold backoffEnd; repeat (first | (solve | simp [*]) | split | simp [*])

@[simp] theorem remoteBytes_fix (a0 : Nat) (a1 : Nat) (a2 : State) :
    (remoteBytes a0 a1 a2).2.glb.straps = a2.glb.straps ∧ (remoteBytes a0 a1 a2).2.upd.keys = a2.upd.keys := by
  induction a1 generalizing a0 a2 with
  | zero => simp [remoteBytes]
  | succ n ih => unfold remoteBytes; repeat (first | (solve | simp [*]) | split | simp [*])

@[simp] theorem remoteFetch_fix (a : Nat) (n : Nat) (s : State) :
    (remoteFetch a n s).2.glb.straps = s.glb.straps ∧ (remoteFetch a n s).2.upd.keys = s.upd.keys := by
  unfold remoteFetch; repeat (first | (solve | simp [*]) | split | simp [*])

@[simp] theorem remoteRead_fix (a : Nat) (n : Nat) (s : State) :
    (remoteRead a n s).2.2.glb.straps = s.glb.straps ∧ (remoteRead a n s).2.2.upd.keys = s.upd.keys := by
  unfold remoteRead; repeat (first | (solve | simp [*]) | split | simp [*])

@[simp] theorem remoteWrite_fix (who : BitVec 18) (a : Nat) (data : List Byte) (s : State) :
    (remoteWrite who a data s).2.glb.straps = s.glb.straps ∧ (remoteWrite who a data s).2.upd.keys = s.upd.keys := by
  unfold remoteWrite; repeat (first | (solve | simp [*]) | split | simp [*])

@[simp] theorem answer_fix (h : OvHdr) (status : Nat) (data : List Byte) (s : State) :
    (answer h status data s).glb.straps = s.glb.straps ∧ (answer h status data s).upd.keys = s.upd.keys := by
  unfold answer; repeat (first | (solve | simp [*]) | split | simp [*])

@[simp] theorem deputyYields_fix (src : Nat) (s : State) :
    (deputyYields src s).glb.straps = s.glb.straps ∧ (deputyYields src s).upd.keys = s.upd.keys := by
  unfold deputyYields; repeat (first | (solve | simp [*]) | split | simp [*])

@[simp] theorem roleIn_fix (k : Fin 6) (h : OvHdr) (acting : Bool) (s : State) :
    (roleIn k h acting s).glb.straps = s.glb.straps ∧ (roleIn k h acting s).upd.keys = s.upd.keys := by
  unfold roleIn; repeat (first | (solve | simp [*]) | split | simp [*])

@[simp] theorem imgIn_fix (imgId : Nat) (ofs : Nat) (data : List Byte) (s : State) :
    (imgIn imgId ofs data s).glb.straps = s.glb.straps ∧ (imgIn imgId ofs data s).upd.keys = s.upd.keys := by
  unfold imgIn; repeat (first | (solve | simp [*]) | split | simp [*])

@[simp] theorem serveMsg_fix (m : OvMsg) (s : State) :
    (serveMsg m s).glb.straps = s.glb.straps ∧ (serveMsg m s).upd.keys = s.upd.keys := by
  unfold serveMsg; repeat (first | (solve | simp [*]) | split | simp [*])

@[simp] theorem serveLoop_fix (a0 : Nat) (a1 : State) :
    (serveLoop a0 a1).glb.straps = a1.glb.straps ∧ (serveLoop a0 a1).upd.keys = a1.upd.keys := by
  induction a0 generalizing a1 with
  | zero => simp [serveLoop]
  | succ n ih => unfold serveLoop; repeat (first | (solve | simp [*]) | split | simp [*])

@[simp] theorem serveWaiting_fix (s : State) :
    (serveWaiting s).glb.straps = s.glb.straps ∧ (serveWaiting s).upd.keys = s.upd.keys := by
  unfold serveWaiting; repeat (first | (solve | simp [*]) | split | simp [*])

@[simp] theorem takeMsg_fix (k : Fin 6) (cls : Nat) (h : OvHdr) (m : OvMsg) (s : State) :
    (takeMsg k cls h m s).glb.straps = s.glb.straps ∧ (takeMsg k cls h m s).upd.keys = s.upd.keys := by
  unfold takeMsg; repeat (first | (solve | simp [*]) | split | simp [*])

@[simp] theorem onFrame_fix (rootOnly : Bool) (k : Fin 6) (e : FrameEnd) (cls : Nat) (ty : Nat) (h : OvHdr) (pl : List Byte) (act : State → State) (s : State) (hact : ∀ (t : State), (act t).glb.straps = t.glb.straps ∧ (act t).upd.keys = t.upd.keys) :
    (onFrame rootOnly k e cls ty h pl act s).glb.straps = s.glb.straps ∧ (onFrame rootOnly k e cls ty h pl act s).upd.keys = s.upd.keys := by
  unfold onFrame; repeat (first | (solve | simp [*]) | split | simp [*])

@[simp] theorem onLink_fix (k : Fin 6) (e : FrameEnd) (h : OvHdr) (m : OvMsg) (s : State) :
    (onLink k e h m s).glb.straps = s.glb.straps ∧ (onLink k e h m s).upd.keys = s.upd.keys := by
  unfold onLink; repeat (first | (solve | simp [*]) | split | simp [*])

@[simp] theorem rdFrame_fix (k : Fin 6) (e : FrameEnd) (h : OvHdr) (addr : Nat) (count : Nat) (s : State) :
    (rdFrame k e h addr count s).glb.straps = s.glb.straps ∧ (rdFrame k e h addr count s).upd.keys = s.upd.keys := by
  unfold rdFrame; repeat (first | (solve | simp [*]) | split | simp [*])

@[simp] theorem wrFrame_fix (k : Fin 6) (e : FrameEnd) (h : OvHdr) (addr : Nat) (data : List Byte) (s : State) :
    (wrFrame k e h addr data s).glb.straps = s.glb.straps ∧ (wrFrame k e h addr data s).upd.keys = s.upd.keys := by
  unfold wrFrame; repeat (first | (solve | simp [*]) | split | simp [*])

@[simp] theorem respIn_fix (k : Fin 6) (e : FrameEnd) (h : OvHdr) (status : Nat) (data : List Byte) (s : State) :
    (respIn k e h status data s).glb.straps = s.glb.straps ∧ (respIn k e h status data s).upd.keys = s.upd.keys := by
  unfold respIn; repeat (first | (solve | simp [*]) | split | simp [*])

@[simp] theorem timeIn_fix (k : Fin 6) (e : FrameEnd) (h : OvHdr) (mark : Nat) (markMs : Nat) (time : Nat) (s : State) :
    (timeIn k e h mark markMs time s).glb.straps = s.glb.straps ∧ (timeIn k e h mark markMs time s).upd.keys = s.upd.keys := by
  unfold timeIn; repeat (first | (solve | simp [*]) | split | simp [*])

@[simp] theorem shareIn_fix (k : Fin 6) (e : FrameEnd) (h : OvHdr) (v : Nat) (s : State) :
    (shareIn k e h v s).glb.straps = s.glb.straps ∧ (shareIn k e h v s).upd.keys = s.upd.keys := by
  unfold shareIn; repeat (first | (solve | simp [*]) | split | simp [*])

@[simp] theorem capIn_fix (k : Fin 6) (e : FrameEnd) (h : OvHdr) (v : Nat) (s : State) :
    (capIn k e h v s).glb.straps = s.glb.straps ∧ (capIn k e h v s).upd.keys = s.upd.keys := by
  unfold capIn; repeat (first | (solve | simp [*]) | split | simp [*])

@[simp] theorem activateIn_fix (k : Fin 6) (e : FrameEnd) (h : OvHdr) (a : ActivateCmd) (s : State) :
    (activateIn k e h a s).glb.straps = s.glb.straps ∧ (activateIn k e h a s).upd.keys = s.upd.keys := by
  unfold activateIn; repeat (first | (solve | simp [*]) | split | simp [*])

@[simp] theorem evrecIn_fix (k : Fin 6) (e : FrameEnd) (h : OvHdr) (r : EvRec) (s : State) :
    (evrecIn k e h r s).glb.straps = s.glb.straps ∧ (evrecIn k e h r s).upd.keys = s.upd.keys := by
  unfold evrecIn; repeat (first | (solve | simp [*]) | split | simp [*])

@[simp] theorem snaprecIn_fix (k : Fin 6) (e : FrameEnd) (h : OvHdr) (pl : List Byte) (s : State) :
    (snaprecIn k e h pl s).glb.straps = s.glb.straps ∧ (snaprecIn k e h pl s).upd.keys = s.upd.keys := by
  unfold snaprecIn; repeat (first | (solve | simp [*]) | split | simp [*])

@[simp] theorem imgFrame_fix (k : Fin 6) (e : FrameEnd) (h : OvHdr) (imgId : Nat) (ofs : Nat) (data : List Byte) (s : State) :
    (imgFrame k e h imgId ofs data s).glb.straps = s.glb.straps ∧ (imgFrame k e h imgId ofs data s).upd.keys = s.upd.keys := by
  unfold imgFrame; repeat (first | (solve | simp [*]) | split | simp [*])

@[simp] theorem graftFrame_fix (k : Fin 6) (e : FrameEnd) (h : OvHdr) (base : Nat) (len : Nat) (s : State) :
    (graftFrame k e h base len s).glb.straps = s.glb.straps ∧ (graftFrame k e h base len s).upd.keys = s.upd.keys := by
  unfold graftFrame; repeat (first | (solve | simp [*]) | split | simp [*])

@[simp] theorem ungraftFrame_fix (k : Fin 6) (e : FrameEnd) (h : OvHdr) (base : Nat) (len : Nat) (s : State) :
    (ungraftFrame k e h base len s).glb.straps = s.glb.straps ∧ (ungraftFrame k e h base len s).upd.keys = s.upd.keys := by
  unfold ungraftFrame; repeat (first | (solve | simp [*]) | split | simp [*])

@[simp] theorem linkIn_fix (k : Fin 6) (e : FrameEnd) (l : LinkInfo) (s : State) :
    (linkIn k e l s).glb.straps = s.glb.straps ∧ (linkIn k e l s).upd.keys = s.upd.keys := by
  unfold linkIn; repeat (first | (solve | simp [*]) | split | simp [*])

@[simp] theorem unlisted_fix (k : Fin 6) (e : FrameEnd) (s : State) :
    (unlisted k e s).glb.straps = s.glb.straps ∧ (unlisted k e s).upd.keys = s.upd.keys := by
  unfold unlisted; repeat (first | (solve | simp [*]) | split | simp [*])

@[simp] theorem upIn_fix (k : Fin 6) (e : FrameEnd) (ty : Nat) (f : Ov0) (s : State) :
    (upIn k e ty f s).glb.straps = s.glb.straps ∧ (upIn k e ty f s).upd.keys = s.upd.keys := by
  unfold upIn; repeat (first | (solve | simp [*]) | split | simp [*])

@[simp] theorem ackFrame_fix (k : Fin 6) (e : FrameEnd) (kind : Nat) (f : Ov0) (s : State) :
    (ackFrame k e kind f s).glb.straps = s.glb.straps ∧ (ackFrame k e kind f s).upd.keys = s.upd.keys := by
  unfold ackFrame; repeat (first | (solve | simp [*]) | split | simp [*])

@[simp] theorem tmarkIn_fix (k : Fin 6) (e : FrameEnd) (f : Ov0) (s : State) :
    (tmarkIn k e f s).glb.straps = s.glb.straps ∧ (tmarkIn k e f s).upd.keys = s.upd.keys := by
  unfold tmarkIn; repeat (first | (solve | simp [*]) | split | simp [*])

@[simp] theorem barrierIn_fix (k : Fin 6) (e : FrameEnd) (f : Ov0) (s : State) :
    (barrierIn k e f s).glb.straps = s.glb.straps ∧ (barrierIn k e f s).upd.keys = s.upd.keys := by
  unfold barrierIn; repeat (first | (solve | simp [*]) | split | simp [*])

@[simp] theorem snapIn_fix (k : Fin 6) (e : FrameEnd) (f : Ov0) (s : State) :
    (snapIn k e f s).glb.straps = s.glb.straps ∧ (snapIn k e f s).upd.keys = s.upd.keys := by
  unfold snapIn; repeat (first | (solve | simp [*]) | split | simp [*])

@[simp] theorem resetIn_fix (k : Fin 6) (e : FrameEnd) (f : Ov0) (s : State) :
    (resetIn k e f s).glb.straps = s.glb.straps ∧ (resetIn k e f s).upd.keys = s.upd.keys := by
  unfold resetIn; repeat (first | (solve | simp [*]) | split | simp [*])

@[simp] theorem ftripIn_fix (k : Fin 6) (e : FrameEnd) (f : Ov0) (s : State) :
    (ftripIn k e f s).glb.straps = s.glb.straps ∧ (ftripIn k e f s).upd.keys = s.upd.keys := by
  unfold ftripIn; repeat (first | (solve | simp [*]) | split | simp [*])

@[simp] theorem fstartIn_fix (k : Fin 6) (e : FrameEnd) (f : Ov0) (s : State) :
    (fstartIn k e f s).glb.straps = s.glb.straps ∧ (fstartIn k e f s).upd.keys = s.upd.keys := by
  unfold fstartIn; exact onRoot0_fix _ _ _ _ _ _ (fun t => State.each_fix _ _ _ (fun d v => by simp))

@[simp] theorem rootchgIn_fix (k : Fin 6) (e : FrameEnd) (f : Ov0) (s : State) :
    (rootchgIn k e f s).glb.straps = s.glb.straps ∧ (rootchgIn k e f s).upd.keys = s.upd.keys := by
  unfold rootchgIn; repeat (first | (solve | simp [*]) | split | simp [*])

@[simp] theorem pairLinked_fix (s : State) :
    (pairLinked s).glb.straps = s.glb.straps ∧ (pairLinked s).upd.keys = s.upd.keys := by
  unfold pairLinked; repeat (first | (solve | simp [*]) | split | simp [*])

@[simp] theorem linkFault_fix (bit : Nat) (s : State) :
    (linkFault bit s).glb.straps = s.glb.straps ∧ (linkFault bit s).upd.keys = s.upd.keys := by
  unfold linkFault; repeat (first | (solve | simp [*]) | split | simp [*])

@[simp] theorem pairDown_fix (s : State) :
    (pairDown s).glb.straps = s.glb.straps ∧ (pairDown s).upd.keys = s.upd.keys := by
  unfold pairDown; repeat (first | (solve | simp [*]) | split | simp [*])

@[simp] theorem lossWait_fix (s : State) :
    (lossWait s).glb.straps = s.glb.straps ∧ (lossWait s).upd.keys = s.upd.keys := by
  unfold lossWait; repeat (first | (solve | simp [*]) | split | simp [*])

@[simp] theorem syncHealth_fix (s0 : State) :
    (syncHealth s0).glb.straps = s0.glb.straps ∧ (syncHealth s0).upd.keys = s0.upd.keys := by
  unfold syncHealth; repeat (first | (solve | simp [*]) | split | simp [*])

@[simp] theorem stateRow_fix (s : State) :
    (stateRow s).glb.straps = s.glb.straps ∧ (stateRow s).upd.keys = s.upd.keys := by
  unfold stateRow; repeat (first | (solve | simp [*]) | split | simp [*])

@[simp] theorem ctrlRetry_fix (seq : Nat) (s : State) :
    (ctrlRetry seq s).glb.straps = s.glb.straps ∧ (ctrlRetry seq s).upd.keys = s.upd.keys := by
  unfold ctrlRetry; repeat (first | (solve | simp [*]) | split | simp [*])

@[simp] theorem ackIn_fix (seq : Nat) (s : State) :
    (ackIn seq s).glb.straps = s.glb.straps ∧ (ackIn seq s).upd.keys = s.upd.keys := by
  unfold ackIn; repeat (first | (solve | simp [*]) | split | simp [*])

@[simp] theorem streamLost_fix (s : State) :
    (streamLost s).glb.straps = s.glb.straps ∧ (streamLost s).upd.keys = s.upd.keys := by
  unfold streamLost; repeat (first | (solve | simp [*]) | split | simp [*])

@[simp] theorem yieldIn_fix (s0 : State) :
    (yieldIn s0).glb.straps = s0.glb.straps ∧ (yieldIn s0).upd.keys = s0.upd.keys := by
  unfold yieldIn; repeat (first | (solve | simp [*]) | split | simp [*])

@[simp] theorem refuseIn_fix (s : State) :
    (refuseIn s).glb.straps = s.glb.straps ∧ (refuseIn s).upd.keys = s.upd.keys := by
  unfold refuseIn; repeat (first | (solve | simp [*]) | split | simp [*])

@[simp] theorem takeIn_fix (s : State) :
    (takeIn s).glb.straps = s.glb.straps ∧ (takeIn s).upd.keys = s.upd.keys := by
  unfold takeIn; repeat (first | (solve | simp [*]) | split | simp [*])

@[simp] theorem verdictIn_fix (v : Verdict) (s : State) :
    (verdictIn v s).glb.straps = s.glb.straps ∧ (verdictIn v s).upd.keys = s.upd.keys := by
  unfold verdictIn; repeat (first | (solve | simp [*]) | split | simp [*])

@[simp] theorem verdictLate_fix (s : State) :
    (verdictLate s).glb.straps = s.glb.straps ∧ (verdictLate s).upd.keys = s.upd.keys := by
  unfold verdictLate; repeat (first | (solve | simp [*]) | split | simp [*])

@[simp] theorem directionIn_fix (discharge : Bool) (s : State) :
    (directionIn discharge s).glb.straps = s.glb.straps ∧ (directionIn discharge s).upd.keys = s.upd.keys := by
  unfold directionIn; repeat (first | (solve | simp [*]) | split | simp [*])

@[simp] theorem fwdAct_fix (c : PairCmd) (s : State) :
    (fwdAct c s).glb.straps = s.glb.straps ∧ (fwdAct c s).upd.keys = s.upd.keys := by
  unfold fwdAct; repeat (first | (solve | simp [*]) | split | simp [*])

@[simp] theorem fwdSample_fix (r : Fin 24) (s : State) :
    (fwdSample r s).glb.straps = s.glb.straps ∧ (fwdSample r s).upd.keys = s.upd.keys := by
  unfold fwdSample; repeat (first | (solve | simp [*]) | split | simp [*])

@[simp] theorem fwdArrive_fix (c : PairCmd) (s : State) :
    (fwdArrive c s).glb.straps = s.glb.straps ∧ (fwdArrive c s).upd.keys = s.upd.keys := by
  unfold fwdArrive; repeat (first | (solve | simp [*]) | split | simp [*])

@[simp] theorem trimIn_fix (a : Nat) (v : Nat) (s : State) :
    (trimIn a v s).glb.straps = s.glb.straps ∧ (trimIn a v s).upd.keys = s.upd.keys := by
  unfold trimIn; repeat (first | (solve | simp [*]) | split | simp [*])

@[simp] theorem syncRail_fix (e : SyncEntry) (s : State) :
    (syncRail e s).glb.straps = s.glb.straps ∧ (syncRail e s).upd.keys = s.upd.keys := by
  unfold syncRail; repeat (first | (solve | simp [*]) | split | simp [*])

@[simp] theorem syncIn_fix (l : List SyncEntry) (s0 : State) :
    (syncIn l s0).glb.straps = s0.glb.straps ∧ (syncIn l s0).upd.keys = s0.upd.keys := by
  unfold syncIn; repeat (first | (solve | simp [*]) | split | simp [*])

@[simp] theorem joinRail_fix (r : Fin 24) (s : State) :
    (joinRail r s).glb.straps = s.glb.straps ∧ (joinRail r s).upd.keys = s.upd.keys := by
  unfold joinRail; repeat (first | (solve | simp [*]) | split | simp [*])

@[simp] theorem adoptSlot_fix (t : TwinShared) (x : TwinSlot) (new : DomState) (n : Fin 48) (s : State) :
    (adoptSlot t x new n s).glb.straps = s.glb.straps ∧ (adoptSlot t x new n s).upd.keys = s.upd.keys := by
  unfold adoptSlot; repeat (first | (solve | simp [*]) | split | simp [*])

@[simp] theorem adoptDom_fix (t : TwinShared) (d : Fin 8) (s : State) :
    (adoptDom t d s).glb.straps = s.glb.straps ∧ (adoptDom t d s).upd.keys = s.upd.keys := by
  unfold adoptDom; dsimp only; split
  · simp
  · refine ⟨(State.each_fix _ _ _ (fun n u => by split <;> simp)).1.trans ?_, (State.each_fix _ _ _ (fun n u => by split <;> simp)).2.trans ?_⟩ <;>
      · split <;> simp

@[simp] theorem adoptPort_fix (p : Fin 8) (x : TwinPort) (s : State) :
    (adoptPort p x s).glb.straps = s.glb.straps ∧ (adoptPort p x s).upd.keys = s.upd.keys := by
  unfold adoptPort; repeat (first | (solve | simp [*]) | split | simp [*])

@[simp] theorem adoptCart_fix (t : TwinShared) (i : Fin 16) (s : State) :
    (adoptCart t i s).glb.straps = s.glb.straps ∧ (adoptCart t i s).upd.keys = s.upd.keys := by
  unfold adoptCart; repeat (first | (solve | simp [*]) | split | simp [*])

@[simp] theorem adoptHold_fix (t : TwinShared) (s : State) :
    (adoptHold t s).glb.straps = s.glb.straps ∧ (adoptHold t s).upd.keys = s.upd.keys := by
  unfold adoptHold; repeat (first | (solve | simp [*]) | split | simp [*])

@[simp] theorem adoptDim_fix (k : Nat) (s : State) :
    (adoptDim k s).glb.straps = s.glb.straps ∧ (adoptDim k s).upd.keys = s.upd.keys := by
  unfold adoptDim; repeat (first | (solve | simp [*]) | split | simp [*])

@[simp] theorem adoptPorts_fix (t : TwinShared) (s : State) :
    (adoptPorts t s).glb.straps = s.glb.straps ∧ (adoptPorts t s).upd.keys = s.upd.keys := by
  unfold adoptPorts
  refine State.each_fix _ _ _ (fun p u => ?_)
  split
  · split <;> simp
  · simp

@[simp] theorem adopt_fix (t : TwinShared) (s : State) :
    (adopt t s).glb.straps = s.glb.straps ∧ (adopt t s).upd.keys = s.upd.keys := by
  unfold adopt; dsimp only
  simp only [adoptPorts_fix, adoptDim_fix, capRecompute_fix, State.updHold_fix, adoptHold_fix]
  refine ⟨?_, ?_⟩
  · exact (State.each_fix _ _ _ (fun i u => by simp)).1.trans (State.each_fix _ _ _ (fun i u => by split <;> simp)).1
  · exact (State.each_fix _ _ _ (fun i u => by simp)).2.trans (State.each_fix _ _ _ (fun i u => by split <;> simp)).2

@[simp] theorem stateIn_fix (t : TwinShared) (s : State) :
    (stateIn t s).glb.straps = s.glb.straps ∧ (stateIn t s).upd.keys = s.upd.keys := by
  unfold stateIn; repeat (first | (solve | simp [*]) | split | simp [*])

@[simp] theorem reportIn_fix (r : TwinReport) (s : State) :
    (reportIn r s).glb.straps = s.glb.straps ∧ (reportIn r s).upd.keys = s.upd.keys := by
  unfold reportIn; repeat (first | (solve | simp [*]) | split | simp [*])

@[simp] theorem streamIn_fix (m : StreamMsg) (s : State) :
    (streamIn m s).glb.straps = s.glb.straps ∧ (streamIn m s).upd.keys = s.upd.keys := by
  unfold streamIn; repeat (first | (solve | simp [*]) | split | simp [*])

@[simp] theorem judgeHold_fix (s : State) :
    (judgeHold s).glb.straps = s.glb.straps ∧ (judgeHold s).upd.keys = s.upd.keys := by
  unfold judgeHold; repeat (first | (solve | simp [*]) | split | simp [*])

@[simp] theorem takeBus_fix (s : State) :
    (takeBus s).glb.straps = s.glb.straps ∧ (takeBus s).upd.keys = s.upd.keys := by
  unfold takeBus; repeat (first | (solve | simp [*]) | split | simp [*])

@[simp] theorem ownFirst_fix (s : State) :
    (ownFirst s).glb.straps = s.glb.straps ∧ (ownFirst s).upd.keys = s.upd.keys := by
  unfold ownFirst; repeat (first | (solve | simp [*]) | split | simp [*])

@[simp] theorem standFirst_fix (s : State) :
    (standFirst s).glb.straps = s.glb.straps ∧ (standFirst s).upd.keys = s.upd.keys := by
  unfold standFirst; repeat (first | (solve | simp [*]) | split | simp [*])

@[simp] theorem decideLink_fix (h : Health) (s : State) :
    (decideLink h s).glb.straps = s.glb.straps ∧ (decideLink h s).upd.keys = s.upd.keys := by
  unfold decideLink; repeat (first | (solve | simp [*]) | split | simp [*])

@[simp] theorem alignIn_fix (h : Health) (s : State) :
    (alignIn h s).glb.straps = s.glb.straps ∧ (alignIn h s).upd.keys = s.upd.keys := by
  unfold alignIn; repeat (first | (solve | simp [*]) | split | simp [*])

@[simp] theorem healthIn_fix (h : Health) (s : State) :
    (healthIn h s).glb.straps = s.glb.straps ∧ (healthIn h s).upd.keys = s.upd.keys := by
  unfold healthIn; repeat (first | (solve | simp [*]) | split | simp [*])

@[simp] theorem decide100_fix (s : State) :
    (decide100 s).glb.straps = s.glb.straps ∧ (decide100 s).upd.keys = s.upd.keys := by
  unfold decide100; repeat (first | (solve | simp [*]) | split | simp [*])

@[simp] theorem handOrigin_fix (s : State) :
    (handOrigin s).glb.straps = s.glb.straps ∧ (handOrigin s).upd.keys = s.upd.keys := by
  unfold handOrigin; repeat (first | (solve | simp [*]) | split | simp [*])

@[simp] theorem takeOver_fix (s0 : State) :
    (takeOver s0).glb.straps = s0.glb.straps ∧ (takeOver s0).upd.keys = s0.upd.keys := by
  unfold takeOver; repeat (first | (solve | simp [*]) | split | simp [*])

@[simp] theorem peerChange_fix (on : Bool) (s : State) :
    (peerChange on s).glb.straps = s.glb.straps ∧ (peerChange on s).upd.keys = s.upd.keys := by
  unfold peerChange; repeat (first | (solve | simp [*]) | split | simp [*])

@[simp] theorem ownReleased_fix (s : State) :
    (ownReleased s).glb.straps = s.glb.straps ∧ (ownReleased s).upd.keys = s.upd.keys := by
  unfold ownReleased; repeat (first | (solve | simp [*]) | split | simp [*])

@[simp] theorem ownFault_fix (bit : Nat) (s : State) :
    (ownFault bit s).glb.straps = s.glb.straps ∧ (ownFault bit s).upd.keys = s.upd.keys := by
  unfold ownFault; repeat (first | (solve | simp [*]) | split | simp [*])

@[simp] theorem ownFaultOnce_fix (bit : Nat) (s : State) :
    (ownFaultOnce bit s).glb.straps = s.glb.straps ∧ (ownFaultOnce bit s).upd.keys = s.upd.keys := by
  unfold ownFaultOnce; repeat (first | (solve | simp [*]) | split | simp [*])

@[simp] theorem ownConflict_fix (s : State) :
    (ownConflict s).glb.straps = s.glb.straps ∧ (ownConflict s).upd.keys = s.upd.keys := by
  unfold ownConflict; repeat (first | (solve | simp [*]) | split | simp [*])

@[simp] theorem flapAge_fix (s : State) :
    (flapAge s).glb.straps = s.glb.straps ∧ (flapAge s).upd.keys = s.upd.keys := by
  unfold flapAge; repeat (first | (solve | simp [*]) | split | simp [*])

@[simp] theorem revertDue_fix (s0 : State) :
    (revertDue s0).glb.straps = s0.glb.straps ∧ (revertDue s0).upd.keys = s0.upd.keys := by
  unfold revertDue; repeat (first | (solve | simp [*]) | split | simp [*])

@[simp] theorem groundAge_fix (s : State) :
    (groundAge s).glb.straps = s.glb.straps ∧ (groundAge s).upd.keys = s.upd.keys := by
  unfold groundAge; repeat (first | (solve | simp [*]) | split | simp [*])

@[simp] theorem spAnswer_fix (status : Nat) (tag : Nat) (payload : List Byte) (s : State) :
    (spAnswer status tag payload s).glb.straps = s.glb.straps ∧ (spAnswer status tag payload s).upd.keys = s.upd.keys := by
  unfold spAnswer; repeat (first | (solve | simp [*]) | split | simp [*])

@[simp] theorem spRequest_fix (cmd : Nat) (tag : Nat) (fields : List Byte) (q : SpEnd) (act : SpAct) (s : State) (hact : ∀ t : State, (act t).2.2.glb.straps = t.glb.straps ∧ (act t).2.2.upd.keys = t.upd.keys) :
    (spRequest cmd tag fields q act s).glb.straps = s.glb.straps ∧ (spRequest cmd tag fields q act s).upd.keys = s.upd.keys := by
  unfold spRequest; dsimp only
  split
  · exact ⟨rfl, rfl⟩
  · split
    · split <;> simp
    · split
      · simp
      · rw [(spAnswer_fix ..).1, (spAnswer_fix ..).2, (spJudge_fix _ _ _ hact).1, (spJudge_fix _ _ _ hact).2]; simp

@[simp] theorem spTry_fix (r : Nat × State) :
    (spTry r).2.2.glb.straps = (r.2).glb.straps ∧ (spTry r).2.2.upd.keys = (r.2).upd.keys := by
  unfold spTry; repeat (first | (solve | simp [*]) | split | simp [*])

@[simp] theorem spPending_fix (r : Nat × List Byte × State) :
    (spPending r).2.2.glb.straps = (r.2.2).glb.straps ∧ (spPending r).2.2.upd.keys = (r.2.2).upd.keys := by
  unfold spPending; repeat (first | (solve | simp [*]) | split | simp [*])

@[simp] theorem fetchResp_fix (s : State) :
    (fetchResp s).glb.straps = s.glb.straps ∧ (fetchResp s).upd.keys = s.upd.keys := by
  unfold fetchResp; repeat (first | (solve | simp [*]) | split | simp [*])

@[simp] theorem sessionTimeout_fix (s : State) :
    (sessionTimeout s).glb.straps = s.glb.straps ∧ (sessionTimeout s).upd.keys = s.upd.keys := by
  unfold sessionTimeout; repeat (first | (solve | simp [*]) | split | simp [*])

@[simp] theorem ovSilence_fix (s : State) :
    (ovSilence s).glb.straps = s.glb.straps ∧ (ovSilence s).upd.keys = s.upd.keys := by
  unfold ovSilence; repeat (first | (solve | simp [*]) | split | simp [*])

@[simp] theorem State.schedWait_fix (s : State) :
    (State.schedWait s).glb.straps = s.glb.straps ∧ (State.schedWait s).upd.keys = s.upd.keys := by
  unfold State.schedWait; repeat (first | (solve | simp [*]) | split | simp [*])

@[simp] theorem roundStart_fix (s : State) :
    (roundStart s).glb.straps = s.glb.straps ∧ (roundStart s).upd.keys = s.upd.keys := by
  unfold roundStart; repeat (first | (solve | simp [*]) | split | simp [*])

@[simp] theorem recordDue_fix (s : State) :
    (recordDue s).glb.straps = s.glb.straps ∧ (recordDue s).upd.keys = s.upd.keys := by
  unfold recordDue; repeat (first | (solve | simp [*]) | split | simp [*])

@[simp] theorem llFrameEnd_fix (p : Fin 8) (edges : Nat) (startOne : Bool) (s : State) :
    (llFrameEnd p edges startOne s).glb.straps = s.glb.straps ∧ (llFrameEnd p edges startOne s).upd.keys = s.upd.keys := by
  unfold llFrameEnd; repeat (first | (solve | simp [*]) | split | simp [*])

@[simp] theorem llOther_fix (p : Fin 8) (sub : Fin 4) (cmd : Nat) (tog : Bool) (payload : Nat) (rcrc : Nat) (s : State) :
    (llOther p sub cmd tog payload rcrc s).glb.straps = s.glb.straps ∧ (llOther p sub cmd tog payload rcrc s).upd.keys = s.upd.keys := by
  unfold llOther; repeat (first | (solve | simp [*]) | split | simp [*])

@[simp] theorem railSample_fix (r : Fin 24) (e : Int) (sat : Bool) (vsnBad : Bool) (s : State) :
    (railSample r e sat vsnBad s).glb.straps = s.glb.straps ∧ (railSample r e sat vsnBad s).upd.keys = s.upd.keys := by
  unfold railSample; repeat (first | (solve | simp [*]) | split | simp [*])

@[simp] theorem holdoffEnd_fix (r : Fin 24) (s : State) :
    (holdoffEnd r s).glb.straps = s.glb.straps ∧ (holdoffEnd r s).upd.keys = s.upd.keys := by
  unfold holdoffEnd; repeat (first | (solve | simp [*]) | split | simp [*])

@[simp] theorem uvDelayEnd_fix (r : Fin 24) (s : State) :
    (uvDelayEnd r s).glb.straps = s.glb.straps ∧ (uvDelayEnd r s).upd.keys = s.upd.keys := by
  unfold uvDelayEnd; repeat (first | (solve | simp [*]) | split | simp [*])

@[simp] theorem unlockRow_fix (p : Path) (v : Nat) (s : State) :
    (unlockRow p v s).glb.straps = s.glb.straps ∧ (unlockRow p v s).upd.keys = s.upd.keys := by
  unfold unlockRow; repeat (first | (solve | simp [*]) | split | simp [*])

@[simp] theorem faultnRelease_fix (s : State) :
    (faultnRelease s).glb.straps = s.glb.straps ∧ (faultnRelease s).upd.keys = s.upd.keys := by
  unfold faultnRelease; repeat (first | (solve | simp [*]) | split | simp [*])

@[simp] theorem timerSaturate_fix (t : Fin 16) (s : State) :
    (timerSaturate t s).glb.straps = s.glb.straps ∧ (timerSaturate t s).upd.keys = s.upd.keys := by
  unfold timerSaturate; repeat (first | (solve | simp [*]) | split | simp [*])

@[simp] theorem State.withFetchWord_fix (s : State) (nbits : Nat) (w : Nat) :
    (State.withFetchWord s nbits w).glb.straps = s.glb.straps ∧ (State.withFetchWord s nbits w).upd.keys = s.upd.keys := by
  unfold State.withFetchWord; repeat (first | (solve | simp [*]) | split | simp [*])

/-- Whatever follows from a command keeps the straps and the keys, where the command itself does. -/
theorem run_fix (f : State → State) (s t : State)
    (hf : ∀ t : State, (f t).glb.straps = t.glb.straps ∧ (f t).upd.keys = t.upd.keys) (ht : run f s = .next t) :
    t.glb.straps = s.glb.straps ∧ t.upd.keys = s.upd.keys := by
  unfold run at ht
  injection ht with e
  rw [← e, (finish_fix _ _).1, (finish_fix _ _).2, (settle_fix _).1, (settle_fix _).2, (hf _).1, (hf _).2]
  exact ⟨rfl, rfl⟩

/-- The same for a command at the end of a wait. -/
theorem runAfter_fix (w f : State → State) (s t : State)
    (hw : (w s).glb.straps = s.glb.straps ∧ (w s).upd.keys = s.upd.keys)
    (hf : ∀ t : State, (f t).glb.straps = t.glb.straps ∧ (f t).upd.keys = t.upd.keys) (ht : runAfter w f s = .next t) :
    t.glb.straps = s.glb.straps ∧ t.upd.keys = s.upd.keys := by
  unfold runAfter at ht
  have h := run_fix _ _ _ (fun u => ?_) ht
  · rw [h.1, h.2, hw.1, hw.2]; exact ⟨rfl, rfl⟩
  · rw [(hf _).1, (hf _).2, (egressAll_fix _).1, (egressAll_fix _).2]; exact ⟨rfl, rfl⟩

/-- The same for a slot's command at a tick. -/
theorem runTick_fix (d : State → Option Nat) (f : State → State) (s t : State)
    (hf : ∀ t : State, (f t).glb.straps = t.glb.straps ∧ (f t).upd.keys = t.upd.keys) (ht : runTick d f s = .next t) :
    t.glb.straps = s.glb.straps ∧ t.upd.keys = s.upd.keys := by
  unfold runTick at ht
  dsimp only at ht
  injection ht with e
  rw [← e, (finish_fix _ _).1, (finish_fix _ _).2, (settle_fix _).1, (settle_fix _).2, (hf _).1, (hf _).2, (egressAll_fix _).1,
    (egressAll_fix _).2]
  split
  · rw [(tickTo_fix _ _ _).1, (tickTo_fix _ _ _).2]; exact ⟨rfl, rfl⟩
  · exact ⟨rfl, rfl⟩

end Sys2Proof.Machine
end

