-- ==== Sys2Proof/Laws/Host.lean ====
section
/-! SUPPORT. The host bus (spec/15_two_wire.md R342 to R346): what a write or a read of one register does once the bus serves,
said once, so that no proof about a register unfolds the transaction. -/
namespace Sys2Proof.Machine

/-- The end of a transaction leaves no part of a value. -/
theorem hostStop_lone (s : State) : (hostStop s).hb.lone = [] := by
  unfold hostStop
  split
  · simpa using ‹s.hb.lone.isEmpty = true›
  · rfl

/-- A write of one value answers OK or REFUSED, never BUSY. -/
theorem writeUnit_status (p : Path) (a n v : Nat) (s : State) : (writeUnit p a n v s).1 ≠ 1 := by
  have key : ∀ b : Bool, (if b = true then 2 else 0 : Nat) ≠ 1 := by decide
  exact key _

/-- The pointer of a write outside the windows. -/
theorem setPtr_low (a : Nat) (s : State) (h1 : a < 32768) : setPtr a s = s.updHb (fun x => { x with ptr := a }) := by
  have hm : a % 65536 = a := by omega
  unfold setPtr wantAt inPatWin inLedgerWin
  rw [if_neg (by simp; omega), if_neg (by simp; omega), hm]

/-- What a write of one value does to the state in which a host write begins: `State.written`, but for the pointer and the part
of a value. -/
theorem writeUnit_hostAt (a n v last : Nat) (s : State) (h5 : a ≠ 0x1100) :
    ((writeUnit .host a n v ((hostStop s).updHb (fun x => { x with ptr := a }))).2).updHb (fun x =>
        { x with ptr := pageNext last, lone := [] }) =
      s.written a last (if n = 2 then regAct .host a v else wideAct a v) := by
  have w : ((hostStop s).updHb (fun x => { x with ptr := a })).pair.wrRefused = s.pair.wrRefused := by
    unfold hostStop
    split <;> rfl
  have d : disarm .host a ((hostStop s).updHb (fun x => { x with ptr := a })) =
      updLock .host (fun l => { l with armed := l.armed && a == 0x0014 }) ((hostStop s).updHb (fun x => { x with ptr := a })) := by
    unfold disarm
    split
    · rename_i e
      subst e
      unfold updLock State.updGlb
      simp only [beq_self_eq_true, Bool.and_true]
    · rename_i e
      have e' : (a == 0x0014) = false := by simpa using e
      rw [e']
      simp
  have o : ∀ u : State, (writeUnit .host a n v u).2 =
      ((if n = 2 then regAct .host a v else wideAct a v) ((disarm .host a u).updPair (fun x =>
        { x with wrRefused := false }))).updPair (fun x => { x with wrRefused := (disarm .host a u).pair.wrRefused || x.wrRefused }) := by
    intro u
    have e : (if a = 0x1100 then w1c (disarm .host a u).pair.wrRefused v 12 else (disarm .host a u).pair.wrRefused) =
        (disarm .host a u).pair.wrRefused := if_neg h5
    rw [← e]
    unfold writeUnit
    by_cases hn : n = 2 <;> simp only [hn, if_true, if_false]
  rw [o, d]
  have x : (updLock .host (fun l => { l with armed := l.armed && a == 0x0014 })
      ((hostStop s).updHb (fun x => { x with ptr := a }))).updPair (fun x => { x with wrRefused := false }) = s.hostAt a := rfl
  have y : (updLock .host (fun l => { l with armed := l.armed && a == 0x0014 })
      ((hostStop s).updHb (fun x => { x with ptr := a }))).pair.wrRefused = s.pair.wrRefused := w
  rw [x, y]
  unfold State.written
  generalize (if n = 2 then regAct .host a v else wideAct a v) (s.hostAt a) = t
  rfl

/-- The bytes of a number, put together again. -/
theorem leNat_leBytes (n v : Nat) : leNat (leBytes n v) = v % 256 ^ n := by
  induction n generalizing v with
  | zero => simp [leBytes, leNat, Nat.mod_one]
  | succ n ih =>
    have e : (byteOf v).toNat = v % 256 := by simp [byteOf]
    simp only [leBytes, leNat, ih, e]
    rw [Nat.pow_succ, Nat.mul_comm (256 ^ n) 256, Nat.mod_mul]

/-- A number's bytes are as many as asked for. -/
theorem leBytes_length (n v : Nat) : (leBytes n v).length = n := by
  induction n generalizing v with
  | zero => rfl
  | succ n ih => simp [leBytes, ih]

/-- The rest of the bytes of one value, once its first byte has come (R344): the value is written whole. -/
theorem burst_value (a n : Nat) (u : State) (hu : ∀ i, i < n → unitAt (a + i) = (a, n))
    (hp : ∀ i, i + 1 < n → pageNext (a + i) = a + i + 1) :
    ∀ bs got : List Byte, got ≠ [] → bs ≠ [] → got.length + bs.length = n →
      burst .host (a + got.length) got bs u = (worse (writeUnit .host a n (leNat (got ++ bs)) u).1 0, [],
        pageNext (a + n - 1), (writeUnit .host a n (leNat (got ++ bs)) u).2) := by
  intro bs
  induction bs with
  | nil => intro got _ h; exact absurd rfl h
  | cons b l ih =>
    intro got hg _ hl
    have g0 : 0 < got.length := List.length_pos_iff.mpr hg
    simp only [List.length_cons] at hl
    unfold burst
    rw [hu got.length (by omega)]
    have ne : ¬(a + got.length = a) := by omega
    have eg : got.isEmpty = false := by simpa using hg
    simp only [ne, decide_false, Bool.or_self, Bool.false_and, if_false, Bool.false_eq_true, eg, Bool.not_false, Bool.and_true,
      Nat.add_sub_cancel_left, decide_true, if_true, List.length_append, List.length_cons, List.length_nil]
    rcases l with _ | ⟨b', l'⟩
    · simp only [List.length_nil] at hl
      rw [if_pos (by omega)]
      have e : a + got.length = a + n - 1 := by omega
      rw [e]
      simp [burst]
    · simp only [List.length_cons] at hl
      rw [if_neg (by omega), hp _ (by omega)]
      have e := ih (got ++ [b]) (by simp) (by simp) (by simp; omega)
      rw [List.length_append] at e
      simp only [List.length_cons, List.length_nil] at e
      rw [show a + got.length + 1 = a + (got.length + (0 + 1)) by omega, e]
      simp

/-- A target that does not acknowledge its address (R341). -/
theorem hostBurst_nack (a : Nat) (bs : List Byte) (s : State) (h : s.hostAcks = false) : hostBurst a bs s = hostNack s := by
  unfold hostBurst
  rw [h]
  rfl

/-- A target in the start sequence acknowledges its address and the pointer, and no data (Table 15.2). -/
theorem hostBurst_start (a : Nat) (bs : List Byte) (s : State) (h : s.hostAcks = true) (hm : s.mode = .start) (h0 : a % 2 = 0)
    (hb : bs ≠ []) : hostBurst a bs s = nackBusy (setPtr a (hostStop s)) := by
  unfold hostBurst
  have e : (setPtr a (hostStop s)).mode = .start := by
    unfold setPtr wantAt hostStop
    split <;> split <;> (try split) <;> exact hm
  have n : bs.isEmpty = false := by simpa using hb
  rw [h, n]
  simp only [Bool.not_true, Bool.false_eq_true, if_false, e]
  rw [if_neg (by omega)]
  rfl

/-- The first byte of a busy register ends the burst (R346). -/
theorem hostBurst_busy (a : Nat) (bs : List Byte) (s : State) (h : s.hostAcks = true) (hm : s.mode ≠ .start) (h0 : a % 2 = 0)
    (h1 : a < 32768) (hu : (unitAt a).1 = a) (hw : s.writeBusy a = true) (hb : bs ≠ []) :
    hostBurst a bs s = nackBusy ((hostStop s).updHb (fun x => { x with ptr := a, lone := [] })) := by
  obtain ⟨b, l, rfl⟩ : ∃ b l, bs = b :: l := by
    cases bs with
    | nil => exact absurd rfl hb
    | cons b l => exact ⟨b, l, rfl⟩
  have hm' : a % 65536 = a := by omega
  unfold hostBurst
  rw [h]
  simp only [Bool.not_true, Bool.false_eq_true, if_false, setPtr_low a _ h1, hm']
  rw [if_neg (by omega)]
  have q : ((hostStop s).updHb (fun x => { x with ptr := a })).writeBusy a = true := by
    unfold hostStop
    split <;> exact hw
  have m : (((hostStop s).updHb (fun x => { x with ptr := a })).mode == .start) = false := by
    have e : ((hostStop s).updHb (fun x => { x with ptr := a })).mode = s.mode := by
      unfold hostStop
      split <;> rfl
    rw [e]
    simpa using hm
  have z : ∀ g : HbS → HbS, ((hostStop s).updHb (fun x => { x with ptr := a })).updHb g =
      (hostStop s).updHb (fun x => g { x with ptr := a }) := fun _ => rfl
  simp only [List.isEmpty_cons, m, Bool.false_eq_true, if_false]
  have e : burst .host a [] (b :: l) ((hostStop s).updHb (fun x => { x with ptr := a })) =
      (1, [], a, (hostStop s).updHb (fun x => { x with ptr := a })) := by
    unfold burst
    dsimp only
    rw [hu, q]
    simp
  rw [e]
  rfl

/-- A host write of one value other than PAIR_STAT that the target serves (R344). -/
theorem hostBurst_served (a n v : Nat) (s : State) (h : s.hostAcks = true) (hm : s.mode ≠ .start) (hw : s.writeBusy a = false) (h0 : a % 2 = 0) (h1 : a < 32768) (h2 : 2 ≤ n)
    (hu : ∀ i, i < n → unitAt (a + i) = (a, n)) (hp : ∀ i, i + 1 < n → pageNext (a + i) = a + i + 1) (h5 : a ≠ 0x1100) :
    hostBurst a (leBytes n v) s =
      s.written a (a + n - 1) (if n = 2 then regAct .host a (v % 256 ^ n) else wideAct a (v % 256 ^ n)) := by
  have ha : a % 65536 = a := by omega
  have hb : ((hostStop s).updHb (fun x => { x with ptr := a })).writeBusy a = false ∧
      (((hostStop s).updHb (fun x => { x with ptr := a })).mode == .start) = false := by
    have e : ((hostStop s).updHb (fun x => { x with ptr := a })).mode = s.mode ∧
        ((hostStop s).updHb (fun x => { x with ptr := a })).writeBusy a = s.writeBusy a := by
      unfold hostStop
      split <;> exact ⟨rfl, rfl⟩
    rw [e.1, e.2]
    exact ⟨hw, by simpa using hm⟩
  have fin := writeUnit_hostAt a n (v % 256 ^ n) (a + n - 1) s h5
  rw [← fin]
  unfold hostBurst
  rw [h]
  simp only [Bool.not_true, Bool.false_eq_true, if_false, setPtr_low a _ h1, ha]
  rw [if_neg (by omega)]
  generalize (hostStop s).updHb (fun x => { x with ptr := a }) = u at hb ⊢
  have hs := hb.2
  obtain ⟨b, l, hl⟩ : ∃ b l, leBytes n v = b :: l := by
    cases n with
    | zero => omega
    | succ k => exact ⟨_, _, rfl⟩
  have hlen := leBytes_length n v
  have hval := leNat_leBytes n v
  rw [hl] at hlen hval
  rw [List.length_cons] at hlen
  have hl0 : l ≠ [] := by
    intro c
    rw [c, List.length_nil] at hlen
    omega
  have e : burst .host a [] (b :: l) u =
      (worse (writeUnit .host a n (v % 256 ^ n) u).1 0, [], pageNext (a + n - 1), (writeUnit .host a n (v % 256 ^ n) u).2) := by
    unfold burst
    have h00 := hu 0 (by omega)
    rw [Nat.add_zero] at h00
    have hp0 := hp 0 (by omega)
    rw [Nat.add_zero] at hp0
    rw [h00, hp0]
    simp only [hb.1, Bool.and_false, Bool.false_eq_true, if_false, if_true, List.length_cons, List.length_nil]
    rw [if_neg (by omega)]
    have t := burst_value a n u hu hp l [b] (by simp) hl0 (by simp; omega)
    rw [List.singleton_append, hval] at t
    exact t
  have wn : worse (writeUnit .host a n (v % 256 ^ n) u).1 0 ≠ 1 := by
    have hn := writeUnit_status .host a n (v % 256 ^ n) u
    generalize (writeUnit .host a n (v % 256 ^ n) u).1 = m at hn
    unfold worse
    split <;> simp_all
  rw [hl, e]
  simp only [hs, List.isEmpty_cons, Bool.false_eq_true, if_false]
  rw [if_neg wn]
  rfl

/-- A host write of one value other than PAIR_STAT, whatever the target's state (R341, R344, R346). -/
theorem hostBurst_value (a n v : Nat) (s : State) (h0 : a % 2 = 0) (h1 : a < 32768) (h2 : 2 ≤ n)
    (hu : ∀ i, i < n → unitAt (a + i) = (a, n)) (hp : ∀ i, i + 1 < n → pageNext (a + i) = a + i + 1) (h5 : a ≠ 0x1100) :
    hostBurst a (leBytes n v) s = s.hostServes a (fun u =>
      u.written a (a + n - 1) (if n = 2 then regAct .host a (v % 256 ^ n) else wideAct a (v % 256 ^ n))) := by
  have hb : leBytes n v ≠ [] := by
    intro c
    have e := leBytes_length n v
    rw [c, List.length_nil] at e
    omega
  unfold State.hostServes
  cases e1 : s.hostAcks with
  | false => exact hostBurst_nack a _ s e1
  | true =>
    by_cases e2 : s.mode = .start
    · simp only [e2, Bool.not_true, Bool.false_eq_true, if_false, beq_self_eq_true, if_true]
      exact hostBurst_start a _ s e1 e2 h0 hb
    · have e2' : (s.mode == .start) = false := by simpa using e2
      cases e3 : s.writeBusy a with
      | true =>
        simp only [e2', Bool.not_true, Bool.false_eq_true, if_false, if_true]
        have hz := hu 0 (by omega)
        exact hostBurst_busy a _ s e1 e2 h0 h1 (by rw [Nat.add_zero] at hz; rw [hz]) e3 hb
      | false =>
        simp only [e2', Bool.not_true, Bool.false_eq_true, if_false]
        exact hostBurst_served a n v s e1 e2 e3 h0 h1 h2 hu hp h5

/-- A host write of a 16-bit register other than PAIR_STAT (R341, R344, R346). -/
theorem hostWrite_value (a v : Nat) (s : State) (h0 : a % 2 = 0) (h1 : a < 32768) (h2 : unitAt a = (a, 2))
    (h3 : unitAt (a + 1) = (a, 2)) (h5 : a ≠ 0x1100) :
    hostWrite a v s = s.hostServes a (fun u => u.written a (a + 1) (regAct .host a (v % 65536))) := by
  have e := hostBurst_value a 2 v s h0 h1 (Nat.le_refl 2) (fun i hi => by
      obtain rfl | rfl : i = 0 ∨ i = 1 := by omega
      · exact h2
      · exact h3) (fun i hi => by
      obtain rfl : i = 0 := by omega
      unfold pageNext
      omega) h5
  simp only [if_true] at e
  exact e

/-- An address outside the wide values that can be written belongs to a 16-bit register. -/
theorem unitAt_narrow (a : Nat) (h : (a < 0x0038 ∨ 0x003C ≤ a) ∧ (a < 0x1220 ∨ 0x1228 ≤ a) ∧ (a < 0x1250 ∨ 0x1254 ≤ a) ∧
    (a < 0x1408 ∨ 0x140C ≤ a) ∧ (a < 0x1610 ∨ 0x1618 ≤ a)) : unitAt a = (a - a % 2, 2) := by
  have e : wideWritten.find? (fun x => x.1 ≤ a && a < x.1 + x.2) = none := by
    simp [wideWritten]
    omega
  unfold unitAt
  rw [e]

/-- A command that is a host write of a 16-bit register, by its address alone. -/
theorem run_narrow (a v : Nat) (s : State) (hv : v < 65536)
    (h0 : a % 2 = 0 ∧ a < 32768 ∧ a ≠ 0x1100 ∧ (a < 0x0038 ∨ 0x003C ≤ a) ∧ (a < 0x1220 ∨ 0x1228 ≤ a) ∧
      (a < 0x1250 ∨ 0x1254 ≤ a) ∧ (a < 0x1408 ∨ 0x140C ≤ a) ∧ (a < 0x1610 ∨ 0x1618 ≤ a)) :
    run (hostWrite a v) s = .next (s.wrote a (regAct .host a v)) := by
  have h2 : unitAt a = (a, 2) := by
    rw [unitAt_narrow a (by omega)]
    exact congrArg (·, 2) (by omega)
  have h3 : unitAt (a + 1) = (a, 2) := by
    rw [unitAt_narrow (a + 1) (by omega)]
    exact congrArg (·, 2) (by omega)
  refine congrArg (fun t => Host.Outcome.next (State.closed s t)) ?_
  have e := hostWrite_value a v s.opened (by omega) (by omega) h2 h3 (by omega)
  rw [Nat.mod_eq_of_lt hv] at e
  exact e

/-- A register of an engine. -/
theorem regAct_phase (p : Path) (n : Fin 64) (a v : Nat) (h : 0x0200 + 16 * n.val ≤ a ∧ a < 0x0210 + 16 * n.val) :
    regAct p a v = wPhase p n a v := by
  funext s
  have hn := n.isLt
  have e : toPhase ((a - 0x0200) / 16) = some n := by
    have d : (a - 0x0200) / 16 = n.val := by omega
    rw [d]
    simp [toPhase]
  unfold regAct
  iterate 3 rw [if_neg (by omega)]
  rw [if_pos (by omega), e]

/-- A register of a rail. -/
theorem regAct_rail (p : Path) (r : Fin 24) (a v : Nat) (h : 0x0600 + 32 * r.val ≤ a ∧ a < 0x0620 + 32 * r.val) :
    regAct p a v = wRail p r a v := by
  funext s
  have hn := r.isLt
  have e : toRail ((a - 0x0600) / 32) = some r := by
    have d : (a - 0x0600) / 32 = r.val := by omega
    rw [d]
    simp [toRail]
  unfold regAct
  iterate 4 rw [if_neg (by omega)]
  rw [if_pos (by omega), e]

/-- A register of a load-link port. -/
theorem regAct_port (p : Path) (q : Fin 8) (a v : Nat) (h : 0x0900 + 32 * q.val ≤ a ∧ a < 0x0920 + 32 * q.val) :
    regAct p a v = wPort q a v := by
  funext s
  have hn := q.isLt
  have e : toPort ((a - 0x0900) / 32) = some q := by
    have d : (a - 0x0900) / 32 = q.val := by omega
    rw [d]
    simp [toPort]
  unfold regAct
  iterate 5 rw [if_neg (by omega)]
  rw [if_pos (by omega), e]

/-- A register of a domain. -/
theorem regAct_dom (p : Path) (d : Fin 8) (a v : Nat) (h : 0x0A00 + 16 * d.val ≤ a ∧ a < 0x0A10 + 16 * d.val) :
    regAct p a v = wDom d a v := by
  funext s
  have hn := d.isLt
  have e : toDom ((a - 0x0A00) / 16) = some d := by
    have x : (a - 0x0A00) / 16 = d.val := by omega
    rw [x]
    simp [toDom]
  unfold regAct
  iterate 6 rw [if_neg (by omega)]
  rw [if_pos (by omega), e]

/-- A register of a monitor. -/
theorem regAct_mon (p : Path) (m : Fin 96) (a v : Nat) (h : 0x0C00 + 8 * m.val ≤ a ∧ a < 0x0C08 + 8 * m.val) :
    regAct p a v = wMon p m a v := by
  funext s
  have hn := m.isLt
  have e : toMon ((a - 0x0C00) / 8) = some m := by
    have x : (a - 0x0C00) / 8 = m.val := by omega
    rw [x]
    simp [toMon]
  unfold regAct
  iterate 8 rw [if_neg (by omega)]
  rw [if_pos (by omega), e]

/-- A register of a capture timer. -/
theorem regAct_ct (p : Path) (t : Fin 16) (a v : Nat) (h : 0x0F40 + 12 * t.val ≤ a ∧ a < 0x0F4C + 12 * t.val) :
    regAct p a v = wCt p t a v := by
  funext s
  have hn := t.isLt
  have e : toCart ((a - 0x0F40) / 12) = some t := by
    have x : (a - 0x0F40) / 12 = t.val := by omega
    rw [x]
    simp [toCart]
  unfold regAct
  iterate 10 rw [if_neg (by omega)]
  rw [if_pos (by omega), e]

/-- Changing an entry of a table into itself changes nothing. -/
theorem Tab.upd_self {n : Nat} {α : Type} (t : Tab n α) (i : Fin n) (f : α → α) (h : f t[i] = t[i]) : Tab.upd t i f = t := by
  unfold Tab.upd
  rw [h]
  simp

/-- A strobe is a write of its bits with the register's other RW fields as they stand. -/
theorem run_strobe (a b : Nat) (s : State) (hv : b + (s.opened.reg a &&& rwMask a) < 65536)
    (h0 : a % 2 = 0 ∧ a < 32768 ∧ a ≠ 0x1100 ∧ (a < 0x0038 ∨ 0x003C ≤ a) ∧ (a < 0x1220 ∨ 0x1228 ≤ a) ∧
      (a < 0x1250 ∨ 0x1254 ≤ a) ∧ (a < 0x1408 ∨ 0x140C ≤ a) ∧ (a < 0x1610 ∨ 0x1618 ≤ a)) :
    run (hostStrobe a b) s = .next (s.wrote a (regAct .host a (b + (s.opened.reg a &&& rwMask a)))) := by
  have e : run (hostStrobe a b) s = run (hostWrite a (b + (s.opened.reg a &&& rwMask a))) s := by
    unfold run hostStrobe State.opened
    exact rfl
  rw [e]
  exact run_narrow a _ s hv h0

/-- The registers with no RW field beside their strobes. -/
theorem rwMask_zero (a : Nat) (h : (a < 0x0600 ∨ 0x0900 ≤ a ∨ a % 32 ≠ 4) ∧ (a < 0x0C00 ∨ 0x0F00 ≤ a ∨ a % 8 ≠ 2) ∧
    (a < 0x0F40 ∨ 0x1000 ≤ a ∨ (a - 0x0F40) % 12 ≠ 2) ∧ a ≠ 0x1020 ∧ a ≠ 0x1104 ∧ a ≠ 0x1256 ∧ a ≠ 0x1402 ∧ a ≠ 0x1604) :
    rwMask a = 0 := by
  unfold rwMask
  split
  · rename_i c
    simp only [Bool.and_eq_true, decide_eq_true_eq] at c
    rw [if_neg (by omega)]
  · split
    · rename_i c
      simp only [Bool.and_eq_true, decide_eq_true_eq] at c
      rw [if_neg (by omega)]
    · split
      · rename_i c
        simp only [Bool.and_eq_true, decide_eq_true_eq] at c
        rw [if_neg (by omega)]
      · split <;> first | rfl | omega

/-- A strobe of a register with no RW field. -/
theorem run_strobe0 (a b : Nat) (s : State) (hm : rwMask a = 0) (hv : b < 65536)
    (h0 : a % 2 = 0 ∧ a < 32768 ∧ a ≠ 0x1100 ∧ (a < 0x0038 ∨ 0x003C ≤ a) ∧ (a < 0x1220 ∨ 0x1228 ≤ a) ∧
      (a < 0x1250 ∨ 0x1254 ≤ a) ∧ (a < 0x1408 ∨ 0x140C ≤ a) ∧ (a < 0x1610 ∨ 0x1618 ≤ a)) :
    run (hostStrobe a b) s = .next (s.wrote a (regAct .host a b)) := by
  have e := run_strobe a b s (by rw [hm]; simpa using hv) h0
  rwa [hm, Nat.and_zero, Nat.add_zero] at e

/-- A write of one field is a write of it with the register's other RW fields as they stand. -/
theorem run_field (a m v : Nat) (s : State)
    (hv : v + ((s.opened.reg a &&& rwMask a) &&& (65535 - m)) < 65536)
    (h0 : a % 2 = 0 ∧ a < 32768 ∧ a ≠ 0x1100 ∧ (a < 0x0038 ∨ 0x003C ≤ a) ∧ (a < 0x1220 ∨ 0x1228 ≤ a) ∧
      (a < 0x1250 ∨ 0x1254 ≤ a) ∧ (a < 0x1408 ∨ 0x140C ≤ a) ∧ (a < 0x1610 ∨ 0x1618 ≤ a)) :
    run (hostField a m v) s = .next (s.wrote a (regAct .host a (v + ((s.opened.reg a &&& rwMask a) &&& (65535 - m))))) := by
  have e : run (hostField a m v) s = run (hostWrite a (v + ((s.opened.reg a &&& rwMask a) &&& (65535 - m)))) s := by
    unfold run hostField State.opened
    exact rfl
  rw [e]
  exact run_narrow a _ s hv h0

/-- One bit of a register. -/
theorem and_bit (x i : Nat) : x &&& 2 ^ i = bit01 (natBit x i) * 2 ^ i := by
  rw [Nat.and_two_pow, Nat.testBit_eq_decide_div_mod_eq]
  unfold natBit bit01
  rcases Nat.mod_two_eq_zero_or_one (x / 2 ^ i) with e | e <;> simp [e]

/-- The low bits of a register under a mask that has none of them are 0. -/
theorem and_mask_mod (x m k : Nat) (h : m % 2 ^ k = 0) : (x &&& m) % 2 ^ k = 0 := by
  rw [Nat.and_mod_two_pow, h, Nat.and_zero]

/-- A flag to which no 1 is written stays. -/
theorem w1c_zero (b : Bool) (v i : Nat) (h : natBit v i = false) : w1c b v i = b := by
  simp [w1c, h]

@[simp] theorem State.updPhase_id (s : State) (n : Fin 64) : s.updPhase n (fun x => x) = s := by
  unfold State.updPhase
  rw [Tab.upd_self _ _ _ rfl]

@[simp] theorem State.updRail_id (s : State) (n : Fin 24) : s.updRail n (fun x => x) = s := by
  unfold State.updRail
  rw [Tab.upd_self _ _ _ rfl]

@[simp] theorem State.updDom_id (s : State) (n : Fin 8) : s.updDom n (fun x => x) = s := by
  unfold State.updDom
  rw [Tab.upd_self _ _ _ rfl]

@[simp] theorem State.updMon_id (s : State) (n : Fin 96) : s.updMon n (fun x => x) = s := by
  unfold State.updMon
  rw [Tab.upd_self _ _ _ rfl]

@[simp] theorem State.updCt_id (s : State) (n : Fin 16) : s.updCt n (fun x => x) = s := by
  unfold State.updCt
  rw [Tab.upd_self _ _ _ rfl]

@[simp] theorem State.updPair_id (s : State) : s.updPair (fun x => x) = s := rfl
@[simp] theorem State.updEv_id (s : State) : s.updEv (fun x => x) = s := rfl
@[simp] theorem State.updLg_id (s : State) : s.updLg (fun x => x) = s := rfl
@[simp] theorem State.updOv_id (s : State) : s.updOv (fun x => x) = s := rfl
@[simp] theorem State.updHb_id (s : State) : s.updHb (fun x => x) = s := rfl

/-- What a host write leaves depends on its effect at the one state in which it acts. -/
theorem State.wrote_congr (s : State) (a : Nat) (f g : State → State) (h : f (s.opened.hostAt a) = g (s.opened.hostAt a)) :
    s.wrote a f = s.wrote a g := by
  unfold State.wrote State.did State.hostServes State.written
  beta_reduce
  rw [h]

/-- Ending a transaction changes the host bus alone. -/
theorem hostStop_eq (s : State) : ∃ h : HbS, hostStop s = { s with hb := h } := by
  unfold hostStop
  split
  · exact ⟨s.hb, rfl⟩
  · exact ⟨_, rfl⟩

/-- The state in which a host write acts differs from the one before in the host bus, the host path's KEY1 and WR_REFUSED. -/
theorem hostAt_eq (s : State) (a : Nat) : ∃ (h : HbS) (g : GlobalS), s.hostAt a = { s with
    hb := h, glb := g, pair := { s.pair with wrRefused := false } } := by
  obtain ⟨h, e⟩ := hostStop_eq s
  unfold State.hostAt
  rw [e]
  exact ⟨_, _, rfl⟩

/-- RAIL_CTRL reads NOSHED and REFUSED of a rail that is there. -/
theorem reg_railCtrl (s : State) (r : Fin 24) : s.reg (0x0604 + 32 * r.val) =
    if s.rails[r].cfg.isSome then bit01 s.rails[r].refused * 2 + bit01 s.rails[r].noshed * 8 else 0 := by
  have hn := r.isLt
  have e : toRail ((0x0604 + 32 * r.val - 0x0600) / 32) = some r := by
    have d : (0x0604 + 32 * r.val - 0x0600) / 32 = r.val := by omega
    rw [d]
    simp [toRail]
  have o : (0x0604 + 32 * r.val - 0x0600) % 32 = 4 := by omega
  unfold State.reg
  iterate 3 rw [if_neg (by omega)]
  rw [if_pos (by omega), e, o]
  unfold State.railReg
  dsimp only
  cases s.rails[r].cfg <;> rfl

/-- The RW bit of RAIL_CTRL. -/
theorem rwMask_railCtrl (r : Fin 24) : rwMask (0x0604 + 32 * r.val) = 2 ^ 3 := by
  have hn := r.isLt
  unfold rwMask
  rw [if_pos (by simp; omega), if_pos (by omega)]
  rfl

/-- The RW bits of WM_CTRL. -/
theorem rwMask_wmCtrl (m : Fin 96) : rwMask (0x0C02 + 8 * m.val) = 0xFFCE := by
  have hn := m.isLt
  unfold rwMask
  rw [if_neg (by simp; omega), if_pos (by simp; omega), if_pos (by omega)]

/-- The RW bits of CT_CTRL. -/
theorem rwMask_ctCtrl (t : Fin 16) : rwMask (0x0F42 + 12 * t.val) = 0xF0 := by
  have hn := t.isLt
  unfold rwMask
  rw [if_neg (by simp; omega), if_neg (by simp; omega), if_pos (by simp; omega), if_pos (by omega)]

/-- A host write that is served has its effect. -/
theorem hostServes_served (s : State) (a : Nat) (f : State → State) (h : s.serves a = true) : s.hostServes a f = f s := by
  simp only [State.serves, Bool.and_eq_true, bne_iff_ne, ne_eq, Bool.not_eq_true'] at h
  have m : (s.mode == .start) = false := by simpa using h.1.2
  unfold State.hostServes
  rw [h.1.1, h.2, m]
  rfl

/-- A host write that is not served has none of its effect. -/
theorem hostServes_not (s : State) (a : Nat) (f : State → State) (h : s.serves a = false) :
    s.hostServes a f = s.hostServes a (fun v => v) := by
  unfold State.serves at h
  unfold State.hostServes
  cases h1 : s.hostAcks <;> cases h2 : (s.mode == .start) <;> cases h3 : s.writeBusy a <;> simp_all

/-- What a command leaves that is a host write of the register at `a`, by whether it is served. -/
theorem next_wrote {o : Host.Outcome State Fault Refusal} {s : State} {a : Nat} {f : State → State} (h : o = .next (s.wrote a f)) :
    (s.serves a = true → o = .next (s.served a f)) ∧ (s.serves a = false → o = .next (s.turnedAway a)) :=
  ⟨fun e => h.trans (congrArg (fun t => Host.Outcome.next (State.closed s t)) (hostServes_served s.opened a _ e)),
   fun e => h.trans (congrArg (fun t => Host.Outcome.next (State.closed s t)) (hostServes_not s.opened a _ e))⟩

/-! ### What a command leaves, by the effect on the state its body receives -/

theorem State.did_eq (s : State) (f : State → State) : s.did f = s.closed (f s.opened) := rfl

theorem State.waited_eq (s : State) (d : Option Nat) (f : State → State) :
    s.waited d f = (s.waitTill d).closed (f (egressAll (s.waitTill d).opened)) := rfl

theorem State.waitedGlobal_eq (s : State) (d : Option Nat) (f : State → State) :
    s.waitedGlobal d f = (s.waitGlobal d).closed (f (egressAll (s.waitGlobal d).opened)) := rfl

theorem State.afterWait_eq (s : State) (w f : State → State) :
    s.afterWait w f = (w s).closed (f (egressAll (w s).opened)) := rfl

/-- A read that the target serves (R342, R345 to R347). -/
theorem hostRead_served (a n : Nat) (s : State) (h : s.readsNow a n = true) : hostRead a n s = s.readOut a n := by
  simp only [State.readsNow, Bool.and_eq_true, bne_iff_ne, Bool.or_eq_true, beq_iff_eq, Bool.not_eq_true'] at h
  obtain ⟨⟨⟨h1, h2⟩, h3⟩, h4⟩ := h
  unfold hostRead State.readOut
  have h5 : (decide (a % 2 = 1) && (hostStop s).hb.ptr != a % 65536) = false := by
    rcases h3 with h3 | h3
    · simp [h3]
    · simp [h3]
  simp only [h1, h2, h4, h5]
  rfl

/-- A read that the target does not serve (R341 to R343, R346). -/
theorem hostRead_away (a n : Nat) (s : State) (h : s.readsNow a n = false) : hostRead a n s = s.readAway a n := by
  unfold hostRead State.readAway
  dsimp only
  split
  · rfl
  · split
    · rfl
    · split
      · rfl
      · rename_i h1 h2 h3
        have h4 : (setPtr a (hostStop s)).readBusy a = true := by
          simp only [State.readsNow, Bool.and_eq_false_iff, bne_eq_false_iff_eq, Bool.or_eq_false_iff, Bool.not_eq_false'] at h
          rcases h with ((h | h) | h) | h
          · simp [h] at h1
          · exact absurd h h3
          · refine absurd ?_ h2
            have h5 : a % 2 = 1 := by have := h.1; simp at this; omega
            have h6 := h.2
            simp only [beq_eq_false_iff_ne, ne_eq] at h6
            simp [h5, h6]
          · exact h
        simp [h4]

/-- A request that the service port takes (R362, R364). -/
theorem spRequest_taken (cmd tag : Nat) (fields : List Byte) (q : SpEnd) (act : SpAct) (s : State)
    (h : s.spTakes cmd tag fields q = true) :
    spRequest cmd tag fields q act s =
      spAnswer (act (s.spTaken cmd tag)).1 tag (act (s.spTaken cmd tag)).2.1 (act (s.spTaken cmd tag)).2.2 := by
  simp only [State.spTakes, Bool.and_eq_true, bne_iff_ne] at h
  obtain ⟨⟨⟨h1, h2⟩, h3⟩, h4⟩ := h
  have h5 : (s.sp.prev == some (cmd, tag)) = false := by simpa using h3
  unfold spRequest
  simp only [h1, h2, h5, spJudge, h4]
  rfl

end Sys2Proof.Machine
end

