-- ==== Sys2Proof/Laws/Memory.lean ====
section
/-! SUPPORT. External memory (spec/03_start_and_memory.md R59 to R65): the laws of its cells, and what each operation of the
model does to it. An operation that writes no external memory leaves both devices as they were (its lemma ends in `_dev`); one
that may write keeps them in canonical form (its lemma ends in `_wf`). Every command ends in `run_wf`. -/
namespace Sys2Proof.Machine

/-! ### The cells of an external memory -/

/-- The lowest listed address of a memory in canonical form lies below every other. -/
theorem cellsWf_cons (c : Host.Cell) (l : List Host.Cell) :
    cellsWf (c :: l) = true ↔ c.2 ≠ 0xFF ∧ (∀ d ∈ l, c.1 < d.1) ∧ cellsWf l = true := by
  induction l generalizing c with
  | nil => simp [cellsWf]
  | cons d l ih =>
    have e : cellsWf (c :: d :: l) = (c.2 != 0xFF && decide (c.1 < d.1) && cellsWf (d :: l)) := rfl
    rw [e]
    simp only [Bool.and_eq_true, bne_iff_ne, decide_eq_true_eq]
    constructor
    · rintro ⟨⟨h1, h2⟩, h3⟩
      refine ⟨h1, fun x hx => ?_, h3⟩
      rcases List.mem_cons.mp hx with rfl | hx
      · exact h2
      · exact Nat.lt_trans h2 (((ih d).mp h3).2.1 x hx)
    · rintro ⟨h1, h2, h3⟩
      exact ⟨⟨h1, h2 d (by simp)⟩, h3⟩

/-- A write adds at most the cell it writes. -/
theorem mem_cellPut (l : List Host.Cell) (a : Nat) (b : Byte) (c : Host.Cell) (h : c ∈ cellPut l a b) :
    c = (a, b) ∨ c ∈ l := by
  induction l with
  | nil => simp only [cellPut] at h; split at h <;> simp_all
  | cons d l ih =>
    simp only [cellPut] at h
    split at h
    · split at h <;> simp_all
    · split at h
      · split at h <;> simp_all <;> tauto
      · rcases List.mem_cons.mp h with rfl | h
        · simp
        · rcases ih h with h | h <;> simp [h]

/-- Writing one cell keeps the canonical form. -/
theorem cellPut_wf (l : List Host.Cell) (a : Nat) (b : Byte) (h : cellsWf l = true) : cellsWf (cellPut l a b) = true := by
  induction l with
  | nil => simp only [cellPut]; split <;> simp_all [cellsWf]
  | cons d l ih =>
    obtain ⟨h1, h2, h3⟩ := (cellsWf_cons d l).mp h
    simp only [cellPut]
    split
    · rename_i ha
      split
      · exact h
      · rename_i hb
        refine (cellsWf_cons _ _).mpr ⟨hb, fun x hx => ?_, h⟩
        rcases List.mem_cons.mp hx with rfl | hx
        · exact ha
        · exact Nat.lt_trans ha (h2 x hx)
    · rename_i ha
      split
      · rename_i he
        split
        · exact h3
        · rename_i hb
          exact (cellsWf_cons _ _).mpr ⟨hb, fun x hx => he ▸ h2 x hx, h3⟩
      · rename_i he
        refine (cellsWf_cons _ _).mpr ⟨h1, fun x hx => ?_, ih h3⟩
        rcases mem_cellPut l a b x hx with rfl | hx
        · show d.1 < a
          omega
        · exact h2 x hx

/-- Erasing keeps the canonical form. -/
theorem cellErase_wf (l : List Host.Cell) (a n : Nat) (h : cellsWf l = true) : cellsWf (cellErase l a n) = true := by
  induction l with
  | nil => simp [cellErase, cellsWf]
  | cons d l ih =>
    obtain ⟨h1, h2, h3⟩ := (cellsWf_cons d l).mp h
    have e := ih h3
    simp only [cellErase, List.filter_cons] at e ⊢
    split
    · exact (cellsWf_cons _ _).mpr ⟨h1, fun x hx => h2 x (List.mem_filter.mp hx).1, e⟩
    · exact e

/-- A byte written is the byte read back. -/
theorem cellGet_cellPut_same (l : List Host.Cell) (a : Nat) (b : Byte) (h : cellsWf l = true) :
    cellGet (cellPut l a b) a = b := by
  induction l with
  | nil => simp only [cellPut]; split <;> simp_all [cellGet]
  | cons d l ih =>
    obtain ⟨h1, h2, h3⟩ := (cellsWf_cons d l).mp h
    have none_ : ∀ (l : List Host.Cell), (∀ x ∈ l, a < x.1) → cellGet l a = 0xFF := by
      intro l
      induction l with
      | nil => simp [cellGet]
      | cons x l ihl =>
        intro hx
        have := hx x (by simp)
        simp only [cellGet]
        rw [if_neg (by omega)]
        exact ihl (fun y hy => hx y (by simp [hy]))
    simp only [cellPut]
    split
    · rename_i ha
      split
      · rename_i hb
        rw [hb]
        refine none_ (d :: l) (fun x hx => ?_)
        rcases List.mem_cons.mp hx with rfl | hx
        · exact ha
        · exact Nat.lt_trans ha (h2 x hx)
      · simp [cellGet]
    · split
      · rename_i he
        split
        · rename_i hb
          rw [hb]
          exact none_ l (fun x hx => he ▸ h2 x hx)
        · simp [cellGet]
      · rename_i he
        simp only [cellGet]
        rw [if_neg (by omega)]
        exact ih h3

/-- A write leaves every other address as it was. -/
theorem cellGet_cellPut_other (l : List Host.Cell) (a x : Nat) (b : Byte) (h : x ≠ a) :
    cellGet (cellPut l a b) x = cellGet l x := by
  induction l with
  | nil => simp only [cellPut]; split <;> simp [cellGet]; omega
  | cons d l ih =>
    simp only [cellPut]
    split
    · split
      · rfl
      · simp only [cellGet]; rw [if_neg (by omega)]
    · split
      · rename_i he
        split
        · simp only [cellGet]; rw [if_neg (by omega)]
        · simp only [cellGet]; rw [if_neg (by omega), if_neg (by omega)]
      · simp only [cellGet, ih]

/-! ### Operations that write no external memory -/

@[simp] theorem State.updCh_dev0 (s : State) (f : ChandlerS → ChandlerS) : (s.updCh f).ch.dev0 = (f s.ch).dev0 := by
  unfold State.updCh; simp

@[simp] theorem State.updCh_dev1 (s : State) (f : ChandlerS → ChandlerS) : (s.updCh f).ch.dev1 = (f s.ch).dev1 := by
  unfold State.updCh; simp

@[simp] theorem ite_ch (c : Prop) {h : Decidable c} (a b : State) : (@ite _ c h a b).ch = @ite _ c h a.ch b.ch := by
  cases h <;> rfl

@[simp] theorem ite_dev0 (c : Prop) {h : Decidable c} (a b : ChandlerS) :
    (@ite _ c h a b).dev0 = @ite _ c h a.dev0 b.dev0 := by
  cases h <;> rfl

@[simp] theorem ite_dev1 (c : Prop) {h : Decidable c} (a b : ChandlerS) :
    (@ite _ c h a b).dev1 = @ite _ c h a.dev1 b.dev1 := by
  cases h <;> rfl

@[simp] theorem ite_same (c : Prop) {h : Decidable c} (a : List Host.Cell) : @ite _ c h a a = a := by
  cases h <;> rfl

@[simp] theorem State.each_dev {α : Type} (s : State) (l : List α) (f : α → State → State)
    (hf : ∀ (a : α) (t : State), (f a t).ch.dev0 = t.ch.dev0 ∧ (f a t).ch.dev1 = t.ch.dev1) :
    (s.each l f).ch.dev0 = s.ch.dev0 ∧ (s.each l f).ch.dev1 = s.ch.dev1 := by
  unfold State.each
  induction l generalizing s with
  | nil => simp
  | cons a l ih => simp [List.foldl, ih, hf]

@[simp] theorem strobes_dev (v : Nat) (l : List (Nat × (State → State))) (s : State)
    (hl : ∀ x ∈ l, ∀ t : State, (x.2 t).ch.dev0 = t.ch.dev0 ∧ (x.2 t).ch.dev1 = t.ch.dev1) :
    (strobes v l s).ch.dev0 = s.ch.dev0 ∧ (strobes v l s).ch.dev1 = s.ch.dev1 := by
  unfold strobes
  induction l generalizing s with
  | nil => simp
  | cons a l ih =>
    have ha := hl a (by simp)
    have hb := ih (if natBit v a.1 then a.2 s else s) (fun x hx => hl x (by simp [hx]))
    simp only [List.foldl]
    rw [hb.1, hb.2]
    split <;> simp [ha]


@[simp] theorem ChandlerS.cancel_dev0 (c : ChandlerS) (u : MemUse) : (c.cancel u).dev0 = c.dev0 := rfl

@[simp] theorem ChandlerS.cancel_dev1 (c : ChandlerS) (u : MemUse) : (c.cancel u).dev1 = c.dev1 := rfl

theorem foldPair_dev {α : Type} (l : List α) (x : Nat × State) (f : Nat × State → α → Nat × State)
    (hf : ∀ (a : Nat × State) (k : α), (f a k).2.ch.dev0 = a.2.ch.dev0 ∧ (f a k).2.ch.dev1 = a.2.ch.dev1) :
    (l.foldl f x).2.ch.dev0 = x.2.ch.dev0 ∧ (l.foldl f x).2.ch.dev1 = x.2.ch.dev1 := by
  induction l generalizing x with
  | nil => exact ⟨rfl, rfl⟩
  | cons k l ih => rw [List.foldl_cons, (ih _).1, (ih _).2]; exact hf x k

theorem spJudge_dev (q : SpEnd) (act : SpAct) (s : State)
    (hact : ∀ t : State, (act t).2.2.ch.dev0 = t.ch.dev0 ∧ (act t).2.2.ch.dev1 = t.ch.dev1) :
    (spJudge q act s).2.2.ch.dev0 = s.ch.dev0 ∧ (spJudge q act s).2.2.ch.dev1 = s.ch.dev1 := by
  unfold spJudge
  dsimp only
  split
  · exact hact _
  · exact ⟨rfl, rfl⟩
@[simp] theorem State.updPhase_dev (s : State) (n : Fin 64) (f : PhaseS → PhaseS) :
    (State.updPhase s n f).ch.dev0 = s.ch.dev0 ∧ (State.updPhase s n f).ch.dev1 = s.ch.dev1 := by
  unfold State.updPhase; repeat (first | (solve | simp [*]) | split | simp [*])

@[simp] theorem State.updRail_dev (s : State) (r : Fin 24) (f : RailS → RailS) :
    (State.updRail s r f).ch.dev0 = s.ch.dev0 ∧ (State.updRail s r f).ch.dev1 = s.ch.dev1 := by
  unfold State.updRail; repeat (first | (solve | simp [*]) | split | simp [*])

@[simp] theorem State.updPort_dev (s : State) (p : Fin 8) (f : PortS → PortS) :
    (State.updPort s p f).ch.dev0 = s.ch.dev0 ∧ (State.updPort s p f).ch.dev1 = s.ch.dev1 := by
  unfold State.updPort; repeat (first | (solve | simp [*]) | split | simp [*])

@[simp] theorem State.updDom_dev (s : State) (d : Fin 8) (f : DomS → DomS) :
    (State.updDom s d f).ch.dev0 = s.ch.dev0 ∧ (State.updDom s d f).ch.dev1 = s.ch.dev1 := by
  unfold State.updDom; repeat (first | (solve | simp [*]) | split | simp [*])

@[simp] theorem State.updSlot_dev (s : State) (n : Fin 48) (f : SlotS → SlotS) :
    (State.updSlot s n f).ch.dev0 = s.ch.dev0 ∧ (State.updSlot s n f).ch.dev1 = s.ch.dev1 := by
  unfold State.updSlot; repeat (first | (solve | simp [*]) | split | simp [*])

@[simp] theorem State.updMon_dev (s : State) (m : Fin 96) (f : MonS → MonS) :
    (State.updMon s m f).ch.dev0 = s.ch.dev0 ∧ (State.updMon s m f).ch.dev1 = s.ch.dev1 := by
  unfold State.updMon; repeat (first | (solve | simp [*]) | split | simp [*])

@[simp] theorem State.updCt_dev (s : State) (t : Fin 16) (f : CtS → CtS) :
    (State.updCt s t f).ch.dev0 = s.ch.dev0 ∧ (State.updCt s t f).ch.dev1 = s.ch.dev1 := by
  unfold State.updCt; repeat (first | (solve | simp [*]) | split | simp [*])

@[simp] theorem State.updCart_dev (s : State) (c : Fin 16) (f : CartS → CartS) :
    (State.updCart s c f).ch.dev0 = s.ch.dev0 ∧ (State.updCart s c f).ch.dev1 = s.ch.dev1 := by
  unfold State.updCart; repeat (first | (solve | simp [*]) | split | simp [*])

@[simp] theorem State.updOvPort_dev (s : State) (k : Fin 6) (f : OvPort → OvPort) :
    (State.updOvPort s k f).ch.dev0 = s.ch.dev0 ∧ (State.updOvPort s k f).ch.dev1 = s.ch.dev1 := by
  unfold State.updOvPort; repeat (first | (solve | simp [*]) | split | simp [*])

@[simp] theorem State.updFeed_dev (s : State) (i : Fin 2) (f : Feed → Feed) :
    (State.updFeed s i f).ch.dev0 = s.ch.dev0 ∧ (State.updFeed s i f).ch.dev1 = s.ch.dev1 := by
  unfold State.updFeed; repeat (first | (solve | simp [*]) | split | simp [*])

@[simp] theorem State.updSrc_dev (s : State) (n : Fin 192) (f : EvSource → EvSource) :
    (State.updSrc s n f).ch.dev0 = s.ch.dev0 ∧ (State.updSrc s n f).ch.dev1 = s.ch.dev1 := by
  unfold State.updSrc; repeat (first | (solve | simp [*]) | split | simp [*])

@[simp] theorem State.updCore_dev (s : State) (c : CoreId) (f : Core → Core) :
    (State.updCore s c f).ch.dev0 = s.ch.dev0 ∧ (State.updCore s c f).ch.dev1 = s.ch.dev1 := by
  unfold State.updCore; repeat (first | (solve | simp [*]) | split | simp [*])

@[simp] theorem State.updArch_dev (s : State) (f : ArchS → ArchS) :
    (State.updArch s f).ch.dev0 = s.ch.dev0 ∧ (State.updArch s f).ch.dev1 = s.ch.dev1 := by
  unfold State.updArch; repeat (first | (solve | simp [*]) | split | simp [*])

@[simp] theorem State.updSlp_dev (s : State) (f : SleepS → SleepS) :
    (State.updSlp s f).ch.dev0 = s.ch.dev0 ∧ (State.updSlp s f).ch.dev1 = s.ch.dev1 := by
  unfold State.updSlp; repeat (first | (solve | simp [*]) | split | simp [*])

@[simp] theorem State.updWatch_dev (s : State) (f : WatchS → WatchS) :
    (State.updWatch s f).ch.dev0 = s.ch.dev0 ∧ (State.updWatch s f).ch.dev1 = s.ch.dev1 := by
  unfold State.updWatch; repeat (first | (solve | simp [*]) | split | simp [*])

@[simp] theorem State.updHk_dev (s : State) (f : HkS → HkS) :
    (State.updHk s f).ch.dev0 = s.ch.dev0 ∧ (State.updHk s f).ch.dev1 = s.ch.dev1 := by
  unfold State.updHk; repeat (first | (solve | simp [*]) | split | simp [*])

@[simp] theorem State.updHold_dev (s : State) (f : HoldS → HoldS) :
    (State.updHold s f).ch.dev0 = s.ch.dev0 ∧ (State.updHold s f).ch.dev1 = s.ch.dev1 := by
  unfold State.updHold; repeat (first | (solve | simp [*]) | split | simp [*])

@[simp] theorem State.updCarts_dev (s : State) (f : CartsS → CartsS) :
    (State.updCarts s f).ch.dev0 = s.ch.dev0 ∧ (State.updCarts s f).ch.dev1 = s.ch.dev1 := by
  unfold State.updCarts; repeat (first | (solve | simp [*]) | split | simp [*])

@[simp] theorem State.updEv_dev (s : State) (f : EventS → EventS) :
    (State.updEv s f).ch.dev0 = s.ch.dev0 ∧ (State.updEv s f).ch.dev1 = s.ch.dev1 := by
  unfold State.updEv; repeat (first | (solve | simp [*]) | split | simp [*])

@[simp] theorem State.updGlb_dev (s : State) (f : GlobalS → GlobalS) :
    (State.updGlb s f).ch.dev0 = s.ch.dev0 ∧ (State.updGlb s f).ch.dev1 = s.ch.dev1 := by
  unfold State.updGlb; repeat (first | (solve | simp [*]) | split | simp [*])

@[simp] theorem State.updPair_dev (s : State) (f : PairS → PairS) :
    (State.updPair s f).ch.dev0 = s.ch.dev0 ∧ (State.updPair s f).ch.dev1 = s.ch.dev1 := by
  unfold State.updPair; repeat (first | (solve | simp [*]) | split | simp [*])

@[simp] theorem State.updOv_dev (s : State) (f : OvS → OvS) :
    (State.updOv s f).ch.dev0 = s.ch.dev0 ∧ (State.updOv s f).ch.dev1 = s.ch.dev1 := by
  unfold State.updOv; repeat (first | (solve | simp [*]) | split | simp [*])

@[simp] theorem State.updLg_dev (s : State) (f : LedgerS → LedgerS) :
    (State.updLg s f).ch.dev0 = s.ch.dev0 ∧ (State.updLg s f).ch.dev1 = s.ch.dev1 := by
  unfold State.updLg; repeat (first | (solve | simp [*]) | split | simp [*])

@[simp] theorem State.updHb_dev (s : State) (f : HbS → HbS) :
    (State.updHb s f).ch.dev0 = s.ch.dev0 ∧ (State.updHb s f).ch.dev1 = s.ch.dev1 := by
  unfold State.updHb; repeat (first | (solve | simp [*]) | split | simp [*])

@[simp] theorem State.updSp_dev (s : State) (f : SpS → SpS) :
    (State.updSp s f).ch.dev0 = s.ch.dev0 ∧ (State.updSp s f).ch.dev1 = s.ch.dev1 := by
  unfold State.updSp; repeat (first | (solve | simp [*]) | split | simp [*])

@[simp] theorem State.updUpd_dev (s : State) (f : UpdS → UpdS) :
    (State.updUpd s f).ch.dev0 = s.ch.dev0 ∧ (State.updUpd s f).ch.dev1 = s.ch.dev1 := by
  unfold State.updUpd; repeat (first | (solve | simp [*]) | split | simp [*])

@[simp] theorem State.when_dev (s : State) (b : Bool) (f : State → State) (hf : ∀ (t : State), (f t).ch.dev0 = t.ch.dev0 ∧ (f t).ch.dev1 = t.ch.dev1) :
    (State.when s b f).ch.dev0 = s.ch.dev0 ∧ (State.when s b f).ch.dev1 = s.ch.dev1 := by
  unfold State.when; repeat (first | (solve | simp [*]) | split | simp [*])

@[simp] theorem fire_dev (src : Nat) (sub : Nat) (s : State) :
    (fire src sub s).ch.dev0 = s.ch.dev0 ∧ (fire src sub s).ch.dev1 = s.ch.dev1 := by
  unfold fire; repeat (first | (solve | simp [*]) | split | simp [*])

@[simp] theorem fireIf_dev (b : Bool) (src : Nat) (sub : Nat) (s : State) :
    (fireIf b src sub s).ch.dev0 = s.ch.dev0 ∧ (fireIf b src sub s).ch.dev1 = s.ch.dev1 := by
  unfold fireIf; repeat (first | (solve | simp [*]) | split | simp [*])

@[simp] theorem draw_dev (s : State) :
    (draw s).2.ch.dev0 = s.ch.dev0 ∧ (draw s).2.ch.dev1 = s.ch.dev1 := by
  unfold draw; repeat (first | (solve | simp [*]) | split | simp [*])

@[simp] theorem addTally_dev (i : Fin 24) (k : Nat) (s : State) :
    (addTally i k s).ch.dev0 = s.ch.dev0 ∧ (addTally i k s).ch.dev1 = s.ch.dev1 := by
  unfold addTally; repeat (first | (solve | simp [*]) | split | simp [*])

@[simp] theorem toggle_dev (l : ToggleLine) (s : State) :
    (toggle l s).ch.dev0 = s.ch.dev0 ∧ (toggle l s).ch.dev1 = s.ch.dev1 := by
  unfold toggle; repeat (first | (solve | simp [*]) | split | simp [*])

@[simp] theorem ackLine_dev (l : ToggleLine) (s : State) :
    (ackLine l s).ch.dev0 = s.ch.dev0 ∧ (ackLine l s).ch.dev1 = s.ch.dev1 := by
  unfold ackLine; repeat (first | (solve | simp [*]) | split | simp [*])

@[simp] theorem send_dev (o : Out) (s : State) :
    (send o s).ch.dev0 = s.ch.dev0 ∧ (send o s).ch.dev1 = s.ch.dev1 := by
  unfold send; repeat (first | (solve | simp [*]) | split | simp [*])

@[simp] theorem logRaw_dev (e : LogEntry) (s : State) :
    (logRaw e s).ch.dev0 = s.ch.dev0 ∧ (logRaw e s).ch.dev1 = s.ch.dev1 := by
  unfold logRaw; repeat (first | (solve | simp [*]) | split | simp [*])

@[simp] theorem logEvent_dev (kind : Nat) (a : Nat) (b : Nat) (c : Nat) (s : State) :
    (logEvent kind a b c s).ch.dev0 = s.ch.dev0 ∧ (logEvent kind a b c s).ch.dev1 = s.ch.dev1 := by
  unfold logEvent; repeat (first | (solve | simp [*]) | split | simp [*])

@[simp] theorem logStep_dev (kind : Nat) (step : Nat) (a : Nat) (c : Nat) (s : State) :
    (logStep kind step a c s).ch.dev0 = s.ch.dev0 ∧ (logStep kind step a c s).ch.dev1 = s.ch.dev1 := by
  unfold logStep; repeat (first | (solve | simp [*]) | split | simp [*])

@[simp] theorem logBare_dev (kind : Nat) (step : Nat) (s : State) :
    (logBare kind step s).ch.dev0 = s.ch.dev0 ∧ (logBare kind step s).ch.dev1 = s.ch.dev1 := by
  unfold logBare; repeat (first | (solve | simp [*]) | split | simp [*])

@[simp] theorem pairOut_dev (f : PairFrame) (s : State) :
    (pairOut f s).ch.dev0 = s.ch.dev0 ∧ (pairOut f s).ch.dev1 = s.ch.dev1 := by
  unfold pairOut; repeat (first | (solve | simp [*]) | split | simp [*])

@[simp] theorem sendCtrl_dev (c : PairCmd) (s : State) :
    (sendCtrl c s).ch.dev0 = s.ch.dev0 ∧ (sendCtrl c s).ch.dev1 = s.ch.dev1 := by
  unfold sendCtrl; repeat (first | (solve | simp [*]) | split | simp [*])

@[simp] theorem forward_dev (c : PairCmd) (s : State) :
    (forward c s).ch.dev0 = s.ch.dev0 ∧ (forward c s).ch.dev1 = s.ch.dev1 := by
  unfold forward; repeat (first | (solve | simp [*]) | split | simp [*])

@[simp] theorem fwdTake_dev (mine : PairCmd → Bool) (act : PairCmd → State → State) (s : State) (hact : ∀ (x0 : PairCmd) (t : State), (act x0 t).ch.dev0 = t.ch.dev0 ∧ (act x0 t).ch.dev1 = t.ch.dev1) :
    (fwdTake mine act s).ch.dev0 = s.ch.dev0 ∧ (fwdTake mine act s).ch.dev1 = s.ch.dev1 := by
  unfold fwdTake; repeat (first | (solve | simp [*]) | split | simp [*])

@[simp] theorem ovDrop_dev (k : Fin 6) (s : State) :
    (ovDrop k s).ch.dev0 = s.ch.dev0 ∧ (ovDrop k s).ch.dev1 = s.ch.dev1 := by
  unfold ovDrop; repeat (first | (solve | simp [*]) | split | simp [*])

@[simp] theorem dropEach_dev (l : List (Fin 6)) (s : State) :
    (dropEach l s).ch.dev0 = s.ch.dev0 ∧ (dropEach l s).ch.dev1 = s.ch.dev1 := by
  unfold dropEach; repeat (first | (solve | simp [*]) | split | simp [*])

@[simp] theorem c0Start_dev (k : Fin 6) (at_ : Nat) (t : Nat) (f : Ov0) (s : State) :
    (c0Start k at_ t f s).ch.dev0 = s.ch.dev0 ∧ (c0Start k at_ t f s).ch.dev1 = s.ch.dev1 := by
  unfold c0Start; repeat (first | (solve | simp [*]) | split | simp [*])

@[simp] theorem crGo_dev (k : Fin 6) (s : State) :
    (crGo k s).ch.dev0 = s.ch.dev0 ∧ (crGo k s).ch.dev1 = s.ch.dev1 := by
  unfold crGo; repeat (first | (solve | simp [*]) | split | simp [*])

@[simp] theorem creditPut_dev (k : Fin 6) (cls : Nat) (n : Nat) (s : State) :
    (creditPut k cls n s).ch.dev0 = s.ch.dev0 ∧ (creditPut k cls n s).ch.dev1 = s.ch.dev1 := by
  unfold creditPut; repeat (first | (solve | simp [*]) | split | simp [*])

@[simp] theorem creditBack_dev (f : OvFrame) (j : Option (Fin 6)) (s : State) :
    (creditBack f j s).ch.dev0 = s.ch.dev0 ∧ (creditBack f j s).ch.dev1 = s.ch.dev1 := by
  unfold creditBack; repeat (first | (solve | simp [*]) | split | simp [*])

@[simp] theorem longStart_dev (k : Fin 6) (at_ : Nat) (s : State) :
    (longStart k at_ s).ch.dev0 = s.ch.dev0 ∧ (longStart k at_ s).ch.dev1 = s.ch.dev1 := by
  unfold longStart; repeat (first | (solve | simp [*]) | split | simp [*])

@[simp] theorem longEnd_dev (k : Fin 6) (l : LongTx) (s : State) :
    (longEnd k l s).ch.dev0 = s.ch.dev0 ∧ (longEnd k l s).ch.dev1 = s.ch.dev1 := by
  unfold longEnd; repeat (first | (solve | simp [*]) | split | simp [*])

@[simp] theorem egDrain_dev (k : Fin 6) (a1 : Nat) (a2 : State) :
    (egDrain k a1 a2).ch.dev0 = a2.ch.dev0 ∧ (egDrain k a1 a2).ch.dev1 = a2.ch.dev1 := by
  induction a1 generalizing a2 with
  | zero => simp [egDrain]
  | succ n ih => unfold egDrain; repeat (first | (solve | simp [*]) | split | simp [*])

@[simp] theorem egAdvance_dev (k : Fin 6) (s : State) :
    (egAdvance k s).ch.dev0 = s.ch.dev0 ∧ (egAdvance k s).ch.dev1 = s.ch.dev1 := by
  unfold egAdvance; repeat (first | (solve | simp [*]) | split | simp [*])

@[simp] theorem countMerge_dev (k : Fin 6) (t : Nat) (f : Ov0) (s : State) :
    (countMerge k t f s).ch.dev0 = s.ch.dev0 ∧ (countMerge k t f s).ch.dev1 = s.ch.dev1 := by
  unfold countMerge; repeat (first | (solve | simp [*]) | split | simp [*])

@[simp] theorem c0Send_dev (k : Fin 6) (t : Nat) (f : Ov0) (s0 : State) :
    (c0Send k t f s0).ch.dev0 = s0.ch.dev0 ∧ (c0Send k t f s0).ch.dev1 = s0.ch.dev1 := by
  unfold c0Send; repeat (first | (solve | simp [*]) | split | simp [*])

@[simp] theorem c0Origin_dev (t : Nat) (f : Ov0) (s : State) :
    (c0Origin t f s).ch.dev0 = s.ch.dev0 ∧ (c0Origin t f s).ch.dev1 = s.ch.dev1 := by
  unfold c0Origin; repeat (first | (solve | simp [*]) | split | simp [*])

@[simp] theorem summaryWindowEnd_dev (k : Fin 6) (s : State) :
    (summaryWindowEnd k s).ch.dev0 = s.ch.dev0 ∧ (summaryWindowEnd k s).ch.dev1 = s.ch.dev1 := by
  unfold summaryWindowEnd; repeat (first | (solve | simp [*]) | split | simp [*])

@[simp] theorem longTry_dev (k : Fin 6) (s : State) :
    (longTry k s).ch.dev0 = s.ch.dev0 ∧ (longTry k s).ch.dev1 = s.ch.dev1 := by
  unfold longTry; repeat (first | (solve | simp [*]) | split | simp [*])

@[simp] theorem cNPut_dev (k : Fin 6) (f : OvFrame) (j : Option (Fin 6)) (s : State) :
    (cNPut k f j s).ch.dev0 = s.ch.dev0 ∧ (cNPut k f j s).ch.dev1 = s.ch.dev1 := by
  unfold cNPut; repeat (first | (solve | simp [*]) | split | simp [*])

@[simp] theorem cNSend_dev (k : Fin 6) (f : OvFrame) (s : State) :
    (cNSend k f s).ch.dev0 = s.ch.dev0 ∧ (cNSend k f s).ch.dev1 = s.ch.dev1 := by
  unfold cNSend; repeat (first | (solve | simp [*]) | split | simp [*])

@[simp] theorem egDiscard_dev (k : Fin 6) (s : State) :
    (egDiscard k s).ch.dev0 = s.ch.dev0 ∧ (egDiscard k s).ch.dev1 = s.ch.dev1 := by
  unfold egDiscard; repeat (first | (solve | simp [*]) | split | simp [*])

@[simp] theorem ownOut_dev (k : Fin 6) (f : OvFrame) (s : State) :
    (ownOut k f s).ch.dev0 = s.ch.dev0 ∧ (ownOut k f s).ch.dev1 = s.ch.dev1 := by
  unfold ownOut; repeat (first | (solve | simp [*]) | split | simp [*])

@[simp] theorem ovOut_dev (f : OvFrame) (s : State) :
    (ovOut f s).ch.dev0 = s.ch.dev0 ∧ (ovOut f s).ch.dev1 = s.ch.dev1 := by
  unfold ovOut; repeat (first | (solve | simp [*]) | split | simp [*])

@[simp] theorem ovAnswer_dev (h : OvHdr) (status : Nat) (data : List Byte) (s : State) :
    (ovAnswer h status data s).ch.dev0 = s.ch.dev0 ∧ (ovAnswer h status data s).ch.dev1 = s.ch.dev1 := by
  unfold ovAnswer; repeat (first | (solve | simp [*]) | split | simp [*])

@[simp] theorem ovClock_dev (k : Fin 6) (v : Isl) (s : State) :
    (ovClock k v s).ch.dev0 = s.ch.dev0 ∧ (ovClock k v s).ch.dev1 = s.ch.dev1 := by
  unfold ovClock; repeat (first | (solve | simp [*]) | split | simp [*])

@[simp] theorem portDown_dev (k : Fin 6) (s : State) :
    (portDown k s).ch.dev0 = s.ch.dev0 ∧ (portDown k s).ch.dev1 = s.ch.dev1 := by
  unfold portDown; repeat (first | (solve | simp [*]) | split | simp [*])

@[simp] theorem portError_dev (k : Fin 6) (s : State) :
    (portError k s).ch.dev0 = s.ch.dev0 ∧ (portError k s).ch.dev1 = s.ch.dev1 := by
  unfold portError; repeat (first | (solve | simp [*]) | split | simp [*])

@[simp] theorem rx_dev (k : Fin 6) (e : FrameEnd) (s : State) :
    (rx k e s).2.ch.dev0 = s.ch.dev0 ∧ (rx k e s).2.ch.dev1 = s.ch.dev1 := by
  unfold rx; repeat (first | (solve | simp [*]) | split | simp [*])

@[simp] theorem onGood_dev (k : Fin 6) (e : FrameEnd) (f : State → State) (s : State) (hf : ∀ (t : State), (f t).ch.dev0 = t.ch.dev0 ∧ (f t).ch.dev1 = t.ch.dev1) :
    (onGood k e f s).ch.dev0 = s.ch.dev0 ∧ (onGood k e f s).ch.dev1 = s.ch.dev1 := by
  unfold onGood; repeat (first | (solve | simp [*]) | split | simp [*])

@[simp] theorem relayOut_dev (bad : Bool) (g : OvFrame) (from_ : Option (Fin 6)) (j : Fin 6) (s0 : State) :
    (relayOut bad g from_ j s0).ch.dev0 = s0.ch.dev0 ∧ (relayOut bad g from_ j s0).ch.dev1 = s0.ch.dev1 := by
  unfold relayOut; repeat (first | (solve | simp [*]) | split | simp [*])

@[simp] theorem c0Down_dev (bad : Bool) (t : Nat) (f : Ov0) (s : State) :
    (c0Down bad t f s).ch.dev0 = s.ch.dev0 ∧ (c0Down bad t f s).ch.dev1 = s.ch.dev1 := by
  unfold c0Down; repeat (first | (solve | simp [*]) | split | simp [*])

@[simp] theorem c0Root_dev (t : Nat) (a0 : Nat) (a1 : Nat) (a2 : Nat) (s : State) :
    (c0Root t a0 a1 a2 s).ch.dev0 = s.ch.dev0 ∧ (c0Root t a0 a1 a2 s).ch.dev1 = s.ch.dev1 := by
  unfold c0Root; repeat (first | (solve | simp [*]) | split | simp [*])

@[simp] theorem rootNamed_dev (src : Nat) (s : State) :
    (rootNamed src s).ch.dev0 = s.ch.dev0 ∧ (rootNamed src s).ch.dev1 = s.ch.dev1 := by
  unfold rootNamed; repeat (first | (solve | simp [*]) | split | simp [*])

@[simp] theorem c0On_dev (bad : Bool) (t : Nat) (f : Ov0) (s : State) :
    (c0On bad t f s).ch.dev0 = s.ch.dev0 ∧ (c0On bad t f s).ch.dev1 = s.ch.dev1 := by
  unfold c0On; repeat (first | (solve | simp [*]) | split | simp [*])

@[simp] theorem onRoot0_dev (k : Fin 6) (e : FrameEnd) (t : Nat) (f : Ov0) (act : State → State) (s : State) (hact : ∀ (t : State), (act t).ch.dev0 = t.ch.dev0 ∧ (act t).ch.dev1 = t.ch.dev1) :
    (onRoot0 k e t f act s).ch.dev0 = s.ch.dev0 ∧ (onRoot0 k e t f act s).ch.dev1 = s.ch.dev1 := by
  unfold onRoot0; repeat (first | (solve | simp [*]) | split | simp [*])

@[simp] theorem onUp0_dev (k : Fin 6) (e : FrameEnd) (t : Nat) (f : Ov0) (act : State → State) (s : State) (hact : ∀ (t : State), (act t).ch.dev0 = t.ch.dev0 ∧ (act t).ch.dev1 = t.ch.dev1) :
    (onUp0 k e t f act s).ch.dev0 = s.ch.dev0 ∧ (onUp0 k e t f act s).ch.dev1 = s.ch.dev1 := by
  unfold onUp0; repeat (first | (solve | simp [*]) | split | simp [*])

@[simp] theorem cNDown_dev (bad : Bool) (cls : Nat) (t : Nat) (h : OvHdr) (pl : List Byte) (s : State) :
    (cNDown bad cls t h pl s).ch.dev0 = s.ch.dev0 ∧ (cNDown bad cls t h pl s).ch.dev1 = s.ch.dev1 := by
  unfold cNDown; repeat (first | (solve | simp [*]) | split | simp [*])

@[simp] theorem dupAccept_dev (paddr : Nat) (pairId : Nat) (n : Nat) (s : State) :
    (dupAccept paddr pairId n s).2.ch.dev0 = s.ch.dev0 ∧ (dupAccept paddr pairId n s).2.ch.dev1 = s.ch.dev1 := by
  unfold dupAccept; repeat (first | (solve | simp [*]) | split | simp [*])

@[simp] theorem onceOnly_dev (paired : Bool) (src : Nat) (pairId : Nat) (pseq : Nat) (act : State → State) (s : State) (hact : ∀ (t : State), (act t).ch.dev0 = t.ch.dev0 ∧ (act t).ch.dev1 = t.ch.dev1) :
    (onceOnly paired src pairId pseq act s).ch.dev0 = s.ch.dev0 ∧ (onceOnly paired src pairId pseq act s).ch.dev1 = s.ch.dev1 := by
  unfold onceOnly; repeat (first | (solve | simp [*]) | split | simp [*])

@[simp] theorem linkAligned_dev (k : Fin 6) (s : State) :
    (linkAligned k s).ch.dev0 = s.ch.dev0 ∧ (linkAligned k s).ch.dev1 = s.ch.dev1 := by
  unfold linkAligned; repeat (first | (solve | simp [*]) | split | simp [*])

@[simp] theorem notAdmit_dev (k : Fin 6) (why : Nat) (s : State) :
    (notAdmit k why s).ch.dev0 = s.ch.dev0 ∧ (notAdmit k why s).ch.dev1 = s.ch.dev1 := by
  unfold notAdmit; repeat (first | (solve | simp [*]) | split | simp [*])

@[simp] theorem linkSeen_dev (k : Fin 6) (l : LinkInfo) (u : State) :
    (linkSeen k l u).ch.dev0 = u.ch.dev0 ∧ (linkSeen k l u).ch.dev1 = u.ch.dev1 := by
  unfold linkSeen; repeat (first | (solve | simp [*]) | split | simp [*])

@[simp] theorem linkFrame_dev (k : Fin 6) (l : LinkInfo) (s0 : State) :
    (linkFrame k l s0).ch.dev0 = s0.ch.dev0 ∧ (linkFrame k l s0).ch.dev1 = s0.ch.dev1 := by
  unfold linkFrame; repeat (first | (solve | simp [*]) | split | simp [*])

@[simp] theorem linkDown_dev (k : Fin 6) (why : LinkLoss) (s : State) :
    (linkDown k why s).ch.dev0 = s.ch.dev0 ∧ (linkDown k why s).ch.dev1 = s.ch.dev1 := by
  unfold linkDown; repeat (first | (solve | simp [*]) | split | simp [*])

@[simp] theorem linkSend_dev (k : Fin 6) (s : State) :
    (linkSend k s).ch.dev0 = s.ch.dev0 ∧ (linkSend k s).ch.dev1 = s.ch.dev1 := by
  unfold linkSend; repeat (first | (solve | simp [*]) | split | simp [*])

@[simp] theorem forwardFrame_dev (k : Fin 6) (e : FrameEnd) (f : OvFrame) (s : State) :
    (forwardFrame k e f s).ch.dev0 = s.ch.dev0 ∧ (forwardFrame k e f s).ch.dev1 = s.ch.dev1 := by
  unfold forwardFrame; repeat (first | (solve | simp [*]) | split | simp [*])

@[simp] theorem creditReturn_dev (k : Fin 6) (cls : Nat) (credits : Nat) (s : State) :
    (creditReturn k cls credits s).ch.dev0 = s.ch.dev0 ∧ (creditReturn k cls credits s).ch.dev1 = s.ch.dev1 := by
  unfold creditReturn; repeat (first | (solve | simp [*]) | split | simp [*])

@[simp] theorem assignRange_dev (base : Nat) (len : Nat) (s : State) :
    (assignRange base len s).ch.dev0 = s.ch.dev0 ∧ (assignRange base len s).ch.dev1 = s.ch.dev1 := by
  unfold assignRange
  dsimp only
  simp only [State.updOv_dev]
  refine ⟨(foldPair_dev _ _ _ (fun a k => ?_)).1.trans (State.updOv_dev ..).1, (foldPair_dev _ _ _ (fun a k => ?_)).2.trans (State.updOv_dev ..).2⟩ <;>
    · split
      · simp
      · split <;> simp

@[simp] theorem enumFinish_dev (s : State) :
    (enumFinish s).ch.dev0 = s.ch.dev0 ∧ (enumFinish s).ch.dev1 = s.ch.dev1 := by
  unfold enumFinish; repeat (first | (solve | simp [*]) | split | simp [*])

@[simp] theorem enumBegin_dev (s : State) :
    (enumBegin s).ch.dev0 = s.ch.dev0 ∧ (enumBegin s).ch.dev1 = s.ch.dev1 := by
  unfold enumBegin; repeat (first | (solve | simp [*]) | split | simp [*])

@[simp] theorem enumCountIn_dev (k : Fin 6) (n : Nat) (s : State) :
    (enumCountIn k n s).ch.dev0 = s.ch.dev0 ∧ (enumCountIn k n s).ch.dev1 = s.ch.dev1 := by
  unfold enumCountIn; repeat (first | (solve | simp [*]) | split | simp [*])

@[simp] theorem enumAtRoot_dev (s : State) :
    (enumAtRoot s).ch.dev0 = s.ch.dev0 ∧ (enumAtRoot s).ch.dev1 = s.ch.dev1 := by
  unfold enumAtRoot; repeat (first | (solve | simp [*]) | split | simp [*])

@[simp] theorem graftIn_dev (k : Fin 6) (h : OvHdr) (base : Nat) (len : Nat) (s : State) :
    (graftIn k h base len s).ch.dev0 = s.ch.dev0 ∧ (graftIn k h base len s).ch.dev1 = s.ch.dev1 := by
  unfold graftIn; repeat (first | (solve | simp [*]) | split | simp [*])

@[simp] theorem graftOut_dev (k : Fin 6) (h : OvHdr) (base : Nat) (len : Nat) (s : State) :
    (graftOut k h base len s).ch.dev0 = s.ch.dev0 ∧ (graftOut k h base len s).ch.dev1 = s.ch.dev1 := by
  unfold graftOut; repeat (first | (solve | simp [*]) | split | simp [*])

@[simp] theorem reroute_dev (s : State) :
    (reroute s).ch.dev0 = s.ch.dev0 ∧ (reroute s).ch.dev1 = s.ch.dev1 := by
  unfold reroute; repeat (first | (solve | simp [*]) | split | simp [*])

@[simp] theorem unreroute_dev (s : State) :
    (unreroute s).ch.dev0 = s.ch.dev0 ∧ (unreroute s).ch.dev1 = s.ch.dev1 := by
  unfold unreroute; repeat (first | (solve | simp [*]) | split | simp [*])

@[simp] theorem ovRefuse_dev (s : State) :
    (ovRefuse s).ch.dev0 = s.ch.dev0 ∧ (ovRefuse s).ch.dev1 = s.ch.dev1 := by
  unfold ovRefuse; repeat (first | (solve | simp [*]) | split | simp [*])

@[simp] theorem portRetrain_dev (k : Fin 6) (s : State) :
    (portRetrain k s).ch.dev0 = s.ch.dev0 ∧ (portRetrain k s).ch.dev1 = s.ch.dev1 := by
  unfold portRetrain; repeat (first | (solve | simp [*]) | split | simp [*])

@[simp] theorem mailboxEnd_dev (status : Nat) (data : List Byte) (s : State) :
    (mailboxEnd status data s).ch.dev0 = s.ch.dev0 ∧ (mailboxEnd status data s).ch.dev1 = s.ch.dev1 := by
  unfold mailboxEnd; repeat (first | (solve | simp [*]) | split | simp [*])

@[simp] theorem txnEnd_dev (tag : Nat) (status : Nat) (data : List Byte) (s : State) :
    (txnEnd tag status data s).ch.dev0 = s.ch.dev0 ∧ (txnEnd tag status data s).ch.dev1 = s.ch.dev1 := by
  unfold txnEnd; repeat (first | (solve | simp [*]) | split | simp [*])

@[simp] theorem queuesLost_dev (s : State) :
    (queuesLost s).ch.dev0 = s.ch.dev0 ∧ (queuesLost s).ch.dev1 = s.ch.dev1 := by
  unfold queuesLost; repeat (first | (solve | simp [*]) | split | simp [*])

@[simp] theorem resetOut_dev (k : Fin 6) (s : State) :
    (resetOut k s).ch.dev0 = s.ch.dev0 ∧ (resetOut k s).ch.dev1 = s.ch.dev1 := by
  unfold resetOut; repeat (first | (solve | simp [*]) | split | simp [*])

@[simp] theorem cascadeReset_dev (s : State) :
    (cascadeReset s).ch.dev0 = s.ch.dev0 ∧ (cascadeReset s).ch.dev1 = s.ch.dev1 := by
  unfold cascadeReset; repeat (first | (solve | simp [*]) | split | simp [*])

@[simp] theorem opTry_dev (s : State) :
    (opTry s).ch.dev0 = s.ch.dev0 ∧ (opTry s).ch.dev1 = s.ch.dev1 := by
  unfold opTry; repeat (first | (solve | simp [*]) | split | simp [*])

@[simp] theorem opBegin_dev (kind : Nat) (id : Nat) (snap : Option SnapS) (s0 : State) :
    (opBegin kind id snap s0).ch.dev0 = s0.ch.dev0 ∧ (opBegin kind id snap s0).ch.dev1 = s0.ch.dev1 := by
  unfold opBegin; repeat (first | (solve | simp [*]) | split | simp [*])

@[simp] theorem opAck_dev (k : Fin 6) (kind : Nat) (f : Ov0) (s : State) :
    (opAck k kind f s).ch.dev0 = s.ch.dev0 ∧ (opAck k kind f s).ch.dev1 = s.ch.dev1 := by
  unfold opAck; repeat (first | (solve | simp [*]) | split | simp [*])

@[simp] theorem snapRail_dev (r : Fin 24) (vout : Nat) (isum : Nat) (s : State) :
    (snapRail r vout isum s).ch.dev0 = s.ch.dev0 ∧ (snapRail r vout isum s).ch.dev1 = s.ch.dev1 := by
  unfold snapRail; repeat (first | (solve | simp [*]) | split | simp [*])

@[simp] theorem timeOffset_dev (ofs : Int) (s : State) :
    (timeOffset ofs s).ch.dev0 = s.ch.dev0 ∧ (timeOffset ofs s).ch.dev1 = s.ch.dev1 := by
  unfold timeOffset; repeat (first | (solve | simp [*]) | split | simp [*])

@[simp] theorem timeFrame_dev (mark : Nat) (markMs : Nat) (time : Nat) (s : State) :
    (timeFrame mark markMs time s).ch.dev0 = s.ch.dev0 ∧ (timeFrame mark markMs time s).ch.dev1 = s.ch.dev1 := by
  unfold timeFrame; repeat (first | (solve | simp [*]) | split | simp [*])

@[simp] theorem enqueue_dev (m : OvMsg) (s : State) :
    (enqueue m s).2.ch.dev0 = s.ch.dev0 ∧ (enqueue m s).2.ch.dev1 = s.ch.dev1 := by
  unfold enqueue; repeat (first | (solve | simp [*]) | split | simp [*])

@[simp] theorem fitCode_dev (sg : Bool) (w : Nat) (v : Int) (s : State) :
    (fitCode sg w v s).2.ch.dev0 = s.ch.dev0 ∧ (fitCode sg w v s).2.ch.dev1 = s.ch.dev1 := by
  unfold fitCode; repeat (first | (solve | simp [*]) | split | simp [*])

@[simp] theorem updPhases_dev (l : List (Fin 64)) (f : PhaseS → PhaseS) (s : State) :
    (updPhases l f s).ch.dev0 = s.ch.dev0 ∧ (updPhases l f s).ch.dev1 = s.ch.dev1 := by
  unfold updPhases; repeat (first | (solve | simp [*]) | split | simp [*])

@[simp] theorem suspendCheck_dev (r : Fin 24) (s : State) :
    (suspendCheck r s).ch.dev0 = s.ch.dev0 ∧ (suspendCheck r s).ch.dev1 = s.ch.dev1 := by
  unfold suspendCheck; repeat (first | (solve | simp [*]) | split | simp [*])

@[simp] theorem suspendMoved_dev (r : Fin 24) (was : List (Fin 64)) (s : State) :
    (suspendMoved r was s).ch.dev0 = s.ch.dev0 ∧ (suspendMoved r was s).ch.dev1 = s.ch.dev1 := by
  unfold suspendMoved; repeat (first | (solve | simp [*]) | split | simp [*])

@[simp] theorem place_dev (r : Fin 24) (s : State) :
    (place r s).ch.dev0 = s.ch.dev0 ∧ (place r s).ch.dev1 = s.ch.dev1 := by
  unfold place; refine State.each_dev _ _ _ (fun x t => ?_); split <;> simp

@[simp] theorem joinUnits_dev (r : Fin 24) (l : List (Fin 64)) (s : State) :
    (joinUnits r l s).ch.dev0 = s.ch.dev0 ∧ (joinUnits r l s).ch.dev1 = s.ch.dev1 := by
  unfold joinUnits; repeat (first | (solve | simp [*]) | split | simp [*])

@[simp] theorem regroup_dev (r : Fin 24) (s : State) :
    (regroup r s).ch.dev0 = s.ch.dev0 ∧ (regroup r s).ch.dev1 = s.ch.dev1 := by
  unfold regroup; repeat (first | (solve | simp [*]) | split | simp [*])

@[simp] theorem cancelShed_dev (r : Fin 24) (s : State) :
    (cancelShed r s).ch.dev0 = s.ch.dev0 ∧ (cancelShed r s).ch.dev1 = s.ch.dev1 := by
  unfold cancelShed; repeat (first | (solve | simp [*]) | split | simp [*])

@[simp] theorem shedCheck_dev (r : Fin 24) (s : State) :
    (shedCheck r s).ch.dev0 = s.ch.dev0 ∧ (shedCheck r s).ch.dev1 = s.ch.dev1 := by
  unfold shedCheck; repeat (first | (solve | simp [*]) | split | simp [*])

@[simp] theorem fenceEngine_dev (n : Fin 64) (why : Nat) (s : State) :
    (fenceEngine n why s).ch.dev0 = s.ch.dev0 ∧ (fenceEngine n why s).ch.dev1 = s.ch.dev1 := by
  unfold fenceEngine; repeat (first | (solve | simp [*]) | split | simp [*])

@[simp] theorem fenceRail_dev (r : Fin 24) (n : Fin 64) (l : List (Fin 64)) (s : State) :
    (fenceRail r n l s).ch.dev0 = s.ch.dev0 ∧ (fenceRail r n l s).ch.dev1 = s.ch.dev1 := by
  unfold fenceRail; repeat (first | (solve | simp [*]) | split | simp [*])

@[simp] theorem fencePhase_dev (n : Fin 64) (why : Nat) (raise_ : Bool) (s : State) :
    (fencePhase n why raise_ s).ch.dev0 = s.ch.dev0 ∧ (fencePhase n why raise_ s).ch.dev1 = s.ch.dev1 := by
  unfold fencePhase; repeat (first | (solve | simp [*]) | split | simp [*])

@[simp] theorem fenceByCheck_dev (n : Fin 64) (why : Nat) (s : State) :
    (fenceByCheck n why s).ch.dev0 = s.ch.dev0 ∧ (fenceByCheck n why s).ch.dev1 = s.ch.dev1 := by
  unfold fenceByCheck; repeat (first | (solve | simp [*]) | split | simp [*])

@[simp] theorem unfencePhase_dev (n : Fin 64) (s : State) :
    (unfencePhase n s).ch.dev0 = s.ch.dev0 ∧ (unfencePhase n s).ch.dev1 = s.ch.dev1 := by
  unfold unfencePhase; repeat (first | (solve | simp [*]) | split | simp [*])

@[simp] theorem loadPhase_dev (n : Fin 64) (s : State) :
    (loadPhase n s).ch.dev0 = s.ch.dev0 ∧ (loadPhase n s).ch.dev1 = s.ch.dev1 := by
  unfold loadPhase; repeat (first | (solve | simp [*]) | split | simp [*])

@[simp] theorem onTimeEnd_dev (n : Fin 64) (why : OnEnd) (peak : BitVec 10) (ton : Nat) (s : State) :
    (onTimeEnd n why peak ton s).ch.dev0 = s.ch.dev0 ∧ (onTimeEnd n why peak ton s).ch.dev1 = s.ch.dev1 := by
  unfold onTimeEnd; repeat (first | (solve | simp [*]) | split | simp [*])

@[simp] theorem endOverdue_dev (n : Fin 64) (s : State) :
    (endOverdue n s).ch.dev0 = s.ch.dev0 ∧ (endOverdue n s).ch.dev1 = s.ch.dev1 := by
  unfold endOverdue; repeat (first | (solve | simp [*]) | split | simp [*])

@[simp] theorem leadPulse_dev (n : Fin 64) (r : Fin 24) (c : PhaseCfg) (s : State) :
    (leadPulse n r c s).ch.dev0 = s.ch.dev0 ∧ (leadPulse n r c s).ch.dev1 = s.ch.dev1 := by
  unfold leadPulse; repeat (first | (solve | simp [*]) | split | simp [*])

@[simp] theorem loadDemand_dev (r : Fin 24) (s : State) :
    (loadDemand r s).ch.dev0 = s.ch.dev0 ∧ (loadDemand r s).ch.dev1 = s.ch.dev1 := by
  unfold loadDemand; repeat (first | (solve | simp [*]) | split | simp [*])

@[simp] theorem ackDemand_dev (r : Fin 24) (s : State) :
    (ackDemand r s).ch.dev0 = s.ch.dev0 ∧ (ackDemand r s).ch.dev1 = s.ch.dev1 := by
  unfold ackDemand; repeat (first | (solve | simp [*]) | split | simp [*])

@[simp] theorem fenceIn_dev (n : Fin 64) (s : State) :
    (fenceIn n s).ch.dev0 = s.ch.dev0 ∧ (fenceIn n s).ch.dev1 = s.ch.dev1 := by
  unfold fenceIn; repeat (first | (solve | simp [*]) | split | simp [*])

@[simp] theorem fwdEdge_dev (n : Fin 64) (s : State) :
    (fwdEdge n s).ch.dev0 = s.ch.dev0 ∧ (fwdEdge n s).ch.dev1 = s.ch.dev1 := by
  unfold fwdEdge; repeat (first | (solve | simp [*]) | split | simp [*])

@[simp] theorem leadingEdge_dev (n : Fin 64) (s : State) :
    (leadingEdge n s).ch.dev0 = s.ch.dev0 ∧ (leadingEdge n s).ch.dev1 = s.ch.dev1 := by
  unfold leadingEdge
  dsimp only
  have h : ∀ t : State, ((s.unitOf n).foldl (fun u i => endOverdue i u) t).ch.dev0 = t.ch.dev0 ∧
      ((s.unitOf n).foldl (fun u i => endOverdue i u) t).ch.dev1 = t.ch.dev1 := by
    intro t
    induction s.unitOf n generalizing t with
    | nil => simp
    | cons i l ih => simp [List.foldl, ih]
  split
  · split
    · simp
    · split
      · simp [h]
      · repeat (first | (solve | simp [h]) | split)
  · simp

@[simp] theorem verdict_dev (n : Fin 64) (r : Fin 24) (c : PhaseCfg) (x : Period) (top : Bool) (s : State) :
    (verdict n r c x top s).ch.dev0 = s.ch.dev0 ∧ (verdict n r c x top s).ch.dev1 = s.ch.dev1 := by
  unfold verdict; repeat (first | (solve | simp [*]) | split | simp [*])

@[simp] theorem valleySample_dev (n : Fin 64) (code : BitVec 10) (s0 : State) :
    (valleySample n code s0).ch.dev0 = s0.ch.dev0 ∧ (valleySample n code s0).ch.dev1 = s0.ch.dev1 := by
  unfold valleySample; repeat (first | (solve | simp [*]) | split | simp [*])

@[simp] theorem phasePublish_dev (n : Fin 64) (s : State) :
    (phasePublish n s).ch.dev0 = s.ch.dev0 ∧ (phasePublish n s).ch.dev1 = s.ch.dev1 := by
  unfold phasePublish; dsimp only; split
  · split
    · exact ⟨by rw [(State.updPhase_dev ..).1, (fitCode_dev ..).1, (fitCode_dev ..).1, (fitCode_dev ..).1], by rw [(State.updPhase_dev ..).2, (fitCode_dev ..).2, (fitCode_dev ..).2, (fitCode_dev ..).2]⟩
    · simp
  · simp

@[simp] theorem phRefuse_dev (n : Fin 64) (s : State) :
    (phRefuse n s).ch.dev0 = s.ch.dev0 ∧ (phRefuse n s).ch.dev1 = s.ch.dev1 := by
  unfold phRefuse; repeat (first | (solve | simp [*]) | split | simp [*])

@[simp] theorem hostFence_dev (n : Fin 64) (s : State) :
    (hostFence n s).ch.dev0 = s.ch.dev0 ∧ (hostFence n s).ch.dev1 = s.ch.dev1 := by
  unfold hostFence; repeat (first | (solve | simp [*]) | split | simp [*])

@[simp] theorem hostUnfence_dev (n : Fin 64) (s : State) :
    (hostUnfence n s).ch.dev0 = s.ch.dev0 ∧ (hostUnfence n s).ch.dev1 = s.ch.dev1 := by
  unfold hostUnfence; repeat (first | (solve | simp [*]) | split | simp [*])

@[simp] theorem phTrim_dev (n : Fin 64) (v : BitVec 16) (s : State) :
    (phTrim n v s).ch.dev0 = s.ch.dev0 ∧ (phTrim n v s).ch.dev1 = s.ch.dev1 := by
  unfold phTrim; repeat (first | (solve | simp [*]) | split | simp [*])

@[simp] theorem updSub_dev (p : Fin 8) (k : Fin 4) (f : SubS → SubS) (s : State) :
    (updSub p k f s).ch.dev0 = s.ch.dev0 ∧ (updSub p k f s).ch.dev1 = s.ch.dev1 := by
  unfold updSub; repeat (first | (solve | simp [*]) | split | simp [*])

@[simp] theorem updNotice_dev (r : Fin 24) (f : SubS → SubS) (s : State) :
    (updNotice r f s).ch.dev0 = s.ch.dev0 ∧ (updNotice r f s).ch.dev1 = s.ch.dev1 := by
  unfold updNotice; repeat (first | (solve | simp [*]) | split | simp [*])

@[simp] theorem portCause_dev (p : Fin 8) (b : Nat) (s : State) :
    (portCause p b s).ch.dev0 = s.ch.dev0 ∧ (portCause p b s).ch.dev1 = s.ch.dev1 := by
  unfold portCause; repeat (first | (solve | simp [*]) | split | simp [*])

@[simp] theorem faultNotice_dev (r : Fin 24) (s : State) :
    (faultNotice r s).ch.dev0 = s.ch.dev0 ∧ (faultNotice r s).ch.dev1 = s.ch.dev1 := by
  unfold faultNotice; repeat (first | (solve | simp [*]) | split | simp [*])

@[simp] theorem announce_dev (r : Fin 24) (s : State) :
    (announce r s).ch.dev0 = s.ch.dev0 ∧ (announce r s).ch.dev1 = s.ch.dev1 := by
  unfold announce; repeat (first | (solve | simp [*]) | split | simp [*])

@[simp] theorem enterTerm_dev (r : Fin 24) (k : LimitKind) (f : Option Q) (s : State) :
    (enterTerm r k f s).ch.dev0 = s.ch.dev0 ∧ (enterTerm r k f s).ch.dev1 = s.ch.dev1 := by
  unfold enterTerm; repeat (first | (solve | simp [*]) | split | simp [*])

@[simp] theorem logLimit_dev (r : Fin 24) (s : State) :
    (logLimit r s).ch.dev0 = s.ch.dev0 ∧ (logLimit r s).ch.dev1 = s.ch.dev1 := by
  unfold logLimit; repeat (first | (solve | simp [*]) | split | simp [*])

@[simp] theorem firstEnforced_dev (k : LimitKind) (r : Fin 24) (was : Option Q) (s : State) :
    (firstEnforced k r was s).ch.dev0 = s.ch.dev0 ∧ (firstEnforced k r was s).ch.dev1 = s.ch.dev1 := by
  unfold firstEnforced; repeat (first | (solve | simp [*]) | split | simp [*])

@[simp] theorem judgeTerm_dev (k : LimitKind) (r : Fin 24) (s : State) :
    (judgeTerm k r s).ch.dev0 = s.ch.dev0 ∧ (judgeTerm k r s).ch.dev1 = s.ch.dev1 := by
  unfold judgeTerm; repeat (first | (solve | simp [*]) | split | simp [*])

@[simp] theorem sampleLimits_dev (r : Fin 24) (s : State) :
    (sampleLimits r s).ch.dev0 = s.ch.dev0 ∧ (sampleLimits r s).ch.dev1 = s.ch.dev1 := by
  unfold sampleLimits; repeat (first | (solve | simp [*]) | split | simp [*])

@[simp] theorem graceExpiry_dev (r : Fin 24) (k : LimitKind) (s : State) :
    (graceExpiry r k s).ch.dev0 = s.ch.dev0 ∧ (graceExpiry r k s).ch.dev1 = s.ch.dev1 := by
  unfold graceExpiry; repeat (first | (solve | simp [*]) | split | simp [*])

@[simp] theorem moveTarget_dev (r : Fin 24) (v0 : Nat) (slew : Nat) (s : State) :
    (moveTarget r v0 slew s).ch.dev0 = s.ch.dev0 ∧ (moveTarget r v0 slew s).ch.dev1 = s.ch.dev1 := by
  unfold moveTarget; repeat (first | (solve | simp [*]) | split | simp [*])

@[simp] theorem loadRail_dev (r : Fin 24) (s : State) :
    (loadRail r s).ch.dev0 = s.ch.dev0 ∧ (loadRail r s).ch.dev1 = s.ch.dev1 := by
  unfold loadRail; repeat (first | (solve | simp [*]) | split | simp [*])

@[simp] theorem offerDemand_dev (r : Fin 24) (s : State) :
    (offerDemand r s).ch.dev0 = s.ch.dev0 ∧ (offerDemand r s).ch.dev1 = s.ch.dev1 := by
  unfold offerDemand; repeat (first | (solve | simp [*]) | split | simp [*])

@[simp] theorem startVref_dev (r : Fin 24) (s : State) :
    (startVref r s).2.ch.dev0 = s.ch.dev0 ∧ (startVref r s).2.ch.dev1 = s.ch.dev1 := by
  unfold startVref; repeat (first | (solve | simp [*]) | split | simp [*])

@[simp] theorem railStart_dev (r : Fin 24) (s0 : State) :
    (railStart r s0).ch.dev0 = s0.ch.dev0 ∧ (railStart r s0).ch.dev1 = s0.ch.dev1 := by
  unfold railStart; repeat (first | (solve | simp [*]) | split | simp [*])

@[simp] theorem railStop_dev (r : Fin 24) (s : State) :
    (railStop r s).ch.dev0 = s.ch.dev0 ∧ (railStop r s).ch.dev1 = s.ch.dev1 := by
  unfold railStop; repeat (first | (solve | simp [*]) | split | simp [*])

@[simp] theorem phasesOff_dev (r : Fin 24) (s : State) :
    (phasesOff r s).ch.dev0 = s.ch.dev0 ∧ (phasesOff r s).ch.dev1 = s.ch.dev1 := by
  unfold phasesOff; repeat (first | (solve | simp [*]) | split | simp [*])

@[simp] theorem railCut_dev (r : Fin 24) (s : State) :
    (railCut r s).ch.dev0 = s.ch.dev0 ∧ (railCut r s).ch.dev1 = s.ch.dev1 := by
  unfold railCut; repeat (first | (solve | simp [*]) | split | simp [*])

@[simp] theorem railSnuff_dev (r : Fin 24) (s : State) :
    (railSnuff r s).ch.dev0 = s.ch.dev0 ∧ (railSnuff r s).ch.dev1 = s.ch.dev1 := by
  unfold railSnuff; repeat (first | (solve | simp [*]) | split | simp [*])

@[simp] theorem reassertSnuff_dev (r : Fin 24) (s : State) :
    (reassertSnuff r s).ch.dev0 = s.ch.dev0 ∧ (reassertSnuff r s).ch.dev1 = s.ch.dev1 := by
  unfold reassertSnuff; repeat (first | (solve | simp [*]) | split | simp [*])

@[simp] theorem railUnsnuff_dev (r : Fin 24) (s : State) :
    (railUnsnuff r s).ch.dev0 = s.ch.dev0 ∧ (railUnsnuff r s).ch.dev1 = s.ch.dev1 := by
  unfold railUnsnuff; repeat (first | (solve | simp [*]) | split | simp [*])

@[simp] theorem armUv_dev (r : Fin 24) (s : State) :
    (armUv r s).ch.dev0 = s.ch.dev0 ∧ (armUv r s).ch.dev1 = s.ch.dev1 := by
  unfold armUv; repeat (first | (solve | simp [*]) | split | simp [*])

@[simp] theorem readCmp_dev (o : Option Bool) (s : State) :
    (readCmp o s).2.ch.dev0 = s.ch.dev0 ∧ (readCmp o s).2.ch.dev1 = s.ch.dev1 := by
  unfold readCmp; repeat (first | (solve | simp [*]) | split | simp [*])

@[simp] theorem uvEvent_dev (r : Fin 24) (s : State) :
    (uvEvent r s).ch.dev0 = s.ch.dev0 ∧ (uvEvent r s).ch.dev1 = s.ch.dev1 := by
  unfold uvEvent; repeat (first | (solve | simp [*]) | split | simp [*])

@[simp] theorem uvStart_dev (ev : State → State) (r : Fin 24) (low : Bool) (s : State) (hev : ∀ (t : State), (ev t).ch.dev0 = t.ch.dev0 ∧ (ev t).ch.dev1 = t.ch.dev1) :
    (uvStart ev r low s).ch.dev0 = s.ch.dev0 ∧ (uvStart ev r low s).ch.dev1 = s.ch.dev1 := by
  unfold uvStart; repeat (first | (solve | simp [*]) | split | simp [*])

@[simp] theorem uvJudge_dev (ev : State → State) (r : Fin 24) (s : State) (hev : ∀ (t : State), (ev t).ch.dev0 = t.ch.dev0 ∧ (ev t).ch.dev1 = t.ch.dev1) :
    (uvJudge ev r s).ch.dev0 = s.ch.dev0 ∧ (uvJudge ev r s).ch.dev1 = s.ch.dev1 := by
  unfold uvJudge; repeat (first | (solve | simp [*]) | split | simp [*])

@[simp] theorem uvChange_dev (ev : State → State) (r : Fin 24) (v : Nat) (s : State) (hev : ∀ (t : State), (ev t).ch.dev0 = t.ch.dev0 ∧ (ev t).ch.dev1 = t.ch.dev1) :
    (uvChange ev r v s).ch.dev0 = s.ch.dev0 ∧ (uvChange ev r v s).ch.dev1 = s.ch.dev1 := by
  unfold uvChange; repeat (first | (solve | simp [*]) | split | simp [*])

@[simp] theorem ovTrip_dev (r : Fin 24) (s : State) :
    (ovTrip r s).ch.dev0 = s.ch.dev0 ∧ (ovTrip r s).ch.dev1 = s.ch.dev1 := by
  unfold ovTrip; repeat (first | (solve | simp [*]) | split | simp [*])

@[simp] theorem ovChange_dev (act : State → State) (r : Fin 24) (v : Nat) (s : State) (hact : ∀ (t : State), (act t).ch.dev0 = t.ch.dev0 ∧ (act t).ch.dev1 = t.ch.dev1) :
    (ovChange act r v s).ch.dev0 = s.ch.dev0 ∧ (ovChange act r v s).ch.dev1 = s.ch.dev1 := by
  unfold ovChange; repeat (first | (solve | simp [*]) | split | simp [*])

@[simp] theorem rampUpEnd_dev (r : Fin 24) (s : State) :
    (rampUpEnd r s).ch.dev0 = s.ch.dev0 ∧ (rampUpEnd r s).ch.dev1 = s.ch.dev1 := by
  unfold rampUpEnd; repeat (first | (solve | simp [*]) | split | simp [*])

@[simp] theorem startSettle_dev (r : Fin 24) (s : State) :
    (startSettle r s).ch.dev0 = s.ch.dev0 ∧ (startSettle r s).ch.dev1 = s.ch.dev1 := by
  unfold startSettle; repeat (first | (solve | simp [*]) | split | simp [*])

@[simp] theorem rampStep_dev (r : Fin 24) (s : State) :
    (rampStep r s).ch.dev0 = s.ch.dev0 ∧ (rampStep r s).ch.dev1 = s.ch.dev1 := by
  unfold rampStep; repeat (first | (solve | simp [*]) | split | simp [*])

@[simp] theorem slewStep_dev (r : Fin 24) (s : State) :
    (slewStep r s).ch.dev0 = s.ch.dev0 ∧ (slewStep r s).ch.dev1 = s.ch.dev1 := by
  unfold slewStep; repeat (first | (solve | simp [*]) | split | simp [*])

@[simp] theorem demandStep_dev (r : Fin 24) (e : Int) (sat : Bool) (s : State) :
    (demandStep r e sat s).ch.dev0 = s.ch.dev0 ∧ (demandStep r e sat s).ch.dev1 = s.ch.dev1 := by
  unfold demandStep; repeat (first | (solve | simp [*]) | split | simp [*])

@[simp] theorem moveUp_dev (r : Fin 24) (k : Nat) (s : State) :
    (moveUp r k s).ch.dev0 = s.ch.dev0 ∧ (moveUp r k s).ch.dev1 = s.ch.dev1 := by
  unfold moveUp; repeat (first | (solve | simp [*]) | split | simp [*])

@[simp] theorem holdOffStart_dev (r : Fin 24) (c : RailCfg) (s : State) :
    (holdOffStart r c s).ch.dev0 = s.ch.dev0 ∧ (holdOffStart r c s).ch.dev1 = s.ch.dev1 := by
  unfold holdOffStart; repeat (first | (solve | simp [*]) | split | simp [*])

@[simp] theorem relight_dev (r : Fin 24) (s : State) :
    (relight r s).ch.dev0 = s.ch.dev0 ∧ (relight r s).ch.dev1 = s.ch.dev1 := by
  unfold relight; repeat (first | (solve | simp [*]) | split | simp [*])

@[simp] theorem relightIn_dev (r : Fin 24) (k : Nat) (trig : Bool) (s : State) :
    (relightIn r k trig s).ch.dev0 = s.ch.dev0 ∧ (relightIn r k trig s).ch.dev1 = s.ch.dev1 := by
  unfold relightIn; repeat (first | (solve | simp [*]) | split | simp [*])

@[simp] theorem shedAnnounce_dev (r : Fin 24) (s : State) :
    (shedAnnounce r s).ch.dev0 = s.ch.dev0 ∧ (shedAnnounce r s).ch.dev1 = s.ch.dev1 := by
  unfold shedAnnounce; repeat (first | (solve | simp [*]) | split | simp [*])

@[simp] theorem dwellExpiry_dev (r : Fin 24) (s : State) :
    (dwellExpiry r s).ch.dev0 = s.ch.dev0 ∧ (dwellExpiry r s).ch.dev1 = s.ch.dev1 := by
  unfold dwellExpiry; repeat (first | (solve | simp [*]) | split | simp [*])

@[simp] theorem shedStep_dev (r : Fin 24) (e : Int) (s : State) :
    (shedStep r e s).ch.dev0 = s.ch.dev0 ∧ (shedStep r e s).ch.dev1 = s.ch.dev1 := by
  unfold shedStep; repeat (first | (solve | simp [*]) | split | simp [*])

@[simp] theorem pgStep_dev (r : Fin 24) (e : Int) (sat : Bool) (vref : Int) (s : State) :
    (pgStep r e sat vref s).ch.dev0 = s.ch.dev0 ∧ (pgStep r e sat vref s).ch.dev1 = s.ch.dev1 := by
  unfold pgStep; repeat (first | (solve | simp [*]) | split | simp [*])

@[simp] theorem settleStep_dev (r : Fin 24) (e : Int) (sat : Bool) (s : State) :
    (settleStep r e sat s).ch.dev0 = s.ch.dev0 ∧ (settleStep r e sat s).ch.dev1 = s.ch.dev1 := by
  unfold settleStep; repeat (first | (solve | simp [*]) | split | simp [*])

@[simp] theorem railCheck_dev (r : Fin 24) (bit : Nat) (s : State) :
    (railCheck r bit s).ch.dev0 = s.ch.dev0 ∧ (railCheck r bit s).ch.dev1 = s.ch.dev1 := by
  unfold railCheck; repeat (first | (solve | simp [*]) | split | simp [*])

@[simp] theorem railChecks_dev (r : Fin 24) (v : Int) (sat : Bool) (vsnBad : Bool) (s : State) :
    (railChecks r v sat vsnBad s).ch.dev0 = s.ch.dev0 ∧ (railChecks r v sat vsnBad s).ch.dev1 = s.ch.dev1 := by
  unfold railChecks; repeat (first | (solve | simp [*]) | split | simp [*])

@[simp] theorem snapTake_dev (r : Fin 24) (s : State) :
    (snapTake r s).ch.dev0 = s.ch.dev0 ∧ (snapTake r s).ch.dev1 = s.ch.dev1 := by
  unfold snapTake; repeat (first | (solve | simp [*]) | split | simp [*])

@[simp] theorem compensate_dev (r : Fin 24) (e : Int) (v : Int) (sat : Bool) (vsnBad : Bool) (ride : Bool) (vref : Int) (s : State) :
    (compensate r e v sat vsnBad ride vref s).ch.dev0 = s.ch.dev0 ∧ (compensate r e v sat vsnBad ride vref s).ch.dev1 = s.ch.dev1 := by
  unfold compensate; repeat (first | (solve | simp [*]) | split | simp [*])

@[simp] theorem newLevels_dev (uv : State → State) (ov : State → State) (r : Fin 24) (old : Option RailCfg) (s : State) (huv : ∀ (t : State), (uv t).ch.dev0 = t.ch.dev0 ∧ (uv t).ch.dev1 = t.ch.dev1) (hov : ∀ (t : State), (ov t).ch.dev0 = t.ch.dev0 ∧ (ov t).ch.dev1 = t.ch.dev1) :
    (newLevels uv ov r old s).ch.dev0 = s.ch.dev0 ∧ (newLevels uv ov r old s).ch.dev1 = s.ch.dev1 := by
  unfold newLevels; repeat (first | (solve | simp [*]) | split | simp [*])

@[simp] theorem compensator_dev (uv : State → State) (ov : State → State) (r : Fin 24) (e0 : Int) (sat : Bool) (vsnBad : Bool) (s : State) (huv : ∀ (t : State), (uv t).ch.dev0 = t.ch.dev0 ∧ (uv t).ch.dev1 = t.ch.dev1) (hov : ∀ (t : State), (ov t).ch.dev0 = t.ch.dev0 ∧ (ov t).ch.dev1 = t.ch.dev1) :
    (compensator uv ov r e0 sat vsnBad s).ch.dev0 = s.ch.dev0 ∧ (compensator uv ov r e0 sat vsnBad s).ch.dev1 = s.ch.dev1 := by
  unfold compensator; repeat (first | (solve | simp [*]) | split | simp [*])

@[simp] theorem railPublish_dev (r : Fin 24) (s : State) :
    (railPublish r s).ch.dev0 = s.ch.dev0 ∧ (railPublish r s).ch.dev1 = s.ch.dev1 := by
  unfold railPublish; repeat (first | (solve | simp [*]) | split | simp [*])

@[simp] theorem railRefuse_dev (r : Fin 24) (s : State) :
    (railRefuse r s).ch.dev0 = s.ch.dev0 ∧ (railRefuse r s).ch.dev1 = s.ch.dev1 := by
  unfold railRefuse; repeat (first | (solve | simp [*]) | split | simp [*])

@[simp] theorem hostUnsnuff_dev (r : Fin 24) (s : State) :
    (hostUnsnuff r s).ch.dev0 = s.ch.dev0 ∧ (hostUnsnuff r s).ch.dev1 = s.ch.dev1 := by
  unfold hostUnsnuff; repeat (first | (solve | simp [*]) | split | simp [*])

@[simp] theorem hostNoshed_dev (r : Fin 24) (on : Bool) (s : State) :
    (hostNoshed r on s).ch.dev0 = s.ch.dev0 ∧ (hostNoshed r on s).ch.dev1 = s.ch.dev1 := by
  unfold hostNoshed; repeat (first | (solve | simp [*]) | split | simp [*])

@[simp] theorem trimVset_dev (r : Fin 24) (v : Nat) (s : State) :
    (trimVset r v s).ch.dev0 = s.ch.dev0 ∧ (trimVset r v s).ch.dev1 = s.ch.dev1 := by
  unfold trimVset; repeat (first | (solve | simp [*]) | split | simp [*])

@[simp] theorem trimIlim_dev (r : Fin 24) (v : Nat) (s : State) :
    (trimIlim r v s).ch.dev0 = s.ch.dev0 ∧ (trimIlim r v s).ch.dev1 = s.ch.dev1 := by
  unfold trimIlim; repeat (first | (solve | simp [*]) | split | simp [*])

@[simp] theorem portClock_dev (p : Fin 8) (v : Isl) (s : State) :
    (portClock p v s).ch.dev0 = s.ch.dev0 ∧ (portClock p v s).ch.dev1 = s.ch.dev1 := by
  unfold portClock; repeat (first | (solve | simp [*]) | split | simp [*])

@[simp] theorem llSetV_dev (p : Fin 8) (k : Fin 4) (r : Fin 24) (payload : Nat) (s : State) :
    (llSetV p k r payload s).2.ch.dev0 = s.ch.dev0 ∧ (llSetV p k r payload s).2.ch.dev1 = s.ch.dev1 := by
  unfold llSetV; repeat (first | (solve | simp [*]) | split | simp [*])

@[simp] theorem llNoticeAck_dev (p : Fin 8) (payload : Nat) (s : State) :
    (llNoticeAck p payload s).ch.dev0 = s.ch.dev0 ∧ (llNoticeAck p payload s).ch.dev1 = s.ch.dev1 := by
  unfold llNoticeAck; repeat (first | (solve | simp [*]) | split | simp [*])

@[simp] theorem llExec_dev (p : Fin 8) (k : Fin 4) (q : LlReq) (s : State) :
    (llExec p k q s).2.ch.dev0 = s.ch.dev0 ∧ (llExec p k q s).2.ch.dev1 = s.ch.dev1 := by
  unfold llExec; repeat (first | (solve | simp [*]) | split | simp [*])

@[simp] theorem llRespond_dev (p : Fin 8) (rcrc : Nat) (code : Nat) (data : Nat) (s : State) :
    (llRespond p rcrc code data s).ch.dev0 = s.ch.dev0 ∧ (llRespond p rcrc code data s).ch.dev1 = s.ch.dev1 := by
  unfold llRespond; repeat (first | (solve | simp [*]) | split | simp [*])

@[simp] theorem llLoss_dev (p : Fin 8) (s : State) :
    (llLoss p s).ch.dev0 = s.ch.dev0 ∧ (llLoss p s).ch.dev1 = s.ch.dev1 := by
  unfold llLoss; repeat (first | (solve | simp [*]) | split | simp [*])

@[simp] theorem llBad_dev (p : Fin 8) (s : State) :
    (llBad p s).ch.dev0 = s.ch.dev0 ∧ (llBad p s).ch.dev1 = s.ch.dev1 := by
  unfold llBad; repeat (first | (solve | simp [*]) | split | simp [*])

@[simp] theorem llRequest_dev (p : Fin 8) (k : Fin 4) (cmd : Nat) (tog : Bool) (payload : Nat) (rcrc : Nat) (s0 : State) :
    (llRequest p k cmd tog payload rcrc s0).ch.dev0 = s0.ch.dev0 ∧ (llRequest p k cmd tog payload rcrc s0).ch.dev1 = s0.ch.dev1 := by
  unfold llRequest; repeat (first | (solve | simp [*]) | split | simp [*])

@[simp] theorem llBoundary_dev (p : Fin 8) (edges : Nat) (startOne : Bool) (s0 : State) :
    (llBoundary p edges startOne s0).ch.dev0 = s0.ch.dev0 ∧ (llBoundary p edges startOne s0).ch.dev1 = s0.ch.dev1 := by
  unfold llBoundary; repeat (first | (solve | simp [*]) | split | simp [*])

@[simp] theorem settleTimeout_dev (r : Fin 24) (s : State) :
    (settleTimeout r s).ch.dev0 = s.ch.dev0 ∧ (settleTimeout r s).ch.dev1 = s.ch.dev1 := by
  unfold settleTimeout; repeat (first | (solve | simp [*]) | split | simp [*])

@[simp] theorem noticeClear_dev (p : Fin 8) (s : State) :
    (noticeClear p s).ch.dev0 = s.ch.dev0 ∧ (noticeClear p s).ch.dev1 = s.ch.dev1 := by
  unfold noticeClear; repeat (first | (solve | simp [*]) | split | simp [*])

@[simp] theorem mbPut_dev (c : Fin 16) (k : MbKind) (s : State) :
    (mbPut c k s).ch.dev0 = s.ch.dev0 ∧ (mbPut c k s).ch.dev1 = s.ch.dev1 := by
  unfold mbPut; repeat (first | (solve | simp [*]) | split | simp [*])

@[simp] theorem dropWork_dev (c : Fin 16) (s : State) :
    (dropWork c s).ch.dev0 = s.ch.dev0 ∧ (dropWork c s).ch.dev1 = s.ch.dev1 := by
  unfold dropWork; repeat (first | (solve | simp [*]) | split | simp [*])

@[simp] theorem dropOp_dev (i : Nat) (s : State) :
    (dropOp i s).ch.dev0 = s.ch.dev0 ∧ (dropOp i s).ch.dev1 = s.ch.dev1 := by
  unfold dropOp; repeat (first | (solve | simp [*]) | split | simp [*])

@[simp] theorem watchMb_dev (s : State) :
    (watchMb s).ch.dev0 = s.ch.dev0 ∧ (watchMb s).ch.dev1 = s.ch.dev1 := by
  unfold watchMb; repeat (first | (solve | simp [*]) | split | simp [*])

@[simp] theorem judgeUsable_dev (s : State) :
    (judgeUsable s).ch.dev0 = s.ch.dev0 ∧ (judgeUsable s).ch.dev1 = s.ch.dev1 := by
  unfold judgeUsable; repeat (first | (solve | simp [*]) | split | simp [*])

@[simp] theorem excludeNow_dev (c : Fin 16) (why : Nat) (s : State) :
    (excludeNow c why s).ch.dev0 = s.ch.dev0 ∧ (excludeNow c why s).ch.dev1 = s.ch.dev1 := by
  unfold excludeNow; repeat (first | (solve | simp [*]) | split | simp [*])

@[simp] theorem exclude_dev (c : Fin 16) (why : Nat) (s : State) :
    (exclude c why s).ch.dev0 = s.ch.dev0 ∧ (exclude c why s).ch.dev1 = s.ch.dev1 := by
  unfold exclude; repeat (first | (solve | simp [*]) | split | simp [*])

@[simp] theorem examine_dev (c : Fin 16) (s : State) :
    (examine c s).ch.dev0 = s.ch.dev0 ∧ (examine c s).ch.dev1 = s.ch.dev1 := by
  unfold examine; repeat (first | (solve | simp [*]) | split | simp [*])

@[simp] theorem onIdentity_dev (c : Fin 16) (d : List Byte) (s : State) :
    (onIdentity c d s).ch.dev0 = s.ch.dev0 ∧ (onIdentity c d s).ch.dev1 = s.ch.dev1 := by
  unfold onIdentity; repeat (first | (solve | simp [*]) | split | simp [*])

@[simp] theorem challenge_dev (c : Fin 16) (s : State) :
    (challenge c s).ch.dev0 = s.ch.dev0 ∧ (challenge c s).ch.dev1 = s.ch.dev1 := by
  unfold challenge; repeat (first | (solve | simp [*]) | split | simp [*])

@[simp] theorem cartControl_dev (c : Fin 16) (s : State) :
    (cartControl c s).ch.dev0 = s.ch.dev0 ∧ (cartControl c s).ch.dev1 = s.ch.dev1 := by
  unfold cartControl; repeat (first | (solve | simp [*]) | split | simp [*])

@[simp] theorem onBanks_dev (c : Fin 16) (d : List Byte) (s : State) :
    (onBanks c d s).ch.dev0 = s.ch.dev0 ∧ (onBanks c d s).ch.dev1 = s.ch.dev1 := by
  unfold onBanks; repeat (first | (solve | simp [*]) | split | simp [*])

@[simp] theorem onResponse_dev (c : Fin 16) (d : List Byte) (s : State) :
    (onResponse c d s).ch.dev0 = s.ch.dev0 ∧ (onResponse c d s).ch.dev1 = s.ch.dev1 := by
  unfold onResponse; repeat (first | (solve | simp [*]) | split | simp [*])

@[simp] theorem writeCounters_dev (c : Fin 16) (s : State) :
    (writeCounters c s).ch.dev0 = s.ch.dev0 ∧ (writeCounters c s).ch.dev1 = s.ch.dev1 := by
  unfold writeCounters; repeat (first | (solve | simp [*]) | split | simp [*])

@[simp] theorem writeAllCounters_dev (s : State) :
    (writeAllCounters s).ch.dev0 = s.ch.dev0 ∧ (writeAllCounters s).ch.dev1 = s.ch.dev1 := by
  unfold writeAllCounters; repeat (first | (solve | simp [*]) | split | simp [*])

@[simp] theorem lifeCheck_dev (c : Fin 16) (s : State) :
    (lifeCheck c s).ch.dev0 = s.ch.dev0 ∧ (lifeCheck c s).ch.dev1 = s.ch.dev1 := by
  unfold lifeCheck; repeat (first | (solve | simp [*]) | split | simp [*])

@[simp] theorem integrate_dev (r : Fin 24) (s : State) :
    (integrate r s).ch.dev0 = s.ch.dev0 ∧ (integrate r s).ch.dev1 = s.ch.dev1 := by
  unfold integrate; repeat (first | (solve | simp [*]) | split | simp [*])

@[simp] theorem absentNow_dev (c : Fin 16) (s : State) :
    (absentNow c s).ch.dev0 = s.ch.dev0 ∧ (absentNow c s).ch.dev1 = s.ch.dev1 := by
  unfold absentNow; repeat (first | (solve | simp [*]) | split | simp [*])

@[simp] theorem cartAbsent_dev (c : Fin 16) (s : State) :
    (cartAbsent c s).ch.dev0 = s.ch.dev0 ∧ (cartAbsent c s).ch.dev1 = s.ch.dev1 := by
  unfold cartAbsent; repeat (first | (solve | simp [*]) | split | simp [*])

@[simp] theorem cartAfterRide_dev (c : Fin 16) (s : State) :
    (cartAfterRide c s).ch.dev0 = s.ch.dev0 ∧ (cartAfterRide c s).ch.dev1 = s.ch.dev1 := by
  unfold cartAfterRide; repeat (first | (solve | simp [*]) | split | simp [*])

@[simp] theorem mbSuccess_dev (o : MbOp) (d : List Byte) (s0 : State) :
    (mbSuccess o d s0).ch.dev0 = s0.ch.dev0 ∧ (mbSuccess o d s0).ch.dev1 = s0.ch.dev1 := by
  unfold mbSuccess; split
  · simp
  · simp
  · simp
  · split <;> simp
  · simp
  · dsimp only; split <;> simp
  · dsimp only; split
    · simp
    · split <;> simp
  · simp

@[simp] theorem mbGiveUp_dev (o : MbOp) (s : State) :
    (mbGiveUp o s).ch.dev0 = s.ch.dev0 ∧ (mbGiveUp o s).ch.dev1 = s.ch.dev1 := by
  unfold mbGiveUp; split
  · dsimp only; split <;> simp
  · split <;> simp
  · simp
  · simp
  · simp
  · simp
  · simp
  · simp

@[simp] theorem mbFail_dev (crc : Bool) (i : Nat) (o : MbOp) (s : State) :
    (mbFail crc i o s).ch.dev0 = s.ch.dev0 ∧ (mbFail crc i o s).ch.dev1 = s.ch.dev1 := by
  unfold mbFail; repeat (first | (solve | simp [*]) | split | simp [*])

@[simp] theorem mbRecover_dev (s : State) :
    (mbRecover s).ch.dev0 = s.ch.dev0 ∧ (mbRecover s).ch.dev1 = s.ch.dev1 := by
  unfold mbRecover; repeat (first | (solve | simp [*]) | split | simp [*])

@[simp] theorem mbDone_dev (res : MbResult) (s0 : State) :
    (mbDone res s0).ch.dev0 = s0.ch.dev0 ∧ (mbDone res s0).ch.dev1 = s0.ch.dev1 := by
  unfold mbDone; repeat (first | (solve | simp [*]) | split | simp [*])

@[simp] theorem mbRetry_dev (c : Fin 16) (busy : Bool) (s : State) :
    (mbRetry c busy s).ch.dev0 = s.ch.dev0 ∧ (mbRetry c busy s).ch.dev1 = s.ch.dev1 := by
  unfold mbRetry; repeat (first | (solve | simp [*]) | split | simp [*])

@[simp] theorem mbLowTimeout_dev (sdaStuck : Bool) (s : State) :
    (mbLowTimeout sdaStuck s).ch.dev0 = s.ch.dev0 ∧ (mbLowTimeout sdaStuck s).ch.dev1 = s.ch.dev1 := by
  unfold mbLowTimeout; repeat (first | (solve | simp [*]) | split | simp [*])

@[simp] theorem statusPoll_dev (c : Fin 16) (s : State) :
    (statusPoll c s).ch.dev0 = s.ch.dev0 ∧ (statusPoll c s).ch.dev1 = s.ch.dev1 := by
  unfold statusPoll; repeat (first | (solve | simp [*]) | split | simp [*])

@[simp] theorem authPollNow_dev (c : Fin 16) (s : State) :
    (authPollNow c s).ch.dev0 = s.ch.dev0 ∧ (authPollNow c s).ch.dev1 = s.ch.dev1 := by
  unfold authPollNow; repeat (first | (solve | simp [*]) | split | simp [*])

@[simp] theorem authExpired_dev (c : Fin 16) (s : State) :
    (authExpired c s).ch.dev0 = s.ch.dev0 ∧ (authExpired c s).ch.dev1 = s.ch.dev1 := by
  unfold authExpired; repeat (first | (solve | simp [*]) | split | simp [*])

@[simp] theorem reauth_dev (c : Fin 16) (s : State) :
    (reauth c s).ch.dev0 = s.ch.dev0 ∧ (reauth c s).ch.dev1 = s.ch.dev1 := by
  unfold reauth; repeat (first | (solve | simp [*]) | split | simp [*])

@[simp] theorem rescan_dev (c : Fin 16) (s : State) :
    (rescan c s).ch.dev0 = s.ch.dev0 ∧ (rescan c s).ch.dev1 = s.ch.dev1 := by
  unfold rescan; repeat (first | (solve | simp [*]) | split | simp [*])

@[simp] theorem holdDrop_dev (r : Fin 24) (s : State) :
    (holdDrop r s).ch.dev0 = s.ch.dev0 ∧ (holdDrop r s).ch.dev1 = s.ch.dev1 := by
  unfold holdDrop; repeat (first | (solve | simp [*]) | split | simp [*])

@[simp] theorem holdSwitch_dev (r : Fin 24) (dis : Bool) (s : State) :
    (holdSwitch r dis s).ch.dev0 = s.ch.dev0 ∧ (holdSwitch r dis s).ch.dev1 = s.ch.dev1 := by
  unfold holdSwitch; repeat (first | (solve | simp [*]) | split | simp [*])

@[simp] theorem rideEnd_dev (spent : Bool) (s : State) :
    (rideEnd spent s).ch.dev0 = s.ch.dev0 ∧ (rideEnd spent s).ch.dev1 = s.ch.dev1 := by
  unfold rideEnd; dsimp only
  refine ⟨(State.each_dev _ _ _ (fun c t => by simp)).1.trans ?_, (State.each_dev _ _ _ (fun c t => by simp)).2.trans ?_⟩ <;>
    simp

@[simp] theorem enterCharge_dev (r : Fin 24) (s : State) :
    (enterCharge r s).ch.dev0 = s.ch.dev0 ∧ (enterCharge r s).ch.dev1 = s.ch.dev1 := by
  unfold enterCharge; repeat (first | (solve | simp [*]) | split | simp [*])

@[simp] theorem enterIdle_dev (r : Fin 24) (s : State) :
    (enterIdle r s).ch.dev0 = s.ch.dev0 ∧ (enterIdle r s).ch.dev1 = s.ch.dev1 := by
  unfold enterIdle; repeat (first | (solve | simp [*]) | split | simp [*])

@[simp] theorem chargeOrIdle_dev (r : Fin 24) (s : State) :
    (chargeOrIdle r s).ch.dev0 = s.ch.dev0 ∧ (chargeOrIdle r s).ch.dev1 = s.ch.dev1 := by
  unfold chargeOrIdle; repeat (first | (solve | simp [*]) | split | simp [*])

@[simp] theorem rideSpent_dev (r : Fin 24) (b : Nat) (s : State) :
    (rideSpent r b s).ch.dev0 = s.ch.dev0 ∧ (rideSpent r b s).ch.dev1 = s.ch.dev1 := by
  unfold rideSpent; repeat (first | (solve | simp [*]) | split | simp [*])

@[simp] theorem holdJudge_dev (s : State) :
    (holdJudge s).ch.dev0 = s.ch.dev0 ∧ (holdJudge s).ch.dev1 = s.ch.dev1 := by
  unfold holdJudge; repeat (first | (solve | simp [*]) | split | simp [*])

@[simp] theorem rideDemand_dev (r : Fin 24) (s : State) :
    (rideDemand r s).ch.dev0 = s.ch.dev0 ∧ (rideDemand r s).ch.dev1 = s.ch.dev1 := by
  unfold rideDemand; repeat (first | (solve | simp [*]) | split | simp [*])

@[simp] theorem enterRide_dev (r : Fin 24) (s : State) :
    (enterRide r s).ch.dev0 = s.ch.dev0 ∧ (enterRide r s).ch.dev1 = s.ch.dev1 := by
  unfold enterRide; repeat (first | (solve | simp [*]) | split | simp [*])

@[simp] theorem rideBegin_dev (r : Fin 24) (s : State) :
    (rideBegin r s).ch.dev0 = s.ch.dev0 ∧ (rideBegin r s).ch.dev1 = s.ch.dev1 := by
  simp [rideBegin]

@[simp] theorem rideTrip_dev (s : State) :
    (rideTrip s).ch.dev0 = s.ch.dev0 ∧ (rideTrip s).ch.dev1 = s.ch.dev1 := by
  unfold rideTrip; repeat (first | (solve | simp [*]) | split | simp [*])

@[simp] theorem rideClear_dev (s : State) :
    (rideClear s).ch.dev0 = s.ch.dev0 ∧ (rideClear s).ch.dev1 = s.ch.dev1 := by
  unfold rideClear; repeat (first | (solve | simp [*]) | split | simp [*])

@[simp] theorem handbackEnd_dev (s : State) :
    (handbackEnd s).ch.dev0 = s.ch.dev0 ∧ (handbackEnd s).ch.dev1 = s.ch.dev1 := by
  unfold handbackEnd; repeat (first | (solve | simp [*]) | split | simp [*])

@[simp] theorem maxRide_dev (s : State) :
    (maxRide s).ch.dev0 = s.ch.dev0 ∧ (maxRide s).ch.dev1 = s.ch.dev1 := by
  unfold maxRide; repeat (first | (solve | simp [*]) | split | simp [*])

@[simp] theorem judgeBusLost_dev (s : State) :
    (judgeBusLost s).ch.dev0 = s.ch.dev0 ∧ (judgeBusLost s).ch.dev1 = s.ch.dev1 := by
  unfold judgeBusLost; repeat (first | (solve | simp [*]) | split | simp [*])

@[simp] theorem busQualified_dev (s : State) :
    (busQualified s).ch.dev0 = s.ch.dev0 ∧ (busQualified s).ch.dev1 = s.ch.dev1 := by
  unfold busQualified; repeat (first | (solve | simp [*]) | split | simp [*])

@[simp] theorem busAbsent_dev (s : State) :
    (busAbsent s).ch.dev0 = s.ch.dev0 ∧ (busAbsent s).ch.dev1 = s.ch.dev1 := by
  unfold busAbsent; repeat (first | (solve | simp [*]) | split | simp [*])

@[simp] theorem uvAct_dev (r : Fin 24) (s : State) :
    (uvAct r s).ch.dev0 = s.ch.dev0 ∧ (uvAct r s).ch.dev1 = s.ch.dev1 := by
  unfold uvAct; repeat (first | (solve | simp [*]) | split | simp [*])

@[simp] theorem shareSample_dev (uv : Int) (s : State) :
    (shareSample uv s).ch.dev0 = s.ch.dev0 ∧ (shareSample uv s).ch.dev1 = s.ch.dev1 := by
  unfold shareSample; repeat (first | (solve | simp [*]) | split | simp [*])

@[simp] theorem setOfs_dev (o : Int) (s : State) :
    (setOfs o s).ch.dev0 = s.ch.dev0 ∧ (setOfs o s).ch.dev1 = s.ch.dev1 := by
  unfold setOfs; repeat (first | (solve | simp [*]) | split | simp [*])

@[simp] theorem watchShare_dev (s : State) :
    (watchShare s).ch.dev0 = s.ch.dev0 ∧ (watchShare s).ch.dev1 = s.ch.dev1 := by
  unfold watchShare; repeat (first | (solve | simp [*]) | split | simp [*])

@[simp] theorem shareStep_dev (s : State) :
    (shareStep s).ch.dev0 = s.ch.dev0 ∧ (shareStep s).ch.dev1 = s.ch.dev1 := by
  unfold shareStep; repeat (first | (solve | simp [*]) | split | simp [*])

@[simp] theorem reLimit_dev (s : State) :
    (reLimit s).ch.dev0 = s.ch.dev0 ∧ (reLimit s).ch.dev1 = s.ch.dev1 := by
  unfold reLimit; repeat (first | (solve | simp [*]) | split | simp [*])

@[simp] theorem capRecompute_dev (s : State) :
    (capRecompute s).ch.dev0 = s.ch.dev0 ∧ (capRecompute s).ch.dev1 = s.ch.dev1 := by
  unfold capRecompute; repeat (first | (solve | simp [*]) | split | simp [*])

@[simp] theorem logSeq_dev (d : Fin 8) (n : Nat) (step : Nat) (s : State) :
    (logSeq d n step s).ch.dev0 = s.ch.dev0 ∧ (logSeq d n step s).ch.dev1 = s.ch.dev1 := by
  unfold logSeq; repeat (first | (solve | simp [*]) | split | simp [*])

@[simp] theorem domCause_dev (d : Fin 8) (b : Nat) (s : State) :
    (domCause d b s).ch.dev0 = s.ch.dev0 ∧ (domCause d b s).ch.dev1 = s.ch.dev1 := by
  unfold domCause; repeat (first | (solve | simp [*]) | split | simp [*])

@[simp] theorem loadDom_dev (d : Fin 8) (s : State) :
    (loadDom d s).ch.dev0 = s.ch.dev0 ∧ (loadDom d s).ch.dev1 = s.ch.dev1 := by
  unfold loadDom; repeat (first | (solve | simp [*]) | split | simp [*])

@[simp] theorem startMinOff_dev (d : Fin 8) (s : State) :
    (startMinOff d s).ch.dev0 = s.ch.dev0 ∧ (startMinOff d s).ch.dev1 = s.ch.dev1 := by
  unfold startMinOff; repeat (first | (solve | simp [*]) | split | simp [*])

@[simp] theorem cutSlot_dev (n : Fin 48) (s : State) :
    (cutSlot n s).ch.dev0 = s.ch.dev0 ∧ (cutSlot n s).ch.dev1 = s.ch.dev1 := by
  unfold cutSlot; repeat (first | (solve | simp [*]) | split | simp [*])

@[simp] theorem afterCut_dev (d : Fin 8) (by_ : CutBy) (s : State) :
    (afterCut d by_ s).ch.dev0 = s.ch.dev0 ∧ (afterCut d by_ s).ch.dev1 = s.ch.dev1 := by
  unfold afterCut; repeat (first | (solve | simp [*]) | split | simp [*])

@[simp] theorem stopEnd_dev (d : Fin 8) (s : State) :
    (stopEnd d s).ch.dev0 = s.ch.dev0 ∧ (stopEnd d s).ch.dev1 = s.ch.dev1 := by
  unfold stopEnd; repeat (first | (solve | simp [*]) | split | simp [*])

@[simp] theorem countCut_dev (d : Fin 8) (s : State) :
    (countCut d s).ch.dev0 = s.ch.dev0 ∧ (countCut d s).ch.dev1 = s.ch.dev1 := by
  unfold countCut; repeat (first | (solve | simp [*]) | split | simp [*])

@[simp] theorem cutStop_dev (d : Fin 8) (by_ : CutBy) (s : State) :
    (cutStop d by_ s).ch.dev0 = s.ch.dev0 ∧ (cutStop d by_ s).ch.dev1 = s.ch.dev1 := by
  unfold cutStop; repeat (first | (solve | simp [*]) | split | simp [*])

@[simp] theorem cutDom_dev (d : Fin 8) (by_ : CutBy) (s : State) :
    (cutDom d by_ s).ch.dev0 = s.ch.dev0 ∧ (cutDom d by_ s).ch.dev1 = s.ch.dev1 := by
  unfold cutDom; repeat (first | (solve | simp [*]) | split | simp [*])

@[simp] theorem holdFollow_dev (s : State) :
    (holdFollow s).ch.dev0 = s.ch.dev0 ∧ (holdFollow s).ch.dev1 = s.ch.dev1 := by
  unfold holdFollow; repeat (first | (solve | simp [*]) | split | simp [*])

@[simp] theorem shutOff_dev (mask : Nat) (by_ : CutBy) (s : State) :
    (shutOff mask by_ s).ch.dev0 = s.ch.dev0 ∧ (shutOff mask by_ s).ch.dev1 = s.ch.dev1 := by
  unfold shutOff; repeat (first | (solve | simp [*]) | split | simp [*])

@[simp] theorem countFault_dev (d : Fin 8) (s : State) :
    (countFault d s).ch.dev0 = s.ch.dev0 ∧ (countFault d s).ch.dev1 = s.ch.dev1 := by
  unfold countFault; dsimp only; split
  · rw [(domCause_dev ..).1, (domCause_dev ..).2, (State.updDom_dev ..).1, (State.updDom_dev ..).2]; split <;> simp
  · simp

@[simp] theorem reportVerdict_dev (v : Verdict) (act : State → State) (s : State) (hact : ∀ (t : State), (act t).ch.dev0 = t.ch.dev0 ∧ (act t).ch.dev1 = t.ch.dev1) :
    (reportVerdict v act s).ch.dev0 = s.ch.dev0 ∧ (reportVerdict v act s).ch.dev1 = s.ch.dev1 := by
  unfold reportVerdict; repeat (first | (solve | simp [*]) | split | simp [*])

@[simp] theorem runFault_dev (n : Fin 48) (s : State) :
    (runFault n s).ch.dev0 = s.ch.dev0 ∧ (runFault n s).ch.dev1 = s.ch.dev1 := by
  unfold runFault; repeat (first | (solve | simp [*]) | split | simp [*])

@[simp] theorem judgeRun_dev (l : List (Fin 48)) (s : State) :
    (judgeRun l s).ch.dev0 = s.ch.dev0 ∧ (judgeRun l s).ch.dev1 = s.ch.dev1 := by
  unfold judgeRun; repeat (first | (solve | simp [*]) | split | simp [*])

@[simp] theorem warnTrip_dev (m : Fin 96) (s : State) :
    (warnTrip m s).ch.dev0 = s.ch.dev0 ∧ (warnTrip m s).ch.dev1 = s.ch.dev1 := by
  unfold warnTrip; repeat (first | (solve | simp [*]) | split | simp [*])

@[simp] theorem discardInput_dev (d : Fin 8) (s : State) :
    (discardInput d s).ch.dev0 = s.ch.dev0 ∧ (discardInput d s).ch.dev1 = s.ch.dev1 := by
  unfold discardInput; repeat (first | (solve | simp [*]) | split | simp [*])

@[simp] theorem planStop_dev (d : Fin 8) (tick : Nat) (assigned : Bool) (s : State) :
    (planStop d tick assigned s).ch.dev0 = s.ch.dev0 ∧ (planStop d tick assigned s).ch.dev1 = s.ch.dev1 := by
  unfold planStop; repeat (first | (solve | simp [*]) | split | simp [*])

@[simp] theorem stopBegin_dev (d : Fin 8) (after : AfterStop) (s : State) :
    (stopBegin d after s).ch.dev0 = s.ch.dev0 ∧ (stopBegin d after s).ch.dev1 = s.ch.dev1 := by
  unfold stopBegin; repeat (first | (solve | simp [*]) | split | simp [*])

@[simp] theorem failStart_dev (d : Fin 8) (n : Fin 48) (s : State) :
    (failStart d n s).ch.dev0 = s.ch.dev0 ∧ (failStart d n s).ch.dev1 = s.ch.dev1 := by
  unfold failStart; repeat (first | (solve | simp [*]) | split | simp [*])

@[simp] theorem tickUp_dev (d : Fin 8) (s : State) :
    (tickUp d s).ch.dev0 = s.ch.dev0 ∧ (tickUp d s).ch.dev1 = s.ch.dev1 := by
  unfold tickUp; repeat (first | (solve | simp [*]) | split | simp [*])

@[simp] theorem tickDown_dev (d : Fin 8) (s : State) :
    (tickDown d s).ch.dev0 = s.ch.dev0 ∧ (tickDown d s).ch.dev1 = s.ch.dev1 := by
  unfold tickDown; repeat (first | (solve | simp [*]) | split | simp [*])

@[simp] theorem judgeTick_dev (s : State) :
    (judgeTick s).ch.dev0 = s.ch.dev0 ∧ (judgeTick s).ch.dev1 = s.ch.dev1 := by
  unfold judgeTick; repeat (first | (solve | simp [*]) | split | simp [*])

@[simp] theorem commonStart_dev (d : Fin 8) (s : State) :
    (commonStart d s).ch.dev0 = s.ch.dev0 ∧ (commonStart d s).ch.dev1 = s.ch.dev1 := by
  unfold commonStart; repeat (first | (solve | simp [*]) | split | simp [*])

@[simp] theorem slotOn_dev (n : Fin 48) (s : State) :
    (slotOn n s).ch.dev0 = s.ch.dev0 ∧ (slotOn n s).ch.dev1 = s.ch.dev1 := by
  unfold slotOn; repeat (first | (solve | simp [*]) | split | simp [*])

@[simp] theorem switchOn_dev (n : Fin 48) (s : State) :
    (switchOn n s).ch.dev0 = s.ch.dev0 ∧ (switchOn n s).ch.dev1 = s.ch.dev1 := by
  unfold switchOn; repeat (first | (solve | simp [*]) | split | simp [*])

@[simp] theorem slotOff_dev (n : Fin 48) (s : State) :
    (slotOff n s).ch.dev0 = s.ch.dev0 ∧ (slotOff n s).ch.dev1 = s.ch.dev1 := by
  unfold slotOff; repeat (first | (solve | simp [*]) | split | simp [*])

@[simp] theorem lampIn_dev (n : Fin 48) (on : Bool) (s : State) :
    (lampIn n on s).ch.dev0 = s.ch.dev0 ∧ (lampIn n on s).ch.dev1 = s.ch.dev1 := by
  unfold lampIn; repeat (first | (solve | simp [*]) | split | simp [*])

@[simp] theorem fwdTick_dev (s : State) :
    (fwdTick s).ch.dev0 = s.ch.dev0 ∧ (fwdTick s).ch.dev1 = s.ch.dev1 := by
  unfold fwdTick; exact fwdTake_dev _ _ _ (fun c t => by split <;> simp)

@[simp] theorem lampTick_dev (s : State) :
    (lampTick s).ch.dev0 = s.ch.dev0 ∧ (lampTick s).ch.dev1 = s.ch.dev1 := by
  unfold lampTick; repeat (first | (solve | simp [*]) | split | simp [*])

@[simp] theorem offPoint_dev (n : Fin 48) (s : State) :
    (offPoint n s).ch.dev0 = s.ch.dev0 ∧ (offPoint n s).ch.dev1 = s.ch.dev1 := by
  unfold offPoint; repeat (first | (solve | simp [*]) | split | simp [*])

@[simp] theorem upToEnd_dev (n : Fin 48) (s : State) :
    (upToEnd n s).ch.dev0 = s.ch.dev0 ∧ (upToEnd n s).ch.dev1 = s.ch.dev1 := by
  unfold upToEnd; repeat (first | (solve | simp [*]) | split | simp [*])

@[simp] theorem downToEnd_dev (n : Fin 48) (s : State) :
    (downToEnd n s).ch.dev0 = s.ch.dev0 ∧ (downToEnd n s).ch.dev1 = s.ch.dev1 := by
  unfold downToEnd; repeat (first | (solve | simp [*]) | split | simp [*])

@[simp] theorem pgInEdge_dev (n : Fin 48) (level : Bool) (s : State) :
    (pgInEdge n level s).ch.dev0 = s.ch.dev0 ∧ (pgInEdge n level s).ch.dev1 = s.ch.dev1 := by
  unfold pgInEdge; repeat (first | (solve | simp [*]) | split | simp [*])

@[simp] theorem inputQualified_dev (d : Fin 8) (s : State) :
    (inputQualified d s).ch.dev0 = s.ch.dev0 ∧ (inputQualified d s).ch.dev1 = s.ch.dev1 := by
  unfold inputQualified; repeat (first | (solve | simp [*]) | split | simp [*])

@[simp] theorem inputLost_dev (d : Fin 8) (s : State) :
    (inputLost d s).ch.dev0 = s.ch.dev0 ∧ (inputLost d s).ch.dev1 = s.ch.dev1 := by
  unfold inputLost; repeat (first | (solve | simp [*]) | split | simp [*])

@[simp] theorem minOffEnd_dev (d : Fin 8) (s : State) :
    (minOffEnd d s).ch.dev0 = s.ch.dev0 ∧ (minOffEnd d s).ch.dev1 = s.ch.dev1 := by
  unfold minOffEnd; repeat (first | (solve | simp [*]) | split | simp [*])

@[simp] theorem restartEnd_dev (d : Fin 8) (s : State) :
    (restartEnd d s).ch.dev0 = s.ch.dev0 ∧ (restartEnd d s).ch.dev1 = s.ch.dev1 := by
  unfold restartEnd; repeat (first | (solve | simp [*]) | split | simp [*])

@[simp] theorem retryAge_dev (d : Fin 8) (s : State) :
    (retryAge d s).ch.dev0 = s.ch.dev0 ∧ (retryAge d s).ch.dev1 = s.ch.dev1 := by
  unfold retryAge; repeat (first | (solve | simp [*]) | split | simp [*])

@[simp] theorem seqRefuse_dev (d : Fin 8) (s : State) :
    (seqRefuse d s).ch.dev0 = s.ch.dev0 ∧ (seqRefuse d s).ch.dev1 = s.ch.dev1 := by
  unfold seqRefuse; repeat (first | (solve | simp [*]) | split | simp [*])

@[simp] theorem seqStart_dev (d : Fin 8) (s : State) :
    (seqStart d s).ch.dev0 = s.ch.dev0 ∧ (seqStart d s).ch.dev1 = s.ch.dev1 := by
  unfold seqStart; repeat (first | (solve | simp [*]) | split | simp [*])

@[simp] theorem seqStop_dev (d : Fin 8) (s : State) :
    (seqStop d s).ch.dev0 = s.ch.dev0 ∧ (seqStop d s).ch.dev1 = s.ch.dev1 := by
  unfold seqStop; repeat (first | (solve | simp [*]) | split | simp [*])

@[simp] theorem seqShutoff_dev (mask : Nat) (s : State) :
    (seqShutoff mask s).ch.dev0 = s.ch.dev0 ∧ (seqShutoff mask s).ch.dev1 = s.ch.dev1 := by
  unfold seqShutoff; repeat (first | (solve | simp [*]) | split | simp [*])

@[simp] theorem hostShutoff_dev (d : Fin 8) (s : State) :
    (hostShutoff d s).ch.dev0 = s.ch.dev0 ∧ (hostShutoff d s).ch.dev1 = s.ch.dev1 := by
  unfold hostShutoff; repeat (first | (solve | simp [*]) | split | simp [*])

@[simp] theorem seqUnlatch_dev (d : Fin 8) (s : State) :
    (seqUnlatch d s).ch.dev0 = s.ch.dev0 ∧ (seqUnlatch d s).ch.dev1 = s.ch.dev1 := by
  unfold seqUnlatch; repeat (first | (solve | simp [*]) | split | simp [*])

@[simp] theorem seqRetryClr_dev (d : Fin 8) (s : State) :
    (seqRetryClr d s).ch.dev0 = s.ch.dev0 ∧ (seqRetryClr d s).ch.dev1 = s.ch.dev1 := by
  unfold seqRetryClr; repeat (first | (solve | simp [*]) | split | simp [*])

@[simp] theorem seqStrobe_dev (d : Fin 8) (f : State → State) (s : State) (hf : ∀ (t : State), (f t).ch.dev0 = t.ch.dev0 ∧ (f t).ch.dev1 = t.ch.dev1) :
    (seqStrobe d f s).ch.dev0 = s.ch.dev0 ∧ (seqStrobe d f s).ch.dev1 = s.ch.dev1 := by
  unfold seqStrobe; repeat (first | (solve | simp [*]) | split | simp [*])

@[simp] theorem linksReact_dev (src : Nat) (s : State) :
    (linksReact src s).ch.dev0 = s.ch.dev0 ∧ (linksReact src s).ch.dev1 = s.ch.dev1 := by
  unfold linksReact; repeat (first | (solve | simp [*]) | split | simp [*])

@[simp] theorem domainReact_dev (src : Nat) (sub : Nat) (s : State) :
    (domainReact src sub s).ch.dev0 = s.ch.dev0 ∧ (domainReact src sub s).ch.dev1 = s.ch.dev1 := by
  unfold domainReact; repeat (first | (solve | simp [*]) | split | simp [*])

@[simp] theorem retryReact_dev (src : Nat) (sub : Nat) (s : State) :
    (retryReact src sub s).ch.dev0 = s.ch.dev0 ∧ (retryReact src sub s).ch.dev1 = s.ch.dev1 := by
  unfold retryReact; repeat (first | (solve | simp [*]) | split | simp [*])

@[simp] theorem ovInStop_dev (r : Fin 24) (s : State) :
    (ovInStop r s).ch.dev0 = s.ch.dev0 ∧ (ovInStop r s).ch.dev1 = s.ch.dev1 := by
  unfold ovInStop; repeat (first | (solve | simp [*]) | split | simp [*])

@[simp] theorem ovAct_dev (r : Fin 24) (s : State) :
    (ovAct r s).ch.dev0 = s.ch.dev0 ∧ (ovAct r s).ch.dev1 = s.ch.dev1 := by
  unfold ovAct; repeat (first | (solve | simp [*]) | split | simp [*])

@[simp] theorem pllShutoff_dev (s : State) :
    (pllShutoff s).ch.dev0 = s.ch.dev0 ∧ (pllShutoff s).ch.dev1 = s.ch.dev1 := by
  unfold pllShutoff; repeat (first | (solve | simp [*]) | split | simp [*])

@[simp] theorem wakeBegin_dev (bit : Nat) (s : State) :
    (wakeBegin bit s).ch.dev0 = s.ch.dev0 ∧ (wakeBegin bit s).ch.dev1 = s.ch.dev1 := by
  unfold wakeBegin; repeat (first | (solve | simp [*]) | split | simp [*])

@[simp] theorem monLoadNow_dev (m : Fin 96) (s : State) :
    (monLoadNow m s).ch.dev0 = s.ch.dev0 ∧ (monLoadNow m s).ch.dev1 = s.ch.dev1 := by
  unfold monLoadNow; repeat (first | (solve | simp [*]) | split | simp [*])

@[simp] theorem ctArm_dev (t : Fin 16) (s : State) :
    (ctArm t s).ch.dev0 = s.ch.dev0 ∧ (ctArm t s).ch.dev1 = s.ch.dev1 := by
  unfold ctArm; repeat (first | (solve | simp [*]) | split | simp [*])

@[simp] theorem ctLost_dev (t : Fin 16) (s : State) :
    (ctLost t s).ch.dev0 = s.ch.dev0 ∧ (ctLost t s).ch.dev1 = s.ch.dev1 := by
  unfold ctLost; repeat (first | (solve | simp [*]) | split | simp [*])

@[simp] theorem ctSaturate_dev (t : Fin 16) (s : State) :
    (ctSaturate t s).ch.dev0 = s.ch.dev0 ∧ (ctSaturate t s).ch.dev1 = s.ch.dev1 := by
  unfold ctSaturate; repeat (first | (solve | simp [*]) | split | simp [*])

@[simp] theorem ctCapture_dev (t : Fin 16) (mon : Nat) (comp : Nat) (s0 : State) :
    (ctCapture t mon comp s0).ch.dev0 = s0.ch.dev0 ∧ (ctCapture t mon comp s0).ch.dev1 = s0.ch.dev1 := by
  unfold ctCapture; repeat (first | (solve | simp [*]) | split | simp [*])

@[simp] theorem ctEdge_dev (t : Fin 16) (mon : Nat) (comp : Nat) (first : Bool) (second : Bool) (s : State) :
    (ctEdge t mon comp first second s).ch.dev0 = s.ch.dev0 ∧ (ctEdge t mon comp first second s).ch.dev1 = s.ch.dev1 := by
  unfold ctEdge; repeat (first | (solve | simp [*]) | split | simp [*])

@[simp] theorem ctFeed_dev (m : Fin 96) (comp : Nat) (s : State) :
    (ctFeed m comp s).ch.dev0 = s.ch.dev0 ∧ (ctFeed m comp s).ch.dev1 = s.ch.dev1 := by
  unfold ctFeed; repeat (first | (solve | simp [*]) | split | simp [*])

@[simp] theorem inputTrip_dev (m : Fin 96) (comp : Nat) (s : State) :
    (inputTrip m comp s).ch.dev0 = s.ch.dev0 ∧ (inputTrip m comp s).ch.dev1 = s.ch.dev1 := by
  unfold inputTrip; repeat (first | (solve | simp [*]) | split | simp [*])

@[simp] theorem tripEdge_dev (m : Fin 96) (comp : Nat) (s : State) :
    (tripEdge m comp s).ch.dev0 = s.ch.dev0 ∧ (tripEdge m comp s).ch.dev1 = s.ch.dev1 := by
  unfold tripEdge; repeat (first | (solve | simp [*]) | split | simp [*])

@[simp] theorem wickDecide_dev (m : Fin 96) (v : Nat) (s0 : State) :
    (wickDecide m v s0).ch.dev0 = s0.ch.dev0 ∧ (wickDecide m v s0).ch.dev1 = s0.ch.dev1 := by
  unfold wickDecide; repeat (first | (solve | simp [*]) | split | simp [*])

@[simp] theorem contDecide_dev (m : Fin 96) (v : Nat) (s0 : State) :
    (contDecide m v s0).ch.dev0 = s0.ch.dev0 ∧ (contDecide m v s0).ch.dev1 = s0.ch.dev1 := by
  unfold contDecide; repeat (first | (solve | simp [*]) | split | simp [*])

@[simp] theorem monDecide_dev (m : Fin 96) (v : Nat) (s : State) :
    (monDecide m v s).ch.dev0 = s.ch.dev0 ∧ (monDecide m v s).ch.dev1 = s.ch.dev1 := by
  unfold monDecide; repeat (first | (solve | simp [*]) | split | simp [*])

@[simp] theorem wickSample_dev (m : Fin 96) (v : Nat) (s : State) :
    (wickSample m v s).ch.dev0 = s.ch.dev0 ∧ (wickSample m v s).ch.dev1 = s.ch.dev1 := by
  unfold wickSample; repeat (first | (solve | simp [*]) | split | simp [*])

@[simp] theorem contChange_dev (m : Fin 96) (v : Nat) (s : State) :
    (contChange m v s).ch.dev0 = s.ch.dev0 ∧ (contChange m v s).ch.dev1 = s.ch.dev1 := by
  unfold contChange; repeat (first | (solve | simp [*]) | split | simp [*])

@[simp] theorem contExpiry_dev (m : Fin 96) (high : Bool) (s0 : State) :
    (contExpiry m high s0).ch.dev0 = s0.ch.dev0 ∧ (contExpiry m high s0).ch.dev1 = s0.ch.dev1 := by
  unfold contExpiry; repeat (first | (solve | simp [*]) | split | simp [*])

@[simp] theorem testStart_dev (m : Fin 96) (tie : Bool) (tap : Nat) (sweep : Bool) (s : State) :
    (testStart m tie tap sweep s).ch.dev0 = s.ch.dev0 ∧ (testStart m tie tap sweep s).ch.dev1 = s.ch.dev1 := by
  unfold testStart; repeat (first | (solve | simp [*]) | split | simp [*])

@[simp] theorem hostSelftest_dev (m : Fin 96) (s : State) :
    (hostSelftest m s).ch.dev0 = s.ch.dev0 ∧ (hostSelftest m s).ch.dev1 = s.ch.dev1 := by
  unfold hostSelftest; repeat (first | (solve | simp [*]) | split | simp [*])

@[simp] theorem testOutcome_dev (m : Fin 96) (t : SelfTest) (s0 : State) :
    (testOutcome m t s0).ch.dev0 = s0.ch.dev0 ∧ (testOutcome m t s0).ch.dev1 = s0.ch.dev1 := by
  unfold testOutcome; repeat (first | (solve | simp [*]) | split | simp [*])

@[simp] theorem testSample_dev (m : Fin 96) (low : Bool) (high : Bool) (v : Nat) (s : State) :
    (testSample m low high v s).ch.dev0 = s.ch.dev0 ∧ (testSample m low high v s).ch.dev1 = s.ch.dev1 := by
  unfold testSample; repeat (first | (solve | simp [*]) | split | simp [*])

@[simp] theorem sweepVisit_dev (s : State) :
    (sweepVisit s).ch.dev0 = s.ch.dev0 ∧ (sweepVisit s).ch.dev1 = s.ch.dev1 := by
  unfold sweepVisit; repeat (first | (solve | simp [*]) | split | simp [*])

@[simp] theorem sweepRenew_dev (s : State) :
    (sweepRenew s).ch.dev0 = s.ch.dev0 ∧ (sweepRenew s).ch.dev1 = s.ch.dev1 := by
  unfold sweepRenew; repeat (first | (solve | simp [*]) | split | simp [*])

@[simp] theorem sweepSet_dev (interval : Nat) (tap : Nat) (s : State) :
    (sweepSet interval tap s).ch.dev0 = s.ch.dev0 ∧ (sweepSet interval tap s).ch.dev1 = s.ch.dev1 := by
  unfold sweepSet; repeat (first | (solve | simp [*]) | split | simp [*])

@[simp] theorem hostArm_dev (t : Fin 16) (s : State) :
    (hostArm t s).ch.dev0 = s.ch.dev0 ∧ (hostArm t s).ch.dev1 = s.ch.dev1 := by
  unfold hostArm; repeat (first | (solve | simp [*]) | split | simp [*])

@[simp] theorem trimPrescale_dev (t : Fin 16) (k : Nat) (s : State) :
    (trimPrescale t k s).ch.dev0 = s.ch.dev0 ∧ (trimPrescale t k s).ch.dev1 = s.ch.dev1 := by
  unfold trimPrescale; repeat (first | (solve | simp [*]) | split | simp [*])

@[simp] theorem trimMon_dev (m : Fin 96) (f : MonCfg → MonCfg) (s : State) :
    (trimMon m f s).ch.dev0 = s.ch.dev0 ∧ (trimMon m f s).ch.dev1 = s.ch.dev1 := by
  unfold trimMon; repeat (first | (solve | simp [*]) | split | simp [*])

@[simp] theorem trimTick_dev (m : Fin 96) (k : Nat) (s : State) :
    (trimTick m k s).ch.dev0 = s.ch.dev0 ∧ (trimTick m k s).ch.dev1 = s.ch.dev1 := by
  unfold trimTick; repeat (first | (solve | simp [*]) | split | simp [*])

@[simp] theorem trimLow_dev (m : Fin 96) (v : Nat) (s : State) :
    (trimLow m v s).ch.dev0 = s.ch.dev0 ∧ (trimLow m v s).ch.dev1 = s.ch.dev1 := by
  unfold trimLow; repeat (first | (solve | simp [*]) | split | simp [*])

@[simp] theorem trimHigh_dev (m : Fin 96) (v : Nat) (s : State) :
    (trimHigh m v s).ch.dev0 = s.ch.dev0 ∧ (trimHigh m v s).ch.dev1 = s.ch.dev1 := by
  unfold trimHigh; repeat (first | (solve | simp [*]) | split | simp [*])

@[simp] theorem hkPut_dev (ch : Nat) (f : HkVal → HkVal) (s : State) :
    (hkPut ch f s).ch.dev0 = s.ch.dev0 ∧ (hkPut ch f s).ch.dev1 = s.ch.dev1 := by
  unfold hkPut; repeat (first | (solve | simp [*]) | split | simp [*])

@[simp] theorem hkDrop_dev (ch : Nat) (s : State) :
    (hkDrop ch s).ch.dev0 = s.ch.dev0 ∧ (hkDrop ch s).ch.dev1 = s.ch.dev1 := by
  unfold hkDrop; repeat (first | (solve | simp [*]) | split | simp [*])

@[simp] theorem sensorBad_dev (ch : Nat) (s : State) :
    (sensorBad ch s).ch.dev0 = s.ch.dev0 ∧ (sensorBad ch s).ch.dev1 = s.ch.dev1 := by
  unfold sensorBad; repeat (first | (solve | simp [*]) | split | simp [*])

@[simp] theorem sensorGood_dev (ch : Nat) (val : Nat) (s : State) :
    (sensorGood ch val s).ch.dev0 = s.ch.dev0 ∧ (sensorGood ch val s).ch.dev1 = s.ch.dev1 := by
  unfold sensorGood; repeat (first | (solve | simp [*]) | split | simp [*])

@[simp] theorem judgeHs_dev (s : State) :
    (judgeHs s).ch.dev0 = s.ch.dev0 ∧ (judgeHs s).ch.dev1 = s.ch.dev1 := by
  unfold judgeHs; repeat (first | (solve | simp [*]) | split | simp [*])

@[simp] theorem applyF_dev (s : State) :
    (applyF s).ch.dev0 = s.ch.dev0 ∧ (applyF s).ch.dev1 = s.ch.dev1 := by
  unfold applyF; repeat (first | (solve | simp [*]) | split | simp [*])

@[simp] theorem applyDim_dev (s : State) :
    (applyDim s).ch.dev0 = s.ch.dev0 ∧ (applyDim s).ch.dev1 = s.ch.dev1 := by
  unfold applyDim; repeat (first | (solve | simp [*]) | split | simp [*])

@[simp] theorem dimStep_dev (tmax : Int) (setNow : Bool) (s : State) :
    (dimStep tmax setNow s).ch.dev0 = s.ch.dev0 ∧ (dimStep tmax setNow s).ch.dev1 = s.ch.dev1 := by
  unfold dimStep; repeat (first | (solve | simp [*]) | split | simp [*])

@[simp] theorem thermalVerdict_dev (s : State) :
    (thermalVerdict s).ch.dev0 = s.ch.dev0 ∧ (thermalVerdict s).ch.dev1 = s.ch.dev1 := by
  unfold thermalVerdict; repeat (first | (solve | simp [*]) | split | simp [*])

@[simp] theorem judgeTaps_dev (s : State) :
    (judgeTaps s).ch.dev0 = s.ch.dev0 ∧ (judgeTaps s).ch.dev1 = s.ch.dev1 := by
  unfold judgeTaps; repeat (first | (solve | simp [*]) | split | simp [*])

@[simp] theorem judgeXchk_dev (s : State) :
    (judgeXchk s).ch.dev0 = s.ch.dev0 ∧ (judgeXchk s).ch.dev1 = s.ch.dev1 := by
  unfold judgeXchk; repeat (first | (solve | simp [*]) | split | simp [*])

@[simp] theorem sendReport_dev (s : State) :
    (sendReport s).ch.dev0 = s.ch.dev0 ∧ (sendReport s).ch.dev1 = s.ch.dev1 := by
  unfold sendReport; repeat (first | (solve | simp [*]) | split | simp [*])

@[simp] theorem roundEnd_dev (s0 : State) :
    (roundEnd s0).ch.dev0 = s0.ch.dev0 ∧ (roundEnd s0).ch.dev1 = s0.ch.dev1 := by
  unfold roundEnd; repeat (first | (solve | simp [*]) | split | simp [*])

@[simp] theorem hkNext_dev (ch : Nat) (s : State) :
    (hkNext ch s).ch.dev0 = s.ch.dev0 ∧ (hkNext ch s).ch.dev1 = s.ch.dev1 := by
  unfold hkNext; repeat (first | (solve | simp [*]) | split | simp [*])

@[simp] theorem loadEnforce_dev (n : Nat) (s : State) :
    (loadEnforce n s).ch.dev0 = s.ch.dev0 ∧ (loadEnforce n s).ch.dev1 = s.ch.dev1 := by
  unfold loadEnforce; repeat (first | (solve | simp [*]) | split | simp [*])

@[simp] theorem loadThermal_dev (s : State) :
    (loadThermal s).ch.dev0 = s.ch.dev0 ∧ (loadThermal s).ch.dev1 = s.ch.dev1 := by
  unfold loadThermal; repeat (first | (solve | simp [*]) | split | simp [*])

@[simp] theorem hkStart_dev (s0 : State) :
    (hkStart s0).ch.dev0 = s0.ch.dev0 ∧ (hkStart s0).ch.dev1 = s0.ch.dev1 := by
  unfold hkStart; repeat (first | (solve | simp [*]) | split | simp [*])

@[simp] theorem hkDone_dev (ch : Nat) (val : Nat) (sat : Bool) (vbe : Nat × Nat × Nat) (s0 : State) :
    (hkDone ch val sat vbe s0).ch.dev0 = s0.ch.dev0 ∧ (hkDone ch val sat vbe s0).ch.dev1 = s0.ch.dev1 := by
  unfold hkDone; repeat (first | (solve | simp [*]) | split | simp [*])

@[simp] theorem hkTimeout_dev (ch : Nat) (s : State) :
    (hkTimeout ch s).ch.dev0 = s.ch.dev0 ∧ (hkTimeout ch s).ch.dev1 = s.ch.dev1 := by
  unfold hkTimeout; repeat (first | (solve | simp [*]) | split | simp [*])

@[simp] theorem hkLate_dev (s : State) :
    (hkLate s).ch.dev0 = s.ch.dev0 ∧ (hkLate s).ch.dev1 = s.ch.dev1 := by
  unfold hkLate; repeat (first | (solve | simp [*]) | split | simp [*])

@[simp] theorem trimLevel_dev (lvl : ThLevel) (v : Nat) (s : State) :
    (trimLevel lvl v s).ch.dev0 = s.ch.dev0 ∧ (trimLevel lvl v s).ch.dev1 = s.ch.dev1 := by
  unfold trimLevel; repeat (first | (solve | simp [*]) | split | simp [*])

@[simp] theorem thermalClear_dev (s : State) :
    (thermalClear s).ch.dev0 = s.ch.dev0 ∧ (thermalClear s).ch.dev1 = s.ch.dev1 := by
  unfold thermalClear; repeat (first | (solve | simp [*]) | split | simp [*])

@[simp] theorem memFetch_dev (dev : Nat) (a : Nat) (s : State) :
    (memFetch dev a s).ch.dev0 = s.ch.dev0 ∧ (memFetch dev a s).ch.dev1 = s.ch.dev1 := by
  unfold memFetch; repeat (first | (solve | simp [*]) | split | simp [*])

@[simp] theorem regionFetch_dev (i : Nat) (o : Nat) (s : State) :
    (regionFetch i o s).ch.dev0 = s.ch.dev0 ∧ (regionFetch i o s).ch.dev1 = s.ch.dev1 := by
  unfold regionFetch; repeat (first | (solve | simp [*]) | split | simp [*])

@[simp] theorem memCommand_dev (o : MemOp) (s : State) :
    (memCommand o s).ch.dev0 = s.ch.dev0 ∧ (memCommand o s).ch.dev1 = s.ch.dev1 := by
  unfold memCommand; repeat (first | (solve | simp [*]) | split | simp [*])

@[simp] theorem spEnd_dev (status : Nat) (s : State) :
    (spEnd status s).ch.dev0 = s.ch.dev0 ∧ (spEnd status s).ch.dev1 = s.ch.dev1 := by
  unfold spEnd; repeat (first | (solve | simp [*]) | split | simp [*])

@[simp] theorem memEnd_dev (u : MemUse) (s : State) :
    (memEnd u s).ch.dev0 = s.ch.dev0 ∧ (memEnd u s).ch.dev1 = s.ch.dev1 := by
  unfold memEnd; repeat (first | (solve | simp [*]) | split | simp [*])

@[simp] theorem takePage_dev (j : Fin 64) (t : Nat) (since : Nat) (carry : Nat × Nat) (s : State) :
    (takePage j t since carry s).ch.dev0 = s.ch.dev0 ∧ (takePage j t since carry s).ch.dev1 = s.ch.dev1 := by
  unfold takePage; repeat (first | (solve | simp [*]) | split | simp [*])

@[simp] theorem updPage_dev (n : Nat) (f : Page → Page) (s : State) :
    (updPage n f s).ch.dev0 = s.ch.dev0 ∧ (updPage n f s).ch.dev1 = s.ch.dev1 := by
  unfold updPage; repeat (first | (solve | simp [*]) | split | simp [*])

@[simp] theorem releaseSlot_dev (i : Fin 16) (s : State) :
    (releaseSlot i s).ch.dev0 = s.ch.dev0 ∧ (releaseSlot i s).ch.dev1 = s.ch.dev1 := by
  unfold releaseSlot; repeat (first | (solve | simp [*]) | split | simp [*])

@[simp] theorem makeRoom_dev (s : State) :
    (makeRoom s).ch.dev0 = s.ch.dev0 ∧ (makeRoom s).ch.dev1 = s.ch.dev1 := by
  unfold makeRoom; repeat (first | (solve | simp [*]) | split | simp [*])

@[simp] theorem closeSlot_dev (i : Fin 16) (t : Nat) (creset : Bool) (s : State) :
    (closeSlot i t creset s).ch.dev0 = s.ch.dev0 ∧ (closeSlot i t creset s).ch.dev1 = s.ch.dev1 := by
  unfold closeSlot; repeat (first | (solve | simp [*]) | split | simp [*])

@[simp] theorem closeOpen_dev (creset : Bool) (s : State) :
    (closeOpen creset s).ch.dev0 = s.ch.dev0 ∧ (closeOpen creset s).ch.dev1 = s.ch.dev1 := by
  unfold closeOpen; repeat (first | (solve | simp [*]) | split | simp [*])

@[simp] theorem shrinkTo_dev (a0 : Nat) (a1 : State) :
    (shrinkTo a0 a1).ch.dev0 = a1.ch.dev0 ∧ (shrinkTo a0 a1).ch.dev1 = a1.ch.dev1 := by
  induction a0 generalizing a1 with
  | zero => simp [shrinkTo]
  | succ n ih => unfold shrinkTo; split <;> simp [ih]

@[simp] theorem limitPages_dev (s : State) :
    (limitPages s).ch.dev0 = s.ch.dev0 ∧ (limitPages s).ch.dev1 = s.ch.dev1 := by
  unfold limitPages; repeat (first | (solve | simp [*]) | split | simp [*])

@[simp] theorem openRecord_dev (kind : Nat) (src : Nat) (sub : Nat) (count : Nat) (s : State) :
    (openRecord kind src sub count s).ch.dev0 = s.ch.dev0 ∧ (openRecord kind src sub count s).ch.dev1 = s.ch.dev1 := by
  unfold openRecord; repeat (first | (solve | simp [*]) | split | simp [*])

@[simp] theorem ledgerFiring_dev (src : Nat) (sub : Nat) (quiet : Bool) (s : State) :
    (ledgerFiring src sub quiet s).ch.dev0 = s.ch.dev0 ∧ (ledgerFiring src sub quiet s).ch.dev1 = s.ch.dev1 := by
  unfold ledgerFiring; repeat (first | (solve | simp [*]) | split | simp [*])

@[simp] theorem holdLate_dev (j : Fin 64) (n : Nat) (t0 : Nat) (d : Nat) (s : State) :
    (holdLate j n t0 d s).ch.dev0 = s.ch.dev0 ∧ (holdLate j n t0 d s).ch.dev1 = s.ch.dev1 := by
  unfold holdLate; repeat (first | (solve | simp [*]) | split | simp [*])

@[simp] theorem pageFor_dev (j : Fin 64) (t0 : Nat) (s : State) :
    (pageFor j t0 s).ch.dev0 = s.ch.dev0 ∧ (pageFor j t0 s).ch.dev1 = s.ch.dev1 := by
  unfold pageFor; repeat (first | (solve | simp [*]) | split | simp [*])

@[simp] theorem holdTail_dev (j : Fin 64) (t0 : Nat) (d : Nat) (page : Option Nat) (s : State) :
    (holdTail j t0 d page s).ch.dev0 = s.ch.dev0 ∧ (holdTail j t0 d page s).ch.dev1 = s.ch.dev1 := by
  unfold holdTail; repeat (first | (solve | simp [*]) | split | simp [*])

@[simp] theorem putBlock_dev (j : Fin 64) (t0 : Nat) (d : Nat) (blk : Nat × Nat) (x1 : Nat) (x2 : Nat) (s0 : State) :
    (putBlock j t0 d blk x1 x2 s0).ch.dev0 = s0.ch.dev0 ∧ (putBlock j t0 d blk x1 x2 s0).ch.dev1 = s0.ch.dev1 := by
  unfold putBlock
  dsimp only
  split
  · exact pageFor_dev ..
  · split
    · exact pageFor_dev ..
    · split <;> simp only [limitPages_dev, holdLate_dev, holdTail_dev, takePage_dev, State.updLg_dev, updPage_dev, pageFor_dev, and_self]

@[simp] theorem codeOne_dev (j : Fin 64) (ch : LedgerChan) (t0 : Nat) (samples : List Nat) (s : State) :
    (codeOne j ch t0 samples s).ch.dev0 = s.ch.dev0 ∧ (codeOne j ch t0 samples s).ch.dev1 = s.ch.dev1 := by
  unfold codeOne; repeat (first | (solve | simp [*]) | split | simp [*])

@[simp] theorem codeLine_dev (j : Fin 64) (ch : LedgerChan) (keep : Nat) (a3 : Nat) (a4 : State) :
    (codeLine j ch keep a3 a4).ch.dev0 = a4.ch.dev0 ∧ (codeLine j ch keep a3 a4).ch.dev1 = a4.ch.dev1 := by
  induction a3 generalizing a4 with
  | zero => simp [codeLine]
  | succ n ih =>
    unfold codeLine
    split
    · exact ⟨rfl, rfl⟩
    · split
      · exact ⟨rfl, rfl⟩
      · rw [(ih _).1, (ih _).2]; simp

@[simp] theorem ledgerBlock_dev (j : Fin 64) (samples : List Nat) (t0 : Nat) (s : State) :
    (ledgerBlock j samples t0 s).ch.dev0 = s.ch.dev0 ∧ (ledgerBlock j samples t0 s).ch.dev1 = s.ch.dev1 := by
  unfold ledgerBlock; repeat (first | (solve | simp [*]) | split | simp [*])

@[simp] theorem emptyLines_dev (s : State) :
    (emptyLines s).ch.dev0 = s.ch.dev0 ∧ (emptyLines s).ch.dev1 = s.ch.dev1 := by
  unfold emptyLines; exact State.each_dev _ _ _ (fun j u => by split <;> simp)

@[simp] theorem gapPages_dev (s : State) :
    (gapPages s).ch.dev0 = s.ch.dev0 ∧ (gapPages s).ch.dev1 = s.ch.dev1 := by
  unfold gapPages; repeat (first | (solve | simp [*]) | split | simp [*])

@[simp] theorem ledgerGap_dev (s : State) :
    (ledgerGap s).ch.dev0 = s.ch.dev0 ∧ (ledgerGap s).ch.dev1 = s.ch.dev1 := by
  unfold ledgerGap; repeat (first | (solve | simp [*]) | split | simp [*])

@[simp] theorem ledgerApply_dev (struct : Bool) (s : State) :
    (ledgerApply struct s).ch.dev0 = s.ch.dev0 ∧ (ledgerApply struct s).ch.dev1 = s.ch.dev1 := by
  unfold ledgerApply; repeat (first | (solve | simp [*]) | split | simp [*])

@[simp] theorem lgsStart_dev (cr : Option Nat) (o : Option Record) (s : State) :
    (lgsStart cr o s).ch.dev0 = s.ch.dev0 ∧ (lgsStart cr o s).ch.dev1 = s.ch.dev1 := by
  unfold lgsStart; repeat (first | (solve | simp [*]) | split | simp [*])

@[simp] theorem lgsDone_dev (complete : Bool) (s : State) :
    (lgsDone complete s).ch.dev0 = s.ch.dev0 ∧ (lgsDone complete s).ch.dev1 = s.ch.dev1 := by
  unfold lgsDone; repeat (first | (solve | simp [*]) | split | simp [*])

@[simp] theorem archPast_dev (r : Record) (size : Nat) (s : State) :
    (archPast r size s).ch.dev0 = s.ch.dev0 ∧ (archPast r size s).ch.dev1 = s.ch.dev1 := by
  unfold archPast; repeat (first | (solve | simp [*]) | split | simp [*])

@[simp] theorem lgsExamine_dev (s : State) :
    (lgsExamine s).ch.dev0 = s.ch.dev0 ∧ (lgsExamine s).ch.dev1 = s.ch.dev1 := by
  unfold lgsExamine
  refine State.each_dev _ _ _ (fun i t => ?_)
  split
  · split <;> simp
  · simp

@[simp] theorem archRead_dev (s : State) :
    (archRead s).ch.dev0 = s.ch.dev0 ∧ (archRead s).ch.dev1 = s.ch.dev1 := by
  unfold archRead; repeat (first | (solve | simp [*]) | split | simp [*])

@[simp] theorem flushDone_dev (s : State) :
    (flushDone s).ch.dev0 = s.ch.dev0 ∧ (flushDone s).ch.dev1 = s.ch.dev1 := by
  unfold flushDone; repeat (first | (solve | simp [*]) | split | simp [*])

@[simp] theorem flushPause_dev (s : State) :
    (flushPause s).ch.dev0 = s.ch.dev0 ∧ (flushPause s).ch.dev1 = s.ch.dev1 := by
  unfold flushPause; repeat (first | (solve | simp [*]) | split | simp [*])

@[simp] theorem flushAbandon_dev (s : State) :
    (flushAbandon s).ch.dev0 = s.ch.dev0 ∧ (flushAbandon s).ch.dev1 = s.ch.dev1 := by
  unfold flushAbandon; repeat (first | (solve | simp [*]) | split | simp [*])

@[simp] theorem flushDamaged_dev (s : State) :
    (flushDamaged s).ch.dev0 = s.ch.dev0 ∧ (flushDamaged s).ch.dev1 = s.ch.dev1 := by
  unfold flushDamaged
  split
  · simp
  · split
    · simp
    · dsimp only
      split
      · simp
      · rw [State.updCh_dev0, State.updCh_dev1]; exact ⟨rfl, rfl⟩

@[simp] theorem eccErr_dev (site : EccSite) (double : Bool) (s : State) :
    (eccErr site double s).ch.dev0 = s.ch.dev0 ∧ (eccErr site double s).ch.dev1 = s.ch.dev1 := by
  unfold eccErr; repeat (first | (solve | simp [*]) | split | simp [*])

@[simp] theorem lgTrigger_dev (s : State) :
    (lgTrigger s).ch.dev0 = s.ch.dev0 ∧ (lgTrigger s).ch.dev1 = s.ch.dev1 := by
  unfold lgTrigger; repeat (first | (solve | simp [*]) | split | simp [*])

@[simp] theorem lgRelease_dev (s : State) :
    (lgRelease s).ch.dev0 = s.ch.dev0 ∧ (lgRelease s).ch.dev1 = s.ch.dev1 := by
  unfold lgRelease; repeat (first | (solve | simp [*]) | split | simp [*])

@[simp] theorem drawList_dev (a0 : Nat) (a1 : State) :
    (drawList a0 a1).2.ch.dev0 = a1.ch.dev0 ∧ (drawList a0 a1).2.ch.dev1 = a1.ch.dev1 := by
  induction a0 generalizing a1 with
  | zero => simp [drawList]
  | succ n ih => unfold drawList; dsimp only; rw [(ih _).1, (ih _).2]; simp

@[simp] theorem coreRestart_dev (c : CoreId) (s : State) :
    (coreRestart c s).ch.dev0 = s.ch.dev0 ∧ (coreRestart c s).ch.dev1 = s.ch.dev1 := by
  unfold coreRestart; repeat (first | (solve | simp [*]) | split | simp [*])

@[simp] theorem stageAbandon_dev (s : State) :
    (stageAbandon s).ch.dev0 = s.ch.dev0 ∧ (stageAbandon s).ch.dev1 = s.ch.dev1 := by
  unfold stageAbandon; repeat (first | (solve | simp [*]) | split | simp [*])

@[simp] theorem closeSession_dev (s : State) :
    (closeSession s).ch.dev0 = s.ch.dev0 ∧ (closeSession s).ch.dev1 = s.ch.dev1 := by
  unfold closeSession; repeat (first | (solve | simp [*]) | split | simp [*])

@[simp] theorem takePseq_dev (s : State) :
    (takePseq s).2.ch.dev0 = s.ch.dev0 ∧ (takePseq s).2.ch.dev1 = s.ch.dev1 := by
  unfold takePseq; repeat (first | (solve | simp [*]) | split | simp [*])

@[simp] theorem stream_dev (attn : Bool) (n : Nat) (bs : List Byte) (s : State) :
    (stream attn n bs s).ch.dev0 = s.ch.dev0 ∧ (stream attn n bs s).ch.dev1 = s.ch.dev1 := by
  unfold stream; repeat (first | (solve | simp [*]) | split | simp [*])

@[simp] theorem ovUp_dev (t : Nat) (a0 : Nat) (a1 : Nat) (s : State) :
    (ovUp t a0 a1 s).ch.dev0 = s.ch.dev0 ∧ (ovUp t a0 a1 s).ch.dev1 = s.ch.dev1 := by
  unfold ovUp; repeat (first | (solve | simp [*]) | split | simp [*])

@[simp] theorem ovEvrec_dev (src : Nat) (sub : Nat) (entry : Nat) (cause : Nat) (time : Nat) (s : State) :
    (ovEvrec src sub entry cause time s).ch.dev0 = s.ch.dev0 ∧ (ovEvrec src sub entry cause time s).ch.dev1 = s.ch.dev1 := by
  unfold ovEvrec; repeat (first | (solve | simp [*]) | split | simp [*])

@[simp] theorem attnLose_dev (n : Nat) (s : State) :
    (attnLose n s).ch.dev0 = s.ch.dev0 ∧ (attnLose n s).ch.dev1 = s.ch.dev1 := by
  unfold attnLose; repeat (first | (solve | simp [*]) | split | simp [*])

@[simp] theorem attnDiscard_dev (s : State) :
    (attnDiscard s).ch.dev0 = s.ch.dev0 ∧ (attnDiscard s).ch.dev1 = s.ch.dev1 := by
  unfold attnDiscard; repeat (first | (solve | simp [*]) | split | simp [*])

@[simp] theorem attnPush_dev (a : AttnRec) (s : State) :
    (attnPush a s).ch.dev0 = s.ch.dev0 ∧ (attnPush a s).ch.dev1 = s.ch.dev1 := by
  unfold attnPush; repeat (first | (solve | simp [*]) | split | simp [*])

@[simp] theorem attnFiring_dev (src : Nat) (sub : Nat) (cause : Nat) (time : Nat) (s : State) :
    (attnFiring src sub cause time s).ch.dev0 = s.ch.dev0 ∧ (attnFiring src sub cause time s).ch.dev1 = s.ch.dev1 := by
  unfold attnFiring; repeat (first | (solve | simp [*]) | split | simp [*])

@[simp] theorem sendFiring_dev (e : EvRec) (int : Bool) (s : State) :
    (sendFiring e int s).ch.dev0 = s.ch.dev0 ∧ (sendFiring e int s).ch.dev1 = s.ch.dev1 := by
  unfold sendFiring; repeat (first | (solve | simp [*]) | split | simp [*])

@[simp] theorem judgeStep_dev (s : State) :
    (judgeStep s).ch.dev0 = s.ch.dev0 ∧ (judgeStep s).ch.dev1 = s.ch.dev1 := by
  unfold judgeStep; split
  · exact State.updPair_dev ..
  · exact State.updPair_dev ..

@[simp] theorem watchStep_dev (s : State) :
    (watchStep s).ch.dev0 = s.ch.dev0 ∧ (watchStep s).ch.dev1 = s.ch.dev1 := by
  unfold watchStep; repeat (first | (solve | simp [*]) | split | simp [*])

@[simp] theorem judgeDiffs_dev (s : State) :
    (judgeDiffs s).ch.dev0 = s.ch.dev0 ∧ (judgeDiffs s).ch.dev1 = s.ch.dev1 := by
  unfold judgeDiffs; repeat (first | (solve | simp [*]) | split | simp [*])

@[simp] theorem yieldBegin_dev (ground : Bool) (s : State) :
    (yieldBegin ground s).ch.dev0 = s.ch.dev0 ∧ (yieldBegin ground s).ch.dev1 = s.ch.dev1 := by
  unfold yieldBegin; repeat (first | (solve | simp [*]) | split | simp [*])

@[simp] theorem groundArose_dev (s : State) :
    (groundArose s).ch.dev0 = s.ch.dev0 ∧ (groundArose s).ch.dev1 = s.ch.dev1 := by
  unfold groundArose; repeat (first | (solve | simp [*]) | split | simp [*])

@[simp] theorem setGround_dev (i : Fin 7) (b : Bool) (s : State) :
    (setGround i b s).ch.dev0 = s.ch.dev0 ∧ (setGround i b s).ch.dev1 = s.ch.dev1 := by
  unfold setGround; repeat (first | (solve | simp [*]) | split | simp [*])

@[simp] theorem pulseGround_dev (i : Fin 7) (s : State) :
    (pulseGround i s).ch.dev0 = s.ch.dev0 ∧ (pulseGround i s).ch.dev1 = s.ch.dev1 := by
  unfold pulseGround; repeat (first | (solve | simp [*]) | split | simp [*])

@[simp] theorem groundAgain_dev (i : Fin 7) (s : State) :
    (groundAgain i s).ch.dev0 = s.ch.dev0 ∧ (groundAgain i s).ch.dev1 = s.ch.dev1 := by
  unfold groundAgain; repeat (first | (solve | simp [*]) | split | simp [*])

@[simp] theorem judgeGrounds_dev (s : State) :
    (judgeGrounds s).ch.dev0 = s.ch.dev0 ∧ (judgeGrounds s).ch.dev1 = s.ch.dev1 := by
  unfold judgeGrounds; repeat (first | (solve | simp [*]) | split | simp [*])

@[simp] theorem ownTake_dev (sub : Nat) (s : State) :
    (ownTake sub s).ch.dev0 = s.ch.dev0 ∧ (ownTake sub s).ch.dev1 = s.ch.dev1 := by
  unfold ownTake; repeat (first | (solve | simp [*]) | split | simp [*])

@[simp] theorem ownDrop_dev (s : State) :
    (ownDrop s).ch.dev0 = s.ch.dev0 ∧ (ownDrop s).ch.dev1 = s.ch.dev1 := by
  unfold ownDrop; repeat (first | (solve | simp [*]) | split | simp [*])

@[simp] theorem watchOwn_dev (s : State) :
    (watchOwn s).ch.dev0 = s.ch.dev0 ∧ (watchOwn s).ch.dev1 = s.ch.dev1 := by
  unfold watchOwn; repeat (first | (solve | simp [*]) | split | simp [*])

@[simp] theorem badPairFrame_dev (s : State) :
    (badPairFrame s).ch.dev0 = s.ch.dev0 ∧ (badPairFrame s).ch.dev1 = s.ch.dev1 := by
  unfold badPairFrame; repeat (first | (solve | simp [*]) | split | simp [*])

@[simp] theorem onPair_dev (crcOk : Bool) (f : State → State) (s : State) (hf : ∀ (t : State), (f t).ch.dev0 = t.ch.dev0 ∧ (f t).ch.dev1 = t.ch.dev1) :
    (onPair crcOk f s).ch.dev0 = s.ch.dev0 ∧ (onPair crcOk f s).ch.dev1 = s.ch.dev1 := by
  unfold onPair; repeat (first | (solve | simp [*]) | split | simp [*])

@[simp] theorem linkLost_dev (s : State) :
    (linkLost s).ch.dev0 = s.ch.dev0 ∧ (linkLost s).ch.dev1 = s.ch.dev1 := by
  unfold linkLost; repeat (first | (solve | simp [*]) | split | simp [*])

@[simp] theorem onCtrl_dev (crcOk : Bool) (seq : BitVec 8) (f : State → State) (s : State) (hf : ∀ (t : State), (f t).ch.dev0 = t.ch.dev0 ∧ (f t).ch.dev1 = t.ch.dev1) :
    (onCtrl crcOk seq f s).ch.dev0 = s.ch.dev0 ∧ (onCtrl crcOk seq f s).ch.dev1 = s.ch.dev1 := by
  unfold onCtrl; repeat (first | (solve | simp [*]) | split | simp [*])

@[simp] theorem onFollow_dev (crcOk : Bool) (seq : BitVec 8) (f : State → State) (s : State) (hf : ∀ (t : State), (f t).ch.dev0 = t.ch.dev0 ∧ (f t).ch.dev1 = t.ch.dev1) :
    (onFollow crcOk seq f s).ch.dev0 = s.ch.dev0 ∧ (onFollow crcOk seq f s).ch.dev1 = s.ch.dev1 := by
  unfold onFollow; repeat (first | (solve | simp [*]) | split | simp [*])

@[simp] theorem judgeGates_dev (s : State) :
    (judgeGates s).ch.dev0 = s.ch.dev0 ∧ (judgeGates s).ch.dev1 = s.ch.dev1 := by
  unfold judgeGates; repeat (first | (solve | simp [*]) | split | simp [*])

@[simp] theorem feedLost_dev (f : Fin 2) (s : State) :
    (feedLost f s).ch.dev0 = s.ch.dev0 ∧ (feedLost f s).ch.dev1 = s.ch.dev1 := by
  unfold feedLost; repeat (first | (solve | simp [*]) | split | simp [*])

@[simp] theorem feedQual_dev (x : FeedSense) (s0 : State) :
    (feedQual x s0).ch.dev0 = s0.ch.dev0 ∧ (feedQual x s0).ch.dev1 = s0.ch.dev1 := by
  unfold feedQual; repeat (first | (solve | simp [*]) | split | simp [*])

@[simp] theorem feedGone_dev (x : FeedSense) (s0 : State) :
    (feedGone x s0).ch.dev0 = s0.ch.dev0 ∧ (feedGone x s0).ch.dev1 = s0.ch.dev1 := by
  unfold feedGone; repeat (first | (solve | simp [*]) | split | simp [*])

@[simp] theorem watchFeeds_dev (s : State) :
    (watchFeeds s).ch.dev0 = s.ch.dev0 ∧ (watchFeeds s).ch.dev1 = s.ch.dev1 := by
  unfold watchFeeds; dsimp only
  split
  · simp
  · split
    · simp
    · refine ⟨(State.each_dev _ _ _ (fun f u => ?_)).1.trans (by simp), (State.each_dev _ _ _ (fun f u => ?_)).2.trans (by simp)⟩ <;>
        · split
          · split <;> simp
          · simp

@[simp] theorem feedBelow_dev (f : Fin 2) (b : Bool) (s : State) :
    (feedBelow f b s).ch.dev0 = s.ch.dev0 ∧ (feedBelow f b s).ch.dev1 = s.ch.dev1 := by
  unfold feedBelow; repeat (first | (solve | simp [*]) | split | simp [*])

@[simp] theorem qualifyRestart_dev (i : QualInput) (s : State) :
    (qualifyRestart i s).ch.dev0 = s.ch.dev0 ∧ (qualifyRestart i s).ch.dev1 = s.ch.dev1 := by
  unfold qualifyRestart; repeat (first | (solve | simp [*]) | split | simp [*])

@[simp] theorem discardTrims_dev (s : State) :
    (discardTrims s).ch.dev0 = s.ch.dev0 ∧ (discardTrims s).ch.dev1 = s.ch.dev1 := by
  unfold discardTrims; repeat (first | (solve | simp [*]) | split | simp [*])

@[simp] theorem leaveFence_dev (n : Fin 64) (s : State) :
    (leaveFence n s).ch.dev0 = s.ch.dev0 ∧ (leaveFence n s).ch.dev1 = s.ch.dev1 := by
  unfold leaveFence; repeat (first | (solve | simp [*]) | split | simp [*])

@[simp] theorem applyPhase_dev (old : Image) (new : Image) (n : Fin 64) (s : State) :
    (applyPhase old new n s).ch.dev0 = s.ch.dev0 ∧ (applyPhase old new n s).ch.dev1 = s.ch.dev1 := by
  unfold applyPhase; repeat (first | (solve | simp [*]) | split | simp [*])

@[simp] theorem recompare_dev (r : Fin 24) (old : RailCfg) (c : RailCfg) (s : State) :
    (recompare r old c s).ch.dev0 = s.ch.dev0 ∧ (recompare r old c s).ch.dev1 = s.ch.dev1 := by
  unfold recompare; repeat (first | (solve | simp [*]) | split | simp [*])

@[simp] theorem applyRail_dev (old : Image) (new : Image) (r : Fin 24) (s : State) :
    (applyRail old new r s).ch.dev0 = s.ch.dev0 ∧ (applyRail old new r s).ch.dev1 = s.ch.dev1 := by
  unfold applyRail; repeat (first | (solve | simp [*]) | split | simp [*])

@[simp] theorem applyPort_dev (new : Image) (p : Fin 8) (s : State) :
    (applyPort new p s).ch.dev0 = s.ch.dev0 ∧ (applyPort new p s).ch.dev1 = s.ch.dev1 := by
  unfold applyPort; repeat (first | (solve | simp [*]) | split | simp [*])

@[simp] theorem applyDom_dev (old : Image) (new : Image) (start : Bool) (d : Fin 8) (s : State) :
    (applyDom old new start d s).ch.dev0 = s.ch.dev0 ∧ (applyDom old new start d s).ch.dev1 = s.ch.dev1 := by
  unfold applyDom; repeat (first | (solve | simp [*]) | split | simp [*])

@[simp] theorem applySlot_dev (old : Image) (new : Image) (n : Fin 48) (s : State) :
    (applySlot old new n s).ch.dev0 = s.ch.dev0 ∧ (applySlot old new n s).ch.dev1 = s.ch.dev1 := by
  unfold applySlot; repeat (first | (solve | simp [*]) | split | simp [*])

@[simp] theorem applyMon_dev (new : Image) (m : Fin 96) (s : State) :
    (applyMon new m s).ch.dev0 = s.ch.dev0 ∧ (applyMon new m s).ch.dev1 = s.ch.dev1 := by
  unfold applyMon; repeat (first | (solve | simp [*]) | split | simp [*])

@[simp] theorem applyCt_dev (new : Image) (k : Fin 16) (s : State) :
    (applyCt new k s).ch.dev0 = s.ch.dev0 ∧ (applyCt new k s).ch.dev1 = s.ch.dev1 := by
  unfold applyCt; repeat (first | (solve | simp [*]) | split | simp [*])

@[simp] theorem applyHold_dev (old : Image) (new : Image) (s : State) :
    (applyHold old new s).ch.dev0 = s.ch.dev0 ∧ (applyHold old new s).ch.dev1 = s.ch.dev1 := by
  unfold applyHold; repeat (first | (solve | simp [*]) | split | simp [*])

@[simp] theorem applyCarts_dev (new : Image) (s : State) :
    (applyCarts new s).ch.dev0 = s.ch.dev0 ∧ (applyCarts new s).ch.dev1 = s.ch.dev1 := by
  unfold applyCarts; repeat (first | (solve | simp [*]) | split | simp [*])

@[simp] theorem applyOv_dev (old : Image) (new : Image) (start : Bool) (s : State) :
    (applyOv old new start s).ch.dev0 = s.ch.dev0 ∧ (applyOv old new start s).ch.dev1 = s.ch.dev1 := by
  unfold applyOv; repeat (first | (solve | simp [*]) | split | simp [*])

@[simp] theorem applyIslands_dev (s : State) :
    (applyIslands s).ch.dev0 = s.ch.dev0 ∧ (applyIslands s).ch.dev1 = s.ch.dev1 := by
  unfold applyIslands; repeat (first | (solve | simp [*]) | split | simp [*])

@[simp] theorem setReason_dev (slot : Nat) (code : Nat) (ofs : Nat) (s : State) :
    (setReason slot code ofs s).ch.dev0 = s.ch.dev0 ∧ (setReason slot code ofs s).ch.dev1 = s.ch.dev1 := by
  unfold setReason; repeat (first | (solve | simp [*]) | split | simp [*])

@[simp] theorem checkSlot_dev (slot : Nat) (s0 : State) :
    (checkSlot slot s0).ch.dev0 = s0.ch.dev0 ∧ (checkSlot slot s0).ch.dev1 = s0.ch.dev1 := by
  unfold checkSlot; repeat (first | (solve | simp [*]) | split | simp [*])

@[simp] theorem beginStart_dev (straps : Straps) (s : State) :
    (beginStart straps s).ch.dev0 = s.ch.dev0 ∧ (beginStart straps s).ch.dev1 = s.ch.dev1 := by
  unfold beginStart; repeat (first | (solve | simp [*]) | split | simp [*])

@[simp] theorem porReleased_dev (straps : Straps) (s : State) :
    (porReleased straps s).ch.dev0 = s.ch.dev0 ∧ (porReleased straps s).ch.dev1 = s.ch.dev1 := by
  unfold porReleased; repeat (first | (solve | simp [*]) | split | simp [*])

@[simp] theorem resetReleased_dev (straps : Straps) (s : State) :
    (resetReleased straps s).ch.dev0 = s.ch.dev0 ∧ (resetReleased straps s).ch.dev1 = s.ch.dev1 := by
  unfold resetReleased; repeat (first | (solve | simp [*]) | split | simp [*])

@[simp] theorem pwmReload_dev (s : State) :
    (pwmReload s).ch.dev0 = s.ch.dev0 ∧ (pwmReload s).ch.dev1 = s.ch.dev1 := by
  unfold pwmReload; repeat (first | (solve | simp [*]) | split | simp [*])

@[simp] theorem pllLock_dev (s : State) :
    (pllLock s).ch.dev0 = s.ch.dev0 ∧ (pllLock s).ch.dev1 = s.ch.dev1 := by
  unfold pllLock; repeat (first | (solve | simp [*]) | split | simp [*])

@[simp] theorem pllAcquired_dev (s : State) :
    (pllAcquired s).ch.dev0 = s.ch.dev0 ∧ (pllAcquired s).ch.dev1 = s.ch.dev1 := by
  unfold pllAcquired; repeat (first | (solve | simp [*]) | split | simp [*])

@[simp] theorem pllLost_dev (s : State) :
    (pllLost s).ch.dev0 = s.ch.dev0 ∧ (pllLost s).ch.dev1 = s.ch.dev1 := by
  unfold pllLost; repeat (first | (solve | simp [*]) | split | simp [*])

@[simp] theorem refLost_dev (s : State) :
    (refLost s).ch.dev0 = s.ch.dev0 ∧ (refLost s).ch.dev1 = s.ch.dev1 := by
  unfold refLost; repeat (first | (solve | simp [*]) | split | simp [*])

@[simp] theorem refBack_dev (s : State) :
    (refBack s).ch.dev0 = s.ch.dev0 ∧ (refBack s).ch.dev1 = s.ch.dev1 := by
  unfold refBack; repeat (first | (solve | simp [*]) | split | simp [*])

@[simp] theorem refHoldEnd_dev (s : State) :
    (refHoldEnd s).ch.dev0 = s.ch.dev0 ∧ (refHoldEnd s).ch.dev1 = s.ch.dev1 := by
  unfold refHoldEnd; repeat (first | (solve | simp [*]) | split | simp [*])

@[simp] theorem takeLayout_dev (l : Layout) (mirror : Bool) (s : State) :
    (takeLayout l mirror s).ch.dev0 = s.ch.dev0 ∧ (takeLayout l mirror s).ch.dev1 = s.ch.dev1 := by
  unfold takeLayout; repeat (first | (solve | simp [*]) | split | simp [*])

@[simp] theorem noLayout_dev (s : State) :
    (noLayout s).ch.dev0 = s.ch.dev0 ∧ (noLayout s).ch.dev1 = s.ch.dev1 := by
  unfold noLayout; repeat (first | (solve | simp [*]) | split | simp [*])

@[simp] theorem readLayout_dev (s0 : State) :
    (readLayout s0).ch.dev0 = s0.ch.dev0 ∧ (readLayout s0).ch.dev1 = s0.ch.dev1 := by
  unfold readLayout; repeat (first | (solve | simp [*]) | split | simp [*])

@[simp] theorem layoutAgain_dev (s : State) :
    (layoutAgain s).ch.dev0 = s.ch.dev0 ∧ (layoutAgain s).ch.dev1 = s.ch.dev1 := by
  unfold layoutAgain; repeat (first | (solve | simp [*]) | split | simp [*])

@[simp] theorem candidateCheck_dev (s : State) :
    (candidateCheck s).ch.dev0 = s.ch.dev0 ∧ (candidateCheck s).ch.dev1 = s.ch.dev1 := by
  unfold candidateCheck; repeat (first | (solve | simp [*]) | split | simp [*])

@[simp] theorem coresChecked_dev (s0 : State) :
    (coresChecked s0).ch.dev0 = s0.ch.dev0 ∧ (coresChecked s0).ch.dev1 = s0.ch.dev1 := by
  unfold coresChecked; repeat (first | (solve | simp [*]) | split | simp [*])

@[simp] theorem coreBoot_dev (c : CoreId) (ok : Bool) (s : State) :
    (coreBoot c ok s).ch.dev0 = s.ch.dev0 ∧ (coreBoot c ok s).ch.dev1 = s.ch.dev1 := by
  unfold coreBoot; repeat (first | (solve | simp [*]) | split | simp [*])

@[simp] theorem handshakeStalled_dev (s : State) :
    (handshakeStalled s).ch.dev0 = s.ch.dev0 ∧ (handshakeStalled s).ch.dev1 = s.ch.dev1 := by
  unfold handshakeStalled; repeat (first | (solve | simp [*]) | split | simp [*])

@[simp] theorem cdcRejected_dev (s : State) :
    (cdcRejected s).ch.dev0 = s.ch.dev0 ∧ (cdcRejected s).ch.dev1 = s.ch.dev1 := by
  unfold cdcRejected; repeat (first | (solve | simp [*]) | split | simp [*])

@[simp] theorem toggleAck_dev (l : ToggleLine) (s : State) :
    (toggleAck l s).ch.dev0 = s.ch.dev0 ∧ (toggleAck l s).ch.dev1 = s.ch.dev1 := by
  unfold toggleAck; repeat (first | (solve | simp [*]) | split | simp [*])

@[simp] theorem setIsland_dev (i : Island) (v : Isl) (s : State) :
    (setIsland i v s).ch.dev0 = s.ch.dev0 ∧ (setIsland i v s).ch.dev1 = s.ch.dev1 := by
  unfold setIsland; repeat (first | (solve | simp [*]) | split | simp [*])

@[simp] theorem islandUp_dev (i : Island) (s : State) :
    (islandUp i s).ch.dev0 = s.ch.dev0 ∧ (islandUp i s).ch.dev1 = s.ch.dev1 := by
  unfold islandUp; repeat (first | (solve | simp [*]) | split | simp [*])

@[simp] theorem coreWatchdog_dev (c : CoreId) (s : State) :
    (coreWatchdog c s).ch.dev0 = s.ch.dev0 ∧ (coreWatchdog c s).ch.dev1 = s.ch.dev1 := by
  unfold coreWatchdog; repeat (first | (solve | simp [*]) | split | simp [*])

@[simp] theorem supplyExit_dev (k : Fin 5) (s : State) :
    (supplyExit k s).ch.dev0 = s.ch.dev0 ∧ (supplyExit k s).ch.dev1 = s.ch.dev1 := by
  unfold supplyExit; repeat (first | (solve | simp [*]) | split | simp [*])

@[simp] theorem supplyClear_dev (s : State) :
    (supplyClear s).ch.dev0 = s.ch.dev0 ∧ (supplyClear s).ch.dev1 = s.ch.dev1 := by
  unfold supplyClear; repeat (first | (solve | simp [*]) | split | simp [*])

@[simp] theorem trimMismatch_dev (s : State) :
    (trimMismatch s).ch.dev0 = s.ch.dev0 ∧ (trimMismatch s).ch.dev1 = s.ch.dev1 := by
  unfold trimMismatch; repeat (first | (solve | simp [*]) | split | simp [*])

@[simp] theorem scrubCheck_dev (seg : Nat) (crc : Nat) (s : State) :
    (scrubCheck seg crc s).ch.dev0 = s.ch.dev0 ∧ (scrubCheck seg crc s).ch.dev1 = s.ch.dev1 := by
  unfold scrubCheck; repeat (first | (solve | simp [*]) | split | simp [*])

@[simp] theorem rereadFetch_dev (s : State) :
    (rereadFetch s).ch.dev0 = s.ch.dev0 ∧ (rereadFetch s).ch.dev1 = s.ch.dev1 := by
  unfold rereadFetch; repeat (first | (solve | simp [*]) | split | simp [*])

@[simp] theorem scrubRepaired_dev (s : State) :
    (scrubRepaired s).ch.dev0 = s.ch.dev0 ∧ (scrubRepaired s).ch.dev1 = s.ch.dev1 := by
  unfold scrubRepaired; repeat (first | (solve | simp [*]) | split | simp [*])

@[simp] theorem chandlerReread_dev (s : State) :
    (chandlerReread s).ch.dev0 = s.ch.dev0 ∧ (chandlerReread s).ch.dev1 = s.ch.dev1 := by
  unfold chandlerReread; repeat (first | (solve | simp [*]) | split | simp [*])

@[simp] theorem requestSleep_dev (s : State) :
    (requestSleep s).ch.dev0 = s.ch.dev0 ∧ (requestSleep s).ch.dev1 = s.ch.dev1 := by
  unfold requestSleep; repeat (first | (solve | simp [*]) | split | simp [*])

@[simp] theorem hostSleep_dev (s : State) :
    (hostSleep s).ch.dev0 = s.ch.dev0 ∧ (hostSleep s).ch.dev1 = s.ch.dev1 := by
  unfold hostSleep; repeat (first | (solve | simp [*]) | split | simp [*])

@[simp] theorem idleSleep_dev (s : State) :
    (idleSleep s).ch.dev0 = s.ch.dev0 ∧ (idleSleep s).ch.dev1 = s.ch.dev1 := by
  unfold idleSleep; repeat (first | (solve | simp [*]) | split | simp [*])

@[simp] theorem watchIdle_dev (s : State) :
    (watchIdle s).ch.dev0 = s.ch.dev0 ∧ (watchIdle s).ch.dev1 = s.ch.dev1 := by
  unfold watchIdle; repeat (first | (solve | simp [*]) | split | simp [*])

@[simp] theorem sleepQuiet_dev (s : State) :
    (sleepQuiet s).ch.dev0 = s.ch.dev0 ∧ (sleepQuiet s).ch.dev1 = s.ch.dev1 := by
  unfold sleepQuiet; repeat (first | (solve | simp [*]) | split | simp [*])

@[simp] theorem sleepHalt_dev (s : State) :
    (sleepHalt s).ch.dev0 = s.ch.dev0 ∧ (sleepHalt s).ch.dev1 = s.ch.dev1 := by
  unfold sleepHalt; repeat (first | (solve | simp [*]) | split | simp [*])

@[simp] theorem sleepEnter_dev (s : State) :
    (sleepEnter s).ch.dev0 = s.ch.dev0 ∧ (sleepEnter s).ch.dev1 = s.ch.dev1 := by
  unfold sleepEnter; repeat (first | (solve | simp [*]) | split | simp [*])

@[simp] theorem alarmDue_dev (s : State) :
    (alarmDue s).ch.dev0 = s.ch.dev0 ∧ (alarmDue s).ch.dev1 = s.ch.dev1 := by
  unfold alarmDue; repeat (first | (solve | simp [*]) | split | simp [*])

@[simp] theorem wakeOn_dev (src : Fin 8) (s : State) :
    (wakeOn src s).ch.dev0 = s.ch.dev0 ∧ (wakeOn src s).ch.dev1 = s.ch.dev1 := by
  unfold wakeOn; repeat (first | (solve | simp [*]) | split | simp [*])

@[simp] theorem wakePassed_dev (s : State) :
    (wakePassed s).ch.dev0 = s.ch.dev0 ∧ (wakePassed s).ch.dev1 = s.ch.dev1 := by
  unfold wakePassed; repeat (first | (solve | simp [*]) | split | simp [*])

@[simp] theorem wakeReread_dev (l : List Nat) (s : State) :
    (wakeReread l s).ch.dev0 = s.ch.dev0 ∧ (wakeReread l s).ch.dev1 = s.ch.dev1 := by
  unfold wakeReread; repeat (first | (solve | simp [*]) | split | simp [*])

@[simp] theorem wakeDomains_dev (s : State) :
    (wakeDomains s).ch.dev0 = s.ch.dev0 ∧ (wakeDomains s).ch.dev1 = s.ch.dev1 := by
  unfold wakeDomains; repeat (first | (solve | simp [*]) | split | simp [*])

@[simp] theorem wakeMonitors_dev (s : State) :
    (wakeMonitors s).ch.dev0 = s.ch.dev0 ∧ (wakeMonitors s).ch.dev1 = s.ch.dev1 := by
  unfold wakeMonitors; repeat (first | (solve | simp [*]) | split | simp [*])

@[simp] theorem wakeUp_dev (s : State) :
    (wakeUp s).ch.dev0 = s.ch.dev0 ∧ (wakeUp s).ch.dev1 = s.ch.dev1 := by
  unfold wakeUp; repeat (first | (solve | simp [*]) | split | simp [*])

@[simp] theorem wakeLinks_dev (s : State) :
    (wakeLinks s).ch.dev0 = s.ch.dev0 ∧ (wakeLinks s).ch.dev1 = s.ch.dev1 := by
  unfold wakeLinks; repeat (first | (solve | simp [*]) | split | simp [*])

@[simp] theorem stageDrop_dev (s : State) :
    (stageDrop s).ch.dev0 = s.ch.dev0 ∧ (stageDrop s).ch.dev1 = s.ch.dev1 := by
  unfold stageDrop; repeat (first | (solve | simp [*]) | split | simp [*])

@[simp] theorem chandlerResult_dev (slot : Nat) (code : Nat) (ofs : Nat) (s : State) :
    (chandlerResult slot code ofs s).ch.dev0 = s.ch.dev0 ∧ (chandlerResult slot code ofs s).ch.dev1 = s.ch.dev1 := by
  unfold chandlerResult; repeat (first | (solve | simp [*]) | split | simp [*])

@[simp] theorem applyBegin_dev (slot : Nat) (s : State) :
    (applyBegin slot s).ch.dev0 = s.ch.dev0 ∧ (applyBegin slot s).ch.dev1 = s.ch.dev1 := by
  unfold applyBegin; repeat (first | (solve | simp [*]) | split | simp [*])

@[simp] theorem activateRefused_dev (w : Nat) (s : State) :
    (activateRefused w s).ch.dev0 = s.ch.dev0 ∧ (activateRefused w s).ch.dev1 = s.ch.dev1 := by
  unfold activateRefused; repeat (first | (solve | simp [*]) | split | simp [*])

@[simp] theorem seqFinish_dev (q : PairSeq) (s : State) :
    (seqFinish q s).ch.dev0 = s.ch.dev0 ∧ (seqFinish q s).ch.dev1 = s.ch.dev1 := by
  unfold seqFinish; repeat (first | (solve | simp [*]) | split | simp [*])

@[simp] theorem skipSched_dev (why : Nat) (s : State) :
    (skipSched why s).ch.dev0 = s.ch.dev0 ∧ (skipSched why s).ch.dev1 = s.ch.dev1 := by
  unfold skipSched; repeat (first | (solve | simp [*]) | split | simp [*])

@[simp] theorem rollbackStep_dev (s : State) :
    (rollbackStep s).ch.dev0 = s.ch.dev0 ∧ (rollbackStep s).ch.dev1 = s.ch.dev1 := by
  unfold rollbackStep; repeat (first | (solve | simp [*]) | split | simp [*])

@[simp] theorem pairHalt_dev (why : Nat) (s : State) :
    (pairHalt why s).ch.dev0 = s.ch.dev0 ∧ (pairHalt why s).ch.dev1 = s.ch.dev1 := by
  unfold pairHalt; repeat (first | (solve | simp [*]) | split | simp [*])

@[simp] theorem confirmProof_dev (s : State) :
    (confirmProof s).ch.dev0 = s.ch.dev0 ∧ (confirmProof s).ch.dev1 = s.ch.dev1 := by
  unfold confirmProof; repeat (first | (solve | simp [*]) | split | simp [*])

@[simp] theorem patternChecked_dev (s : State) :
    (patternChecked s).ch.dev0 = s.ch.dev0 ∧ (patternChecked s).ch.dev1 = s.ch.dev1 := by
  unfold patternChecked; repeat (first | (solve | simp [*]) | split | simp [*])

@[simp] theorem supFallsBack_dev (s : State) :
    (supFallsBack s).ch.dev0 = s.ch.dev0 ∧ (supFallsBack s).ch.dev1 = s.ch.dev1 := by
  unfold supFallsBack; repeat (first | (solve | simp [*]) | split | simp [*])

@[simp] theorem seqLate_dev (s : State) :
    (seqLate s).ch.dev0 = s.ch.dev0 ∧ (seqLate s).ch.dev1 = s.ch.dev1 := by
  unfold seqLate; repeat (first | (solve | simp [*]) | split | simp [*])

@[simp] theorem seqGround_dev (s : State) :
    (seqGround s).ch.dev0 = s.ch.dev0 ∧ (seqGround s).ch.dev1 = s.ch.dev1 := by
  unfold seqGround; repeat (first | (solve | simp [*]) | split | simp [*])

@[simp] theorem readyDomains_dev (s : State) :
    (readyDomains s).ch.dev0 = s.ch.dev0 ∧ (readyDomains s).ch.dev1 = s.ch.dev1 := by
  unfold readyDomains; repeat (first | (solve | simp [*]) | split | simp [*])

@[simp] theorem readyRole_dev (s : State) :
    (readyRole s).ch.dev0 = s.ch.dev0 ∧ (readyRole s).ch.dev1 = s.ch.dev1 := by
  unfold readyRole; repeat (first | (solve | simp [*]) | split | simp [*])

@[simp] theorem fenceOvPort_dev (k : Fin 6) (s : State) :
    (fenceOvPort k s).ch.dev0 = s.ch.dev0 ∧ (fenceOvPort k s).ch.dev1 = s.ch.dev1 := by
  unfold fenceOvPort; repeat (first | (solve | simp [*]) | split | simp [*])

@[simp] theorem fenceCart_dev (c : Fin 16) (s : State) :
    (fenceCart c s).ch.dev0 = s.ch.dev0 ∧ (fenceCart c s).ch.dev1 = s.ch.dev1 := by
  unfold fenceCart; repeat (first | (solve | simp [*]) | split | simp [*])

@[simp] theorem fenceUnit_dev (src : Nat) (sub : Nat) (s : State) :
    (fenceUnit src sub s).ch.dev0 = s.ch.dev0 ∧ (fenceUnit src sub s).ch.dev1 = s.ch.dev1 := by
  unfold fenceUnit; repeat (first | (solve | simp [*]) | split | simp [*])

@[simp] theorem portReset_dev (p : Fin 8) (s : State) :
    (portReset p s).ch.dev0 = s.ch.dev0 ∧ (portReset p s).ch.dev1 = s.ch.dev1 := by
  unfold portReset; repeat (first | (solve | simp [*]) | split | simp [*])

@[simp] theorem examineAll_dev (s : State) :
    (examineAll s).ch.dev0 = s.ch.dev0 ∧ (examineAll s).ch.dev1 = s.ch.dev1 := by
  unfold examineAll; repeat (first | (solve | simp [*]) | split | simp [*])

@[simp] theorem pairLinkCut_dev (s : State) :
    (pairLinkCut s).ch.dev0 = s.ch.dev0 ∧ (pairLinkCut s).ch.dev1 = s.ch.dev1 := by
  unfold pairLinkCut; repeat (first | (solve | simp [*]) | split | simp [*])

@[simp] theorem resetOutputs_dev (s : State) :
    (resetOutputs s).ch.dev0 = s.ch.dev0 ∧ (resetOutputs s).ch.dev1 = s.ch.dev1 := by
  unfold resetOutputs; repeat (first | (solve | simp [*]) | split | simp [*])

@[simp] theorem cresetFire_dev (src : Nat) (s : State) :
    (cresetFire src s).ch.dev0 = s.ch.dev0 ∧ (cresetFire src s).ch.dev1 = s.ch.dev1 := by
  unfold cresetFire; repeat (first | (solve | simp [*]) | split | simp [*])

@[simp] theorem domainVerdicts_dev (src : Nat) (sub : Nat) (s : State) :
    (domainVerdicts src sub s).ch.dev0 = s.ch.dev0 ∧ (domainVerdicts src sub s).ch.dev1 = s.ch.dev1 := by
  unfold domainVerdicts; repeat (first | (solve | simp [*]) | split | simp [*])

@[simp] theorem recordFiring_dev (n : Fin 192) (sub : Nat) (e : Nat) (cause : Nat) (s : State) :
    (recordFiring n sub e cause s).ch.dev0 = s.ch.dev0 ∧ (recordFiring n sub e cause s).ch.dev1 = s.ch.dev1 := by
  unfold recordFiring; repeat (first | (solve | simp [*]) | split | simp [*])

@[simp] theorem announceFiring_dev (n : Fin 192) (sub : Nat) (e : Nat) (cause : Nat) (s : State) :
    (announceFiring n sub e cause s).ch.dev0 = s.ch.dev0 ∧ (announceFiring n sub e cause s).ch.dev1 = s.ch.dev1 := by
  unfold announceFiring; repeat (first | (solve | simp [*]) | split | simp [*])

@[simp] theorem errFiring_dev (s : State) :
    (errFiring s).ch.dev0 = s.ch.dev0 ∧ (errFiring s).ch.dev1 = s.ch.dev1 := by
  unfold errFiring; repeat (first | (solve | simp [*]) | split | simp [*])

@[simp] theorem yieldGround_dev (n : Nat) (e : Nat) (s : State) :
    (yieldGround n e s).ch.dev0 = s.ch.dev0 ∧ (yieldGround n e s).ch.dev1 = s.ch.dev1 := by
  unfold yieldGround; repeat (first | (solve | simp [*]) | split | simp [*])

@[simp] theorem watchPg_dev (s : State) :
    (watchPg s).ch.dev0 = s.ch.dev0 ∧ (watchPg s).ch.dev1 = s.ch.dev1 := by
  unfold watchPg; repeat (first | (solve | simp [*]) | split | simp [*])

@[simp] theorem sendState_dev (s : State) :
    (sendState s).ch.dev0 = s.ch.dev0 ∧ (sendState s).ch.dev1 = s.ch.dev1 := by
  unfold sendState; repeat (first | (solve | simp [*]) | split | simp [*])

@[simp] theorem watchShared_dev (s : State) :
    (watchShared s).ch.dev0 = s.ch.dev0 ∧ (watchShared s).ch.dev1 = s.ch.dev1 := by
  unfold watchShared; repeat (first | (solve | simp [*]) | split | simp [*])

@[simp] theorem watchDegr_dev (s : State) :
    (watchDegr s).ch.dev0 = s.ch.dev0 ∧ (watchDegr s).ch.dev1 = s.ch.dev1 := by
  unfold watchDegr; repeat (first | (solve | simp [*]) | split | simp [*])

@[simp] theorem finish_dev (s : State) (t : State) :
    (finish s t).ch.dev0 = t.ch.dev0 ∧ (finish s t).ch.dev1 = t.ch.dev1 := by
  unfold finish; repeat (first | (solve | simp [*]) | split | simp [*])

@[simp] theorem egressAll_dev (s : State) :
    (egressAll s).ch.dev0 = s.ch.dev0 ∧ (egressAll s).ch.dev1 = s.ch.dev1 := by
  unfold egressAll; repeat (first | (solve | simp [*]) | split | simp [*])

@[simp] theorem State.elapse_dev (s : State) (n : Nat) :
    (State.elapse s n).ch.dev0 = s.ch.dev0 ∧ (State.elapse s n).ch.dev1 = s.ch.dev1 := by
  unfold State.elapse; repeat (first | (solve | simp [*]) | split | simp [*])

@[simp] theorem idleTick_dev (s : State) :
    (idleTick s).ch.dev0 = s.ch.dev0 ∧ (idleTick s).ch.dev1 = s.ch.dev1 := by
  unfold idleTick; repeat (first | (solve | simp [*]) | split | simp [*])

@[simp] theorem State.waitTill_dev (s : State) (d : Option Nat) :
    (State.waitTill s d).ch.dev0 = s.ch.dev0 ∧ (State.waitTill s d).ch.dev1 = s.ch.dev1 := by
  unfold State.waitTill; repeat (first | (solve | simp [*]) | split | simp [*])

@[simp] theorem State.waitG_dev (t : Nat) (a1 : Nat) (a2 : State) :
    (State.waitG t a1 a2).ch.dev0 = a2.ch.dev0 ∧ (State.waitG t a1 a2).ch.dev1 = a2.ch.dev1 := by
  induction a1 generalizing a2 with
  | zero => simp [State.waitG]
  | succ n ih => unfold State.waitG; repeat (first | (solve | simp [*]) | split | simp [*])

@[simp] theorem State.waitGlobal_dev (s : State) (d : Option Nat) :
    (State.waitGlobal s d).ch.dev0 = s.ch.dev0 ∧ (State.waitGlobal s d).ch.dev1 = s.ch.dev1 := by
  unfold State.waitGlobal; repeat (first | (solve | simp [*]) | split | simp [*])

@[simp] theorem State.tickJump_dev (s : State) (u : Nat) :
    (State.tickJump s u).ch.dev0 = s.ch.dev0 ∧ (State.tickJump s u).ch.dev1 = s.ch.dev1 := by
  unfold State.tickJump; repeat (first | (solve | simp [*]) | split | simp [*])

@[simp] theorem snapLead_dev (s : State) :
    (snapLead s).2.ch.dev0 = s.ch.dev0 ∧ (snapLead s).2.ch.dev1 = s.ch.dev1 := by
  unfold snapLead; repeat (first | (solve | simp [*]) | split | simp [*])

@[simp] theorem ovHostEnum_dev (s : State) :
    (ovHostEnum s).ch.dev0 = s.ch.dev0 ∧ (ovHostEnum s).ch.dev1 = s.ch.dev1 := by
  unfold ovHostEnum; repeat (first | (solve | simp [*]) | split | simp [*])

@[simp] theorem ovHostBarrier_dev (s : State) :
    (ovHostBarrier s).ch.dev0 = s.ch.dev0 ∧ (ovHostBarrier s).ch.dev1 = s.ch.dev1 := by
  unfold ovHostBarrier; repeat (first | (solve | simp [*]) | split | simp [*])

@[simp] theorem ovHostSnap_dev (s : State) :
    (ovHostSnap s).ch.dev0 = s.ch.dev0 ∧ (ovHostSnap s).ch.dev1 = s.ch.dev1 := by
  unfold ovHostSnap; repeat (first | (solve | simp [*]) | split | simp [*])

@[simp] theorem ovHostReset_dev (s : State) :
    (ovHostReset s).ch.dev0 = s.ch.dev0 ∧ (ovHostReset s).ch.dev1 = s.ch.dev1 := by
  unfold ovHostReset; repeat (first | (solve | simp [*]) | split | simp [*])

@[simp] theorem ovHostReroute_dev (s : State) :
    (ovHostReroute s).ch.dev0 = s.ch.dev0 ∧ (ovHostReroute s).ch.dev1 = s.ch.dev1 := by
  unfold ovHostReroute; repeat (first | (solve | simp [*]) | split | simp [*])

@[simp] theorem ovHostReturn_dev (s : State) :
    (ovHostReturn s).ch.dev0 = s.ch.dev0 ∧ (ovHostReturn s).ch.dev1 = s.ch.dev1 := by
  unfold ovHostReturn; repeat (first | (solve | simp [*]) | split | simp [*])

@[simp] theorem ovHostReclaim_dev (s : State) :
    (ovHostReclaim s).ch.dev0 = s.ch.dev0 ∧ (ovHostReclaim s).ch.dev1 = s.ch.dev1 := by
  unfold ovHostReclaim; repeat (first | (solve | simp [*]) | split | simp [*])

@[simp] theorem ovGo_dev (s : State) :
    (ovGo s).ch.dev0 = s.ch.dev0 ∧ (ovGo s).ch.dev1 = s.ch.dev1 := by
  unfold ovGo; repeat (first | (solve | simp [*]) | split | simp [*])

@[simp] theorem txnTimeout_dev (tag : Nat) (s : State) :
    (txnTimeout tag s).ch.dev0 = s.ch.dev0 ∧ (txnTimeout tag s).ch.dev1 = s.ch.dev1 := by
  unfold txnTimeout; repeat (first | (solve | simp [*]) | split | simp [*])

@[simp] theorem markTimer_dev (s : State) :
    (markTimer s).ch.dev0 = s.ch.dev0 ∧ (markTimer s).ch.dev1 = s.ch.dev1 := by
  unfold markTimer; repeat (first | (solve | simp [*]) | split | simp [*])

@[simp] theorem timeHold_dev (s : State) :
    (timeHold s).ch.dev0 = s.ch.dev0 ∧ (timeHold s).ch.dev1 = s.ch.dev1 := by
  unfold timeHold; repeat (first | (solve | simp [*]) | split | simp [*])

@[simp] theorem barrierTimeout_dev (s : State) :
    (barrierTimeout s).ch.dev0 = s.ch.dev0 ∧ (barrierTimeout s).ch.dev1 = s.ch.dev1 := by
  unfold barrierTimeout; repeat (first | (solve | simp [*]) | split | simp [*])

@[simp] theorem snapCapture_dev (s : State) :
    (snapCapture s).ch.dev0 = s.ch.dev0 ∧ (snapCapture s).ch.dev1 = s.ch.dev1 := by
  unfold snapCapture; repeat (first | (solve | simp [*]) | split | simp [*])

@[simp] theorem autoReroute_dev (s : State) :
    (autoReroute s).ch.dev0 = s.ch.dev0 ∧ (autoReroute s).ch.dev1 = s.ch.dev1 := by
  unfold autoReroute; repeat (first | (solve | simp [*]) | split | simp [*])

@[simp] theorem deputyTakeover_dev (s : State) :
    (deputyTakeover s).ch.dev0 = s.ch.dev0 ∧ (deputyTakeover s).ch.dev1 = s.ch.dev1 := by
  unfold deputyTakeover; repeat (first | (solve | simp [*]) | split | simp [*])

@[simp] theorem parkPort_dev (k : Fin 6) (s : State) :
    (parkPort k s).ch.dev0 = s.ch.dev0 ∧ (parkPort k s).ch.dev1 = s.ch.dev1 := by
  unfold parkPort; repeat (first | (solve | simp [*]) | split | simp [*])

@[simp] theorem countTimeout_dev (s : State) :
    (countTimeout s).ch.dev0 = s.ch.dev0 ∧ (countTimeout s).ch.dev1 = s.ch.dev1 := by
  unfold countTimeout; repeat (first | (solve | simp [*]) | split | simp [*])

@[simp] theorem timeSet_dev (v : Nat) (s : State) :
    (timeSet v s).ch.dev0 = s.ch.dev0 ∧ (timeSet v s).ch.dev1 = s.ch.dev1 := by
  unfold timeSet; repeat (first | (solve | simp [*]) | split | simp [*])

@[simp] theorem twinRefuse_dev (s : State) :
    (twinRefuse s).ch.dev0 = s.ch.dev0 ∧ (twinRefuse s).ch.dev1 = s.ch.dev1 := by
  unfold twinRefuse; repeat (first | (solve | simp [*]) | split | simp [*])

@[simp] theorem asActive_dev (f : State → State) (s : State) (hf : ∀ (t : State), (f t).ch.dev0 = t.ch.dev0 ∧ (f t).ch.dev1 = t.ch.dev1) :
    (asActive f s).ch.dev0 = s.ch.dev0 ∧ (asActive f s).ch.dev1 = s.ch.dev1 := by
  unfold asActive; repeat (first | (solve | simp [*]) | split | simp [*])

@[simp] theorem applyTrim_dev (a : Nat) (v : Nat) (s : State) :
    (applyTrim a v s).ch.dev0 = s.ch.dev0 ∧ (applyTrim a v s).ch.dev1 = s.ch.dev1 := by
  unfold applyTrim; repeat (first | (solve | simp [*]) | split | simp [*])

@[simp] theorem updLock_dev (p : Path) (f : LockPath → LockPath) (s : State) :
    (updLock p f s).ch.dev0 = s.ch.dev0 ∧ (updLock p f s).ch.dev1 = s.ch.dev1 := by
  unfold updLock; repeat (first | (solve | simp [*]) | split | simp [*])

@[simp] theorem trimWrite_dev (p : Path) (a : Nat) (v : Nat) (s : State) :
    (trimWrite p a v s).ch.dev0 = s.ch.dev0 ∧ (trimWrite p a v s).ch.dev1 = s.ch.dev1 := by
  unfold trimWrite; repeat (first | (solve | simp [*]) | split | simp [*])

@[simp] theorem breakLock_dev (p : Path) (s : State) :
    (breakLock p s).ch.dev0 = s.ch.dev0 ∧ (breakLock p s).ch.dev1 = s.ch.dev1 := by
  unfold breakLock; repeat (first | (solve | simp [*]) | split | simp [*])

@[simp] theorem unlockWrite_dev (p : Path) (v : Nat) (s : State) :
    (unlockWrite p v s).ch.dev0 = s.ch.dev0 ∧ (unlockWrite p v s).ch.dev1 = s.ch.dev1 := by
  unfold unlockWrite; repeat (first | (solve | simp [*]) | split | simp [*])

@[simp] theorem disarmDue_dev (ov : Bool) (s : State) :
    (disarmDue ov s).ch.dev0 = s.ch.dev0 ∧ (disarmDue ov s).ch.dev1 = s.ch.dev1 := by
  unfold disarmDue; repeat (first | (solve | simp [*]) | split | simp [*])

@[simp] theorem idleLockDue_dev (ov : Bool) (s : State) :
    (idleLockDue ov s).ch.dev0 = s.ch.dev0 ∧ (idleLockDue ov s).ch.dev1 = s.ch.dev1 := by
  unfold idleLockDue; repeat (first | (solve | simp [*]) | split | simp [*])

@[simp] theorem pairRefuse_dev (s : State) :
    (pairRefuse s).ch.dev0 = s.ch.dev0 ∧ (pairRefuse s).ch.dev1 = s.ch.dev1 := by
  unfold pairRefuse; repeat (first | (solve | simp [*]) | split | simp [*])

@[simp] theorem pairHostYield_dev (s : State) :
    (pairHostYield s).ch.dev0 = s.ch.dev0 ∧ (pairHostYield s).ch.dev1 = s.ch.dev1 := by
  unfold pairHostYield; repeat (first | (solve | simp [*]) | split | simp [*])

@[simp] theorem pairHostTake_dev (s : State) :
    (pairHostTake s).ch.dev0 = s.ch.dev0 ∧ (pairHostTake s).ch.dev1 = s.ch.dev1 := by
  unfold pairHostTake; repeat (first | (solve | simp [*]) | split | simp [*])

@[simp] theorem updRefuse_dev (s : State) :
    (updRefuse s).ch.dev0 = s.ch.dev0 ∧ (updRefuse s).ch.dev1 = s.ch.dev1 := by
  unfold updRefuse; repeat (first | (solve | simp [*]) | split | simp [*])

@[simp] theorem updTry_dev (r : Nat × State) :
    (updTry r).ch.dev0 = (r.2).ch.dev0 ∧ (updTry r).ch.dev1 = (r.2).ch.dev1 := by
  unfold updTry; repeat (first | (solve | simp [*]) | split | simp [*])

@[simp] theorem evRefuse_dev (s : State) :
    (evRefuse s).ch.dev0 = s.ch.dev0 ∧ (evRefuse s).ch.dev1 = s.ch.dev1 := by
  unfold evRefuse; repeat (first | (solve | simp [*]) | split | simp [*])

@[simp] theorem faultnClr_dev (s : State) :
    (faultnClr s).ch.dev0 = s.ch.dev0 ∧ (faultnClr s).ch.dev1 = s.ch.dev1 := by
  unfold faultnClr; repeat (first | (solve | simp [*]) | split | simp [*])

@[simp] theorem unfenceUnit_dev (src : Nat) (sub : Nat) (s : State) :
    (unfenceUnit src sub s).ch.dev0 = s.ch.dev0 ∧ (unfenceUnit src sub s).ch.dev1 = s.ch.dev1 := by
  unfold unfenceUnit; repeat (first | (solve | simp [*]) | split | simp [*])

@[simp] theorem evUnfence_dev (p : Path) (s : State) :
    (evUnfence p s).ch.dev0 = s.ch.dev0 ∧ (evUnfence p s).ch.dev1 = s.ch.dev1 := by
  unfold evUnfence; repeat (first | (solve | simp [*]) | split | simp [*])

@[simp] theorem talliesClear_dev (s : State) :
    (talliesClear s).ch.dev0 = s.ch.dev0 ∧ (talliesClear s).ch.dev1 = s.ch.dev1 := by
  unfold talliesClear; repeat (first | (solve | simp [*]) | split | simp [*])

@[simp] theorem wPhase_dev (p : Path) (n : Fin 64) (a : Nat) (v : Nat) (s : State) :
    (wPhase p n a v s).ch.dev0 = s.ch.dev0 ∧ (wPhase p n a v s).ch.dev1 = s.ch.dev1 := by
  unfold wPhase; repeat (first | (solve | simp [*]) | split | simp [*])

@[simp] theorem noshedWrite_dev (r : Fin 24) (a : Nat) (on : Bool) (s : State) :
    (noshedWrite r a on s).ch.dev0 = s.ch.dev0 ∧ (noshedWrite r a on s).ch.dev1 = s.ch.dev1 := by
  unfold noshedWrite; repeat (first | (solve | simp [*]) | split | simp [*])

@[simp] theorem wRail_dev (p : Path) (r : Fin 24) (a : Nat) (v : Nat) (s : State) :
    (wRail p r a v s).ch.dev0 = s.ch.dev0 ∧ (wRail p r a v s).ch.dev1 = s.ch.dev1 := by
  unfold wRail; repeat (first | (solve | simp [*]) | split | simp [*])

@[simp] theorem wPort_dev (p : Fin 8) (a : Nat) (v : Nat) (s : State) :
    (wPort p a v s).ch.dev0 = s.ch.dev0 ∧ (wPort p a v s).ch.dev1 = s.ch.dev1 := by
  unfold wPort; repeat (first | (solve | simp [*]) | split | simp [*])

@[simp] theorem domStrobe_dev (d : Fin 8) (f : State → State) (s : State) (hf : ∀ (t : State), (f t).ch.dev0 = t.ch.dev0 ∧ (f t).ch.dev1 = t.ch.dev1) :
    (domStrobe d f s).ch.dev0 = s.ch.dev0 ∧ (domStrobe d f s).ch.dev1 = s.ch.dev1 := by
  unfold domStrobe; repeat (first | (solve | simp [*]) | split | simp [*])

@[simp] theorem wDom_dev (d : Fin 8) (a : Nat) (v : Nat) (s : State) :
    (wDom d a v s).ch.dev0 = s.ch.dev0 ∧ (wDom d a v s).ch.dev1 = s.ch.dev1 := by
  unfold wDom; repeat (first | (solve | simp [*]) | split | simp [*])

@[simp] theorem wmKeep_dev (m : Fin 96) (v : Nat) (s : State) :
    (wmKeep m v s).ch.dev0 = s.ch.dev0 ∧ (wmKeep m v s).ch.dev1 = s.ch.dev1 := by
  unfold wmKeep; repeat (first | (solve | simp [*]) | split | simp [*])

@[simp] theorem wmSelftest_dev (m : Fin 96) (v : Nat) (s : State) :
    (wmSelftest m v s).ch.dev0 = s.ch.dev0 ∧ (wmSelftest m v s).ch.dev1 = s.ch.dev1 := by
  unfold wmSelftest; repeat (first | (solve | simp [*]) | split | simp [*])

@[simp] theorem wMon_dev (p : Path) (m : Fin 96) (a : Nat) (v : Nat) (s : State) :
    (wMon p m a v s).ch.dev0 = s.ch.dev0 ∧ (wMon p m a v s).ch.dev1 = s.ch.dev1 := by
  unfold wMon; repeat (first | (solve | simp [*]) | split | simp [*])

@[simp] theorem wCt_dev (p : Path) (t : Fin 16) (a : Nat) (v : Nat) (s : State) :
    (wCt p t a v s).ch.dev0 = s.ch.dev0 ∧ (wCt p t a v s).ch.dev1 = s.ch.dev1 := by
  unfold wCt; repeat (first | (solve | simp [*]) | split | simp [*])

@[simp] theorem winDrop_dev (pat : Bool) (s : State) :
    (winDrop pat s).ch.dev0 = s.ch.dev0 ∧ (winDrop pat s).ch.dev1 = s.ch.dev1 := by
  unfold winDrop; repeat (first | (solve | simp [*]) | split | simp [*])

@[simp] theorem wGlobal_dev (a : Nat) (v : Nat) (s : State) :
    (wGlobal a v s).ch.dev0 = s.ch.dev0 ∧ (wGlobal a v s).ch.dev1 = s.ch.dev1 := by
  unfold wGlobal; repeat (first | (solve | simp [*]) | split | simp [*])

@[simp] theorem evSixteen_dev (i : Nat) (f : Nat → EvSource → EvSource) (s : State) :
    (evSixteen i f s).ch.dev0 = s.ch.dev0 ∧ (evSixteen i f s).ch.dev1 = s.ch.dev1 := by
  unfold evSixteen; repeat (first | (solve | simp [*]) | split | simp [*])

@[simp] theorem capWrite_dev (v : Nat) (s : State) :
    (capWrite v s).ch.dev0 = s.ch.dev0 ∧ (capWrite v s).ch.dev1 = s.ch.dev1 := by
  unfold capWrite; repeat (first | (solve | simp [*]) | split | simp [*])

@[simp] theorem wHu_dev (a : Nat) (v : Nat) (s : State) :
    (wHu a v s).ch.dev0 = s.ch.dev0 ∧ (wHu a v s).ch.dev1 = s.ch.dev1 := by
  unfold wHu; repeat (first | (solve | simp [*]) | split | simp [*])

@[simp] theorem wPair_dev (a : Nat) (v : Nat) (s : State) :
    (wPair a v s).ch.dev0 = s.ch.dev0 ∧ (wPair a v s).ch.dev1 = s.ch.dev1 := by
  unfold wPair; repeat (first | (solve | simp [*]) | split | simp [*])

@[simp] theorem ovSelWrite_dev (f : OvPort → OvPort) (s : State) :
    (ovSelWrite f s).ch.dev0 = s.ch.dev0 ∧ (ovSelWrite f s).ch.dev1 = s.ch.dev1 := by
  unfold ovSelWrite; repeat (first | (solve | simp [*]) | split | simp [*])

@[simp] theorem wOv_dev (a : Nat) (v : Nat) (s : State) :
    (wOv a v s).ch.dev0 = s.ch.dev0 ∧ (wOv a v s).ch.dev1 = s.ch.dev1 := by
  unfold wOv; repeat (first | (solve | simp [*]) | split | simp [*])

@[simp] theorem busRecover_dev (n : Nat) (s : State) :
    (busRecover n s).ch.dev0 = s.ch.dev0 ∧ (busRecover n s).ch.dev1 = s.ch.dev1 := by
  unfold busRecover; repeat (first | (solve | simp [*]) | split | simp [*])

@[simp] theorem hostRecover_dev (s : State) :
    (hostRecover s).ch.dev0 = s.ch.dev0 ∧ (hostRecover s).ch.dev1 = s.ch.dev1 := by
  unfold hostRecover; repeat (first | (solve | simp [*]) | split | simp [*])

@[simp] theorem wideAct_dev (a : Nat) (v : Nat) (s : State) :
    (wideAct a v s).ch.dev0 = s.ch.dev0 ∧ (wideAct a v s).ch.dev1 = s.ch.dev1 := by
  unfold wideAct; repeat (first | (solve | simp [*]) | split | simp [*])

@[simp] theorem disarm_dev (p : Path) (a : Nat) (s : State) :
    (disarm p a s).ch.dev0 = s.ch.dev0 ∧ (disarm p a s).ch.dev1 = s.ch.dev1 := by
  unfold disarm; repeat (first | (solve | simp [*]) | split | simp [*])

@[simp] theorem nackBusy_dev (s : State) :
    (nackBusy s).ch.dev0 = s.ch.dev0 ∧ (nackBusy s).ch.dev1 = s.ch.dev1 := by
  unfold nackBusy; repeat (first | (solve | simp [*]) | split | simp [*])

@[simp] theorem hostStop_dev (s : State) :
    (hostStop s).ch.dev0 = s.ch.dev0 ∧ (hostStop s).ch.dev1 = s.ch.dev1 := by
  unfold hostStop; repeat (first | (solve | simp [*]) | split | simp [*])

@[simp] theorem hostNack_dev (s : State) :
    (hostNack s).ch.dev0 = s.ch.dev0 ∧ (hostNack s).ch.dev1 = s.ch.dev1 := by
  unfold hostNack; repeat (first | (solve | simp [*]) | split | simp [*])

@[simp] theorem wantAt_dev (a : Nat) (s : State) :
    (wantAt a s).ch.dev0 = s.ch.dev0 ∧ (wantAt a s).ch.dev1 = s.ch.dev1 := by
  unfold wantAt; repeat (first | (solve | simp [*]) | split | simp [*])

@[simp] theorem setPtr_dev (a : Nat) (s : State) :
    (setPtr a s).ch.dev0 = s.ch.dev0 ∧ (setPtr a s).ch.dev1 = s.ch.dev1 := by
  unfold setPtr; repeat (first | (solve | simp [*]) | split | simp [*])

@[simp] theorem badPtr_dev (s : State) :
    (badPtr s).ch.dev0 = s.ch.dev0 ∧ (badPtr s).ch.dev1 = s.ch.dev1 := by
  unfold badPtr; repeat (first | (solve | simp [*]) | split | simp [*])

@[simp] theorem readMark_dev (base : Nat) (s : State) :
    (readMark base s).ch.dev0 = s.ch.dev0 ∧ (readMark base s).ch.dev1 = s.ch.dev1 := by
  unfold readMark; repeat (first | (solve | simp [*]) | split | simp [*])

@[simp] theorem takeSnap_dev (base : Nat) (s : State) :
    (takeSnap base s).ch.dev0 = s.ch.dev0 ∧ (takeSnap base s).ch.dev1 = s.ch.dev1 := by
  unfold takeSnap; repeat (first | (solve | simp [*]) | split | simp [*])

@[simp] theorem readByte_dev (a : Nat) (s : State) :
    (readByte a s).2.ch.dev0 = s.ch.dev0 ∧ (readByte a s).2.ch.dev1 = s.ch.dev1 := by
  unfold readByte; repeat (first | (solve | simp [*]) | split | simp [*])

@[simp] theorem readBytes_dev (a0 : Nat) (a1 : Nat) (a2 : State) :
    (readBytes a0 a1 a2).2.ch.dev0 = a2.ch.dev0 ∧ (readBytes a0 a1 a2).2.ch.dev1 = a2.ch.dev1 := by
  induction a1 generalizing a0 a2 with
  | zero => simp [readBytes]
  | succ n ih =>
    unfold readBytes
    split
    · simp
    · split
      · simp
      · rename_i b t hb
        have h := readByte_dev a0 a2
        rw [hb] at h
        simpa [ih] using h

@[simp] theorem hostRead_dev (a : Nat) (n : Nat) (s : State) :
    (hostRead a n s).ch.dev0 = s.ch.dev0 ∧ (hostRead a n s).ch.dev1 = s.ch.dev1 := by
  unfold hostRead; repeat (first | (solve | simp [*]) | split | simp [*])

@[simp] theorem spaceFetch_dev (space : Nat) (o : Nat) (s : State) :
    (spaceFetch space o s).ch.dev0 = s.ch.dev0 ∧ (spaceFetch space o s).ch.dev1 = s.ch.dev1 := by
  unfold spaceFetch; repeat (first | (solve | simp [*]) | split | simp [*])

@[simp] theorem lineFetch_dev (pat : Bool) (line : Nat) (s : State) :
    (lineFetch pat line s).ch.dev0 = s.ch.dev0 ∧ (lineFetch pat line s).ch.dev1 = s.ch.dev1 := by
  unfold lineFetch; repeat (first | (solve | simp [*]) | split | simp [*])

@[simp] theorem recoverDue_dev (pulses : Nat) (s : State) :
    (recoverDue pulses s).ch.dev0 = s.ch.dev0 ∧ (recoverDue pulses s).ch.dev1 = s.ch.dev1 := by
  unfold recoverDue; repeat (first | (solve | simp [*]) | split | simp [*])

@[simp] theorem attnPop_dev (s : State) :
    (attnPop s).ch.dev0 = s.ch.dev0 ∧ (attnPop s).ch.dev1 = s.ch.dev1 := by
  unfold attnPop; repeat (first | (solve | simp [*]) | split | simp [*])

@[simp] theorem attnFail_dev (a : AttnRec) (s : State) :
    (attnFail a s).ch.dev0 = s.ch.dev0 ∧ (attnFail a s).ch.dev1 = s.ch.dev1 := by
  unfold attnFail; repeat (first | (solve | simp [*]) | split | simp [*])

@[simp] theorem attnResult_dev (res : AttnResult) (a : AttnRec) (s : State) :
    (attnResult res a s).ch.dev0 = s.ch.dev0 ∧ (attnResult res a s).ch.dev1 = s.ch.dev1 := by
  unfold attnResult; repeat (first | (solve | simp [*]) | split | simp [*])

@[simp] theorem attnEnd_dev (res : AttnResult) (s : State) :
    (attnEnd res s).ch.dev0 = s.ch.dev0 ∧ (attnEnd res s).ch.dev1 = s.ch.dev1 := by
  unfold attnEnd; repeat (first | (solve | simp [*]) | split | simp [*])

@[simp] theorem lowTimeout_dev (l : BusLine) (s : State) :
    (lowTimeout l s).ch.dev0 = s.ch.dev0 ∧ (lowTimeout l s).ch.dev1 = s.ch.dev1 := by
  unfold lowTimeout; repeat (first | (solve | simp [*]) | split | simp [*])

@[simp] theorem attnTry_dev (res : AttnResult) (s : State) :
    (attnTry res s).ch.dev0 = s.ch.dev0 ∧ (attnTry res s).ch.dev1 = s.ch.dev1 := by
  unfold attnTry; repeat (first | (solve | simp [*]) | split | simp [*])

@[simp] theorem backoffEnd_dev (s : State) :
    (backoffEnd s).ch.dev0 = s.ch.dev0 ∧ (backoffEnd s).ch.dev1 = s.ch.dev1 := by
  unfold backoffEnd; repeat (first | (solve | simp [*]) | split | simp [*])

@[simp] theorem remoteBytes_dev (a0 : Nat) (a1 : Nat) (a2 : State) :
    (remoteBytes a0 a1 a2).2.ch.dev0 = a2.ch.dev0 ∧ (remoteBytes a0 a1 a2).2.ch.dev1 = a2.ch.dev1 := by
  induction a1 generalizing a0 a2 with
  | zero => simp [remoteBytes]
  | succ n ih => unfold remoteBytes; repeat (first | (solve | simp [*]) | split | simp [*])

@[simp] theorem remoteFetch_dev (a : Nat) (n : Nat) (s : State) :
    (remoteFetch a n s).2.ch.dev0 = s.ch.dev0 ∧ (remoteFetch a n s).2.ch.dev1 = s.ch.dev1 := by
  unfold remoteFetch; repeat (first | (solve | simp [*]) | split | simp [*])

@[simp] theorem remoteRead_dev (a : Nat) (n : Nat) (s : State) :
    (remoteRead a n s).2.2.ch.dev0 = s.ch.dev0 ∧ (remoteRead a n s).2.2.ch.dev1 = s.ch.dev1 := by
  unfold remoteRead; repeat (first | (solve | simp [*]) | split | simp [*])

@[simp] theorem answer_dev (h : OvHdr) (status : Nat) (data : List Byte) (s : State) :
    (answer h status data s).ch.dev0 = s.ch.dev0 ∧ (answer h status data s).ch.dev1 = s.ch.dev1 := by
  unfold answer; repeat (first | (solve | simp [*]) | split | simp [*])

@[simp] theorem deputyYields_dev (src : Nat) (s : State) :
    (deputyYields src s).ch.dev0 = s.ch.dev0 ∧ (deputyYields src s).ch.dev1 = s.ch.dev1 := by
  unfold deputyYields; repeat (first | (solve | simp [*]) | split | simp [*])

@[simp] theorem roleIn_dev (k : Fin 6) (h : OvHdr) (acting : Bool) (s : State) :
    (roleIn k h acting s).ch.dev0 = s.ch.dev0 ∧ (roleIn k h acting s).ch.dev1 = s.ch.dev1 := by
  unfold roleIn; repeat (first | (solve | simp [*]) | split | simp [*])

@[simp] theorem onFrame_dev (rootOnly : Bool) (k : Fin 6) (e : FrameEnd) (cls : Nat) (ty : Nat) (h : OvHdr) (pl : List Byte) (act : State → State) (s : State) (hact : ∀ (t : State), (act t).ch.dev0 = t.ch.dev0 ∧ (act t).ch.dev1 = t.ch.dev1) :
    (onFrame rootOnly k e cls ty h pl act s).ch.dev0 = s.ch.dev0 ∧ (onFrame rootOnly k e cls ty h pl act s).ch.dev1 = s.ch.dev1 := by
  unfold onFrame; repeat (first | (solve | simp [*]) | split | simp [*])

@[simp] theorem timeIn_dev (k : Fin 6) (e : FrameEnd) (h : OvHdr) (mark : Nat) (markMs : Nat) (time : Nat) (s : State) :
    (timeIn k e h mark markMs time s).ch.dev0 = s.ch.dev0 ∧ (timeIn k e h mark markMs time s).ch.dev1 = s.ch.dev1 := by
  unfold timeIn; repeat (first | (solve | simp [*]) | split | simp [*])

@[simp] theorem graftFrame_dev (k : Fin 6) (e : FrameEnd) (h : OvHdr) (base : Nat) (len : Nat) (s : State) :
    (graftFrame k e h base len s).ch.dev0 = s.ch.dev0 ∧ (graftFrame k e h base len s).ch.dev1 = s.ch.dev1 := by
  unfold graftFrame; repeat (first | (solve | simp [*]) | split | simp [*])

@[simp] theorem ungraftFrame_dev (k : Fin 6) (e : FrameEnd) (h : OvHdr) (base : Nat) (len : Nat) (s : State) :
    (ungraftFrame k e h base len s).ch.dev0 = s.ch.dev0 ∧ (ungraftFrame k e h base len s).ch.dev1 = s.ch.dev1 := by
  unfold ungraftFrame; repeat (first | (solve | simp [*]) | split | simp [*])

@[simp] theorem linkIn_dev (k : Fin 6) (e : FrameEnd) (l : LinkInfo) (s : State) :
    (linkIn k e l s).ch.dev0 = s.ch.dev0 ∧ (linkIn k e l s).ch.dev1 = s.ch.dev1 := by
  unfold linkIn; repeat (first | (solve | simp [*]) | split | simp [*])

@[simp] theorem unlisted_dev (k : Fin 6) (e : FrameEnd) (s : State) :
    (unlisted k e s).ch.dev0 = s.ch.dev0 ∧ (unlisted k e s).ch.dev1 = s.ch.dev1 := by
  unfold unlisted; repeat (first | (solve | simp [*]) | split | simp [*])

@[simp] theorem upIn_dev (k : Fin 6) (e : FrameEnd) (ty : Nat) (f : Ov0) (s : State) :
    (upIn k e ty f s).ch.dev0 = s.ch.dev0 ∧ (upIn k e ty f s).ch.dev1 = s.ch.dev1 := by
  unfold upIn; repeat (first | (solve | simp [*]) | split | simp [*])

@[simp] theorem ackFrame_dev (k : Fin 6) (e : FrameEnd) (kind : Nat) (f : Ov0) (s : State) :
    (ackFrame k e kind f s).ch.dev0 = s.ch.dev0 ∧ (ackFrame k e kind f s).ch.dev1 = s.ch.dev1 := by
  unfold ackFrame; repeat (first | (solve | simp [*]) | split | simp [*])

@[simp] theorem tmarkIn_dev (k : Fin 6) (e : FrameEnd) (f : Ov0) (s : State) :
    (tmarkIn k e f s).ch.dev0 = s.ch.dev0 ∧ (tmarkIn k e f s).ch.dev1 = s.ch.dev1 := by
  unfold tmarkIn; repeat (first | (solve | simp [*]) | split | simp [*])

@[simp] theorem barrierIn_dev (k : Fin 6) (e : FrameEnd) (f : Ov0) (s : State) :
    (barrierIn k e f s).ch.dev0 = s.ch.dev0 ∧ (barrierIn k e f s).ch.dev1 = s.ch.dev1 := by
  unfold barrierIn; repeat (first | (solve | simp [*]) | split | simp [*])

@[simp] theorem snapIn_dev (k : Fin 6) (e : FrameEnd) (f : Ov0) (s : State) :
    (snapIn k e f s).ch.dev0 = s.ch.dev0 ∧ (snapIn k e f s).ch.dev1 = s.ch.dev1 := by
  unfold snapIn; repeat (first | (solve | simp [*]) | split | simp [*])

@[simp] theorem resetIn_dev (k : Fin 6) (e : FrameEnd) (f : Ov0) (s : State) :
    (resetIn k e f s).ch.dev0 = s.ch.dev0 ∧ (resetIn k e f s).ch.dev1 = s.ch.dev1 := by
  unfold resetIn; repeat (first | (solve | simp [*]) | split | simp [*])

@[simp] theorem ftripIn_dev (k : Fin 6) (e : FrameEnd) (f : Ov0) (s : State) :
    (ftripIn k e f s).ch.dev0 = s.ch.dev0 ∧ (ftripIn k e f s).ch.dev1 = s.ch.dev1 := by
  unfold ftripIn; repeat (first | (solve | simp [*]) | split | simp [*])

@[simp] theorem fstartIn_dev (k : Fin 6) (e : FrameEnd) (f : Ov0) (s : State) :
    (fstartIn k e f s).ch.dev0 = s.ch.dev0 ∧ (fstartIn k e f s).ch.dev1 = s.ch.dev1 := by
  unfold fstartIn; exact onRoot0_dev _ _ _ _ _ _ (fun t => State.each_dev _ _ _ (fun d v => by simp))

@[simp] theorem rootchgIn_dev (k : Fin 6) (e : FrameEnd) (f : Ov0) (s : State) :
    (rootchgIn k e f s).ch.dev0 = s.ch.dev0 ∧ (rootchgIn k e f s).ch.dev1 = s.ch.dev1 := by
  unfold rootchgIn; repeat (first | (solve | simp [*]) | split | simp [*])

@[simp] theorem pairLinked_dev (s : State) :
    (pairLinked s).ch.dev0 = s.ch.dev0 ∧ (pairLinked s).ch.dev1 = s.ch.dev1 := by
  unfold pairLinked; repeat (first | (solve | simp [*]) | split | simp [*])

@[simp] theorem linkFault_dev (bit : Nat) (s : State) :
    (linkFault bit s).ch.dev0 = s.ch.dev0 ∧ (linkFault bit s).ch.dev1 = s.ch.dev1 := by
  unfold linkFault; repeat (first | (solve | simp [*]) | split | simp [*])

@[simp] theorem lossWait_dev (s : State) :
    (lossWait s).ch.dev0 = s.ch.dev0 ∧ (lossWait s).ch.dev1 = s.ch.dev1 := by
  unfold lossWait; repeat (first | (solve | simp [*]) | split | simp [*])

@[simp] theorem syncHealth_dev (s0 : State) :
    (syncHealth s0).ch.dev0 = s0.ch.dev0 ∧ (syncHealth s0).ch.dev1 = s0.ch.dev1 := by
  unfold syncHealth; repeat (first | (solve | simp [*]) | split | simp [*])

@[simp] theorem stateRow_dev (s : State) :
    (stateRow s).ch.dev0 = s.ch.dev0 ∧ (stateRow s).ch.dev1 = s.ch.dev1 := by
  unfold stateRow; repeat (first | (solve | simp [*]) | split | simp [*])

@[simp] theorem ackIn_dev (seq : Nat) (s : State) :
    (ackIn seq s).ch.dev0 = s.ch.dev0 ∧ (ackIn seq s).ch.dev1 = s.ch.dev1 := by
  unfold ackIn; repeat (first | (solve | simp [*]) | split | simp [*])

@[simp] theorem streamLost_dev (s : State) :
    (streamLost s).ch.dev0 = s.ch.dev0 ∧ (streamLost s).ch.dev1 = s.ch.dev1 := by
  unfold streamLost; repeat (first | (solve | simp [*]) | split | simp [*])

@[simp] theorem yieldIn_dev (s0 : State) :
    (yieldIn s0).ch.dev0 = s0.ch.dev0 ∧ (yieldIn s0).ch.dev1 = s0.ch.dev1 := by
  unfold yieldIn; repeat (first | (solve | simp [*]) | split | simp [*])

@[simp] theorem takeIn_dev (s : State) :
    (takeIn s).ch.dev0 = s.ch.dev0 ∧ (takeIn s).ch.dev1 = s.ch.dev1 := by
  unfold takeIn; repeat (first | (solve | simp [*]) | split | simp [*])

@[simp] theorem verdictIn_dev (v : Verdict) (s : State) :
    (verdictIn v s).ch.dev0 = s.ch.dev0 ∧ (verdictIn v s).ch.dev1 = s.ch.dev1 := by
  unfold verdictIn; repeat (first | (solve | simp [*]) | split | simp [*])

@[simp] theorem verdictLate_dev (s : State) :
    (verdictLate s).ch.dev0 = s.ch.dev0 ∧ (verdictLate s).ch.dev1 = s.ch.dev1 := by
  unfold verdictLate; repeat (first | (solve | simp [*]) | split | simp [*])

@[simp] theorem directionIn_dev (discharge : Bool) (s : State) :
    (directionIn discharge s).ch.dev0 = s.ch.dev0 ∧ (directionIn discharge s).ch.dev1 = s.ch.dev1 := by
  unfold directionIn; repeat (first | (solve | simp [*]) | split | simp [*])

@[simp] theorem fwdAct_dev (c : PairCmd) (s : State) :
    (fwdAct c s).ch.dev0 = s.ch.dev0 ∧ (fwdAct c s).ch.dev1 = s.ch.dev1 := by
  unfold fwdAct; repeat (first | (solve | simp [*]) | split | simp [*])

@[simp] theorem fwdSample_dev (r : Fin 24) (s : State) :
    (fwdSample r s).ch.dev0 = s.ch.dev0 ∧ (fwdSample r s).ch.dev1 = s.ch.dev1 := by
  unfold fwdSample; repeat (first | (solve | simp [*]) | split | simp [*])

@[simp] theorem fwdArrive_dev (c : PairCmd) (s : State) :
    (fwdArrive c s).ch.dev0 = s.ch.dev0 ∧ (fwdArrive c s).ch.dev1 = s.ch.dev1 := by
  unfold fwdArrive; repeat (first | (solve | simp [*]) | split | simp [*])

@[simp] theorem trimIn_dev (a : Nat) (v : Nat) (s : State) :
    (trimIn a v s).ch.dev0 = s.ch.dev0 ∧ (trimIn a v s).ch.dev1 = s.ch.dev1 := by
  unfold trimIn; repeat (first | (solve | simp [*]) | split | simp [*])

@[simp] theorem syncRail_dev (e : SyncEntry) (s : State) :
    (syncRail e s).ch.dev0 = s.ch.dev0 ∧ (syncRail e s).ch.dev1 = s.ch.dev1 := by
  unfold syncRail; repeat (first | (solve | simp [*]) | split | simp [*])

@[simp] theorem syncIn_dev (l : List SyncEntry) (s0 : State) :
    (syncIn l s0).ch.dev0 = s0.ch.dev0 ∧ (syncIn l s0).ch.dev1 = s0.ch.dev1 := by
  unfold syncIn; repeat (first | (solve | simp [*]) | split | simp [*])

@[simp] theorem joinRail_dev (r : Fin 24) (s : State) :
    (joinRail r s).ch.dev0 = s.ch.dev0 ∧ (joinRail r s).ch.dev1 = s.ch.dev1 := by
  unfold joinRail; repeat (first | (solve | simp [*]) | split | simp [*])

@[simp] theorem adoptSlot_dev (t : TwinShared) (x : TwinSlot) (new : DomState) (n : Fin 48) (s : State) :
    (adoptSlot t x new n s).ch.dev0 = s.ch.dev0 ∧ (adoptSlot t x new n s).ch.dev1 = s.ch.dev1 := by
  unfold adoptSlot; repeat (first | (solve | simp [*]) | split | simp [*])

@[simp] theorem adoptDom_dev (t : TwinShared) (d : Fin 8) (s : State) :
    (adoptDom t d s).ch.dev0 = s.ch.dev0 ∧ (adoptDom t d s).ch.dev1 = s.ch.dev1 := by
  unfold adoptDom; dsimp only; split
  · simp
  · refine ⟨(State.each_dev _ _ _ (fun n u => by split <;> simp)).1.trans ?_, (State.each_dev _ _ _ (fun n u => by split <;> simp)).2.trans ?_⟩ <;>
      · split <;> simp

@[simp] theorem adoptPort_dev (p : Fin 8) (x : TwinPort) (s : State) :
    (adoptPort p x s).ch.dev0 = s.ch.dev0 ∧ (adoptPort p x s).ch.dev1 = s.ch.dev1 := by
  unfold adoptPort; repeat (first | (solve | simp [*]) | split | simp [*])

@[simp] theorem adoptCart_dev (t : TwinShared) (i : Fin 16) (s : State) :
    (adoptCart t i s).ch.dev0 = s.ch.dev0 ∧ (adoptCart t i s).ch.dev1 = s.ch.dev1 := by
  unfold adoptCart; repeat (first | (solve | simp [*]) | split | simp [*])

@[simp] theorem adoptHold_dev (t : TwinShared) (s : State) :
    (adoptHold t s).ch.dev0 = s.ch.dev0 ∧ (adoptHold t s).ch.dev1 = s.ch.dev1 := by
  unfold adoptHold; repeat (first | (solve | simp [*]) | split | simp [*])

@[simp] theorem adoptDim_dev (k : Nat) (s : State) :
    (adoptDim k s).ch.dev0 = s.ch.dev0 ∧ (adoptDim k s).ch.dev1 = s.ch.dev1 := by
  unfold adoptDim; repeat (first | (solve | simp [*]) | split | simp [*])

@[simp] theorem adoptPorts_dev (t : TwinShared) (s : State) :
    (adoptPorts t s).ch.dev0 = s.ch.dev0 ∧ (adoptPorts t s).ch.dev1 = s.ch.dev1 := by
  unfold adoptPorts
  refine State.each_dev _ _ _ (fun p u => ?_)
  split
  · split <;> simp
  · simp

@[simp] theorem adopt_dev (t : TwinShared) (s : State) :
    (adopt t s).ch.dev0 = s.ch.dev0 ∧ (adopt t s).ch.dev1 = s.ch.dev1 := by
  unfold adopt; dsimp only
  simp only [adoptPorts_dev, adoptDim_dev, capRecompute_dev, State.updHold_dev, adoptHold_dev]
  refine ⟨?_, ?_⟩
  · exact (State.each_dev _ _ _ (fun i u => by simp)).1.trans (State.each_dev _ _ _ (fun i u => by split <;> simp)).1
  · exact (State.each_dev _ _ _ (fun i u => by simp)).2.trans (State.each_dev _ _ _ (fun i u => by split <;> simp)).2

@[simp] theorem stateIn_dev (t : TwinShared) (s : State) :
    (stateIn t s).ch.dev0 = s.ch.dev0 ∧ (stateIn t s).ch.dev1 = s.ch.dev1 := by
  unfold stateIn; repeat (first | (solve | simp [*]) | split | simp [*])

@[simp] theorem reportIn_dev (r : TwinReport) (s : State) :
    (reportIn r s).ch.dev0 = s.ch.dev0 ∧ (reportIn r s).ch.dev1 = s.ch.dev1 := by
  unfold reportIn; repeat (first | (solve | simp [*]) | split | simp [*])

@[simp] theorem streamIn_dev (m : StreamMsg) (s : State) :
    (streamIn m s).ch.dev0 = s.ch.dev0 ∧ (streamIn m s).ch.dev1 = s.ch.dev1 := by
  unfold streamIn; repeat (first | (solve | simp [*]) | split | simp [*])

@[simp] theorem judgeHold_dev (s : State) :
    (judgeHold s).ch.dev0 = s.ch.dev0 ∧ (judgeHold s).ch.dev1 = s.ch.dev1 := by
  unfold judgeHold; repeat (first | (solve | simp [*]) | split | simp [*])

@[simp] theorem takeBus_dev (s : State) :
    (takeBus s).ch.dev0 = s.ch.dev0 ∧ (takeBus s).ch.dev1 = s.ch.dev1 := by
  unfold takeBus; repeat (first | (solve | simp [*]) | split | simp [*])

@[simp] theorem ownFirst_dev (s : State) :
    (ownFirst s).ch.dev0 = s.ch.dev0 ∧ (ownFirst s).ch.dev1 = s.ch.dev1 := by
  unfold ownFirst; repeat (first | (solve | simp [*]) | split | simp [*])

@[simp] theorem standFirst_dev (s : State) :
    (standFirst s).ch.dev0 = s.ch.dev0 ∧ (standFirst s).ch.dev1 = s.ch.dev1 := by
  unfold standFirst; repeat (first | (solve | simp [*]) | split | simp [*])

@[simp] theorem decideLink_dev (h : Health) (s : State) :
    (decideLink h s).ch.dev0 = s.ch.dev0 ∧ (decideLink h s).ch.dev1 = s.ch.dev1 := by
  unfold decideLink; repeat (first | (solve | simp [*]) | split | simp [*])

@[simp] theorem alignIn_dev (h : Health) (s : State) :
    (alignIn h s).ch.dev0 = s.ch.dev0 ∧ (alignIn h s).ch.dev1 = s.ch.dev1 := by
  unfold alignIn; repeat (first | (solve | simp [*]) | split | simp [*])

@[simp] theorem decide100_dev (s : State) :
    (decide100 s).ch.dev0 = s.ch.dev0 ∧ (decide100 s).ch.dev1 = s.ch.dev1 := by
  unfold decide100; repeat (first | (solve | simp [*]) | split | simp [*])

@[simp] theorem ownFault_dev (bit : Nat) (s : State) :
    (ownFault bit s).ch.dev0 = s.ch.dev0 ∧ (ownFault bit s).ch.dev1 = s.ch.dev1 := by
  unfold ownFault; repeat (first | (solve | simp [*]) | split | simp [*])

@[simp] theorem ownFaultOnce_dev (bit : Nat) (s : State) :
    (ownFaultOnce bit s).ch.dev0 = s.ch.dev0 ∧ (ownFaultOnce bit s).ch.dev1 = s.ch.dev1 := by
  unfold ownFaultOnce; repeat (first | (solve | simp [*]) | split | simp [*])

@[simp] theorem flapAge_dev (s : State) :
    (flapAge s).ch.dev0 = s.ch.dev0 ∧ (flapAge s).ch.dev1 = s.ch.dev1 := by
  unfold flapAge; repeat (first | (solve | simp [*]) | split | simp [*])

@[simp] theorem revertDue_dev (s0 : State) :
    (revertDue s0).ch.dev0 = s0.ch.dev0 ∧ (revertDue s0).ch.dev1 = s0.ch.dev1 := by
  unfold revertDue; repeat (first | (solve | simp [*]) | split | simp [*])

@[simp] theorem groundAge_dev (s : State) :
    (groundAge s).ch.dev0 = s.ch.dev0 ∧ (groundAge s).ch.dev1 = s.ch.dev1 := by
  unfold groundAge; repeat (first | (solve | simp [*]) | split | simp [*])

@[simp] theorem spAnswer_dev (status : Nat) (tag : Nat) (payload : List Byte) (s : State) :
    (spAnswer status tag payload s).ch.dev0 = s.ch.dev0 ∧ (spAnswer status tag payload s).ch.dev1 = s.ch.dev1 := by
  unfold spAnswer; repeat (first | (solve | simp [*]) | split | simp [*])

@[simp] theorem spRequest_dev (cmd : Nat) (tag : Nat) (fields : List Byte) (q : SpEnd) (act : SpAct) (s : State) (hact : ∀ t : State, (act t).2.2.ch.dev0 = t.ch.dev0 ∧ (act t).2.2.ch.dev1 = t.ch.dev1) :
    (spRequest cmd tag fields q act s).ch.dev0 = s.ch.dev0 ∧ (spRequest cmd tag fields q act s).ch.dev1 = s.ch.dev1 := by
  unfold spRequest; dsimp only
  split
  · exact ⟨rfl, rfl⟩
  · split
    · split <;> simp
    · split
      · simp
      · rw [(spAnswer_dev ..).1, (spAnswer_dev ..).2, (spJudge_dev _ _ _ hact).1, (spJudge_dev _ _ _ hact).2]; simp

@[simp] theorem spTry_dev (r : Nat × State) :
    (spTry r).2.2.ch.dev0 = (r.2).ch.dev0 ∧ (spTry r).2.2.ch.dev1 = (r.2).ch.dev1 := by
  unfold spTry; repeat (first | (solve | simp [*]) | split | simp [*])

@[simp] theorem spPending_dev (r : Nat × List Byte × State) :
    (spPending r).2.2.ch.dev0 = (r.2.2).ch.dev0 ∧ (spPending r).2.2.ch.dev1 = (r.2.2).ch.dev1 := by
  unfold spPending; repeat (first | (solve | simp [*]) | split | simp [*])

@[simp] theorem fetchResp_dev (s : State) :
    (fetchResp s).ch.dev0 = s.ch.dev0 ∧ (fetchResp s).ch.dev1 = s.ch.dev1 := by
  unfold fetchResp; repeat (first | (solve | simp [*]) | split | simp [*])

@[simp] theorem sessionTimeout_dev (s : State) :
    (sessionTimeout s).ch.dev0 = s.ch.dev0 ∧ (sessionTimeout s).ch.dev1 = s.ch.dev1 := by
  unfold sessionTimeout; repeat (first | (solve | simp [*]) | split | simp [*])

@[simp] theorem ovSilence_dev (s : State) :
    (ovSilence s).ch.dev0 = s.ch.dev0 ∧ (ovSilence s).ch.dev1 = s.ch.dev1 := by
  unfold ovSilence; repeat (first | (solve | simp [*]) | split | simp [*])

@[simp] theorem State.schedWait_dev (s : State) :
    (State.schedWait s).ch.dev0 = s.ch.dev0 ∧ (State.schedWait s).ch.dev1 = s.ch.dev1 := by
  unfold State.schedWait; repeat (first | (solve | simp [*]) | split | simp [*])

@[simp] theorem roundStart_dev (s : State) :
    (roundStart s).ch.dev0 = s.ch.dev0 ∧ (roundStart s).ch.dev1 = s.ch.dev1 := by
  unfold roundStart; repeat (first | (solve | simp [*]) | split | simp [*])

@[simp] theorem recordDue_dev (s : State) :
    (recordDue s).ch.dev0 = s.ch.dev0 ∧ (recordDue s).ch.dev1 = s.ch.dev1 := by
  unfold recordDue; repeat (first | (solve | simp [*]) | split | simp [*])

@[simp] theorem llFrameEnd_dev (p : Fin 8) (edges : Nat) (startOne : Bool) (s : State) :
    (llFrameEnd p edges startOne s).ch.dev0 = s.ch.dev0 ∧ (llFrameEnd p edges startOne s).ch.dev1 = s.ch.dev1 := by
  unfold llFrameEnd; repeat (first | (solve | simp [*]) | split | simp [*])

@[simp] theorem llOther_dev (p : Fin 8) (sub : Fin 4) (cmd : Nat) (tog : Bool) (payload : Nat) (rcrc : Nat) (s : State) :
    (llOther p sub cmd tog payload rcrc s).ch.dev0 = s.ch.dev0 ∧ (llOther p sub cmd tog payload rcrc s).ch.dev1 = s.ch.dev1 := by
  unfold llOther; repeat (first | (solve | simp [*]) | split | simp [*])

@[simp] theorem railSample_dev (r : Fin 24) (e : Int) (sat : Bool) (vsnBad : Bool) (s : State) :
    (railSample r e sat vsnBad s).ch.dev0 = s.ch.dev0 ∧ (railSample r e sat vsnBad s).ch.dev1 = s.ch.dev1 := by
  unfold railSample; repeat (first | (solve | simp [*]) | split | simp [*])

@[simp] theorem holdoffEnd_dev (r : Fin 24) (s : State) :
    (holdoffEnd r s).ch.dev0 = s.ch.dev0 ∧ (holdoffEnd r s).ch.dev1 = s.ch.dev1 := by
  unfold holdoffEnd; repeat (first | (solve | simp [*]) | split | simp [*])

@[simp] theorem uvDelayEnd_dev (r : Fin 24) (s : State) :
    (uvDelayEnd r s).ch.dev0 = s.ch.dev0 ∧ (uvDelayEnd r s).ch.dev1 = s.ch.dev1 := by
  unfold uvDelayEnd; repeat (first | (solve | simp [*]) | split | simp [*])

@[simp] theorem faultnRelease_dev (s : State) :
    (faultnRelease s).ch.dev0 = s.ch.dev0 ∧ (faultnRelease s).ch.dev1 = s.ch.dev1 := by
  unfold faultnRelease; repeat (first | (solve | simp [*]) | split | simp [*])

@[simp] theorem timerSaturate_dev (t : Fin 16) (s : State) :
    (timerSaturate t s).ch.dev0 = s.ch.dev0 ∧ (timerSaturate t s).ch.dev1 = s.ch.dev1 := by
  unfold timerSaturate; repeat (first | (solve | simp [*]) | split | simp [*])

@[simp] theorem State.withFetchWord_dev (s : State) (nbits : Nat) (w : Nat) :
    (State.withFetchWord s nbits w).ch.dev0 = s.ch.dev0 ∧ (State.withFetchWord s nbits w).ch.dev1 = s.ch.dev1 := by
  unfold State.withFetchWord; repeat (first | (solve | simp [*]) | split | simp [*])

/-! ### Writers of external memory -/

theorem State.each_wf {α : Type} (s : State) (l : List α) (f : α → State → State)
    (hf : ∀ (a : α) (t : State), cellsWf t.ch.dev0 = true ∧ cellsWf t.ch.dev1 = true →
      cellsWf (f a t).ch.dev0 = true ∧ cellsWf (f a t).ch.dev1 = true)
    (hw : cellsWf s.ch.dev0 = true ∧ cellsWf s.ch.dev1 = true) :
    cellsWf (s.each l f).ch.dev0 = true ∧ cellsWf (s.each l f).ch.dev1 = true := by
  unfold State.each
  induction l generalizing s with
  | nil => exact hw
  | cons a l ih => exact ih _ (hf a s hw)

theorem ite_wf (c : Prop) [Decidable c] (x y : State)
    (hx : cellsWf x.ch.dev0 = true ∧ cellsWf x.ch.dev1 = true) (hy : cellsWf y.ch.dev0 = true ∧ cellsWf y.ch.dev1 = true) :
    cellsWf (if c then x else y).ch.dev0 = true ∧ cellsWf (if c then x else y).ch.dev1 = true := by
  split
  · exact hx
  · exact hy

theorem strobes_wf (v : Nat) (l : List (Nat × (State → State))) (s : State)
    (hl : ∀ x ∈ l, ∀ t : State, cellsWf t.ch.dev0 = true ∧ cellsWf t.ch.dev1 = true →
      cellsWf (x.2 t).ch.dev0 = true ∧ cellsWf (x.2 t).ch.dev1 = true)
    (hw : cellsWf s.ch.dev0 = true ∧ cellsWf s.ch.dev1 = true) :
    cellsWf (strobes v l s).ch.dev0 = true ∧ cellsWf (strobes v l s).ch.dev1 = true := by
  unfold strobes
  induction l generalizing s with
  | nil => exact hw
  | cons a l ih =>
    simp only [List.foldl]
    refine ih _ (fun x hx => hl x (by simp [hx])) ?_
    split
    · exact hl a (by simp) _ hw
    · exact hw

theorem State.when_wf (s : State) (b : Bool) (f : State → State)
    (hf : ∀ t : State, cellsWf t.ch.dev0 = true ∧ cellsWf t.ch.dev1 = true →
      cellsWf (f t).ch.dev0 = true ∧ cellsWf (f t).ch.dev1 = true)
    (hw : cellsWf s.ch.dev0 = true ∧ cellsWf s.ch.dev1 = true) :
    cellsWf (s.when b f).ch.dev0 = true ∧ cellsWf (s.when b f).ch.dev1 = true := by
  unfold State.when
  split
  · exact hf _ hw
  · exact hw

theorem onGood_wf (k : Fin 6) (e : FrameEnd) (f : State → State) (s : State)
    (hf : ∀ t : State, cellsWf t.ch.dev0 = true ∧ cellsWf t.ch.dev1 = true →
      cellsWf (f t).ch.dev0 = true ∧ cellsWf (f t).ch.dev1 = true)
    (hw : cellsWf s.ch.dev0 = true ∧ cellsWf s.ch.dev1 = true) :
    cellsWf (onGood k e f s).ch.dev0 = true ∧ cellsWf (onGood k e f s).ch.dev1 = true := by
  unfold onGood
  dsimp only
  split
  · apply hf; simpa using hw
  · simpa using hw

theorem onFrame_wf (rootOnly : Bool) (k : Fin 6) (e : FrameEnd) (cls ty : Nat) (h : OvHdr) (pl : List Byte) (f : State → State)
    (s : State)
    (hf : ∀ t : State, cellsWf t.ch.dev0 = true ∧ cellsWf t.ch.dev1 = true →
      cellsWf (f t).ch.dev0 = true ∧ cellsWf (f t).ch.dev1 = true)
    (hw : cellsWf s.ch.dev0 = true ∧ cellsWf s.ch.dev1 = true) :
    cellsWf (onFrame rootOnly k e cls ty h pl f s).ch.dev0 = true ∧ cellsWf (onFrame rootOnly k e cls ty h pl f s).ch.dev1 = true := by
  unfold onFrame
  split
  · refine onGood_wf _ _ _ _ (fun t ht => ?_) hw; simpa using ht
  · split
    · dsimp only
      split
      · apply hf; simpa using hw
      · split <;> simpa using hw
    · split
      · exact onGood_wf _ _ _ _ hf hw
      · simpa using hw

theorem onceOnly_wf (paired : Bool) (src pairId pseq : Nat) (f : State → State) (s : State)
    (hf : ∀ t : State, cellsWf t.ch.dev0 = true ∧ cellsWf t.ch.dev1 = true →
      cellsWf (f t).ch.dev0 = true ∧ cellsWf (f t).ch.dev1 = true)
    (hw : cellsWf s.ch.dev0 = true ∧ cellsWf s.ch.dev1 = true) :
    cellsWf (onceOnly paired src pairId pseq f s).ch.dev0 = true ∧ cellsWf (onceOnly paired src pairId pseq f s).ch.dev1 = true := by
  unfold onceOnly
  split
  · dsimp only
    split
    · apply hf; simpa using hw
    · simpa using hw
  · exact hf _ hw

theorem onPair_wf (crcOk : Bool) (f : State → State) (s : State)
    (hf : ∀ t : State, cellsWf t.ch.dev0 = true ∧ cellsWf t.ch.dev1 = true →
      cellsWf (f t).ch.dev0 = true ∧ cellsWf (f t).ch.dev1 = true)
    (hw : cellsWf s.ch.dev0 = true ∧ cellsWf s.ch.dev1 = true) :
    cellsWf (onPair crcOk f s).ch.dev0 = true ∧ cellsWf (onPair crcOk f s).ch.dev1 = true := by
  unfold onPair
  split
  · split
    · exact hf _ (by simpa using hw)
    · simpa using hw
  · exact hw

theorem onCtrl_wf (crcOk : Bool) (seq : BitVec 8) (f : State → State) (s : State)
    (hf : ∀ t : State, cellsWf t.ch.dev0 = true ∧ cellsWf t.ch.dev1 = true →
      cellsWf (f t).ch.dev0 = true ∧ cellsWf (f t).ch.dev1 = true)
    (hw : cellsWf s.ch.dev0 = true ∧ cellsWf s.ch.dev1 = true) :
    cellsWf (onCtrl crcOk seq f s).ch.dev0 = true ∧ cellsWf (onCtrl crcOk seq f s).ch.dev1 = true := by
  unfold onCtrl
  refine onPair_wf _ _ _ (fun t ht => hf _ ?_) hw
  simpa using ht

theorem spRequest_wf (cmd tag : Nat) (fields : List Byte) (q : SpEnd) (act : SpAct) (s : State)
    (hf : ∀ t : State, cellsWf t.ch.dev0 = true ∧ cellsWf t.ch.dev1 = true →
      cellsWf (act t).2.2.ch.dev0 = true ∧ cellsWf (act t).2.2.ch.dev1 = true)
    (hw : cellsWf s.ch.dev0 = true ∧ cellsWf s.ch.dev1 = true) :
    cellsWf (spRequest cmd tag fields q act s).ch.dev0 = true ∧ cellsWf (spRequest cmd tag fields q act s).ch.dev1 = true := by
  unfold spRequest
  split
  · exact hw
  · split
    · dsimp only; split <;> simpa using hw
    · dsimp only
      split
      · simpa using hw
      · rw [(spAnswer_dev ..).1, (spAnswer_dev ..).2]
        have h : ∀ u : State, cellsWf u.ch.dev0 = true ∧ cellsWf u.ch.dev1 = true →
            cellsWf (spJudge q act u).2.2.ch.dev0 = true ∧ cellsWf (spJudge q act u).2.2.ch.dev1 = true := by
          intro u hu
          unfold spJudge
          dsimp only
          split
          · exact hf _ hu
          · exact hu
        apply h; simpa using hw

theorem inSession_wf (modes : List Nat) (act : SpAct) (s : State)
    (hf : ∀ t : State, cellsWf t.ch.dev0 = true ∧ cellsWf t.ch.dev1 = true →
      cellsWf (act t).2.2.ch.dev0 = true ∧ cellsWf (act t).2.2.ch.dev1 = true)
    (hw : cellsWf s.ch.dev0 = true ∧ cellsWf s.ch.dev1 = true) :
    cellsWf ((inSession modes act s).2.2).ch.dev0 = true ∧ cellsWf ((inSession modes act s).2.2).ch.dev1 = true := by
  unfold inSession
  split
  · exact hw
  · split
    · exact hf _ hw
    · exact hw

@[simp] theorem memPut_wf (dev : Nat) (a1 : Nat) (a2 : List Byte) (a3 : State) (hw : cellsWf a3.ch.dev0 = true ∧ cellsWf a3.ch.dev1 = true) :
    cellsWf (memPut dev a1 a2 a3).ch.dev0 = true ∧ cellsWf (memPut dev a1 a2 a3).ch.dev1 = true := by
  induction a2 generalizing a1 a3 with
  | nil => simpa [memPut] using hw
  | cons b bs ih =>
    unfold memPut
    apply ih
    split
    · exact ⟨cellPut_wf _ _ _ hw.1, hw.2⟩
    · split
      · exact ⟨hw.1, cellPut_wf _ _ _ hw.2⟩
      · exact hw

@[simp] theorem memErase_wf (dev : Nat) (a : Nat) (n : Nat) (s : State) (hw : cellsWf s.ch.dev0 = true ∧ cellsWf s.ch.dev1 = true) :
    cellsWf (memErase dev a n s).ch.dev0 = true ∧ cellsWf (memErase dev a n s).ch.dev1 = true := by
  unfold memErase
  split
  · exact ⟨cellErase_wf _ _ _ hw.1, hw.2⟩
  · split
    · exact ⟨hw.1, cellErase_wf _ _ _ hw.2⟩
    · exact hw

@[simp] theorem memProgram_wf (dev : Nat) (nor : Bool) (a : Nat) (bs : List Byte) (s : State) (hw : cellsWf s.ch.dev0 = true ∧ cellsWf s.ch.dev1 = true) :
    cellsWf (memProgram dev nor a bs s).ch.dev0 = true ∧ cellsWf (memProgram dev nor a bs s).ch.dev1 = true := by
  unfold memProgram; repeat (first | (solve | simp [*]) | split | simp [*])

@[simp] theorem memPerform_wf (o : MemOp) (s : State) (hw : cellsWf s.ch.dev0 = true ∧ cellsWf s.ch.dev1 = true) :
    cellsWf (memPerform o s).ch.dev0 = true ∧ cellsWf (memPerform o s).ch.dev1 = true := by
  unfold memPerform; repeat (first | (solve | simp [*]) | split | simp [*])

@[simp] theorem memGo_wf (a0 : List MemOp) (a1 : State) (hw : cellsWf a1.ch.dev0 = true ∧ cellsWf a1.ch.dev1 = true) :
    cellsWf (memGo a0 a1).ch.dev0 = true ∧ cellsWf (memGo a0 a1).ch.dev1 = true := by
  induction a0 generalizing a1 with
  | nil => simpa [memGo] using hw
  | cons o l ih =>
    unfold memGo
    dsimp only
    split
    · apply ih; split
      · exact hw
      · simpa using hw
    · split
      · have h := memPerform_wf o a1 hw
        simpa using h
      · have h := memPerform_wf o a1 hw
        apply ih; split
        · exact h
        · simpa using h

@[simp] theorem memNext_wf (s : State) (hw : cellsWf s.ch.dev0 = true ∧ cellsWf s.ch.dev1 = true) :
    cellsWf (memNext s).ch.dev0 = true ∧ cellsWf (memNext s).ch.dev1 = true := by
  unfold memNext; repeat (first | (solve | simp [*]) | split | simp [*])

@[simp] theorem memBegin_wf (l : List MemOp) (s : State) (hw : cellsWf s.ch.dev0 = true ∧ cellsWf s.ch.dev1 = true) :
    cellsWf (memBegin l s).ch.dev0 = true ∧ cellsWf (memBegin l s).ch.dev1 = true := by
  unfold memBegin; repeat (first | (solve | simp [*]) | split | simp [*])

@[simp] theorem archWrite_wf (r : Record) (events : List LogEntry) (pages : List Page) (held : List Nat) (s : State) (hw : cellsWf s.ch.dev0 = true ∧ cellsWf s.ch.dev1 = true) :
    cellsWf (archWrite r events pages held s).ch.dev0 = true ∧ cellsWf (archWrite r events pages held s).ch.dev1 = true := by
  unfold archWrite; exact memBegin_wf _ _ (by simpa using hw)

@[simp] theorem lgsCopy_wf (s : State) (hw : cellsWf s.ch.dev0 = true ∧ cellsWf s.ch.dev1 = true) :
    cellsWf (lgsCopy s).ch.dev0 = true ∧ cellsWf (lgsCopy s).ch.dev1 = true := by
  unfold lgsCopy; repeat (first | (solve | simp [*]) | split | simp [*])

@[simp] theorem archFind_wf (s0 : State) (hw : cellsWf s0.ch.dev0 = true ∧ cellsWf s0.ch.dev1 = true) :
    cellsWf (archFind s0).ch.dev0 = true ∧ cellsWf (archFind s0).ch.dev1 = true := by
  unfold archFind; repeat (first | (solve | simp [*]) | split | simp [*])

@[simp] theorem flushWrite_wf (i : Fin 16) (s : State) (hw : cellsWf s.ch.dev0 = true ∧ cellsWf s.ch.dev1 = true) :
    cellsWf (flushWrite i s).ch.dev0 = true ∧ cellsWf (flushWrite i s).ch.dev1 = true := by
  unfold flushWrite; repeat (first | (solve | simp [*]) | split | simp [*])

@[simp] theorem flushStart_wf (s0 : State) (hw : cellsWf s0.ch.dev0 = true ∧ cellsWf s0.ch.dev1 = true) :
    cellsWf (flushStart s0).ch.dev0 = true ∧ cellsWf (flushStart s0).ch.dev1 = true := by
  unfold flushStart; dsimp only
  have h : cellsWf (s0.when (!s0.lg.archKnown && s0.mode == .ready && s0.coreUp .ledger) archFind).ch.dev0 = true ∧
      cellsWf (s0.when (!s0.lg.archKnown && s0.mode == .ready && s0.coreUp .ledger) archFind).ch.dev1 = true :=
    State.when_wf _ _ _ (fun t ht => archFind_wf t ht) hw
  generalize s0.when (!s0.lg.archKnown && s0.mode == .ready && s0.coreUp .ledger) archFind = s at h ⊢
  refine ite_wf _ _ _ ?_ h
  split
  · exact h
  · split
    · exact h
    · split
      · exact h
      · split
        · simpa using h
        · apply flushWrite_wf; simpa using h

@[simp] theorem writeSet_wf (s : State) (hw : cellsWf s.ch.dev0 = true ∧ cellsWf s.ch.dev1 = true) :
    cellsWf (writeSet s).ch.dev0 = true ∧ cellsWf (writeSet s).ch.dev1 = true := by
  unfold writeSet; repeat (first | (solve | simp [*]) | split | simp [*])

@[simp] theorem setAgain_wf (s : State) (hw : cellsWf s.ch.dev0 = true ∧ cellsWf s.ch.dev1 = true) :
    cellsWf (setAgain s).ch.dev0 = true ∧ cellsWf (setAgain s).ch.dev1 = true := by
  unfold setAgain; repeat (first | (solve | simp [*]) | split | simp [*])

@[simp] theorem saveSet_wf (f : SetData → SetData) (s : State) (hw : cellsWf s.ch.dev0 = true ∧ cellsWf s.ch.dev1 = true) :
    cellsWf (saveSet f s).ch.dev0 = true ∧ cellsWf (saveSet f s).ch.dev1 = true := by
  unfold saveSet; repeat (first | (solve | simp [*]) | split | simp [*])

@[simp] theorem deliverTraps_wf (s : State) (hw : cellsWf s.ch.dev0 = true ∧ cellsWf s.ch.dev1 = true) :
    cellsWf (deliverTraps s).ch.dev0 = true ∧ cellsWf (deliverTraps s).ch.dev1 = true := by
  unfold deliverTraps; repeat (first | (solve | simp [*]) | split | simp [*])

@[simp] theorem trap_wf (src : Nat) (sub : Nat) (entry : Nat) (cause : Nat) (time : Nat) (s : State) (hw : cellsWf s.ch.dev0 = true ∧ cellsWf s.ch.dev1 = true) :
    cellsWf (trap src sub entry cause time s).ch.dev0 = true ∧ cellsWf (trap src sub entry cause time s).ch.dev1 = true := by
  unfold trap; repeat (first | (solve | simp [*]) | split | simp [*])

@[simp] theorem memSpoil_wf (o : MemOp) (s : State) (hw : cellsWf s.ch.dev0 = true ∧ cellsWf s.ch.dev1 = true) :
    cellsWf (memSpoil o s).ch.dev0 = true ∧ cellsWf (memSpoil o s).ch.dev1 = true := by
  unfold memSpoil; repeat (first | (solve | simp [*]) | split | simp [*])

@[simp] theorem memAbandon_wf (s : State) (hw : cellsWf s.ch.dev0 = true ∧ cellsWf s.ch.dev1 = true) :
    cellsWf (memAbandon s).ch.dev0 = true ∧ cellsWf (memAbandon s).ch.dev1 = true := by
  unfold memAbandon
  split
  · exact hw
  · rename_i o ho
    have h := memSpoil_wf o s hw
    apply setAgain_wf
    apply memNext_wf
    split <;> simpa using h

@[simp] theorem memTimeout_wf (s : State) (hw : cellsWf s.ch.dev0 = true ∧ cellsWf s.ch.dev1 = true) :
    cellsWf (memTimeout s).ch.dev0 = true ∧ cellsWf (memTimeout s).ch.dev1 = true := by
  unfold memTimeout; repeat (first | (solve | simp [*]) | split | simp [*])

@[simp] theorem memPoll_wf (busy : Bool) (s : State) (hw : cellsWf s.ch.dev0 = true ∧ cellsWf s.ch.dev1 = true) :
    cellsWf (memPoll busy s).ch.dev0 = true ∧ cellsWf (memPoll busy s).ch.dev1 = true := by
  unfold memPoll; repeat (first | (solve | simp [*]) | split | simp [*])

@[simp] theorem releaseBlocks_wf (s : State) (hw : cellsWf s.ch.dev0 = true ∧ cellsWf s.ch.dev1 = true) :
    cellsWf (releaseBlocks s).ch.dev0 = true ∧ cellsWf (releaseBlocks s).ch.dev1 = true := by
  unfold releaseBlocks
  dsimp only
  refine State.each_wf _ _ _ (fun b u hu => ?_) (by simpa using hw)
  cases b <;> first | exact hu | exact setAgain_wf _ (memNext_wf _ hu) | simpa using hu

@[simp] theorem applyEvents_wf (old : Image) (new : Image) (s : State) (hw : cellsWf s.ch.dev0 = true ∧ cellsWf s.ch.dev1 = true) :
    cellsWf (applyEvents old new s).ch.dev0 = true ∧ cellsWf (applyEvents old new s).ch.dev1 = true := by
  unfold applyEvents; repeat (first | (solve | simp [*]) | split | simp [*])

@[simp] theorem applyImage_wf (im : Image) (slot : Nat) (blank : Bool) (start : Bool) (s0 : State) (hw : cellsWf s0.ch.dev0 = true ∧ cellsWf s0.ch.dev1 = true) :
    cellsWf (applyImage im slot blank start s0).ch.dev0 = true ∧ cellsWf (applyImage im slot blank start s0).ch.dev1 = true := by
  unfold applyImage; repeat (first | (solve | simp [*]) | split | simp [*])

@[simp] theorem cutWrite_wf (s : State) (hw : cellsWf s.ch.dev0 = true ∧ cellsWf s.ch.dev1 = true) :
    cellsWf (cutWrite s).ch.dev0 = true ∧ cellsWf (cutWrite s).ch.dev1 = true := by
  unfold cutWrite; repeat (first | (solve | simp [*]) | split | simp [*])

@[simp] theorem chipReset_wf (warm : Bool) (creset : Bool) (keep : Bool) (m : Mode) (s0 : State) (hw : cellsWf s0.ch.dev0 = true ∧ cellsWf s0.ch.dev1 = true) :
    cellsWf (chipReset warm creset keep m s0).ch.dev0 = true ∧ cellsWf (chipReset warm creset keep m s0).ch.dev1 = true := by
  unfold chipReset; repeat (first | (solve | simp [*]) | split | simp [*])

@[simp] theorem porAsserted_wf (k : Fin 5) (s : State) (hw : cellsWf s.ch.dev0 = true ∧ cellsWf s.ch.dev1 = true) :
    cellsWf (porAsserted k s).ch.dev0 = true ∧ cellsWf (porAsserted k s).ch.dev1 = true := by
  unfold porAsserted; repeat (first | (solve | simp [*]) | split | simp [*])

@[simp] theorem resetAsserted_wf (lowNs : Nat) (s : State) (hw : cellsWf s.ch.dev0 = true ∧ cellsWf s.ch.dev1 = true) :
    cellsWf (resetAsserted lowNs s).ch.dev0 = true ∧ cellsWf (resetAsserted lowNs s).ch.dev1 = true := by
  unfold resetAsserted; repeat (first | (solve | simp [*]) | split | simp [*])

@[simp] theorem cresetRestarted_wf (straps : Straps) (s : State) (hw : cellsWf s.ch.dev0 = true ∧ cellsWf s.ch.dev1 = true) :
    cellsWf (cresetRestarted straps s).ch.dev0 = true ∧ cellsWf (cresetRestarted straps s).ch.dev1 = true := by
  unfold cresetRestarted; repeat (first | (solve | simp [*]) | split | simp [*])

@[simp] theorem startApply_wf (s : State) (hw : cellsWf s.ch.dev0 = true ∧ cellsWf s.ch.dev1 = true) :
    cellsWf (startApply s).ch.dev0 = true ∧ cellsWf (startApply s).ch.dev1 = true := by
  unfold startApply; repeat (first | (solve | simp [*]) | split | simp [*])

@[simp] theorem coresStart_wf (sup : Bool) (led : Bool) (lnk : Bool) (s : State) (hw : cellsWf s.ch.dev0 = true ∧ cellsWf s.ch.dev1 = true) :
    cellsWf (coresStart sup led lnk s).ch.dev0 = true ∧ cellsWf (coresStart sup led lnk s).ch.dev1 = true := by
  unfold coresStart; repeat (first | (solve | simp [*]) | split | simp [*])

@[simp] theorem settingsRead_wf (readable : Bool) (migrates : Bool) (s : State) (hw : cellsWf s.ch.dev0 = true ∧ cellsWf s.ch.dev1 = true) :
    cellsWf (settingsRead readable migrates s).ch.dev0 = true ∧ cellsWf (settingsRead readable migrates s).ch.dev1 = true := by
  unfold settingsRead; repeat (first | (solve | simp [*]) | split | simp [*])

@[simp] theorem supTakes_wf (s : State) (hw : cellsWf s.ch.dev0 = true ∧ cellsWf s.ch.dev1 = true) :
    cellsWf (supTakes s).ch.dev0 = true ∧ cellsWf (supTakes s).ch.dev1 = true := by
  unfold supTakes; repeat (first | (solve | simp [*]) | split | simp [*])

@[simp] theorem coreBack_wf (c : CoreId) (ok : Bool) (s : State) (hw : cellsWf s.ch.dev0 = true ∧ cellsWf s.ch.dev1 = true) :
    cellsWf (coreBack c ok s).ch.dev0 = true ∧ cellsWf (coreBack c ok s).ch.dev1 = true := by
  unfold coreBack; dsimp only
  have base : ∀ f : Core → Core, cellsWf (s.updCore c f).ch.dev0 = true ∧ cellsWf (s.updCore c f).ch.dev1 = true := fun f => by
    simpa using hw
  split
  · split
    · exact deliverTraps_wf _ (supTakes_wf _ (base _))
    · split
      · have h : cellsWf (((s.updCore c (fun x => { x with state := .running, bad := false })).updLg (fun l => { l with codec := none })).when
            ((s.updCore c (fun x => { x with state := .running, bad := false })).running &&
              !(s.updCore c (fun x => { x with state := .running, bad := false })).lg.archKnown) archFind).ch.dev0 = true ∧
            cellsWf (((s.updCore c (fun x => { x with state := .running, bad := false })).updLg (fun l => { l with codec := none })).when
            ((s.updCore c (fun x => { x with state := .running, bad := false })).running &&
              !(s.updCore c (fun x => { x with state := .running, bad := false })).lg.archKnown) archFind).ch.dev1 = true :=
          State.when_wf _ _ _ (fun t ht => archFind_wf t ht) (by simpa using hw)
        split
        · exact flushWrite_wf _ _ h
        · exact h
      · split
        · simpa using hw
        · split <;> simpa using hw
  · simpa using hw

@[simp] theorem wakeRestart_wf (s : State) (hw : cellsWf s.ch.dev0 = true ∧ cellsWf s.ch.dev1 = true) :
    cellsWf (wakeRestart s).ch.dev0 = true ∧ cellsWf (wakeRestart s).ch.dev1 = true := by
  unfold wakeRestart; repeat (first | (solve | simp [*]) | split | simp [*])

@[simp] theorem wakeScrub_wf (bad : List Nat) (s : State) (hw : cellsWf s.ch.dev0 = true ∧ cellsWf s.ch.dev1 = true) :
    cellsWf (wakeScrub bad s).ch.dev0 = true ∧ cellsWf (wakeScrub bad s).ch.dev1 = true := by
  unfold wakeScrub; repeat (first | (solve | simp [*]) | split | simp [*])

@[simp] theorem wakeReport_wf (s : State) (hw : cellsWf s.ch.dev0 = true ∧ cellsWf s.ch.dev1 = true) :
    cellsWf (wakeReport s).ch.dev0 = true ∧ cellsWf (wakeReport s).ch.dev1 = true := by
  unfold wakeReport; repeat (first | (solve | simp [*]) | split | simp [*])

@[simp] theorem wakeResume_wf (s : State) (hw : cellsWf s.ch.dev0 = true ∧ cellsWf s.ch.dev1 = true) :
    cellsWf (wakeResume s).ch.dev0 = true ∧ cellsWf (wakeResume s).ch.dev1 = true := by
  unfold wakeResume; repeat (first | (solve | simp [*]) | split | simp [*])

@[simp] theorem wakeDone_wf (s : State) (hw : cellsWf s.ch.dev0 = true ∧ cellsWf s.ch.dev1 = true) :
    cellsWf (wakeDone s).ch.dev0 = true ∧ cellsWf (wakeDone s).ch.dev1 = true := by
  unfold wakeDone; repeat (first | (solve | simp [*]) | split | simp [*])

@[simp] theorem stageBegin_wf (h : List Byte) (ov : Bool) (s : State) (hw : cellsWf s.ch.dev0 = true ∧ cellsWf s.ch.dev1 = true) :
    cellsWf (stageBegin h ov s).2.ch.dev0 = true ∧ cellsWf (stageBegin h ov s).2.ch.dev1 = true := by
  unfold stageBegin; repeat (first | (solve | simp [*]) | split | simp [*])

@[simp] theorem stageData_wf (ofs : Nat) (data : List Byte) (ov : Bool) (s : State) (hw : cellsWf s.ch.dev0 = true ∧ cellsWf s.ch.dev1 = true) :
    cellsWf (stageData ofs data ov s).2.ch.dev0 = true ∧ cellsWf (stageData ofs data ov s).2.ch.dev1 = true := by
  unfold stageData; repeat (first | (solve | simp [*]) | split | simp [*])

@[simp] theorem imageResult_wf (h : List Byte) (region : Nat) (r : Nat × Nat × Nat × Bool) (s : State) (hw : cellsWf s.ch.dev0 = true ∧ cellsWf s.ch.dev1 = true) :
    cellsWf (imageResult h region r s).ch.dev0 = true ∧ cellsWf (imageResult h region r s).ch.dev1 = true := by
  unfold imageResult; repeat (first | (solve | simp [*]) | split | simp [*])

@[simp] theorem imageCheck_wf (h : List Byte) (region : Nat) (s : State) (hw : cellsWf s.ch.dev0 = true ∧ cellsWf s.ch.dev1 = true) :
    cellsWf (imageCheck h region s).ch.dev0 = true ∧ cellsWf (imageCheck h region s).ch.dev1 = true := by
  unfold imageCheck; repeat (first | (solve | simp [*]) | split | simp [*])

@[simp] theorem recheckImages_wf (s : State) (hw : cellsWf s.ch.dev0 = true ∧ cellsWf s.ch.dev1 = true) :
    cellsWf (recheckImages s).ch.dev0 = true ∧ cellsWf (recheckImages s).ch.dev1 = true := by
  unfold recheckImages; repeat (first | (solve | simp [*]) | split | simp [*])

@[simp] theorem imageVerified_wf (s0 : State) (hw : cellsWf s0.ch.dev0 = true ∧ cellsWf s0.ch.dev1 = true) :
    cellsWf (imageVerified s0).ch.dev0 = true ∧ cellsWf (imageVerified s0).ch.dev1 = true := by
  unfold imageVerified; repeat (first | (solve | simp [*]) | split | simp [*])

@[simp] theorem actDone_wf (imgId : Nat) (f : SetData → SetData) (s : State) (hw : cellsWf s.ch.dev0 = true ∧ cellsWf s.ch.dev1 = true) :
    cellsWf (actDone imgId f s).ch.dev0 = true ∧ cellsWf (actDone imgId f s).ch.dev1 = true := by
  unfold actDone; repeat (first | (solve | simp [*]) | split | simp [*])

@[simp] theorem trialNext_wf (imgId : Nat) (confirm : Nat) (todo : List CoreId) (s : State) (hw : cellsWf s.ch.dev0 = true ∧ cellsWf s.ch.dev1 = true) :
    cellsWf (trialNext imgId confirm todo s).ch.dev0 = true ∧ cellsWf (trialNext imgId confirm todo s).ch.dev1 = true := by
  unfold trialNext; repeat (first | (solve | simp [*]) | split | simp [*])

@[simp] theorem fwActivate_wf (imgId : Nat) (confirm : Nat) (s : State) (hw : cellsWf s.ch.dev0 = true ∧ cellsWf s.ch.dev1 = true) :
    cellsWf (fwActivate imgId confirm s).ch.dev0 = true ∧ cellsWf (fwActivate imgId confirm s).ch.dev1 = true := by
  unfold fwActivate; repeat (first | (solve | simp [*]) | split | simp [*])

@[simp] theorem activateHere_wf (h : List Byte) (confirm : Nat) (s : State) (hw : cellsWf s.ch.dev0 = true ∧ cellsWf s.ch.dev1 = true) :
    cellsWf (activateHere h confirm s).ch.dev0 = true ∧ cellsWf (activateHere h confirm s).ch.dev1 = true := by
  unfold activateHere; repeat (first | (solve | simp [*]) | split | simp [*])

@[simp] theorem markProved_wf (q : Nat) (s : State) (hw : cellsWf s.ch.dev0 = true ∧ cellsWf s.ch.dev1 = true) :
    cellsWf (markProved q s).ch.dev0 = true ∧ cellsWf (markProved q s).ch.dev1 = true := by
  unfold markProved; repeat (first | (solve | simp [*]) | split | simp [*])

@[simp] theorem proofBegin_wf (prev : Option Nat) (hot : Bool) (s : State) (hw : cellsWf s.ch.dev0 = true ∧ cellsWf s.ch.dev1 = true) :
    cellsWf (proofBegin prev hot s).ch.dev0 = true ∧ cellsWf (proofBegin prev hot s).ch.dev1 = true := by
  unfold proofBegin; repeat (first | (solve | simp [*]) | split | simp [*])

@[simp] theorem seqEnd_wf (s : State) (hw : cellsWf s.ch.dev0 = true ∧ cellsWf s.ch.dev1 = true) :
    cellsWf (seqEnd s).ch.dev0 = true ∧ cellsWf (seqEnd s).ch.dev1 = true := by
  unfold seqEnd; repeat (first | (solve | simp [*]) | split | simp [*])

@[simp] theorem seqProve_wf (q : PairSeq) (s : State) (hw : cellsWf s.ch.dev0 = true ∧ cellsWf s.ch.dev1 = true) :
    cellsWf (seqProve q s).ch.dev0 = true ∧ cellsWf (seqProve q s).ch.dev1 = true := by
  unfold seqProve; repeat (first | (solve | simp [*]) | split | simp [*])

@[simp] theorem activateNow_wf (imgId : Nat) (confirm : Nat) (s : State) (hw : cellsWf s.ch.dev0 = true ∧ cellsWf s.ch.dev1 = true) :
    cellsWf (activateNow imgId confirm s).2.ch.dev0 = true ∧ cellsWf (activateNow imgId confirm s).2.ch.dev1 = true := by
  unfold activateNow; repeat (first | (solve | simp [*]) | split | simp [*])

@[simp] theorem scheduleAt_wf (d : Sched) (s : State) (hw : cellsWf s.ch.dev0 = true ∧ cellsWf s.ch.dev1 = true) :
    cellsWf (scheduleAt d s).2.ch.dev0 = true ∧ cellsWf (scheduleAt d s).2.ch.dev1 = true := by
  unfold scheduleAt; repeat (first | (solve | simp [*]) | split | simp [*])

@[simp] theorem schedDue_wf (s : State) (hw : cellsWf s.ch.dev0 = true ∧ cellsWf s.ch.dev1 = true) :
    cellsWf (schedDue s).ch.dev0 = true ∧ cellsWf (schedDue s).ch.dev1 = true := by
  unfold schedDue; repeat (first | (solve | simp [*]) | split | simp [*])

@[simp] theorem activateFrame_wf (a : ActivateCmd) (s : State) (hw : cellsWf s.ch.dev0 = true ∧ cellsWf s.ch.dev1 = true) :
    cellsWf (activateFrame a s).ch.dev0 = true ∧ cellsWf (activateFrame a s).ch.dev1 = true := by
  unfold activateFrame; repeat (first | (solve | simp [*]) | split | simp [*])

@[simp] theorem cancelSched_wf (s : State) (hw : cellsWf s.ch.dev0 = true ∧ cellsWf s.ch.dev1 = true) :
    cellsWf (cancelSched s).ch.dev0 = true ∧ cellsWf (cancelSched s).ch.dev1 = true := by
  unfold cancelSched; repeat (first | (solve | simp [*]) | split | simp [*])

@[simp] theorem rollBack_wf (s : State) (hw : cellsWf s.ch.dev0 = true ∧ cellsWf s.ch.dev1 = true) :
    cellsWf (rollBack s).ch.dev0 = true ∧ cellsWf (rollBack s).ch.dev1 = true := by
  unfold rollBack; repeat (first | (solve | simp [*]) | split | simp [*])

@[simp] theorem proofFail_wf (s : State) (hw : cellsWf s.ch.dev0 = true ∧ cellsWf s.ch.dev1 = true) :
    cellsWf (proofFail s).ch.dev0 = true ∧ cellsWf (proofFail s).ch.dev1 = true := by
  unfold proofFail; repeat (first | (solve | simp [*]) | split | simp [*])

@[simp] theorem proofPass_wf (s : State) (hw : cellsWf s.ch.dev0 = true ∧ cellsWf s.ch.dev1 = true) :
    cellsWf (proofPass s).ch.dev0 = true ∧ cellsWf (proofPass s).ch.dev1 = true := by
  unfold proofPass; repeat (first | (solve | simp [*]) | split | simp [*])

@[simp] theorem proofEnd_wf (s : State) (hw : cellsWf s.ch.dev0 = true ∧ cellsWf s.ch.dev1 = true) :
    cellsWf (proofEnd s).ch.dev0 = true ∧ cellsWf (proofEnd s).ch.dev1 = true := by
  unfold proofEnd; repeat (first | (solve | simp [*]) | split | simp [*])

@[simp] theorem proofBroken_wf (s : State) (hw : cellsWf s.ch.dev0 = true ∧ cellsWf s.ch.dev1 = true) :
    cellsWf (proofBroken s).ch.dev0 = true ∧ cellsWf (proofBroken s).ch.dev1 = true := by
  unfold proofBroken; repeat (first | (solve | simp [*]) | split | simp [*])

@[simp] theorem judgeProof_wf (s : State) (hw : cellsWf s.ch.dev0 = true ∧ cellsWf s.ch.dev1 = true) :
    cellsWf (judgeProof s).ch.dev0 = true ∧ cellsWf (judgeProof s).ch.dev1 = true := by
  unfold judgeProof; repeat (first | (solve | simp [*]) | split | simp [*])

@[simp] theorem proofFired_wf (src : Nat) (s : State) (hw : cellsWf s.ch.dev0 = true ∧ cellsWf s.ch.dev1 = true) :
    cellsWf (proofFired src s).ch.dev0 = true ∧ cellsWf (proofFired src s).ch.dev1 = true := by
  unfold proofFired; repeat (first | (solve | simp [*]) | split | simp [*])

@[simp] theorem afterApply_wf (hot : Bool) (s : State) (hw : cellsWf s.ch.dev0 = true ∧ cellsWf s.ch.dev1 = true) :
    cellsWf (afterApply hot s).ch.dev0 = true ∧ cellsWf (afterApply hot s).ch.dev1 = true := by
  unfold afterApply; repeat (first | (solve | simp [*]) | split | simp [*])

@[simp] theorem serviceApply_wf (s : State) (hw : cellsWf s.ch.dev0 = true ∧ cellsWf s.ch.dev1 = true) :
    cellsWf (serviceApply s).ch.dev0 = true ∧ cellsWf (serviceApply s).ch.dev1 = true := by
  unfold serviceApply; repeat (first | (solve | simp [*]) | split | simp [*])

@[simp] theorem patternApplied_wf (s : State) (hw : cellsWf s.ch.dev0 = true ∧ cellsWf s.ch.dev1 = true) :
    cellsWf (patternApplied s).ch.dev0 = true ∧ cellsWf (patternApplied s).ch.dev1 = true := by
  unfold patternApplied; repeat (first | (solve | simp [*]) | split | simp [*])

@[simp] theorem trialFail_wf (s : State) (hw : cellsWf s.ch.dev0 = true ∧ cellsWf s.ch.dev1 = true) :
    cellsWf (trialFail s).ch.dev0 = true ∧ cellsWf (trialFail s).ch.dev1 = true := by
  unfold trialFail; repeat (first | (solve | simp [*]) | split | simp [*])

@[simp] theorem coreTrialEnd_wf (c : CoreId) (s : State) (hw : cellsWf s.ch.dev0 = true ∧ cellsWf s.ch.dev1 = true) :
    cellsWf (coreTrialEnd c s).ch.dev0 = true ∧ cellsWf (coreTrialEnd c s).ch.dev1 = true := by
  unfold coreTrialEnd; repeat (first | (solve | simp [*]) | split | simp [*])

@[simp] theorem revertNext_wf (s : State) (hw : cellsWf s.ch.dev0 = true ∧ cellsWf s.ch.dev1 = true) :
    cellsWf (revertNext s).ch.dev0 = true ∧ cellsWf (revertNext s).ch.dev1 = true := by
  unfold revertNext; repeat (first | (solve | simp [*]) | split | simp [*])

@[simp] theorem updAgain_wf (s : State) (hw : cellsWf s.ch.dev0 = true ∧ cellsWf s.ch.dev1 = true) :
    cellsWf (updAgain s).ch.dev0 = true ∧ cellsWf (updAgain s).ch.dev1 = true := by
  unfold updAgain; repeat (first | (solve | simp [*]) | split | simp [*])

@[simp] theorem coreRestarted_wf (c : CoreId) (ok : Bool) (s : State) (hw : cellsWf s.ch.dev0 = true ∧ cellsWf s.ch.dev1 = true) :
    cellsWf (coreRestarted c ok s).ch.dev0 = true ∧ cellsWf (coreRestarted c ok s).ch.dev1 = true := by
  unfold coreRestarted; dsimp only
  split
  · exact hw
  · split
    · apply trialFail_wf; simpa using hw
    · have h := State.when_wf (coreBack c ok s) (c == .supervisor && ok) updAgain (fun t ht => updAgain_wf t ht) (coreBack_wf c ok s hw)
      split
      · exact h
      · exact revertNext_wf _ h

@[simp] theorem coreConfirmed_wf (c : CoreId) (s : State) (hw : cellsWf s.ch.dev0 = true ∧ cellsWf s.ch.dev1 = true) :
    cellsWf (coreConfirmed c s).ch.dev0 = true ∧ cellsWf (coreConfirmed c s).ch.dev1 = true := by
  unfold coreConfirmed; repeat (first | (solve | simp [*]) | split | simp [*])

@[simp] theorem revertFw_wf (s : State) (hw : cellsWf s.ch.dev0 = true ∧ cellsWf s.ch.dev1 = true) :
    cellsWf (revertFw s).2.ch.dev0 = true ∧ cellsWf (revertFw s).2.ch.dev1 = true := by
  unfold revertFw; repeat (first | (solve | simp [*]) | split | simp [*])

@[simp] theorem revertPat_wf (s : State) (hw : cellsWf s.ch.dev0 = true ∧ cellsWf s.ch.dev1 = true) :
    cellsWf (revertPat s).2.ch.dev0 = true ∧ cellsWf (revertPat s).2.ch.dev1 = true := by
  unfold revertPat; repeat (first | (solve | simp [*]) | split | simp [*])

@[simp] theorem seqOwned_wf (byYield : Bool) (s : State) (hw : cellsWf s.ch.dev0 = true ∧ cellsWf s.ch.dev1 = true) :
    cellsWf (seqOwned byYield s).ch.dev0 = true ∧ cellsWf (seqOwned byYield s).ch.dev1 = true := by
  unfold seqOwned; repeat (first | (solve | simp [*]) | split | simp [*])

@[simp] theorem seqOrder_wf (h : Health) (s : State) (hw : cellsWf s.ch.dev0 = true ∧ cellsWf s.ch.dev1 = true) :
    cellsWf (seqOrder h s).ch.dev0 = true ∧ cellsWf (seqOrder h s).ch.dev1 = true := by
  unfold seqOrder; repeat (first | (solve | simp [*]) | split | simp [*])

@[simp] theorem seqHealth_wf (h : Health) (s : State) (hw : cellsWf s.ch.dev0 = true ∧ cellsWf s.ch.dev1 = true) :
    cellsWf (seqHealth h s).ch.dev0 = true ∧ cellsWf (seqHealth h s).ch.dev1 = true := by
  unfold seqHealth; repeat (first | (solve | simp [*]) | split | simp [*])

@[simp] theorem readyServices_wf (s : State) (hw : cellsWf s.ch.dev0 = true ∧ cellsWf s.ch.dev1 = true) :
    cellsWf (readyServices s).ch.dev0 = true ∧ cellsWf (readyServices s).ch.dev1 = true := by
  unfold readyServices; repeat (first | (solve | simp [*]) | split | simp [*])

@[simp] theorem readyProof_wf (s : State) (hw : cellsWf s.ch.dev0 = true ∧ cellsWf s.ch.dev1 = true) :
    cellsWf (readyProof s).ch.dev0 = true ∧ cellsWf (readyProof s).ch.dev1 = true := by
  unfold readyProof; repeat (first | (solve | simp [*]) | split | simp [*])

@[simp] theorem readyNow_wf (s : State) (hw : cellsWf s.ch.dev0 = true ∧ cellsWf s.ch.dev1 = true) :
    cellsWf (readyNow s).ch.dev0 = true ∧ cellsWf (readyNow s).ch.dev1 = true := by
  unfold readyNow
  split
  · refine readyProof_wf _ (recheckImages_wf _ (readyServices_wf _ ?_))
    simpa using hw
  · exact hw

@[simp] theorem blockStart_wf (b : Block) (s : State) (hw : cellsWf s.ch.dev0 = true ∧ cellsWf s.ch.dev1 = true) :
    cellsWf (blockStart b s).ch.dev0 = true ∧ cellsWf (blockStart b s).ch.dev1 = true := by
  unfold blockStart; repeat (first | (solve | simp [*]) | split | simp [*])

@[simp] theorem blockHold_wf (b : Block) (s : State) (hw : cellsWf s.ch.dev0 = true ∧ cellsWf s.ch.dev1 = true) :
    cellsWf (blockHold b s).ch.dev0 = true ∧ cellsWf (blockHold b s).ch.dev1 = true := by
  unfold blockHold; repeat (first | (solve | simp [*]) | split | simp [*])

@[simp] theorem blockReset_wf (b : Block) (s : State) (hw : cellsWf s.ch.dev0 = true ∧ cellsWf s.ch.dev1 = true) :
    cellsWf (blockReset b s).ch.dev0 = true ∧ cellsWf (blockReset b s).ch.dev1 = true := by
  unfold blockReset
  dsimp only
  split
  · exact hw
  · generalize (List.filter _ _) = old
    split
    · exact blockHold_wf _ _ hw
    · apply blockStart_wf; simpa using hw

@[simp] theorem blockDone_wf (b : Block) (s : State) (hw : cellsWf s.ch.dev0 = true ∧ cellsWf s.ch.dev1 = true) :
    cellsWf (blockDone b s).ch.dev0 = true ∧ cellsWf (blockDone b s).ch.dev1 = true := by
  unfold blockDone; repeat (first | (solve | simp [*]) | split | simp [*])

@[simp] theorem carryOut_wf (src : Nat) (sub : Nat) (e : Nat) (s : State) (hw : cellsWf s.ch.dev0 = true ∧ cellsWf s.ch.dev1 = true) :
    cellsWf (carryOut src sub e s).ch.dev0 = true ∧ cellsWf (carryOut src sub e s).ch.dev1 = true := by
  unfold carryOut; repeat (first | (solve | simp [*]) | split | simp [*])

@[simp] theorem carryOutHere_wf (src : Nat) (sub : Nat) (e : Nat) (s : State) (hw : cellsWf s.ch.dev0 = true ∧ cellsWf s.ch.dev1 = true) :
    cellsWf (carryOutHere src sub e s).ch.dev0 = true ∧ cellsWf (carryOutHere src sub e s).ch.dev1 = true := by
  unfold carryOutHere; repeat (first | (solve | simp [*]) | split | simp [*])

@[simp] theorem softReactions_wf (n : Fin 192) (sub : Nat) (e : Nat) (cause : Nat) (s : State) (hw : cellsWf s.ch.dev0 = true ∧ cellsWf s.ch.dev1 = true) :
    cellsWf (softReactions n sub e cause s).ch.dev0 = true ∧ cellsWf (softReactions n sub e cause s).ch.dev1 = true := by
  unfold softReactions; repeat (first | (solve | simp [*]) | split | simp [*])

@[simp] theorem fireOne_wf (n : Fin 192) (sub : Nat) (s : State) (hw : cellsWf s.ch.dev0 = true ∧ cellsWf s.ch.dev1 = true) :
    cellsWf (fireOne n sub s).ch.dev0 = true ∧ cellsWf (fireOne n sub s).ch.dev1 = true := by
  unfold fireOne
  dsimp only
  split
  · simpa using hw
  · apply proofFired_wf
    have hb := softReactions_wf n sub (s.cfg.react[n]) (s.causeOf n.val sub) (announceFiring n sub (s.cfg.react[n]) (s.causeOf n.val sub)
      (recordFiring n sub (s.cfg.react[n]) (s.causeOf n.val sub) s)) (by simpa using hw)
    rw [← (yieldGround_dev n.val (s.cfg.react[n]) _).1, ← (yieldGround_dev n.val (s.cfg.react[n]) _).2] at hb
    generalize yieldGround _ _ _ = b at hb ⊢
    have hc : cellsWf (if b.holdsBack n.val sub (s.cfg.react[n]) = true then b.updPair (fun p => { p with held := p.held ++ [(n.val, sub, s.cfg.react[n])] })
        else carryOutHere n.val sub (s.cfg.react[n]) b).ch.dev0 = true ∧
        cellsWf (if b.holdsBack n.val sub (s.cfg.react[n]) = true then b.updPair (fun p => { p with held := p.held ++ [(n.val, sub, s.cfg.react[n])] })
        else carryOutHere n.val sub (s.cfg.react[n]) b).ch.dev1 = true := by
      split
      · simpa using hb
      · exact carryOutHere_wf _ _ _ _ hb
    generalize (if b.holdsBack n.val sub (s.cfg.react[n]) = true then _ else _ : State) = c at hc ⊢
    have hd : ∀ q : Bool, cellsWf (if q = true then trap n.val sub (s.cfg.react[n]) (s.causeOf n.val sub) s.ov.gtime c else c).ch.dev0 = true ∧
        cellsWf (if q = true then trap n.val sub (s.cfg.react[n]) (s.causeOf n.val sub) s.ov.gtime c else c).ch.dev1 = true := by
      intro q
      split
      · exact trap_wf _ _ _ _ _ _ hc
      · exact hc
    have hq := hd (hasTrap (s.cfg.react[n]) && trapsAfter n sub (s.cfg.react[n]))
    split
    · simp only [wakeBegin_dev]; exact hq
    · exact hq

@[simp] theorem drain_wf (a0 : Nat) (a1 : State) (hw : cellsWf a1.ch.dev0 = true ∧ cellsWf a1.ch.dev1 = true) :
    cellsWf (drain a0 a1).ch.dev0 = true ∧ cellsWf (drain a0 a1).ch.dev1 = true := by
  induction a0 generalizing a1 with
  | zero => simpa [drain] using hw
  | succ n ih =>
    unfold drain
    split
    · exact hw
    · dsimp only
      apply ih
      split
      · apply fireOne_wf; simpa using hw
      · simpa using hw

@[simp] theorem carryHeld_wf (s : State) (hw : cellsWf s.ch.dev0 = true ∧ cellsWf s.ch.dev1 = true) :
    cellsWf (carryHeld s).ch.dev0 = true ∧ cellsWf (carryHeld s).ch.dev1 = true := by
  unfold carryHeld
  dsimp only
  refine State.each_wf _ _ _ (fun x u hu => carryOut_wf _ _ _ _ hu) ?_
  simpa using hw

@[simp] theorem yieldBlock_wf (s : State) (hw : cellsWf s.ch.dev0 = true ∧ cellsWf s.ch.dev1 = true) :
    cellsWf (yieldBlock s).ch.dev0 = true ∧ cellsWf (yieldBlock s).ch.dev1 = true := by
  unfold yieldBlock; repeat (first | (solve | simp [*]) | split | simp [*])

@[simp] theorem watchYield_wf (s : State) (hw : cellsWf s.ch.dev0 = true ∧ cellsWf s.ch.dev1 = true) :
    cellsWf (watchYield s).ch.dev0 = true ∧ cellsWf (watchYield s).ch.dev1 = true := by
  unfold watchYield; repeat (first | (solve | simp [*]) | split | simp [*])

@[simp] theorem settle_wf (s : State) (hw : cellsWf s.ch.dev0 = true ∧ cellsWf s.ch.dev1 = true) :
    cellsWf (settle s).ch.dev0 = true ∧ cellsWf (settle s).ch.dev1 = true := by
  unfold settle
  split
  · exact hw
  · dsimp only
    simp only [opTry_dev, watchMb_dev, watchShare_dev, watchIdle_dev, watchShared_dev, watchStep_dev, watchPg_dev, reLimit_dev]
    apply drain_wf
    simp only [watchDegr_dev]
    apply drain_wf
    simp only [seqGround_dev, rollbackStep_dev]
    apply judgeProof_wf
    apply watchYield_wf
    apply drain_wf
    simpa using hw

@[simp] theorem tickTo_wf (t : Nat) (a1 : Nat) (a2 : State) (hw : cellsWf a2.ch.dev0 = true ∧ cellsWf a2.ch.dev1 = true) :
    cellsWf (tickTo t a1 a2).ch.dev0 = true ∧ cellsWf (tickTo t a1 a2).ch.dev1 = true := by
  induction a1 generalizing a2 with
  | zero => exact hw
  | succ n ih =>
    unfold tickTo
    split
    · exact hw
    · dsimp only
      have h := settle_wf (holdFollow (judgeTick (fwdTick (a2.tickJump (a2.verdictTick t))))) (by simpa using hw)
      generalize settle (holdFollow (judgeTick (fwdTick (a2.tickJump (a2.verdictTick t))))) = x at h ⊢
      exact ih _ h

@[simp] theorem updHostActivate_wf (s : State) (hw : cellsWf s.ch.dev0 = true ∧ cellsWf s.ch.dev1 = true) :
    cellsWf (updHostActivate s).ch.dev0 = true ∧ cellsWf (updHostActivate s).ch.dev1 = true := by
  unfold updHostActivate; repeat (first | (solve | simp [*]) | split | simp [*])

@[simp] theorem cancelNow_wf (s : State) (hw : cellsWf s.ch.dev0 = true ∧ cellsWf s.ch.dev1 = true) :
    cellsWf (cancelNow s).ch.dev0 = true ∧ cellsWf (cancelNow s).ch.dev1 = true := by
  unfold cancelNow; repeat (first | (solve | simp [*]) | split | simp [*])

@[simp] theorem updHostRevert_wf (s : State) (hw : cellsWf s.ch.dev0 = true ∧ cellsWf s.ch.dev1 = true) :
    cellsWf (updHostRevert s).ch.dev0 = true ∧ cellsWf (updHostRevert s).ch.dev1 = true := by
  unfold updHostRevert; repeat (first | (solve | simp [*]) | split | simp [*])

@[simp] theorem wEvent_wf (p : Path) (a : Nat) (v : Nat) (s : State) (hw : cellsWf s.ch.dev0 = true ∧ cellsWf s.ch.dev1 = true) :
    cellsWf (wEvent p a v s).ch.dev0 = true ∧ cellsWf (wEvent p a v s).ch.dev1 = true := by
  unfold wEvent
  split
  · simpa using hw
  · split
    · simpa using hw
    · split
      · simpa using hw
      · refine strobes_wf _ _ _ ?_ (by simpa using hw)
        intro x hx t ht
        simp only [List.mem_cons, List.not_mem_nil, or_false] at hx
        rcases hx with rfl | rfl | rfl | rfl | rfl <;>
          first | exact releaseBlocks_wf _ ht | (simpa using ht) | (dsimp only; split <;> simpa using ht)
      · exact hw

@[simp] theorem wHk_wf (p : Path) (a : Nat) (v : Nat) (s : State) (hw : cellsWf s.ch.dev0 = true ∧ cellsWf s.ch.dev1 = true) :
    cellsWf (wHk p a v s).ch.dev0 = true ∧ cellsWf (wHk p a v s).ch.dev1 = true := by
  unfold wHk; repeat (first | (solve | simp [*]) | split | simp [*])

@[simp] theorem wService_wf (a : Nat) (v : Nat) (s : State) (hw : cellsWf s.ch.dev0 = true ∧ cellsWf s.ch.dev1 = true) :
    cellsWf (wService a v s).ch.dev0 = true ∧ cellsWf (wService a v s).ch.dev1 = true := by
  unfold wService
  split
  · simpa using hw
  · rw [(strobes_dev _ _ _ ?_).1, (strobes_dev _ _ _ ?_).2]
    · simpa using hw
    all_goals
      intro x hx t
      simp only [List.mem_cons, List.not_mem_nil, or_false] at hx
      rcases hx with rfl | rfl | rfl <;> simp
  · simpa using hw
  · simpa using hw
  · simpa using hw
  · rw [(strobes_dev _ _ _ ?_).1, (strobes_dev _ _ _ ?_).2]
    · simpa using hw
    all_goals
      intro x hx t
      simp only [List.mem_cons, List.not_mem_nil, or_false] at hx
      rcases hx with rfl | rfl | rfl <;> simp
  · simpa using hw
  · refine strobes_wf _ _ _ ?_ (by simpa using hw)
    intro x hx t ht
    simp only [List.mem_cons, List.not_mem_nil, or_false] at hx
    rcases hx with rfl | rfl | rfl | rfl <;>
      first | exact updHostActivate_wf _ ht | exact cancelNow_wf _ ht | exact updHostRevert_wf _ ht | (simpa using ht)
  · rw [(strobes_dev _ _ _ ?_).1, (strobes_dev _ _ _ ?_).2]
    · simpa using hw
    all_goals
      intro x hx t
      simp only [List.mem_cons, List.not_mem_nil, or_false] at hx
      rcases hx with rfl; simp
  · exact hw

@[simp] theorem regAct_wf (p : Path) (a : Nat) (v : Nat) (s : State) (hw : cellsWf s.ch.dev0 = true ∧ cellsWf s.ch.dev1 = true) :
    cellsWf (regAct p a v s).ch.dev0 = true ∧ cellsWf (regAct p a v s).ch.dev1 = true := by
  unfold regAct
  refine ite_wf _ _ _ ?_ ?_
  · rw [(unlockWrite_dev ..).1, (unlockWrite_dev ..).2]; exact hw
  refine ite_wf _ _ _ ?_ ?_
  · rw [(wGlobal_dev ..).1, (wGlobal_dev ..).2]; exact hw
  refine ite_wf _ _ _ ?_ ?_
  · exact wEvent_wf _ _ _ _ hw
  refine ite_wf _ _ _ ?_ ?_
  · split
    · rw [(wPhase_dev ..).1, (wPhase_dev ..).2]; exact hw
    · exact hw
  refine ite_wf _ _ _ ?_ ?_
  · split
    · rw [(wRail_dev ..).1, (wRail_dev ..).2]; exact hw
    · exact hw
  refine ite_wf _ _ _ ?_ ?_
  · split
    · rw [(wPort_dev ..).1, (wPort_dev ..).2]; exact hw
    · exact hw
  refine ite_wf _ _ _ ?_ ?_
  · split
    · rw [(wDom_dev ..).1, (wDom_dev ..).2]; exact hw
    · exact hw
  refine ite_wf _ _ _ ?_ ?_
  · split
    · rw [(State.updSlot_dev ..).1, (State.updSlot_dev ..).2]; exact hw
    · exact hw
  refine ite_wf _ _ _ ?_ ?_
  · split
    · rw [(wMon_dev ..).1, (wMon_dev ..).2]; exact hw
    · exact hw
  refine ite_wf _ _ _ ?_ ?_
  · exact wHk_wf _ _ _ _ hw
  refine ite_wf _ _ _ ?_ ?_
  · split
    · rw [(wCt_dev ..).1, (wCt_dev ..).2]; exact hw
    · exact hw
  refine ite_wf _ _ _ ?_ ?_
  · rw [(wHu_dev ..).1, (wHu_dev ..).2]; exact hw
  refine ite_wf _ _ _ ?_ ?_
  · rw [(wPair_dev ..).1, (wPair_dev ..).2]; exact hw
  refine ite_wf _ _ _ ?_ ?_
  · rw [(wOv_dev ..).1, (wOv_dev ..).2]; exact hw
  exact wService_wf _ _ _ hw

@[simp] theorem writeUnit_wf (p : Path) (a : Nat) (n : Nat) (v : Nat) (s : State) (hw : cellsWf s.ch.dev0 = true ∧ cellsWf s.ch.dev1 = true) :
    cellsWf (writeUnit p a n v s).2.ch.dev0 = true ∧ cellsWf (writeUnit p a n v s).2.ch.dev1 = true := by
  unfold writeUnit; repeat (first | (solve | simp [*]) | split | simp [*])

@[simp] theorem burst_wf (p : Path) (a1 : Nat) (a2 : List Byte) (a3 : List Byte) (a4 : State) (hw : cellsWf a4.ch.dev0 = true ∧ cellsWf a4.ch.dev1 = true) :
    cellsWf (burst p a1 a2 a3 a4).2.2.2.ch.dev0 = true ∧ cellsWf (burst p a1 a2 a3 a4).2.2.2.ch.dev1 = true := by
  induction a3 generalizing a1 a2 a4 with
  | nil => exact hw
  | cons b l ih =>
    unfold burst
    dsimp only
    split
    · exact hw
    · generalize (if a1 = (unitAt a1).1 then [b] else
        if (decide (a2.length = a1 - (unitAt a1).1) && !a2.isEmpty) = true then a2 ++ [b] else []) = g
      split
      · exact ih _ _ _ (writeUnit_wf _ _ _ _ _ hw)
      · exact ih _ _ _ hw

@[simp] theorem hostBurst_wf (a : Nat) (bs : List Byte) (s : State) (hw : cellsWf s.ch.dev0 = true ∧ cellsWf s.ch.dev1 = true) :
    cellsWf (hostBurst a bs s).ch.dev0 = true ∧ cellsWf (hostBurst a bs s).ch.dev1 = true := by
  unfold hostBurst; repeat (first | (solve | simp [*]) | split | simp [*])

@[simp] theorem hostWrite_wf (a : Nat) (v : Nat) (s : State) (hw : cellsWf s.ch.dev0 = true ∧ cellsWf s.ch.dev1 = true) :
    cellsWf (hostWrite a v s).ch.dev0 = true ∧ cellsWf (hostWrite a v s).ch.dev1 = true := by
  unfold hostWrite; repeat (first | (solve | simp [*]) | split | simp [*])

@[simp] theorem hostStrobe_wf (a : Nat) (bits : Nat) (s : State) (hw : cellsWf s.ch.dev0 = true ∧ cellsWf s.ch.dev1 = true) :
    cellsWf (hostStrobe a bits s).ch.dev0 = true ∧ cellsWf (hostStrobe a bits s).ch.dev1 = true := by
  unfold hostStrobe; repeat (first | (solve | simp [*]) | split | simp [*])

@[simp] theorem hostField_wf (a : Nat) (m : Nat) (v : Nat) (s : State) (hw : cellsWf s.ch.dev0 = true ∧ cellsWf s.ch.dev1 = true) :
    cellsWf (hostField a m v s).ch.dev0 = true ∧ cellsWf (hostField a m v s).ch.dev1 = true := by
  unfold hostField; repeat (first | (solve | simp [*]) | split | simp [*])

@[simp] theorem hostPointer_wf (p : PtrBytes) (n : Nat) (s : State) (hw : cellsWf s.ch.dev0 = true ∧ cellsWf s.ch.dev1 = true) :
    cellsWf (hostPointer p n s).ch.dev0 = true ∧ cellsWf (hostPointer p n s).ch.dev1 = true := by
  unfold hostPointer; repeat (first | (solve | simp [*]) | split | simp [*])

@[simp] theorem recoverRow_wf (pulses : Nat) (s : State) (hw : cellsWf s.ch.dev0 = true ∧ cellsWf s.ch.dev1 = true) :
    cellsWf (recoverRow pulses s).ch.dev0 = true ∧ cellsWf (recoverRow pulses s).ch.dev1 = true := by
  unfold recoverRow; repeat (first | (solve | simp [*]) | split | simp [*])

@[simp] theorem remoteWrite_wf (who : BitVec 18) (a : Nat) (data : List Byte) (s : State) (hw : cellsWf s.ch.dev0 = true ∧ cellsWf s.ch.dev1 = true) :
    cellsWf (remoteWrite who a data s).2.ch.dev0 = true ∧ cellsWf (remoteWrite who a data s).2.ch.dev1 = true := by
  unfold remoteWrite; repeat (first | (solve | simp [*]) | split | simp [*])

@[simp] theorem imgIn_wf (imgId : Nat) (ofs : Nat) (data : List Byte) (s : State) (hw : cellsWf s.ch.dev0 = true ∧ cellsWf s.ch.dev1 = true) :
    cellsWf (imgIn imgId ofs data s).ch.dev0 = true ∧ cellsWf (imgIn imgId ofs data s).ch.dev1 = true := by
  unfold imgIn; repeat (first | (solve | simp [*]) | split | simp [*])

@[simp] theorem serveMsg_wf (m : OvMsg) (s : State) (hw : cellsWf s.ch.dev0 = true ∧ cellsWf s.ch.dev1 = true) :
    cellsWf (serveMsg m s).ch.dev0 = true ∧ cellsWf (serveMsg m s).ch.dev1 = true := by
  unfold serveMsg; repeat (first | (solve | simp [*]) | split | simp [*])

@[simp] theorem serveLoop_wf (a0 : Nat) (a1 : State) (hw : cellsWf a1.ch.dev0 = true ∧ cellsWf a1.ch.dev1 = true) :
    cellsWf (serveLoop a0 a1).ch.dev0 = true ∧ cellsWf (serveLoop a0 a1).ch.dev1 = true := by
  induction a0 generalizing a1 with
  | zero => simpa [serveLoop] using hw
  | succ n ih =>
    unfold serveLoop
    split
    · exact hw
    · apply ih; apply serveMsg_wf; simpa using hw

@[simp] theorem serveWaiting_wf (s : State) (hw : cellsWf s.ch.dev0 = true ∧ cellsWf s.ch.dev1 = true) :
    cellsWf (serveWaiting s).ch.dev0 = true ∧ cellsWf (serveWaiting s).ch.dev1 = true := by
  unfold serveWaiting; repeat (first | (solve | simp [*]) | split | simp [*])

@[simp] theorem takeMsg_wf (k : Fin 6) (cls : Nat) (h : OvHdr) (m : OvMsg) (s : State) (hw : cellsWf s.ch.dev0 = true ∧ cellsWf s.ch.dev1 = true) :
    cellsWf (takeMsg k cls h m s).ch.dev0 = true ∧ cellsWf (takeMsg k cls h m s).ch.dev1 = true := by
  unfold takeMsg
  dsimp only
  refine onceOnly_wf _ _ _ _ _ _ (fun t ht => serveWaiting_wf _ ?_) ?_
  · simpa using ht
  · simpa using hw

@[simp] theorem onLink_wf (k : Fin 6) (e : FrameEnd) (h : OvHdr) (m : OvMsg) (s : State) (hw : cellsWf s.ch.dev0 = true ∧ cellsWf s.ch.dev1 = true) :
    cellsWf (onLink k e h m s).ch.dev0 = true ∧ cellsWf (onLink k e h m s).ch.dev1 = true := by
  exact onGood_wf _ _ _ _ (fun t ht => takeMsg_wf _ _ _ _ _ ht) hw

@[simp] theorem rdFrame_wf (k : Fin 6) (e : FrameEnd) (h : OvHdr) (addr : Nat) (count : Nat) (s : State) (hw : cellsWf s.ch.dev0 = true ∧ cellsWf s.ch.dev1 = true) :
    cellsWf (rdFrame k e h addr count s).ch.dev0 = true ∧ cellsWf (rdFrame k e h addr count s).ch.dev1 = true := by
  unfold rdFrame; exact onFrame_wf _ _ _ _ _ _ _ _ _ (fun t ht => takeMsg_wf _ _ _ _ _ ht) hw

@[simp] theorem wrFrame_wf (k : Fin 6) (e : FrameEnd) (h : OvHdr) (addr : Nat) (data : List Byte) (s : State) (hw : cellsWf s.ch.dev0 = true ∧ cellsWf s.ch.dev1 = true) :
    cellsWf (wrFrame k e h addr data s).ch.dev0 = true ∧ cellsWf (wrFrame k e h addr data s).ch.dev1 = true := by
  unfold wrFrame; exact onFrame_wf _ _ _ _ _ _ _ _ _ (fun t ht => takeMsg_wf _ _ _ _ _ ht) hw

@[simp] theorem respIn_wf (k : Fin 6) (e : FrameEnd) (h : OvHdr) (status : Nat) (data : List Byte) (s : State) (hw : cellsWf s.ch.dev0 = true ∧ cellsWf s.ch.dev1 = true) :
    cellsWf (respIn k e h status data s).ch.dev0 = true ∧ cellsWf (respIn k e h status data s).ch.dev1 = true := by
  unfold respIn; exact onFrame_wf _ _ _ _ _ _ _ _ _ (fun t ht => takeMsg_wf _ _ _ _ _ ht) hw

@[simp] theorem shareIn_wf (k : Fin 6) (e : FrameEnd) (h : OvHdr) (v : Nat) (s : State) (hw : cellsWf s.ch.dev0 = true ∧ cellsWf s.ch.dev1 = true) :
    cellsWf (shareIn k e h v s).ch.dev0 = true ∧ cellsWf (shareIn k e h v s).ch.dev1 = true := by
  unfold shareIn; exact onFrame_wf _ _ _ _ _ _ _ _ _ (fun t ht => takeMsg_wf _ _ _ _ _ ht) hw

@[simp] theorem capIn_wf (k : Fin 6) (e : FrameEnd) (h : OvHdr) (v : Nat) (s : State) (hw : cellsWf s.ch.dev0 = true ∧ cellsWf s.ch.dev1 = true) :
    cellsWf (capIn k e h v s).ch.dev0 = true ∧ cellsWf (capIn k e h v s).ch.dev1 = true := by
  unfold capIn; exact onFrame_wf _ _ _ _ _ _ _ _ _ (fun t ht => takeMsg_wf _ _ _ _ _ ht) hw

@[simp] theorem activateIn_wf (k : Fin 6) (e : FrameEnd) (h : OvHdr) (a : ActivateCmd) (s : State) (hw : cellsWf s.ch.dev0 = true ∧ cellsWf s.ch.dev1 = true) :
    cellsWf (activateIn k e h a s).ch.dev0 = true ∧ cellsWf (activateIn k e h a s).ch.dev1 = true := by
  unfold activateIn; exact onFrame_wf _ _ _ _ _ _ _ _ _ (fun t ht => takeMsg_wf _ _ _ _ _ ht) hw

@[simp] theorem evrecIn_wf (k : Fin 6) (e : FrameEnd) (h : OvHdr) (r : EvRec) (s : State) (hw : cellsWf s.ch.dev0 = true ∧ cellsWf s.ch.dev1 = true) :
    cellsWf (evrecIn k e h r s).ch.dev0 = true ∧ cellsWf (evrecIn k e h r s).ch.dev1 = true := by
  unfold evrecIn; exact onFrame_wf _ _ _ _ _ _ _ _ _ (fun t ht => takeMsg_wf _ _ _ _ _ ht) hw

@[simp] theorem snaprecIn_wf (k : Fin 6) (e : FrameEnd) (h : OvHdr) (pl : List Byte) (s : State) (hw : cellsWf s.ch.dev0 = true ∧ cellsWf s.ch.dev1 = true) :
    cellsWf (snaprecIn k e h pl s).ch.dev0 = true ∧ cellsWf (snaprecIn k e h pl s).ch.dev1 = true := by
  unfold snaprecIn; exact onFrame_wf _ _ _ _ _ _ _ _ _ (fun t ht => takeMsg_wf _ _ _ _ _ ht) hw

@[simp] theorem imgFrame_wf (k : Fin 6) (e : FrameEnd) (h : OvHdr) (imgId : Nat) (ofs : Nat) (data : List Byte) (s : State) (hw : cellsWf s.ch.dev0 = true ∧ cellsWf s.ch.dev1 = true) :
    cellsWf (imgFrame k e h imgId ofs data s).ch.dev0 = true ∧ cellsWf (imgFrame k e h imgId ofs data s).ch.dev1 = true := by
  unfold imgFrame; exact onFrame_wf _ _ _ _ _ _ _ _ _ (fun t ht => takeMsg_wf _ _ _ _ _ ht) hw

@[simp] theorem pairDown_wf (s : State) (hw : cellsWf s.ch.dev0 = true ∧ cellsWf s.ch.dev1 = true) :
    cellsWf (pairDown s).ch.dev0 = true ∧ cellsWf (pairDown s).ch.dev1 = true := by
  unfold pairDown; repeat (first | (solve | simp [*]) | split | simp [*])

@[simp] theorem ctrlRetry_wf (seq : Nat) (s : State) (hw : cellsWf s.ch.dev0 = true ∧ cellsWf s.ch.dev1 = true) :
    cellsWf (ctrlRetry seq s).ch.dev0 = true ∧ cellsWf (ctrlRetry seq s).ch.dev1 = true := by
  unfold ctrlRetry; repeat (first | (solve | simp [*]) | split | simp [*])

@[simp] theorem refuseIn_wf (s : State) (hw : cellsWf s.ch.dev0 = true ∧ cellsWf s.ch.dev1 = true) :
    cellsWf (refuseIn s).ch.dev0 = true ∧ cellsWf (refuseIn s).ch.dev1 = true := by
  unfold refuseIn; repeat (first | (solve | simp [*]) | split | simp [*])

@[simp] theorem healthIn_wf (h : Health) (s : State) (hw : cellsWf s.ch.dev0 = true ∧ cellsWf s.ch.dev1 = true) :
    cellsWf (healthIn h s).ch.dev0 = true ∧ cellsWf (healthIn h s).ch.dev1 = true := by
  unfold healthIn; repeat (first | (solve | simp [*]) | split | simp [*])

@[simp] theorem handOrigin_wf (s : State) (hw : cellsWf s.ch.dev0 = true ∧ cellsWf s.ch.dev1 = true) :
    cellsWf (handOrigin s).ch.dev0 = true ∧ cellsWf (handOrigin s).ch.dev1 = true := by
  unfold handOrigin; repeat (first | (solve | simp [*]) | split | simp [*])

@[simp] theorem takeOver_wf (s0 : State) (hw : cellsWf s0.ch.dev0 = true ∧ cellsWf s0.ch.dev1 = true) :
    cellsWf (takeOver s0).ch.dev0 = true ∧ cellsWf (takeOver s0).ch.dev1 = true := by
  unfold takeOver; repeat (first | (solve | simp [*]) | split | simp [*])

@[simp] theorem peerChange_wf (on : Bool) (s : State) (hw : cellsWf s.ch.dev0 = true ∧ cellsWf s.ch.dev1 = true) :
    cellsWf (peerChange on s).ch.dev0 = true ∧ cellsWf (peerChange on s).ch.dev1 = true := by
  unfold peerChange; repeat (first | (solve | simp [*]) | split | simp [*])

@[simp] theorem ownReleased_wf (s : State) (hw : cellsWf s.ch.dev0 = true ∧ cellsWf s.ch.dev1 = true) :
    cellsWf (ownReleased s).ch.dev0 = true ∧ cellsWf (ownReleased s).ch.dev1 = true := by
  unfold ownReleased; repeat (first | (solve | simp [*]) | split | simp [*])

@[simp] theorem ownConflict_wf (s : State) (hw : cellsWf s.ch.dev0 = true ∧ cellsWf s.ch.dev1 = true) :
    cellsWf (ownConflict s).ch.dev0 = true ∧ cellsWf (ownConflict s).ch.dev1 = true := by
  unfold ownConflict; repeat (first | (solve | simp [*]) | split | simp [*])

@[simp] theorem unlockRow_wf (p : Path) (v : Nat) (s : State) (hw : cellsWf s.ch.dev0 = true ∧ cellsWf s.ch.dev1 = true) :
    cellsWf (unlockRow p v s).ch.dev0 = true ∧ cellsWf (unlockRow p v s).ch.dev1 = true := by
  unfold unlockRow; repeat (first | (solve | simp [*]) | split | simp [*])

theorem spEraseDo_wf (dev ofs : Nat) (s : State) (hw : cellsWf s.ch.dev0 = true ∧ cellsWf s.ch.dev1 = true) :
    cellsWf ((spEraseDo dev ofs s).2.2).ch.dev0 = true ∧ cellsWf ((spEraseDo dev ofs s).2.2).ch.dev1 = true := by
  refine inSession_wf _ _ _ (fun t ht => ?_) hw
  split
  · exact ht
  · rw [(spPending_dev _).1, (spPending_dev _).2]
    exact memBegin_wf _ _ ht

theorem spWriteDo_wf (dev ofs : Nat) (data : List Byte) (s : State) (hw : cellsWf s.ch.dev0 = true ∧ cellsWf s.ch.dev1 = true) :
    cellsWf ((spWriteDo dev ofs data s).2.2).ch.dev0 = true ∧ cellsWf ((spWriteDo dev ofs data s).2.2).ch.dev1 = true := by
  refine inSession_wf _ _ _ (fun t ht => ?_) hw
  split
  · exact ht
  · rw [(spPending_dev _).1, (spPending_dev _).2]
    exact memBegin_wf _ _ ht

theorem spStageDataDo_wf (ofs : Nat) (data : List Byte) (s : State) (hw : cellsWf s.ch.dev0 = true ∧ cellsWf s.ch.dev1 = true) :
    cellsWf ((spStageDataDo ofs data s).2.2).ch.dev0 = true ∧ cellsWf ((spStageDataDo ofs data s).2.2).ch.dev1 = true := by
  refine inSession_wf _ _ _ (fun t ht => ?_) hw
  split
  · exact ht
  · split
    · unfold spUpdate; dsimp only; split <;> simpa using ht
    · simpa using stageData_wf _ _ _ _ ht

theorem spStageBeginDo_wf (h : List Byte) (s : State) (hw : cellsWf s.ch.dev0 = true ∧ cellsWf s.ch.dev1 = true) :
    cellsWf ((spStageBeginDo h s).2.2).ch.dev0 = true ∧ cellsWf ((spStageBeginDo h s).2.2).ch.dev1 = true := by
  refine inSession_wf _ _ _ (fun t ht => ?_) hw
  split
  · exact ht
  · split
    · unfold spUpdate; dsimp only; split <;> simpa using ht
    · dsimp only
      rw [(spPending_dev _).1, (spPending_dev _).2]
      split
      · simpa using stageBegin_wf _ _ _ ht
      · exact stageBegin_wf _ _ _ ht

theorem spUpdate_wf (f : State → Nat × State) (s : State)
    (hf : ∀ t : State, cellsWf t.ch.dev0 = true ∧ cellsWf t.ch.dev1 = true → cellsWf (f t).2.ch.dev0 = true ∧ cellsWf (f t).2.ch.dev1 = true)
    (hw : cellsWf s.ch.dev0 = true ∧ cellsWf s.ch.dev1 = true) : cellsWf ((spUpdate f s).2.2).ch.dev0 = true ∧ cellsWf ((spUpdate f s).2.2).ch.dev1 = true := by
  unfold spUpdate spTry
  split
  · split
    · exact hf _ hw
    · exact hf _ hw
  · split
    · simpa using hw
    · simpa using hw

theorem spActivateDo_wf (imgId confirm at_ : Nat) (s : State) (hw : cellsWf s.ch.dev0 = true ∧ cellsWf s.ch.dev1 = true) :
    cellsWf ((spActivateDo imgId confirm at_ s).2.2).ch.dev0 = true ∧ cellsWf ((spActivateDo imgId confirm at_ s).2.2).ch.dev1 = true := by
  refine inSession_wf _ _ _ (fun t ht => ?_) hw
  split
  · exact ht
  · refine spUpdate_wf _ _ (fun u hu => ?_) ht
    split
    · exact activateNow_wf _ _ _ hu
    · split
      · simpa using hu
      · exact scheduleAt_wf _ _ hu

theorem spCancelDo_wf (s : State) (hw : cellsWf s.ch.dev0 = true ∧ cellsWf s.ch.dev1 = true) : cellsWf ((spCancelDo s).2.2).ch.dev0 = true ∧ cellsWf ((spCancelDo s).2.2).ch.dev1 = true :=
  inSession_wf _ _ _ (fun _ ht => spUpdate_wf _ _ (fun _ hu => cancelNow_wf _ hu) ht) hw

theorem spRevertDo_wf (kind : Nat) (s : State) (hw : cellsWf s.ch.dev0 = true ∧ cellsWf s.ch.dev1 = true) : cellsWf ((spRevertDo kind s).2.2).ch.dev0 = true ∧ cellsWf ((spRevertDo kind s).2.2).ch.dev1 = true := by
  refine inSession_wf _ _ _ (fun t ht => ?_) hw
  split
  · exact spUpdate_wf _ _ (fun _ hu => revertPat_wf _ hu) ht
  · split
    · exact spUpdate_wf _ _ (fun _ hu => revertFw_wf _ hu) ht
    · exact ht

theorem spAbortDo_wf (s : State) (hw : cellsWf s.ch.dev0 = true ∧ cellsWf s.ch.dev1 = true) : cellsWf ((spAbortDo s).2.2).ch.dev0 = true ∧ cellsWf ((spAbortDo s).2.2).ch.dev1 = true := by
  refine inSession_wf _ _ _ (fun t ht => spUpdate_wf _ _ (fun u hu => ?_) ht) hw
  dsimp only
  split
  · simpa using hu
  · exact hu

theorem spConfirmDo_wf (s : State) (hw : cellsWf s.ch.dev0 = true ∧ cellsWf s.ch.dev1 = true) : cellsWf ((spConfirmDo s).2.2).ch.dev0 = true ∧ cellsWf ((spConfirmDo s).2.2).ch.dev1 = true :=
  inSession_wf _ _ _ (fun _ ht => spUpdate_wf _ _ (fun _ hu => by simpa using hu) ht) hw

/-- Whatever follows from a command keeps the external memories in canonical form. -/
theorem run_wf (f : State → State) (s t : State)
    (hf : ∀ t : State, cellsWf t.ch.dev0 = true ∧ cellsWf t.ch.dev1 = true →
      cellsWf (f t).ch.dev0 = true ∧ cellsWf (f t).ch.dev1 = true)
    (hw : cellsWf s.ch.dev0 = true ∧ cellsWf s.ch.dev1 = true) (ht : run f s = .next t) :
    cellsWf (t).ch.dev0 = true ∧ cellsWf (t).ch.dev1 = true := by
  unfold run at ht
  injection ht with e
  rw [← e, (finish_dev _ _).1, (finish_dev _ _).2]
  exact settle_wf _ (hf _ hw)

/-- The same for a command at the end of a wait that writes no external memory. -/
theorem runAfter_wf (w f : State → State) (s t : State)
    (hw0 : (w s).ch.dev0 = s.ch.dev0 ∧ (w s).ch.dev1 = s.ch.dev1)
    (hf : ∀ t : State, cellsWf t.ch.dev0 = true ∧ cellsWf t.ch.dev1 = true →
      cellsWf (f t).ch.dev0 = true ∧ cellsWf (f t).ch.dev1 = true)
    (hw : cellsWf s.ch.dev0 = true ∧ cellsWf s.ch.dev1 = true) (ht : runAfter w f s = .next t) :
    cellsWf (t).ch.dev0 = true ∧ cellsWf (t).ch.dev1 = true := by
  unfold runAfter at ht
  refine run_wf _ _ _ (fun u hu => hf _ ?_) ?_ ht
  · simpa using hu
  · rw [hw0.1, hw0.2]; exact hw

/-- The same for a slot's command at a tick. -/
theorem runTick_wf (d : State → Option Nat) (f : State → State) (s t : State)
    (hf : ∀ t : State, cellsWf t.ch.dev0 = true ∧ cellsWf t.ch.dev1 = true →
      cellsWf (f t).ch.dev0 = true ∧ cellsWf (f t).ch.dev1 = true)
    (hw : cellsWf s.ch.dev0 = true ∧ cellsWf s.ch.dev1 = true) (ht : runTick d f s = .next t) :
    cellsWf (t).ch.dev0 = true ∧ cellsWf (t).ch.dev1 = true := by
  unfold runTick at ht
  dsimp only at ht
  injection ht with e
  rw [← e, (finish_dev _ _).1, (finish_dev _ _).2]
  apply settle_wf
  apply hf
  simp only [egressAll_dev]
  split
  · apply tickTo_wf; exact hw
  · exact hw
end Sys2Proof.Machine
end

