-- ==== Sys2Proof/Tests/Slice0.lean ====
section
/-! SUPPORT. Tests: the checks of WellFormed on terms that break each, the values that the spec works out, single commands on
small states, and for every statement with hypotheses a state and operands that meet them. -/
namespace Sys2Proof.Machine

-- One theorem at a time: each `decide +kernel` waits for the kernel's check of all before it, and waiting together they
-- would take a thread each.
set_option Elab.async false

/-! ### Ill-formed terms -/

/-- A number wider than the field that carries it is refused. -/
theorem test_illformed_numbers : ([
    .scrubSegmentCheck 65536 0,
    .wakeScrubPass [0, 65536],
    .onTimeEnd 0 .trip 0 65536,
    .ovSnuff 0 65536,
    .uvComparatorChange 0 65536,
    .llFrameBoundary 0 65537 false,
    .ovCreditReturn 0 1 256,
    .windowLineFetch false 512,
    .hbRecovery 11,
    .hbCtrlRecover 11,
    .hbSetPointer .held 0,
    .hbSetPointer (.high 0) 1,
    .hbSetPointer (.both 0 0) 65537,
    .eccError (.page 8192) false,
    .eccError (.index 131072) false] : List Instr).all (fun c => !wellFormed c) = true := by decide +kernel

/-- A read of no byte, and one of more bytes than the register space, is refused (R384). -/
theorem test_illformed_counts : ([
    .phResRead 0 0,
    .railResRead 0 0,
    .ctResRead 0 0,
    .hkResRead 0,
    .thResRead 0,
    .huResRead 0,
    .evTimeRead 0,
    .tallyRead 0 0,
    .ovTimeRead 0,
    .lgRecInfoRead 0,
    .ledgerWindowRead 0 0,
    .patternWindowRead 0 0,
    .phResRead 0 65537,
    .railResRead 0 65537,
    .ctResRead 0 65537,
    .hkResRead 65537,
    .thResRead 65537,
    .huResRead 65537,
    .evTimeRead 65537,
    .tallyRead 0 65537,
    .ovTimeRead 65537,
    .lgRecInfoRead 65537,
    .ledgerWindowRead 0 65537,
    .patternWindowRead 0 65537,
    .ovRdReq 0 .good ⟨false, false, false, false, 0, 0, 0, false, 0, 0, 0⟩ 0 0,
    .ovRdReq 0 .good ⟨false, false, false, false, 0, 0, 0, false, 0, 0, 0⟩ 0 65537] : List Instr).all (fun c => !wellFormed c) = true := by decide +kernel

/-- A payload longer than its field is refused. -/
theorem test_illformed_payloads : ([
    .testEnter 0 ⟨none, 0⟩ (List.replicate 1025 0),
    .ovWrReq 0 .good ⟨false, false, false, false, 0, 0, 0, false, 0, 0, 0⟩ 0 (List.replicate 511 0),
    .ovResp 0 .good ⟨false, false, false, false, 0, 0, 0, false, 0, 0, 0⟩ 0 (List.replicate 511 0),
    .ovSnaprec 0 .good ⟨false, false, false, false, 0, 0, 0, false, 0, 0, 0⟩ (List.replicate 513 0),
    .ovImgData 0 .good ⟨false, false, false, false, 0, 0, 0, false, 0, 0, 0⟩ 0 0 (List.replicate 505 0),
    .ovFrameForward 0 .good (.cN 1 0 ⟨false, false, false, false, 0, 0, 0, false, 0, 0, 0⟩ (List.replicate 513 0)),
    .spStageBegin 0 ⟨none, 0⟩ (List.replicate 1025 0),
    .spStageData 0 ⟨none, 0⟩ 0 (List.replicate 1025 0),
    .spMemWrite 0 ⟨none, 0⟩ 0 0 (List.replicate 1025 0),
    .spKeyWrite 0 ⟨none, 0⟩ 0 (List.replicate 1025 0),
    .spOpen 0 ⟨some [7], 0⟩ 0,
    .spInfo 0 ⟨some (List.replicate 1041 0), 0⟩,
    .spUnknownCommand 0x10 0 ⟨none, 0⟩,
    .plStream true ⟨false, 0, (List.replicate 541 0)⟩,
    .ledgerBlockWrite 0 (List.replicate 31 0) 0,
    .registerWrite 0 (List.replicate 65537 0)] : List Instr).all (fun c => !wellFormed c) = true := by decide +kernel

/-- A class-0 frame whose HOPS needs more than 4 bits is refused. -/
theorem test_illformed_class_zero : ([
    .ovTrip 0 .good ⟨true, false, 16, 0, false, 0, 0, 0, 0⟩,
    .ovYield 0 .good ⟨true, false, 16, 0, false, 0, 0, 0, 0⟩,
    .ovSummary 0 .good ⟨true, false, 16, 0, false, 0, 0, 0, 0⟩,
    .ovBarAck 0 .good ⟨true, false, 16, 0, false, 0, 0, 0, 0⟩,
    .ovSnapAck 0 .good ⟨true, false, 16, 0, false, 0, 0, 0, 0⟩,
    .ovTmark 0 .good ⟨true, false, 16, 0, false, 0, 0, 0, 0⟩,
    .ovBarrier 0 .good ⟨true, false, 16, 0, false, 0, 0, 0, 0⟩,
    .ovSnap 0 .good ⟨true, false, 16, 0, false, 0, 0, 0, 0⟩,
    .ovReset 0 .good ⟨true, false, 16, 0, false, 0, 0, 0, 0⟩,
    .ovFtrip 0 .good ⟨true, false, 16, 0, false, 0, 0, 0, 0⟩,
    .ovFstart 0 .good ⟨true, false, 16, 0, false, 0, 0, 0, 0⟩,
    .ovRootchg 0 .good ⟨true, false, 16, 0, false, 0, 0, 0, 0⟩,
    .ovFrameForward 0 .good (.c0 0 ⟨true, false, 16, 0, false, 0, 0, 0, 0⟩),
    .ovFrameForward 0 .good (.c0 64 ⟨true, false, 0, 0, false, 0, 0, 0, 0⟩)] : List Instr).all (fun c => !wellFormed c) = true := by decide +kernel

/-- A header whose HOPS needs more than 4 bits, a CLASS or a TYPE that there is not, and a 32-bit number too large are refused. -/
theorem test_illformed_headers : ([
    .ovEnum 0 .good ⟨false, false, false, false, 16, 0, 0, false, 0, 0, 0⟩,
    .ovCount 0 .good ⟨false, false, false, false, 16, 0, 0, false, 0, 0, 0⟩ 0,
    .ovCount 0 .good ⟨false, false, false, false, 0, 0, 0, false, 0, 0, 0⟩ 4294967296,
    .ovAssign 0 .good ⟨false, false, false, false, 16, 0, 0, false, 0, 0, 0⟩ 0 0,
    .ovAssign 0 .good ⟨false, false, false, false, 0, 0, 0, false, 0, 0, 0⟩ 4294967296 0,
    .ovAssign 0 .good ⟨false, false, false, false, 0, 0, 0, false, 0, 0, 0⟩ 0 4294967296,
    .ovGraft 0 .good ⟨false, false, false, false, 16, 0, 0, false, 0, 0, 0⟩ 0 0,
    .ovGraft 0 .good ⟨false, false, false, false, 0, 0, 0, false, 0, 0, 0⟩ 4294967296 0,
    .ovUngraft 0 .good ⟨false, false, false, false, 16, 0, 0, false, 0, 0, 0⟩ 0 0,
    .ovUngraft 0 .good ⟨false, false, false, false, 0, 0, 0, false, 0, 0, 0⟩ 0 4294967296,
    .ovRdReq 0 .good ⟨false, false, false, false, 16, 0, 0, false, 0, 0, 0⟩ 0 2,
    .ovWrReq 0 .good ⟨false, false, false, false, 16, 0, 0, false, 0, 0, 0⟩ 0 [],
    .ovResp 0 .good ⟨false, false, false, false, 16, 0, 0, false, 0, 0, 0⟩ 0 [],
    .ovTime 0 .good ⟨false, false, false, false, 16, 0, 0, false, 0, 0, 0⟩ 0 0 0,
    .ovRole 0 .good ⟨false, false, false, false, 16, 0, 0, false, 0, 0, 0⟩ true,
    .ovShareSp 0 .good ⟨false, false, false, false, 16, 0, 0, false, 0, 0, 0⟩ 0,
    .ovCap 0 .good ⟨false, false, false, false, 16, 0, 0, false, 0, 0, 0⟩ 0,
    .ovActivate 0 .good ⟨false, false, false, false, 16, 0, 0, false, 0, 0, 0⟩ ⟨0, 0, 0, 0⟩,
    .ovEvrec 0 .good ⟨false, false, false, false, 16, 0, 0, false, 0, 0, 0⟩ ⟨0, 0, 0, 0, 0⟩,
    .ovSnaprec 0 .good ⟨false, false, false, false, 16, 0, 0, false, 0, 0, 0⟩ [],
    .ovImgData 0 .good ⟨false, false, false, false, 16, 0, 0, false, 0, 0, 0⟩ 0 0 [],
    .ovFrameForward 0 .good (.cN 0 0 ⟨false, false, false, false, 0, 0, 0, false, 0, 0, 0⟩ []),
    .ovFrameForward 0 .good (.cN 4 0 ⟨false, false, false, false, 0, 0, 0, false, 0, 0, 0⟩ []),
    .ovFrameForward 0 .good (.cN 1 64 ⟨false, false, false, false, 0, 0, 0, false, 0, 0, 0⟩ []),
    .ovFrameForward 0 .good (.cN 1 0 ⟨false, false, false, false, 16, 0, 0, false, 0, 0, 0⟩ [])] : List Instr).all (fun c => !wellFormed c) = true := by decide +kernel

/-- A STATE frame with a full list of each kind. -/
def fullState : TwinShared :=
  { clock := 0, tick := 0, ports := List.replicate 8 ⟨0, 0, 0, 0, 0, 0, [], [], none⟩, huState := 0, rideAt := 0, rideAh := (0, 1)
    carts := List.replicate 16 ⟨0, 0, false, false, false, 0, 0, 0, 0, 0, none, none, 0, none, false, false⟩, counters := List.replicate 16 (0, 0)
    cap := 0, capRoot := 0, dimK := 0, domains := List.replicate 8 0
    plans := List.replicate 8 ⟨0, false, false, none, none, [], false, false, none⟩
    slots := List.replicate 48 ⟨0, 0, 0, 0, 0, false, false, false⟩, active := List.replicate 24 0, degr := 0, twinAddr := 0 }

/-- A HEALTH frame of a unit that has nothing to report. -/
def health0 : Health := ⟨0, false, 0, false, 0, 0, 0, 0, [], 0, false, 0, false, 0, false, 0, 0, 0⟩

/-- A frame of the pair link or a LINK frame with a field too wide, or with a list of the wrong length, is refused. -/
theorem test_illformed_twin : ([
    .plSync true [⟨0, 256, 0, 0⟩],
    .plSync true [⟨0, 0, 65536, 0⟩],
    .plSync true (List.replicate 25 ⟨0, 0, 0, 0⟩),
    .plHealth true { health0 with role := 4 },
    .plHealth true { health0 with marks := List.replicate 25 (0, 0) },
    .plState true { fullState with ports := [] },
    .plState true { fullState with carts := [] },
    .plState true { fullState with counters := [] },
    .plState true { fullState with domains := [] },
    .plState true { fullState with plans := [] },
    .plState true { fullState with slots := [] },
    .plState true { fullState with active := [] },
    .plReport true ⟨none, [none, none, none], List.replicate 25 (0, 0)⟩,
    .plReport true ⟨none, [], []⟩,
    .ovLinkFrame 0 .good ⟨4, false, false, 0, 0, 0, (0, 0, 0), 0, false⟩,
    .ovLinkFrame 0 .good ⟨3, false, false, 16, 0, 0, (0, 0, 0), 0, false⟩,
    .ovLinkFrame 0 .good ⟨3, false, false, 0, 0, 4294967296, (0, 0, 0), 0, false⟩,
    .ovLinkFrame 0 .good ⟨3, false, false, 0, 0, 0, (0, 0, 0), 65536, false⟩] : List Instr).all (fun c => !wellFormed c) = true := by decide +kernel

/-- Terms at the greatest values that the checks let through. -/
theorem test_wellformed_bounds : ([
    .scrubSegmentCheck 65535 0, .wakeScrubPass [65535], .hbRecovery 10, .hbSetPointer (.both 255 254) 65536, .hbSetPointer (.high 7) 0, .eccError (.page 8191) true, .eccError (.index 131071) true,
    .phResRead 63 65536, .ovFrameForward 5 .good (.cN 3 63 ⟨false, false, false, false, 0, 0, 0, false, 0, 0, 0⟩ (List.replicate 512 0)), .windowLineFetch true 511,
    .ledgerBlockWrite 63 (List.replicate 32 0) 0, .plState true fullState, .spStageData 0 ⟨none, 0⟩ 0 (List.replicate 1024 0)] : List Instr).all wellFormed = true := by
  decide +kernel

/-! ### Values that the spec works out -/

/-- "123456789" in ASCII. -/
def ascii19 : List Byte := [0x31, 0x32, 0x33, 0x34, 0x35, 0x36, 0x37, 0x38, 0x39]

/-- R44: the CRC-32 of a pattern over "123456789". -/
theorem test_crc32 : crc32 ascii19 = 0xCBF43926 := by decide +kernel
/-- R363: the CRC-16 of the service port over "123456789". -/
theorem test_crc16 : crc16 ascii19 = 0x29B1 := by decide +kernel
/-- R140: the CRC-8 of the load link over "123456789". -/
theorem test_crc8 : crc8 0 (ascii19.map (·.toNat)) = 0xF4 := by decide +kernel
/-- The worked example of chapter 6: RCRC of the request, and SCRC of the response that it seeds. -/
theorem test_load_link_crc : crc8 0 [0x09, 0x45, 0xDC] = 0x3A ∧ crc8 0x3A [0x00, 0x00, 0x17] = 0x03 := by decide +kernel
/-- Table 14.4: what the captured samples code to. -/
theorem test_codec_code : (codeSamples 2 2098 2096 [2103, 2104, 2112, 2101]).1 = [1, -2, 3, -5] := by decide +kernel
/-- Table 14.4: what a decoder reconstructs. -/
theorem test_codec_reconstruct : (reconstruct 2 2098 2096 [1, -2, 3, -5]).1 = [2105, 2102, 2114, 2101] := by decide +kernel
/-- Table 14.4: the non-negative codes. -/
theorem test_codec_zigzag : [1, -2, 3, -5].map zigzag = [2, 3, 6, 9] := by decide +kernel
/-- Table 17.14: the limit of RAIL2 is a trim of rail 2. -/
theorem test_rail2_ilim : rwpMask 0x064A = 0xFFFF ∧ toRail ((0x064A - 0x0600) / 32) = some 2 := by decide +kernel
/-- Table 17.14: the address of RAIL_ILIM of RAIL2 and the value's bytes. -/
theorem test_rail2_bytes : leBytes 2 5000 = [0x88, 0x13] ∧ leNat [0x88, 0x13] = 0x1388 := by decide +kernel
/-- Table 15.4: byte 0 of an attention record of the unit at 0x5A of a pair. -/
theorem test_attention_byte0 : byteOf (0x58 + 2 + bit01 true * 128) = 0xDA := by decide +kernel

/-! ### Commands on small states -/

/-- The state after reset, at `m`. -/
def inMode (m : Mode) : State := { State.reset with mode := m }

/-- R14: a stall is counted in TALLY_HS_STALL. -/
theorem test_stall_counts : (addTally 7 1 State.reset).ev.tallies[(7 : Fin 24)] = 1 := by decide +kernel
/-- R388: KEY1 arms, and KEY2 then unlocks. -/
theorem test_unlock : (unlockWrite .host 0x88DF (unlockWrite .host 0x7720 State.reset)).glb.lockHost.unlocked = true := by decide +kernel
/-- R388: KEY2 without KEY1 breaks the sequence. -/
theorem test_unlock_break : (unlockWrite .host 0x88DF State.reset).hb.stat = 0x200 := by decide +kernel
/-- R346: a write to a part that is not there in its start is counted. -/
theorem test_busy_counted : (hostWrite 0x0018 7 (inMode .start)).hb.busyTally = 1 := by decide +kernel
/-- Table 17.2: SCRATCH takes a value in operation. -/
theorem test_scratch : (hostWrite 0x0018 0xBEEF (inMode .ready)).glb.scratch = 0xBEEF := by decide +kernel
/-- R344: one byte of a value changes nothing but leaves it waiting. -/
theorem test_lone_byte : (hostBurst 0x0018 [0x12] (inMode .ready)).hb.lone = [(0x0018, 0x12)] := by decide +kernel
/-- R343: an odd pointer is refused. -/
theorem test_odd_pointer : (hostBurst 0x0019 [1, 2] (inMode .ready)).hb.stat = 2 := by decide +kernel
/-- R343: an address that holds no register reads 0. -/
theorem test_hole_reads_zero : (hostRead 0x1800 2 (inMode .ready)).hb.rdata = [0, 0] := by decide +kernel
/-- R63: a NOR program clears bits only. -/
theorem test_nor_program : (memProgram 0 true 4 [0x0F] (memProgram 0 true 4 [0xF3] State.reset)).ch.dev0 = [(4, 0x03)] := by decide +kernel
/-- R62: an erase leaves nothing listed. -/
theorem test_erase : (memErase 0 0 16 (memPut 0 4 [1, 2] State.reset)).ch.dev0 = [] := by decide +kernel
/-- No word of the table spells a command. -/
theorem test_no_word : decodeTableWord 0 0 = none := rfl
/-- The queue is first in, first out. -/
theorem test_queue : ({ State.reset with pending := [.handshakeStall, .refClkLoss] } : State).withFetchWord 0 0 =
    { State.reset with pending := [.handshakeStall, .refClkLoss] } := rfl


/-! ### States and operands that meet the hypotheses of the statements -/

/-- A part in operation with its cores running. -/
def serving : State := { (inMode .ready) with arch := { State.reset.arch with cores := State.reset.arch.cores.map (fun c => { c with state := .running }) } }

/-- The first and the last register of each kind that the register statements write: served in operation, and turned away by a
part in reset. -/
def statedAddrs : List Nat :=
  [0x0202, 0x05F2, 0x020C, 0x05FC, 0x0604, 0x08E4, 0x0606, 0x08E6, 0x060A, 0x08EA, 0x0904, 0x09E4, 0x0A04, 0x0A74, 0x0C02, 0x0EFA,
    0x0C04, 0x0EFC, 0x0C06, 0x0EFE, 0x0F30, 0x0F42, 0x0FF6, 0x0F02, 0x0F24, 0x0F26, 0x0F28, 0x1006, 0x1020, 0x1004, 0x0100, 0x0116,
    0x0120, 0x0136, 0x0150, 0x1780, 0x1104, 0x1202, 0x1220, 0x1256, 0x1402, 0x1406, 0x1408, 0x1604, 0x1504, 0x0032, 0x0040, 0x0014]

/-- PhaseRegisterCommandsComplete to HostRegisterCommandsComplete: both cases of each clause, at the ends of each range. -/
theorem witness_RegisterCommandsComplete :
    statedAddrs.all (fun a => serving.serves a && !State.reset.serves a) = true := by decide +kernel

/-- A part in operation in which every domain may be judged off, and one segment does not match. -/
def upsetState : State := { serving with ch := { serving.ch with upset := [0] } }

/-- The state that a command receives at the end of a wait. -/
def atEnd (w : State) : State := egressAll w.opened

/-- ScrubAndSleepCommandsComplete: SCRUB_SEGMENT_CHECK of a pattern segment and of the overlay, in operation, and in reset. -/
theorem witness_ScrubSegmentCheck :
    ([0, 1].all (fun seg =>
      let σ := atEnd (serving.waitTill (serving.scrubDue seg))
      σ.running && !σ.blockDown .chandler && seg < σ.ch.image.segments &&
        !(if σ.ch.scrubAt + ms σ.cfg.device.scrub ≤ σ.now then [] else σ.ch.seen).contains seg) &&
      !(atEnd (State.reset.waitTill (State.reset.scrubDue 0))).running) = true := by decide +kernel

/-- ScrubAndSleepCommandsComplete: SCRUB_REPAIR with no upset segment, with one of a pattern that can be read again and of one
that cannot, and with the chandler held. -/
theorem witness_ScrubRepair : serving.opened.ch.upset = [] ∧ upsetState.opened.ch.upset = [0] ∧
    upsetState.opened.blockDown .chandler = false ∧ upsetState.opened.paired = false ∧ upsetState.opened.rereadOk = false ∧
    ({ upsetState with ch := { upsetState.ch with blank := true } } : State).opened.rereadOk = true ∧
    ({ upsetState with ev := { upsetState.ev with heldBlks := [.chandler] } } : State).opened.blockDown .chandler = true := by
  decide +kernel

/-- A part in operation that asks for sleep after 1 s idle. -/
def idleState : State :=
  { serving with
    ch := { serving.ch with image := { serving.ch.image with cfg := { serving.ch.image.cfg with
      device := { serving.ch.image.cfg.device with sleepPolicy := 2, sleepIdle := 1 } } } }
    slp := { serving.slp with idleAt := some 0 } }

/-- ScrubAndSleepCommandsComplete: SLEEP_IDLE_EXPIRY at the end of the idle second, its request refused and taken, and without
idle time. -/
theorem witness_SleepIdleExpiry :
    (let σ := atEnd (idleState.waitTill idleState.idleDue)
     σ.slp.idleAt = some 0 ∧ (σ.cfg.device.sleepPolicy = 2 && σ.cfg.device.sleepIdle ≠ 0 && 0 + sec σ.cfg.device.sleepIdle ≤ σ.now) = true ∧
       (σ.mode != .ready) = false ∧ σ.sleepRefused = false ∧ ({ σ with sp := { σ.sp with mode := some 0 } } : State).sleepRefused = true) ∧
    (atEnd (serving.waitTill serving.idleDue)).slp.idleAt = none := by decide +kernel

/-- ScrubAndSleepCommandsComplete: SLEEP_ENTRY asked for, with and without a ground to refuse it, and not asked for. -/
theorem witness_SleepEntry :
    (let σ := (inMode .toSleep).opened
     (σ.mode == .toSleep && (σ.lg.flush.isNone || !σ.coreUp .ledger) && !σ.countersWait) = true ∧ σ.sleepRefused = false ∧
       ({ σ with sp := { σ.sp with mode := some 0 } } : State).sleepRefused = true) ∧ (serving.opened.mode == .toSleep) = false := by
  decide +kernel

/-- A part asleep whose alarm is due in 1 s. -/
def sleeping : State := { (inMode .sleep) with slp := { State.reset.slp with wakeEn := 0xFF, alarmAt := some 1000000000 } }

/-- ScrubAndSleepCommandsComplete: WAKE_REQUEST of the first and the last source, and SLP_ALARM_EXPIRY. -/
theorem witness_Wake : ([0, 7] : List (Fin 8)).all (fun src => sleeping.opened.mode == .sleep && natBit sleeping.opened.slp.wakeEn src.val) = true ∧
    (let σ := atEnd (sleeping.waitTill sleeping.alarmDueAt); (σ.mode == .sleep && due σ.now σ.slp.alarmAt) = true) ∧
    (serving.opened.mode == .sleep) = false := by decide +kernel

/-- ScrubAndSleepCommandsComplete: WAKE_SCRUB_PASS without and with a mismatch, which can be repaired or not, and WAKE_COMPLETE. -/
theorem witness_WakeSteps :
    (let s2 : State := { (inMode .wake) with wakeStep := 2 }
     let s3 : State := { (inMode .wake) with wakeStep := 3 }
     let n := s2.opened.ch.image.segments
     (s2.opened.mode == .wake && s2.opened.wakeStep = 2) = true ∧ (([] : List Nat).filter (fun i => i + 1 < n)).isEmpty = true ∧
       ([0].filter (fun i => i + 1 < n)).isEmpty = false ∧ (wakeReread [0] s2.opened).rereadOk = false ∧
       (wakeReread [0] { s2 with ch := { s2.ch with blank := true } }.opened).rereadOk = true ∧
       (s3.opened.mode == .wake && s3.opened.wakeStep = 3) = true) := by decide +kernel

/-- A unit of a pair in operation with its pair link up. -/
def linked : State :=
  { serving with
    ch := { serving.ch with image := { serving.ch.image with cfg := { serving.ch.image.cfg with
      pair := { serving.ch.image.cfg.pair with role := 1 } } } }
    pair := { serving.pair with linkUp := true, role := .standby, unacked := [⟨3, .yield, 1, 0⟩] } }

/-- PairLinkCommandsComplete: the link up, and down and about to come up; a standby, and an active; a CTRL frame unacknowledged
whose wait has ended, tried once. -/
theorem witness_PairLinkCommandsComplete : (linked.opened.pairLinks && linked.opened.pair.linkUp) = true ∧
    (linked.opened.paired && linked.opened.pair.linkUp && linked.opened.running) = true ∧
    (let σ := ({ linked with pair := { linked.pair with linkUp := false } } : State).opened
     (σ.pairLinks && σ.running && !σ.pair.linkUp && !σ.pairOff) = true ∧ (σ.pairLinks && σ.pair.linkUp) = false) ∧
    (judgeStep linked.opened).pair.role = .standby ∧
    (judgeStep ({ linked with pair := { linked.pair with role := .active } } : State).opened).pair.role = .active ∧
    (let σ := atEnd (linked.waitTill (linked.ctrlDue 3))
     σ.pair.unacked.find? (fun (c : CtrlOut) => c.seq == 3) = some ⟨3, .yield, 1, 0⟩ ∧ ¬(σ.now < 0 + us 2) ∧
       σ.pair.unacked.find? (fun (c : CtrlOut) => c.seq == 4) = none) := by decide +kernel

/-- A node with its up port and its first down port UP. -/
def netState : State :=
  { serving with ov := { serving.ov with ports := (serving.ov.ports.upd 0 (fun p => { p with state := .up })).upd 2 (fun p => { p with state := .up }) } }

/-- OvrathClassZeroCommandsComplete: a good frame at an up port and at a down port, at a node, at an acting root and at its end of
15 hops; a bad one; and one at a port that is not UP. -/
theorem witness_OvrathClassZeroCommandsComplete :
    (rx 0 .good netState.opened).1 = true ∧ (rx 2 .good netState.opened).1 = true ∧ (rx 0 .badCrc netState.opened).1 = false ∧
    netState.opened.portUp 2 = true ∧ netState.opened.portUp 3 = false ∧ netState.opened.ov.acting = false ∧
    netState.opened.fromRoot 0 5 = true ∧ netState.opened.fromRoot 2 5 = false ∧
    ({ netState with ov := { netState.ov with acting := true } } : State).opened.ov.acting = true := by decide +kernel

/-- ReadCommandsComplete: the first and the last register of each kind, served in operation, and turned away in reset. -/
theorem witness_ReadCommandsComplete :
    ([0x0204, 0x05F4, 0x0610, 0x08F0, 0x0F44, 0x0FF8, 0x0F08, 0x0F10, 0x1014, 0x0144, 0x1700, 0x177C, 0x1218, 0x1420, 0x8000, 0xBFFE,
      0xC000, 0xFFFE] : List Nat).all (fun a => serving.opened.readsNow a 2 && !State.reset.opened.readsNow a 2) = true := by
  decide +kernel

/-- The end of a request with the right CRC. -/
def goodEnd (cmd tag : Nat) (fields : List Byte) : SpEnd := ⟨none, BitVec.ofNat 16 (crc16 (spCovered cmd tag fields ⟨none, 0⟩))⟩

/-- A part in operation with a session of a mode open. -/
def inSp (m : Option Nat) : State := { serving with sp := { serving.sp with mode := m } }

/-- ServicePortCommandsComplete and ServiceMemoryCommandsComplete: requests of each shape that the port takes, in a session of the
mode they need, in one of another, and in none. -/
theorem witness_ServicePortCommandsComplete :
    ([(1, [0]), (2, []), (0x10, [0, 0, 0, 0, 0, 1, 0]), (0x21, [0, 0, 0, 0, 7]), (0x7F, [])] : List (Nat × List Byte)).all (fun x =>
      (inSp (some 1)).opened.spTakes x.1 9 x.2 (goodEnd x.1 9 x.2)) = true ∧
    ((inSp (some 1)).opened.spTaken 2 9).sp.mode = some 1 ∧ ((inSp (some 0)).opened.spTaken 2 9).sp.mode = some 0 ∧
    ((inSp none).opened.spTaken 2 9).sp.mode = none ∧ ((inSp none).opened.spTaken 2 9).mode ≠ .testWait := by decide +kernel

theorem witness_CommandsDoNotSeeTheQueue : ∃ (c : Instr) (s t : State), exec c s = .next t := ⟨.refClkLoss, State.reset, _, rfl⟩

theorem witness_TheQueueRunsInOrder : State.reset.pending = [] := rfl

theorem witness_TheMemoriesStayCanonical : ∃ s t : State, s.memWf = true ∧ step s = .next t :=
  ⟨memPut 0 4 [0x12] { State.reset with pending := [.refClkLoss] }, _, by decide +kernel, rfl⟩

/-- A command that starts no chip and writes no key. -/
theorem witness_TheStrapsAndTheKeysStay : ∃ (c : Instr) (s t : State), exec c s = .next t ∧ (∀ x, c ≠ .porRelease x) ∧
    (∀ x, c ≠ .resetNRelease x) ∧ (∀ x, c ≠ .cresetRestart x) ∧ ∀ g k n d, c ≠ .spKeyWrite g k n d :=
  ⟨.refClkLoss, State.reset, _, rfl, (fun _ h => by cases h), (fun _ h => by cases h), (fun _ h => by cases h),
    (fun _ _ _ _ h => by cases h)⟩

theorem witness_OtherCommandsLeaveTheMemories : ∃ (c : Instr) (s t : State), mayProgram c = false ∧ exec c s = .next t :=
  ⟨.refClkLoss, State.reset, _, rfl, rfl⟩

/-- A part in operation of which nothing follows. -/
theorem witness_AQuietEffectSettlesAtOnce : (inMode .ready).resetHeld = false ∧ (inMode .ready).quiet = true := by decide +kernel

theorem witness_AnIdleStepPassesOneNanosecond : State.reset.pending = [] := rfl

/-- A window that holds 100 and has recorded 100 and 37. -/
def dupState : State := { State.reset with pair := { State.reset.pair with wins := [⟨5, 7, 100, [100, 37]⟩] } }

/-- The window is found. -/
theorem witness_TheDuplicateWindow :
    dupState.pair.wins.find? (fun x => x.paddr == 5 && x.pairId == 7) = some ⟨5, 7, 100, [100, 37]⟩ := by decide +kernel
/-- The greatest and the least d of the first clause. -/
theorem witness_TheDuplicateWindow_ahead : (101 - 100 : BitVec 16).toNat = 1 ∧ (32867 - 100 : BitVec 16).toNat = 32767 := by decide
/-- The oldest number of the window, recorded. -/
theorem witness_TheDuplicateWindow_recorded :
    ¬(1 ≤ (37 - 100 : BitVec 16).toNat ∧ (37 - 100 : BitVec 16).toNat ≤ 32767) ∧ (100 - 37 : BitVec 16).toNat ≤ 63 ∧ 37 ∈ [100, 37] := by
  decide
/-- A number of the window, not recorded. -/
theorem witness_TheDuplicateWindow_unrecorded :
    ¬(1 ≤ (38 - 100 : BitVec 16).toNat ∧ (38 - 100 : BitVec 16).toNat ≤ 32767) ∧ (100 - 38 : BitVec 16).toNat ≤ 63 ∧ 38 ∉ [100, 37] := by
  decide
/-- The youngest number that is older than the window. -/
theorem witness_TheDuplicateWindow_older :
    ¬(1 ≤ (36 - 100 : BitVec 16).toNat ∧ (36 - 100 : BitVec 16).toNat ≤ 32767) ∧ 63 < (100 - 36 : BitVec 16).toNat := by decide

/-- A host path armed 1 ms ago. -/
def armedState : State :=
  { State.reset with now := 1000000, glb := { State.reset.glb with lockHost := { armed := true, armedAt := 0 } } }

/-- A write of 0, and a key on a path that holds none: the first and the last clause of the sequence. -/
theorem witness_TheUnlockSequence : (State.reset.lockPath .host).who = pathWho .host ∧ (0 : BitVec 16) = 0 ∧
    (State.reset.lockPath .host).armed = false ∧ (0x7720 : BitVec 16).toNat = 0x7720 := by decide +kernel
/-- KEY2 at the end of the millisecond, and KEY1 where KEY2 is expected. -/
theorem witness_TheUnlockSequence_armed : (armedState.lockPath .host).who = pathWho .host ∧
    (armedState.lockPath .host).armed = true ∧ armedState.now ≤ (armedState.lockPath .host).armedAt + 1000000 ∧
    (0x88DF : BitVec 16).toNat = 0x88DF ∧ (0x7720 : BitVec 16) ≠ 0 ∧ (0x7720 : BitVec 16).toNat ≠ 0x88DF := by decide +kernel
/-- The end of the millisecond on each path, and another register. -/
theorem witness_TheUnlockSequence_disarm : armedState.glb.lockHost.armed = true ∧
    armedState.glb.lockHost.armedAt + 1000000 ≤ armedState.now ∧ (0x0018 : Nat) ≠ 0x0014 ∧
    (∃ s : State, s.glb.lockOv.armed = true ∧ s.glb.lockOv.armedAt + 1000000 ≤ s.now) :=
  ⟨rfl, by decide +kernel, by decide, { armedState with glb := { armedState.glb with lockOv := { armed := true, armedAt := 0 } } }, rfl,
    by decide +kernel⟩

/-- A level of the thermal block, on a path not open, written with other bits. -/
theorem witness_TrimWritesNeedTheUnlock : (inMode .ready).openFor .host = false ∧ rwpMask 0x0F24 ≠ 0 ∧
    (inMode .ready).rwpHere 0x0F24 = true ∧ (inMode .ready).passive = false ∧ (inMode .ready).openFor (.ovrath 9) = false ∧
    (inMode .ready).rwpDiffers 0x0F24 1234 = true := by decide +kernel

theorem witness_TheCodecStaysWithinE : ∀ x ∈ [0, 4095, 2103], x ≤ 4095 := by decide
theorem witness_ABlockFits432Bits : (List.replicate 32 4095).length = 32 ∧ 13 ≤ 13 := by decide
theorem witness_ProgramAndEraseWriteTheirCells : 1 < 2 ∧ State.reset.memWf = true := by decide +kernel
/-- A target that is not there in its start, and one in reset. -/
theorem witness_AnUnansweredHostIsCounted : (inMode .start).hostAcks = false ∧ (inMode .start).mode ≠ .por ∧ (inMode .start).mode ≠ .creset ∧
    (inMode .start).mode ≠ .held ∧ State.reset.hostAcks = false ∧ State.reset.mode = .por := by decide +kernel
/-- A reset of 1 us in operation; no proof window, and one open. -/
theorem witness_TheTalliesSaturateAndClear : 1000 ≤ 1000 ∧ (inMode .ready).mode ≠ .por ∧ State.reset.upd.proof = none ∧
    (∃ s : State, s.upd.proof ≠ none) :=
  ⟨Nat.le_refl _, by decide +kernel, rfl, { State.reset with upd := { State.reset.upd with proof := some ⟨1, 0, none, false, 0, [], false, false⟩ } }, by
    intro h; cases h⟩

end Sys2Proof.Machine
end

/-! The duplicate window (R267): the window that a pair identifier has after another was put in its place, what `dupAccept`
answers where the pair identifier has a window, and the obligation assembled from them. -/
namespace Sys2Proof.Machine

/-! ### The windows of a state -/

/-- The window that a state holds for a pair identifier. -/
def State.winOf (s : State) (paddr pairId : Nat) : Option DupWin :=
  s.pair.wins.find? (fun x => x.paddr == paddr && x.pairId == pairId)

/-- The state with one window in another's place. -/
def State.replaceWin (s : State) (w v : DupWin) : State :=
  s.updPair (fun p => { p with wins := p.wins.map (fun x => if x == w then v else x) })

/-- In place of what a search finds, put another element that the search accepts: it finds that one. -/
theorem find?_map_replace {α : Type} [DecidableEq α] {p : α → Bool} {l : List α} {a b : α} (ha : l.find? p = some a)
    (hb : p b = true) : (l.map (fun x => if x == a then b else x)).find? p = some b := by
  have hkeep : p ∘ (fun x => if x == a then b else x) = p := by
    funext x
    by_cases hx : x = a
    · simp [hx, hb, List.find?_some ha]
    · simp [hx]
  rw [List.find?_map, hkeep, ha, Option.map_some, if_pos (beq_self_eq_true a)]

/-- A window put in its place is found, as long as it is of the same pair identifier. -/
theorem State.winOf_replaceWin {s : State} {paddr pairId : Nat} {w v : DupWin} (hw : s.winOf paddr pairId = some w)
    (hp : v.paddr = w.paddr) (hi : v.pairId = w.pairId) : (s.replaceWin w v).winOf paddr pairId = some v := by
  unfold State.winOf at hw
  have hkey := List.find?_some hw
  exact find?_map_replace hw (by rw [hp, hi]; exact hkey)

/-! ### The judgement of a number -/

/-- The distance of two sequence numbers as the model computes it, modulo 65,536, is the difference of the words. -/
theorem seqDistance_eq_toNat_sub (a b : BitVec 16) : (a.toNat + 65536 - b.toNat) % 65536 = (a - b).toNat := by
  rw [BitVec.toNat_sub]
  omega

/-- The record of the window that has moved up to N: N, and what was recorded of the 63 numbers before it. -/
theorem mem_movedRecord (n m : BitVec 16) (seen : List Nat) :
    m.toNat ∈ n.toNat :: seen.filter (fun k => (n.toNat + 65536 - k) % 65536 < 64) ↔
      m = n ∨ m.toNat ∈ seen ∧ (n - m).toNat ≤ 63 := by
  simp [BitVec.toNat_inj, seqDistance_eq_toNat_sub, Nat.lt_succ_iff]

/-- The judgement of R267 in the distances of the words, for a pair identifier whose window is held. -/
theorem dupAccept_eq {paddr pairId : Nat} {n h : BitVec 16} {s : State} {w : DupWin} (hh : w.high = h.toNat)
    (hw : s.winOf paddr pairId = some w) :
    dupAccept paddr pairId n.toNat s =
      if 1 ≤ (n - h).toNat ∧ (n - h).toNat ≤ 32767 then
        (true, s.replaceWin w
          { w with high := n.toNat, seen := n.toNat :: w.seen.filter (fun k => (n.toNat + 65536 - k) % 65536 < 64) })
      else if (h - n).toNat ≤ 63 ∧ n.toNat ∉ w.seen then (true, s.replaceWin w { w with seen := n.toNat :: w.seen })
      else (false, addTally 18 1 s) := by
  unfold State.winOf at hw
  simp only [dupAccept, hw, hh, seqDistance_eq_toNat_sub, Bool.and_eq_true, decide_eq_true_eq, Bool.not_eq_true',
    List.contains_eq_mem, decide_eq_false_iff_not, Nat.lt_succ_iff]
  rfl

/-- Settles O52: each clause is one branch of the judgement. -/
theorem theDuplicateWindow : Obligations.TheDuplicateWindow := by
  intro paddr pairId n h s w hh hw
  refine ⟨fun h1 h2 => ?ahead, fun hd _ hn => ?recorded, fun hd hback hn => ?unrecorded, fun hd hback => ?older⟩
  case ahead =>
    rw [dupAccept_eq hh hw, if_pos ⟨h1, h2⟩]
    exact ⟨rfl, rfl, _, State.winOf_replaceWin hw rfl rfl, rfl, fun m => mem_movedRecord n m w.seen⟩
  case recorded => rw [dupAccept_eq hh hw, if_neg hd, if_neg (fun hfresh => hfresh.2 hn)]
  case unrecorded =>
    rw [dupAccept_eq hh hw, if_neg hd, if_pos ⟨hback, hn⟩]
    exact ⟨rfl, rfl, _, State.winOf_replaceWin hw rfl rfl, hh, fun m => by simp [BitVec.toNat_inj]⟩
  case older => rw [dupAccept_eq hh hw, if_neg hd, if_neg (fun hfresh => Nat.not_le.mpr hback hfresh.1)]

end Sys2Proof.Machine

/-! Every command as one of three ways of carrying out an effect, with what that effect keeps: the table `exec_means`, from
which the statements about every command follow. -/
namespace Sys2Proof.Machine

/-! ### What an effect keeps -/

/-- The effect leaves both external memories as they were. -/
def KeepsDevices (f : State → State) : Prop := ∀ t : State, (f t).ch.dev0 = t.ch.dev0 ∧ (f t).ch.dev1 = t.ch.dev1

/-- The effect keeps the external memories in canonical form. -/
def KeepsCanonical (f : State → State) : Prop :=
  ∀ t : State, cellsWf t.ch.dev0 = true ∧ cellsWf t.ch.dev1 = true → cellsWf (f t).ch.dev0 = true ∧ cellsWf (f t).ch.dev1 = true

/-- The effect leaves the latched straps and the key slots as they were. -/
def KeepsFixed (f : State → State) : Prop := ∀ t : State, (f t).glb.straps = t.glb.straps ∧ (f t).upd.keys = t.upd.keys

theorem KeepsDevices.canonical {f : State → State} (hf : KeepsDevices f) : KeepsCanonical f := fun t ht => by
  rw [(hf t).1, (hf t).2]
  exact ht

theorem KeepsDevices.comp {f g : State → State} (hg : KeepsDevices g) (hf : KeepsDevices f) : KeepsDevices (fun t => g (f t)) :=
  fun t => ⟨(hg (f t)).1.trans (hf t).1, (hg (f t)).2.trans (hf t).2⟩

theorem KeepsCanonical.comp {f g : State → State} (hg : KeepsCanonical g) (hf : KeepsCanonical f) :
    KeepsCanonical (fun t => g (f t)) := fun t ht => hg (f t) (hf t ht)

theorem KeepsFixed.comp {f g : State → State} (hg : KeepsFixed g) (hf : KeepsFixed f) : KeepsFixed (fun t => g (f t)) :=
  fun t => ⟨(hg (f t)).1.trans (hf t).1, (hg (f t)).2.trans (hf t).2⟩

/-! ### How an effect is carried out -/

/-- A function of the state that does not look at the commands that wait. -/
def QueueBlind {α : Type} (d : State → α) : Prop := ∀ (l : List Instr) (s : State), d { s with pending := l } = d s

/-- What a command at the end of a wait waits for (log entry 11). -/
inductive Wait : (State → State) → Prop where
  | till (d : State → Option Nat) (hd : QueueBlind d) : Wait (fun s => s.waitTill (d s))
  | global (d : State → Option Nat) (hd : QueueBlind d) : Wait (fun s => s.waitGlobal (d s))
  | loss : Wait lossWait
  | sched : Wait State.schedWait

/-- A wait leaves the commands that wait. -/
theorem Wait.pending {w : State → State} (hw : Wait w) (s : State) : (w s).pending = s.pending := by
  cases hw with
  | till d => exact State.waitTill_pending s (d s)
  | global d => exact State.waitGlobal_pending s (d s)
  | loss => exact lossWait_pending s
  | sched => exact State.schedWait_pending s

/-- A wait does not see the commands that wait. -/
theorem Wait.blind {w : State → State} (hw : Wait w) (l : List Instr) (s : State) :
    w { s with pending := l } = { w s with pending := l } := by
  cases hw with
  | till d hd => exact (congrArg (State.waitTill _) (hd l s)).trans (State.waitTill_blind (d s) l s)
  | global d hd => exact (congrArg (State.waitGlobal _) (hd l s)).trans (State.waitGlobal_blind (d s) l s)
  | loss => exact lossWait_blind l s
  | sched => exact State.schedWait_blind l s

theorem Wait.devices {w : State → State} (hw : Wait w) : KeepsDevices w := by
  cases hw with
  | till d => exact fun s => State.waitTill_dev s (d s)
  | global d => exact fun s => State.waitGlobal_dev s (d s)
  | loss => exact lossWait_dev
  | sched => exact State.schedWait_dev

theorem Wait.fixed {w : State → State} (hw : Wait w) : KeepsFixed w := by
  cases hw with
  | till d => exact fun s => State.waitTill_fix s (d s)
  | global d => exact fun s => State.waitGlobal_fix s (d s)
  | loss => exact lossWait_fix
  | sched => exact State.schedWait_fix

/-- The command `c` carries out the effect `f`: at once, at the end of a wait, or at a tick of the lamplighter. -/
inductive Carries (c : Instr) (f : State → State) : Prop where
  | now (h : ∀ s, exec c s = run f s)
  | after {w : State → State} (hw : Wait w) (h : ∀ s, exec c s = runAfter w f s)
  | tick {d : State → Option Nat} (hd : QueueBlind d) (h : ∀ s, exec c s = runTick d f s)

/-- The commands that start the chip, and so sample the straps (R56). -/
def startsChip : Instr → Bool
  | .porRelease _ | .resetNRelease _ | .cresetRestart _ => true
  | _ => false

/-- The command that writes a key slot (R366). -/
def writesKey : Instr → Bool
  | .spKeyWrite _ _ _ _ => true
  | _ => false

/-- The effect `f` that the command `c` carries out, with what it keeps. -/
structure Means (c : Instr) (f : State → State) : Prop where
  carries : Carries c f
  canonical : KeepsCanonical f
  straps : startsChip c = false → ∀ t : State, (f t).glb.straps = t.glb.straps
  keys : writesKey c = false → ∀ t : State, (f t).upd.keys = t.upd.keys

/-! ### What is carried out, in the terms of the statements -/

theorem run_did (f : State → State) (s : State) : run f s = .next (s.did f) := rfl

theorem runAfter_afterWait (w f : State → State) (s : State) : runAfter w f s = .next (s.afterWait w f) := rfl

theorem runAfter_waited (d : State → Option Nat) (f : State → State) (s : State) :
    runAfter (fun s => s.waitTill (d s)) f s = .next (s.waited (d s) f) := rfl

theorem runAfter_waitedGlobal (d : State → Option Nat) (f : State → State) (s : State) :
    runAfter (fun s => s.waitGlobal (d s)) f s = .next (s.waitedGlobal (d s) f) := rfl

theorem runTick_ticked (d : State → Option Nat) (f : State → State) (s : State) :
    runTick d f s = .next (s.ticked (d s) f) := rfl

/-! ### The rules of the table -/

section Rules
variable {c : Instr} {f : State → State}

theorem Carries.means (hc : Carries c f) (hm : KeepsCanonical f) (hf : KeepsFixed f) : ∃ f, Means c f :=
  ⟨f, hc, hm, fun _ t => (hf t).1, fun _ t => (hf t).2⟩

theorem means_now (h : ∀ s, exec c s = run f s) (hm : KeepsCanonical f) (hf : KeepsFixed f) : ∃ f, Means c f :=
  (Carries.now h).means hm hf

theorem means_now_dev (h : ∀ s, exec c s = run f s) (hd : KeepsDevices f) (hf : KeepsFixed f) : ∃ f, Means c f :=
  means_now h hd.canonical hf

theorem means_till {d : State → Option Nat} (h : ∀ s, exec c s = runAfter (fun s => s.waitTill (d s)) f s) (hb : QueueBlind d)
    (hm : KeepsCanonical f) (hf : KeepsFixed f) : ∃ f, Means c f :=
  (Carries.after (.till d hb) h).means hm hf

theorem means_till_dev {d : State → Option Nat} (h : ∀ s, exec c s = runAfter (fun s => s.waitTill (d s)) f s)
    (hb : QueueBlind d) (hd : KeepsDevices f) (hf : KeepsFixed f) : ∃ f, Means c f :=
  means_till h hb hd.canonical hf

theorem means_global_dev {d : State → Option Nat} (h : ∀ s, exec c s = runAfter (fun s => s.waitGlobal (d s)) f s)
    (hb : QueueBlind d) (hd : KeepsDevices f) (hf : KeepsFixed f) : ∃ f, Means c f :=
  (Carries.after (.global d hb) h).means hd.canonical hf

theorem means_tick_dev {d : State → Option Nat} (h : ∀ s, exec c s = runTick d f s) (hb : QueueBlind d) (hd : KeepsDevices f)
    (hf : KeepsFixed f) : ∃ f, Means c f :=
  (Carries.tick hb h).means hd.canonical hf

end Rules

/-! ### The requests of the service port -/

/-- A request keeps what its action keeps of the straps: taking it and answering it write neither. -/
theorem spRequest_straps {cmd tag : Nat} {fields : List Byte} {q : SpEnd} {act : SpAct}
    (hact : ∀ t : State, (act t).2.2.glb.straps = t.glb.straps) (s : State) :
    (spRequest cmd tag fields q act s).glb.straps = s.glb.straps := by
  have hjudge : ∀ t : State, (spJudge q act t).2.2.glb.straps = t.glb.straps := by
    intro t
    unfold spJudge
    dsimp only
    split
    · exact hact t
    · rfl
  unfold spRequest
  dsimp only
  split
  · rfl
  · split
    · split <;> simp
    · split
      · simp
      · rw [(spAnswer_fix ..).1, hjudge]
        simp

theorem inSession_fix {modes : List Nat} {act : SpAct}
    (hact : ∀ t : State, (act t).2.2.glb.straps = t.glb.straps ∧ (act t).2.2.upd.keys = t.upd.keys) (s : State) :
    (inSession modes act s).2.2.glb.straps = s.glb.straps ∧ (inSession modes act s).2.2.upd.keys = s.upd.keys := by
  unfold inSession
  split
  · exact ⟨rfl, rfl⟩
  · split
    · exact hact s
    · exact ⟨rfl, rfl⟩

theorem inSession_dev {modes : List Nat} {act : SpAct}
    (hact : ∀ t : State, (act t).2.2.ch.dev0 = t.ch.dev0 ∧ (act t).2.2.ch.dev1 = t.ch.dev1) (s : State) :
    (inSession modes act s).2.2.ch.dev0 = s.ch.dev0 ∧ (inSession modes act s).2.2.ch.dev1 = s.ch.dev1 := by
  unfold inSession
  split
  · exact ⟨rfl, rfl⟩
  · split
    · exact hact s
    · exact ⟨rfl, rfl⟩

theorem spUpdate_fix {f : State → Nat × State}
    (hf : ∀ t : State, (f t).2.glb.straps = t.glb.straps ∧ (f t).2.upd.keys = t.upd.keys) (s : State) :
    (spUpdate f s).2.2.glb.straps = s.glb.straps ∧ (spUpdate f s).2.2.upd.keys = s.upd.keys := by
  unfold spUpdate
  split
  · rw [(spTry_fix _).1, (spTry_fix _).2]
    exact hf s
  · simp

theorem spOpenDo_dev (mode : Nat) (s : State) :
    (spOpenDo mode s).2.2.ch.dev0 = s.ch.dev0 ∧ (spOpenDo mode s).2.2.ch.dev1 = s.ch.dev1 := by
  unfold spOpenDo
  dsimp only
  repeat' split
  all_goals simp

theorem spOpenDo_fix (mode : Nat) (s : State) :
    (spOpenDo mode s).2.2.glb.straps = s.glb.straps ∧ (spOpenDo mode s).2.2.upd.keys = s.upd.keys := by
  unfold spOpenDo
  dsimp only
  repeat' split
  all_goals simp

theorem spCloseDo_dev (s : State) : (spCloseDo s).2.2.ch.dev0 = s.ch.dev0 ∧ (spCloseDo s).2.2.ch.dev1 = s.ch.dev1 :=
  inSession_dev (fun t => closeSession_dev t) s

theorem spCloseDo_fix (s : State) :
    (spCloseDo s).2.2.glb.straps = s.glb.straps ∧ (spCloseDo s).2.2.upd.keys = s.upd.keys :=
  inSession_fix (fun t => closeSession_fix t) s

theorem spInfoDo_dev (s : State) : (spInfoDo s).2.2.ch.dev0 = s.ch.dev0 ∧ (spInfoDo s).2.2.ch.dev1 = s.ch.dev1 :=
  inSession_dev (fun _ => ⟨rfl, rfl⟩) s

theorem spInfoDo_fix (s : State) :
    (spInfoDo s).2.2.glb.straps = s.glb.straps ∧ (spInfoDo s).2.2.upd.keys = s.upd.keys :=
  inSession_fix (fun _ => ⟨rfl, rfl⟩) s

theorem spReadDo_dev (space ofs count : Nat) (s : State) :
    (spReadDo space ofs count s).2.2.ch.dev0 = s.ch.dev0 ∧ (spReadDo space ofs count s).2.2.ch.dev1 = s.ch.dev1 := by
  refine inSession_dev (fun t => ?_) s
  repeat' split
  all_goals simp

theorem spReadDo_fix (space ofs count : Nat) (s : State) :
    (spReadDo space ofs count s).2.2.glb.straps = s.glb.straps ∧ (spReadDo space ofs count s).2.2.upd.keys = s.upd.keys := by
  refine inSession_fix (fun t => ?_) s
  repeat' split
  all_goals simp

theorem spMemReadDo_dev (dev ofs count : Nat) (s : State) :
    (spMemReadDo dev ofs count s).2.2.ch.dev0 = s.ch.dev0 ∧ (spMemReadDo dev ofs count s).2.2.ch.dev1 = s.ch.dev1 := by
  refine inSession_dev (fun t => ?_) s
  repeat' split
  all_goals simp

theorem spMemReadDo_fix (dev ofs count : Nat) (s : State) :
    (spMemReadDo dev ofs count s).2.2.glb.straps = s.glb.straps ∧ (spMemReadDo dev ofs count s).2.2.upd.keys = s.upd.keys := by
  refine inSession_fix (fun t => ?_) s
  repeat' split
  all_goals simp

theorem testChallengeDo_dev (s : State) :
    (testChallengeDo s).2.2.ch.dev0 = s.ch.dev0 ∧ (testChallengeDo s).2.2.ch.dev1 = s.ch.dev1 := by
  unfold testChallengeDo
  split <;> simp

theorem testChallengeDo_fix (s : State) :
    (testChallengeDo s).2.2.glb.straps = s.glb.straps ∧ (testChallengeDo s).2.2.upd.keys = s.upd.keys := by
  unfold testChallengeDo
  split <;> simp

/-- TEST_ENTER changes nothing but the mode and what the challenge leaves. -/
theorem testEnterDo_eq (auth : List Byte) (s : State) :
    ∃ (m : Mode) (e : EventS), (testEnterDo auth s).2.2 = { s with mode := m, ev := e } := by
  unfold testEnterDo
  dsimp only
  repeat' split
  all_goals exact ⟨_, _, rfl⟩

theorem testEnterDo_dev (auth : List Byte) (s : State) :
    (testEnterDo auth s).2.2.ch.dev0 = s.ch.dev0 ∧ (testEnterDo auth s).2.2.ch.dev1 = s.ch.dev1 := by
  obtain ⟨m, e, h⟩ := testEnterDo_eq auth s
  rw [h]
  exact ⟨rfl, rfl⟩

theorem testEnterDo_fix (auth : List Byte) (s : State) :
    (testEnterDo auth s).2.2.glb.straps = s.glb.straps ∧ (testEnterDo auth s).2.2.upd.keys = s.upd.keys := by
  obtain ⟨m, e, h⟩ := testEnterDo_eq auth s
  rw [h]
  exact ⟨rfl, rfl⟩

theorem spStageBeginDo_fix (h : List Byte) (s : State) :
    (spStageBeginDo h s).2.2.glb.straps = s.glb.straps ∧ (spStageBeginDo h s).2.2.upd.keys = s.upd.keys := by
  refine inSession_fix (fun t => ?_) s
  split
  · exact ⟨rfl, rfl⟩
  · split
    · exact spUpdate_fix (fun _ => ⟨rfl, rfl⟩) t
    · dsimp only
      rw [(spPending_fix _).1, (spPending_fix _).2]
      split
      · rw [(spTry_fix _).1, (spTry_fix _).2]
        exact stageBegin_fix h false t
      · exact stageBegin_fix h false t

theorem spStageDataDo_fix (ofs : Nat) (data : List Byte) (s : State) :
    (spStageDataDo ofs data s).2.2.glb.straps = s.glb.straps ∧ (spStageDataDo ofs data s).2.2.upd.keys = s.upd.keys := by
  refine inSession_fix (fun t => ?_) s
  split
  · exact ⟨rfl, rfl⟩
  · split
    · exact spUpdate_fix (fun _ => ⟨rfl, rfl⟩) t
    · dsimp only
      rw [(spPending_fix _).1, (spPending_fix _).2]
      exact stageData_fix ofs data false t

theorem spAbortDo_fix (s : State) :
    (spAbortDo s).2.2.glb.straps = s.glb.straps ∧ (spAbortDo s).2.2.upd.keys = s.upd.keys := by
  refine inSession_fix (spUpdate_fix (fun t => ?_)) s
  repeat' split
  all_goals simp

theorem spActivateDo_fix (imgId confirm at_ : Nat) (s : State) :
    (spActivateDo imgId confirm at_ s).2.2.glb.straps = s.glb.straps ∧
      (spActivateDo imgId confirm at_ s).2.2.upd.keys = s.upd.keys := by
  refine inSession_fix (fun t => ?_) s
  split
  · exact ⟨rfl, rfl⟩
  · refine spUpdate_fix (fun u => ?_) t
    split
    · exact activateNow_fix imgId confirm u
    · split
      · simp
      · exact scheduleAt_fix _ u

theorem spCancelDo_fix (s : State) :
    (spCancelDo s).2.2.glb.straps = s.glb.straps ∧ (spCancelDo s).2.2.upd.keys = s.upd.keys :=
  inSession_fix (spUpdate_fix (fun t => cancelNow_fix t)) s

theorem spRevertDo_fix (kind : Nat) (s : State) :
    (spRevertDo kind s).2.2.glb.straps = s.glb.straps ∧ (spRevertDo kind s).2.2.upd.keys = s.upd.keys := by
  refine inSession_fix (fun t => ?_) s
  split
  · exact spUpdate_fix (fun u => revertPat_fix u) t
  · split
    · exact spUpdate_fix (fun u => revertFw_fix u) t
    · exact ⟨rfl, rfl⟩

theorem spConfirmDo_fix (s : State) :
    (spConfirmDo s).2.2.glb.straps = s.glb.straps ∧ (spConfirmDo s).2.2.upd.keys = s.upd.keys :=
  inSession_fix (spUpdate_fix (fun t => confirmProof_fix t)) s

theorem spEraseDo_fix (dev ofs : Nat) (s : State) :
    (spEraseDo dev ofs s).2.2.glb.straps = s.glb.straps ∧ (spEraseDo dev ofs s).2.2.upd.keys = s.upd.keys := by
  refine inSession_fix (fun t => ?_) s
  split
  · exact ⟨rfl, rfl⟩
  · rw [(spPending_fix _).1, (spPending_fix _).2]
    exact memBegin_fix _ t

theorem spWriteDo_fix (dev ofs : Nat) (data : List Byte) (s : State) :
    (spWriteDo dev ofs data s).2.2.glb.straps = s.glb.straps ∧ (spWriteDo dev ofs data s).2.2.upd.keys = s.upd.keys := by
  refine inSession_fix (fun t => ?_) s
  split
  · exact ⟨rfl, rfl⟩
  · rw [(spPending_fix _).1, (spPending_fix _).2]
    exact memBegin_fix _ t

/-- KEY_WRITE changes nothing but the key slots. -/
theorem spKeyDo_eq (slot : Nat) (key : List Byte) (s : State) :
    ∃ keys, (spKeyDo slot key s).2.2 = s.updUpd (fun u => { u with keys := keys }) := by
  unfold spKeyDo inSession
  dsimp only
  repeat' split
  all_goals exact ⟨_, rfl⟩

theorem spKeyDo_dev (slot : Nat) (key : List Byte) (s : State) :
    (spKeyDo slot key s).2.2.ch.dev0 = s.ch.dev0 ∧ (spKeyDo slot key s).2.2.ch.dev1 = s.ch.dev1 := by
  obtain ⟨keys, hkeys⟩ := spKeyDo_eq slot key s
  simp [hkeys]

theorem spKeyDo_straps (slot : Nat) (key : List Byte) (s : State) :
    (spKeyDo slot key s).2.2.glb.straps = s.glb.straps := by
  obtain ⟨keys, hkeys⟩ := spKeyDo_eq slot key s
  simp [hkeys]

section Requests
variable {c : Instr} {cmd tag : Nat} {fields : List Byte} {q : SpEnd} {act : SpAct}

theorem means_request (h : ∀ s, exec c s = run (spRequest cmd tag fields q act) s)
    (hm : ∀ t : State, cellsWf t.ch.dev0 = true ∧ cellsWf t.ch.dev1 = true →
      cellsWf (act t).2.2.ch.dev0 = true ∧ cellsWf (act t).2.2.ch.dev1 = true)
    (hf : ∀ t : State, (act t).2.2.glb.straps = t.glb.straps ∧ (act t).2.2.upd.keys = t.upd.keys) : ∃ f, Means c f :=
  means_now h (fun t => spRequest_wf cmd tag fields q act t hm) (fun t => spRequest_fix cmd tag fields q act t hf)

theorem means_request_dev (h : ∀ s, exec c s = run (spRequest cmd tag fields q act) s)
    (hd : ∀ t : State, (act t).2.2.ch.dev0 = t.ch.dev0 ∧ (act t).2.2.ch.dev1 = t.ch.dev1)
    (hf : ∀ t : State, (act t).2.2.glb.straps = t.glb.straps ∧ (act t).2.2.upd.keys = t.upd.keys) : ∃ f, Means c f :=
  means_now_dev h (fun t => spRequest_dev cmd tag fields q act t hd) (fun t => spRequest_fix cmd tag fields q act t hf)

end Requests

/-! ### The commands that start the chip -/

theorem porReleased_keys (straps : Straps) (s : State) : (porReleased straps s).upd.keys = s.upd.keys := by
  unfold porReleased
  split
  · rfl
  · split <;> rfl

theorem resetReleased_keys (straps : Straps) (s : State) : (resetReleased straps s).upd.keys = s.upd.keys := by
  unfold resetReleased
  dsimp only
  split <;> rfl

theorem cresetRestarted_keys (straps : Straps) (s : State) : (cresetRestarted straps s).upd.keys = s.upd.keys := by
  unfold cresetRestarted
  split
  · calc (beginStart straps (chipReset true true true .start (lgsDone true s))).upd.keys
        = (chipReset true true true .start (lgsDone true s)).upd.keys := rfl
      _ = (lgsDone true s).upd.keys := (chipReset_fix ..).2
      _ = s.upd.keys := (lgsDone_fix true s).2
  · rfl

/-! ### The frames of the twin -/

section Frames
variable {c : Instr} {crcOk : Bool} {seq : BitVec 8} {f : State → State}

theorem means_pair (h : ∀ s, exec c s = run (onPair crcOk f) s) (hm : KeepsCanonical f) (hf : KeepsFixed f) : ∃ f, Means c f :=
  means_now h (fun t => onPair_wf crcOk f t hm) (fun t => onPair_fix crcOk f t hf)

theorem means_pair_dev (h : ∀ s, exec c s = run (onPair crcOk f) s) (hd : KeepsDevices f) (hf : KeepsFixed f) :
    ∃ f, Means c f :=
  means_pair h hd.canonical hf

theorem means_ctrl (h : ∀ s, exec c s = run (onCtrl crcOk seq f) s) (hm : KeepsCanonical f) (hf : KeepsFixed f) :
    ∃ f, Means c f :=
  means_now h (fun t => onCtrl_wf crcOk seq f t hm) (fun t => onCtrl_fix crcOk seq f t hf)

theorem means_ctrl_dev (h : ∀ s, exec c s = run (onCtrl crcOk seq f) s) (hd : KeepsDevices f) (hf : KeepsFixed f) :
    ∃ f, Means c f :=
  means_ctrl h hd.canonical hf

theorem means_follow_dev (h : ∀ s, exec c s = run (onFollow crcOk seq f) s) (hd : KeepsDevices f) (hf : KeepsFixed f) :
    ∃ f, Means c f :=
  means_now_dev h (fun t => onFollow_dev crcOk seq f t hd) (fun t => onFollow_fix crcOk seq f t hf)

end Frames

/-- What an ENUM frame does keeps the memories canonical, and the straps and the keys (R285). -/
theorem means_enum (k : Fin 6) (e : FrameEnd) (h : OvHdr) : ∃ f, Means (.ovEnum k e h) f := by
  refine means_now (exec_ovEnum k e h) (fun t ht => onGood_wf k e _ t (fun u hu => ?_) ht) (fun t => onGood_fix k e _ t (fun u => ?_))
  · refine takeMsg_wf k 1 h _ _ ?_
    split
    · rw [(cNDown_dev ..).1, (cNDown_dev ..).2]
      exact hu
    · exact hu
  · rw [(takeMsg_fix ..).1, (takeMsg_fix ..).2]
    split
    · exact cNDown_fix ..
    · exact ⟨rfl, rfl⟩

/-! ### Every command -/

/-- Every command is one of the ways to carry out an effect, and every effect keeps the memories canonical, and the straps and
the keys but for those of the commands that say so. -/
theorem exec_means (c : Instr) : ∃ f, Means c f := by
  cases c with
  | handshakeStall => exact means_now_dev exec_handshakeStall handshakeStalled_dev handshakeStalled_fix
  | pllLockLoss =>
    exact means_now_dev exec_pllLockLoss (KeepsDevices.comp holdFollow_dev pllLost_dev) (KeepsFixed.comp holdFollow_fix
      pllLost_fix)
  | pllLockAcquired => exact means_now_dev exec_pllLockAcquired pllAcquired_dev pllAcquired_fix
  | refClkLoss => exact means_now_dev exec_refClkLoss refLost_dev refLost_fix
  | refClkReturn => exact means_now_dev exec_refClkReturn refBack_dev refBack_fix
  | refClkHoldoverExpiry =>
    exact means_till_dev exec_refClkHoldoverExpiry (fun _ _ => rfl) (KeepsDevices.comp holdFollow_dev refHoldEnd_dev)
      (KeepsFixed.comp holdFollow_fix refHoldEnd_fix)
  | cdcAcceptFailure => exact means_now_dev exec_cdcAcceptFailure cdcRejected_dev cdcRejected_fix
  | cdcToggleAck l => exact means_now_dev (exec_cdcToggleAck l) (toggleAck_dev l) (toggleAck_fix l)
  | islandRestartDone i => exact means_now_dev (exec_islandRestartDone i) (islandUp_dev i) (islandUp_fix i)
  | coreWatchdogExpiry c => exact means_now_dev (exec_coreWatchdogExpiry c) (coreWatchdog_dev c) (coreWatchdog_fix c)
  | coreRestartDone c selfTestOk =>
    exact means_now (exec_coreRestartDone c selfTestOk) (KeepsCanonical.comp serveWaiting_wf (coreRestarted_wf c selfTestOk))
      (KeepsFixed.comp serveWaiting_fix (coreRestarted_fix c selfTestOk))
  | porAssert k => exact means_now (exec_porAssert k) (porAsserted_wf k) (porAsserted_fix k)
  | porRelease straps =>
    exact ⟨_, .now (exec_porRelease straps), KeepsDevices.canonical (porReleased_dev straps), nofun,
      fun _ => porReleased_keys straps⟩
  | resetNAssert lowNs => exact means_now (exec_resetNAssert lowNs) (resetAsserted_wf lowNs) (resetAsserted_fix lowNs)
  | resetNRelease straps =>
    exact ⟨_, .now (exec_resetNRelease straps), KeepsDevices.canonical (resetReleased_dev straps), nofun,
      fun _ => resetReleased_keys straps⟩
  | layoutDirectoryRead => exact means_now_dev exec_layoutDirectoryRead readLayout_dev readLayout_fix
  | patternCandidateCheck => exact means_now_dev exec_patternCandidateCheck patternChecked_dev patternChecked_fix
  | patternApply => exact means_now exec_patternApply patternApplied_wf patternApplied_fix
  | coreImageCheck => exact means_now_dev exec_coreImageCheck coresChecked_dev coresChecked_fix
  | coreStart supOk ledOk lnkOk =>
    exact means_now (exec_coreStart supOk ledOk lnkOk) (coresStart_wf supOk ledOk lnkOk) (coresStart_fix supOk ledOk lnkOk)
  | settingsStoreRead copy =>
    exact means_now (exec_settingsStoreRead copy) (settingsRead_wf copy.readable copy.migrates) (settingsRead_fix
      copy.readable copy.migrates)
  | ready => exact means_now exec_ready readyNow_wf readyNow_fix
  | feedQualified f => exact means_till_dev (exec_feedQualified f) (fun _ _ => rfl) (feedQual_dev f) (feedQual_fix f)
  | inputQualifyRestart i => exact means_now_dev (exec_inputQualifyRestart i) (qualifyRestart_dev i) (qualifyRestart_fix i)
  | feedAbsent f => exact means_now_dev (exec_feedAbsent f) (feedGone_dev f) (feedGone_fix f)
  | feedGateOff f => exact means_now_dev (exec_feedGateOff f) (feedBelow_dev f true) (feedBelow_fix f true)
  | feedGateOn f => exact means_now_dev (exec_feedGateOn f) (feedBelow_dev f false) (feedBelow_fix f false)
  | memStatusPoll busy => exact means_now (exec_memStatusPoll busy) (memPoll_wf busy) (memPoll_fix busy)
  | memWriteTimeout => exact means_till exec_memWriteTimeout (fun _ _ => rfl) memTimeout_wf memTimeout_fix
  | scrubSegmentCheck seg crc =>
    exact means_till_dev (exec_scrubSegmentCheck seg crc) (fun _ _ => rfl) (scrubCheck_dev seg crc.toNat) (scrubCheck_fix seg
      crc.toNat)
  | scrubRepair => exact means_now_dev exec_scrubRepair scrubRepaired_dev scrubRepaired_fix
  | sleepRequest => exact means_now exec_sleepRequest (hostWrite_wf 0x0032 1) (hostWrite_fix 0x0032 1)
  | sleepIdleExpiry => exact means_till_dev exec_sleepIdleExpiry (fun _ _ => rfl) idleSleep_dev idleSleep_fix
  | sleepEntry => exact means_now_dev exec_sleepEntry sleepEnter_dev sleepEnter_fix
  | wakeRequest src => exact means_now_dev (exec_wakeRequest src) (wakeOn_dev src) (wakeOn_fix src)
  | slpAlarmExpiry => exact means_till_dev exec_slpAlarmExpiry (fun _ _ => rfl) alarmDue_dev alarmDue_fix
  | wakeScrubPass bad => exact means_now (exec_wakeScrubPass bad) (wakeScrub_wf bad) (wakeScrub_fix bad)
  | wakeComplete => exact means_now exec_wakeComplete wakeDone_wf wakeDone_fix
  | pwmLeadingEdge n =>
    exact means_now_dev (exec_pwmLeadingEdge n) (KeepsDevices.comp (leadingEdge_dev n) (fwdEdge_dev n)) (KeepsFixed.comp
      (leadingEdge_fix n) (fwdEdge_fix n))
  | onTimeEnd n why peak ton =>
    exact means_now_dev (exec_onTimeEnd n why peak ton) (onTimeEnd_dev n why peak ton) (onTimeEnd_fix n why peak ton)
  | valleySampleConversion n code =>
    exact means_now_dev (exec_valleySampleConversion n code) (valleySample_dev n code) (valleySample_fix n code)
  | phaseResultPublish n => exact means_now_dev (exec_phaseResultPublish n) (phasePublish_dev n) (phasePublish_fix n)
  | phResRead n count =>
    exact means_now_dev (exec_phResRead n count) (hostRead_dev (0x0204 + 16 * n.val) count) (hostRead_fix (0x0204 + 16 *
      n.val) count)
  | phCtrlFence n =>
    exact means_now (exec_phCtrlFence n) (hostStrobe_wf (0x0202 + 16 * n.val) 1) (hostStrobe_fix (0x0202 + 16 * n.val) 1)
  | phCtrlUnfence n =>
    exact means_now (exec_phCtrlUnfence n) (hostStrobe_wf (0x0202 + 16 * n.val) 2) (hostStrobe_fix (0x0202 + 16 * n.val) 2)
  | phCtrlTallyClr n =>
    exact means_now (exec_phCtrlTallyClr n) (hostStrobe_wf (0x0202 + 16 * n.val) 4) (hostStrobe_fix (0x0202 + 16 * n.val) 4)
  | phTrimWrite n v =>
    exact means_now (exec_phTrimWrite n v) (hostWrite_wf (0x020C + 16 * n.val) v.toNat) (hostWrite_fix (0x020C + 16 * n.val)
      v.toNat)
  | compensatorSample r e sat vsnBad =>
    exact means_now_dev (exec_compensatorSample r e sat vsnBad) (railSample_dev r e sat vsnBad) (railSample_fix r e sat
      vsnBad)
  | rampStep r =>
    exact means_now_dev (exec_rampStep r) (KeepsDevices.comp holdFollow_dev (rampStep_dev r)) (KeepsFixed.comp holdFollow_fix
      (rampStep_fix r))
  | dwellExpiry r => exact means_till_dev (exec_dwellExpiry r) (fun _ _ => rfl) (dwellExpiry_dev r) (dwellExpiry_fix r)
  | holdoffExpiry r => exact means_till_dev (exec_holdoffExpiry r) (fun _ _ => rfl) (holdoffEnd_dev r) (holdoffEnd_fix r)
  | ovSnuff r vsense =>
    exact means_now_dev (exec_ovSnuff r vsense) (fun t => ovChange_dev _ r vsense t (ovAct_dev r)) (fun t => ovChange_fix _ r vsense t (ovAct_fix r))
  | uvComparatorChange r vsense =>
    exact means_now_dev (exec_uvComparatorChange r vsense) (fun t => uvChange_dev _ r vsense t (uvAct_dev r)) (fun t => uvChange_fix _ r vsense t (uvAct_fix r))
  | uvDelayExpiry r => exact means_till_dev (exec_uvDelayExpiry r) (fun _ _ => rfl) (uvDelayEnd_dev r) (uvDelayEnd_fix r)
  | railResultPublish r => exact means_now_dev (exec_railResultPublish r) (railPublish_dev r) (railPublish_fix r)
  | railResRead r count =>
    exact means_now_dev (exec_railResRead r count) (hostRead_dev (0x0610 + 32 * r.val) count) (hostRead_fix (0x0610 + 32 *
      r.val) count)
  | railCtrlUnsnuff r =>
    exact means_now (exec_railCtrlUnsnuff r) (hostStrobe_wf (0x0604 + 32 * r.val) 1) (hostStrobe_fix (0x0604 + 32 * r.val) 1)
  | railCtrlTallyClr r =>
    exact means_now (exec_railCtrlTallyClr r) (hostStrobe_wf (0x0604 + 32 * r.val) 4) (hostStrobe_fix (0x0604 + 32 * r.val) 4)
  | railCtrlNoshed r on =>
    exact means_now (exec_railCtrlNoshed r on) (hostField_wf (0x0604 + 32 * r.val) 8 (bit01 on * 8)) (hostField_fix (0x0604 +
      32 * r.val) 8 (bit01 on * 8))
  | railVsetWrite r v =>
    exact means_now (exec_railVsetWrite r v) (hostWrite_wf (0x0606 + 32 * r.val) v.toNat) (hostWrite_fix (0x0606 + 32 *
      r.val) v.toNat)
  | railIlimWrite r v =>
    exact means_now (exec_railIlimWrite r v) (hostWrite_wf (0x060A + 32 * r.val) v.toNat) (hostWrite_fix (0x060A + 32 *
      r.val) v.toNat)
  | llFrameBoundary p edges startOne =>
    exact means_now_dev (exec_llFrameBoundary p edges startOne) (llFrameEnd_dev p edges startOne) (llFrameEnd_fix p edges
      startOne)
  | setV p sub tog payload rcrc =>
    exact means_now_dev (exec_setV p sub tog payload rcrc) (llRequest_dev p sub 1 tog payload.toNat rcrc.toNat)
      (llRequest_fix p sub 1 tog payload.toNat rcrc.toNat)
  | preload p sub tog payload rcrc =>
    exact means_now_dev (exec_preload p sub tog payload rcrc) (llRequest_dev p sub 2 tog payload.toNat rcrc.toNat)
      (llRequest_fix p sub 2 tog payload.toNat rcrc.toNat)
  | llRead p sub tog payload rcrc =>
    exact means_now_dev (exec_llRead p sub tog payload rcrc) (llRequest_dev p sub 3 tog payload.toNat rcrc.toNat)
      (llRequest_fix p sub 3 tog payload.toNat rcrc.toNat)
  | noticeAck p sub tog payload rcrc =>
    exact means_now_dev (exec_noticeAck p sub tog payload rcrc) (llRequest_dev p sub 4 tog payload.toNat rcrc.toNat)
      (llRequest_fix p sub 4 tog payload.toNat rcrc.toNat)
  | dimAck p sub tog payload rcrc =>
    exact means_now_dev (exec_dimAck p sub tog payload rcrc) (llRequest_dev p sub 5 tog payload.toNat rcrc.toNat)
      (llRequest_fix p sub 5 tog payload.toNat rcrc.toNat)
  | llUnusedCommand p cmd sub tog payload rcrc =>
    exact means_now_dev (exec_llUnusedCommand p cmd sub tog payload rcrc) (llOther_dev p sub cmd.toNat tog payload.toNat
      rcrc.toNat) (llOther_fix p sub cmd.toNat tog payload.toNat rcrc.toNat)
  | settleTimeout r =>
    exact means_till_dev (exec_settleTimeout r) (fun _ _ => rfl) (settleTimeout_dev r) (settleTimeout_fix r)
  | graceExpiry r kind =>
    exact means_till_dev (exec_graceExpiry r kind) (fun _ _ => rfl) (graceExpiry_dev r kind) (graceExpiry_fix r kind)
  | lpCtrlTallyClr p =>
    exact means_now (exec_lpCtrlTallyClr p) (hostStrobe_wf (0x0904 + 32 * p.val) 1) (hostStrobe_fix (0x0904 + 32 * p.val) 1)
  | lpCtrlNoticeClr p =>
    exact means_now (exec_lpCtrlNoticeClr p) (hostStrobe_wf (0x0904 + 32 * p.val) 2) (hostStrobe_fix (0x0904 + 32 * p.val) 2)
  | lamplighterTick =>
    exact means_till_dev exec_lamplighterTick (fun _ _ => rfl) (KeepsDevices.comp holdFollow_dev lampTick_dev)
      (KeepsFixed.comp holdFollow_fix lampTick_fix)
  | domainCommonStart d =>
    exact means_tick_dev (exec_domainCommonStart d) (fun _ _ => rfl) (KeepsDevices.comp holdFollow_dev (commonStart_dev d))
      (KeepsFixed.comp holdFollow_fix (commonStart_fix d))
  | slotSwitchOn n =>
    exact means_tick_dev (exec_slotSwitchOn n) (fun _ _ => rfl) (KeepsDevices.comp holdFollow_dev (switchOn_dev n))
      (KeepsFixed.comp holdFollow_fix (switchOn_fix n))
  | slotOffPoint n =>
    exact means_tick_dev (exec_slotOffPoint n) (fun _ _ => rfl) (KeepsDevices.comp holdFollow_dev (offPoint_dev n))
      (KeepsFixed.comp holdFollow_fix (offPoint_fix n))
  | upToExpiry n =>
    exact means_tick_dev (exec_upToExpiry n) (fun _ _ => rfl) (KeepsDevices.comp holdFollow_dev (upToEnd_dev n))
      (KeepsFixed.comp holdFollow_fix (upToEnd_fix n))
  | downToExpiry n =>
    exact means_tick_dev (exec_downToExpiry n) (fun _ _ => rfl) (KeepsDevices.comp holdFollow_dev (downToEnd_dev n))
      (KeepsFixed.comp holdFollow_fix (downToEnd_fix n))
  | pgInChange n level =>
    exact means_now_dev (exec_pgInChange n level) (KeepsDevices.comp holdFollow_dev (pgInEdge_dev n level)) (KeepsFixed.comp
      holdFollow_fix (pgInEdge_fix n level))
  | domainInputQualified d =>
    exact means_till_dev (exec_domainInputQualified d) (fun _ _ => rfl) (inputQualified_dev d) (inputQualified_fix d)
  | domainInputLost d =>
    exact means_now_dev (exec_domainInputLost d) (KeepsDevices.comp holdFollow_dev (inputLost_dev d)) (KeepsFixed.comp
      holdFollow_fix (inputLost_fix d))
  | minOffExpiry d => exact means_till_dev (exec_minOffExpiry d) (fun _ _ => rfl) (minOffEnd_dev d) (minOffEnd_fix d)
  | restartExpiry d => exact means_till_dev (exec_restartExpiry d) (fun _ _ => rfl) (restartEnd_dev d) (restartEnd_fix d)
  | retryWindowExpiry d => exact means_till_dev (exec_retryWindowExpiry d) (fun _ _ => rfl) (retryAge_dev d) (retryAge_fix d)
  | seqDomStart d =>
    exact means_now (exec_seqDomStart d) (hostStrobe_wf (0x0A04 + 16 * d.val) 1) (hostStrobe_fix (0x0A04 + 16 * d.val) 1)
  | seqDomStop d =>
    exact means_now (exec_seqDomStop d) (hostStrobe_wf (0x0A04 + 16 * d.val) 2) (hostStrobe_fix (0x0A04 + 16 * d.val) 2)
  | seqDomShutoff d =>
    exact means_now (exec_seqDomShutoff d) (hostStrobe_wf (0x0A04 + 16 * d.val) 4) (hostStrobe_fix (0x0A04 + 16 * d.val) 4)
  | seqDomUnlatch d =>
    exact means_now (exec_seqDomUnlatch d) (hostStrobe_wf (0x0A04 + 16 * d.val) 8) (hostStrobe_fix (0x0A04 + 16 * d.val) 8)
  | seqDomRetryClr d =>
    exact means_now (exec_seqDomRetryClr d) (hostStrobe_wf (0x0A04 + 16 * d.val) 16) (hostStrobe_fix (0x0A04 + 16 * d.val) 16)
  | seqDomTallyClr d =>
    exact means_now (exec_seqDomTallyClr d) (hostStrobe_wf (0x0A04 + 16 * d.val) 32) (hostStrobe_fix (0x0A04 + 16 * d.val) 32)
  | wickSample m v =>
    exact means_now_dev (exec_wickSample m v) (KeepsDevices.comp holdFollow_dev (wickSample_dev m v)) (KeepsFixed.comp
      holdFollow_fix (wickSample_fix m v))
  | continuousComparatorChange m v =>
    exact means_now_dev (exec_continuousComparatorChange m v) (KeepsDevices.comp holdFollow_dev (contChange_dev m v))
      (KeepsFixed.comp holdFollow_fix (contChange_fix m v))
  | captureSaturate t =>
    exact means_till_dev (exec_captureSaturate t) (fun _ _ => rfl) (timerSaturate_dev t) (timerSaturate_fix t)
  | ctCtrlArm t =>
    exact means_now (exec_ctCtrlArm t) (hostStrobe_wf (0x0F42 + 12 * t.val) 1) (hostStrobe_fix (0x0F42 + 12 * t.val) 1)
  | ctCtrlMissedClr t =>
    exact means_now (exec_ctCtrlMissedClr t) (hostStrobe_wf (0x0F42 + 12 * t.val) 2) (hostStrobe_fix (0x0F42 + 12 * t.val) 2)
  | ctPrescaleWrite t v =>
    exact means_now (exec_ctPrescaleWrite t v) (hostField_wf (0x0F42 + 12 * t.val) 0xF0 (v.toNat * 16)) (hostField_fix
      (0x0F42 + 12 * t.val) 0xF0 (v.toNat * 16))
  | ctResRead t count =>
    exact means_now_dev (exec_ctResRead t count) (hostRead_dev (0x0F44 + 12 * t.val) count) (hostRead_fix (0x0F44 + 12 *
      t.val) count)
  | wmCtrlSelftest m =>
    exact means_now (exec_wmCtrlSelftest m) (hostStrobe_wf (0x0C02 + 8 * m.val) 1) (hostStrobe_fix (0x0C02 + 8 * m.val) 1)
  | selfTestSample m low high v =>
    exact means_now_dev (exec_selfTestSample m low high v) (KeepsDevices.comp holdFollow_dev (testSample_dev m low high v))
      (KeepsFixed.comp holdFollow_fix (testSample_fix m low high v))
  | sweepVisit => exact means_now_dev exec_sweepVisit sweepVisit_dev sweepVisit_fix
  | wmSweepCtrlWrite v =>
    exact means_now (exec_wmSweepCtrlWrite v) (hostWrite_wf 0x0F30 v.toNat) (hostWrite_fix 0x0F30 v.toNat)
  | wmCtrlTallyClr m =>
    exact means_now (exec_wmCtrlTallyClr m) (hostStrobe_wf (0x0C02 + 8 * m.val) 16) (hostStrobe_fix (0x0C02 + 8 * m.val) 16)
  | wmTickWrite m v =>
    exact means_now (exec_wmTickWrite m v) (hostField_wf (0x0C02 + 8 * m.val) 0xFFC0 (v.toNat * 64)) (hostField_fix (0x0C02 +
      8 * m.val) 0xFFC0 (v.toNat * 64))
  | wmLowWrite m v =>
    exact means_now (exec_wmLowWrite m v) (hostWrite_wf (0x0C04 + 8 * m.val) v.toNat) (hostWrite_fix (0x0C04 + 8 * m.val)
      v.toNat)
  | wmHighWrite m v =>
    exact means_now (exec_wmHighWrite m v) (hostWrite_wf (0x0C06 + 8 * m.val) v.toNat) (hostWrite_fix (0x0C06 + 8 * m.val)
      v.toNat)
  | hkRoundStart => exact means_till_dev exec_hkRoundStart (fun _ _ => rfl) roundStart_dev roundStart_fix
  | hkConversionDone ch val q =>
    exact means_now_dev (exec_hkConversionDone ch val q) (hkDone_dev ch.val val.toNat q.sat q.vbe) (hkDone_fix ch.val
      val.toNat q.sat q.vbe)
  | hkConversionTimeout ch => exact means_now_dev (exec_hkConversionTimeout ch) (hkTimeout_dev ch.val) (hkTimeout_fix ch.val)
  | hkRoundLate => exact means_till_dev exec_hkRoundLate (fun _ _ => rfl) hkLate_dev hkLate_fix
  | hkCtrlTallyClr => exact means_now exec_hkCtrlTallyClr (hostWrite_wf 0x0F02 1) (hostWrite_fix 0x0F02 1)
  | thLevelWrite lvl v =>
    exact means_now (exec_thLevelWrite lvl v) (hostWrite_wf (levelAddr lvl) v.toNat) (hostWrite_fix (levelAddr lvl) v.toNat)
  | hkResRead count => exact means_now_dev (exec_hkResRead count) (hostRead_dev 0x0F08 count) (hostRead_fix 0x0F08 count)
  | thResRead count => exact means_now_dev (exec_thResRead count) (hostRead_dev 0x0F10 count) (hostRead_fix 0x0F10 count)
  | rideComparatorTrip => exact means_now_dev exec_rideComparatorTrip rideTrip_dev rideTrip_fix
  | rideComparatorClear => exact means_now_dev exec_rideComparatorClear rideClear_dev rideClear_fix
  | handbackExpiry => exact means_till_dev exec_handbackExpiry (fun _ _ => rfl) handbackEnd_dev handbackEnd_fix
  | maxRideExpiry => exact means_till_dev exec_maxRideExpiry (fun _ _ => rfl) maxRide_dev maxRide_fix
  | busBarQualified => exact means_till_dev exec_busBarQualified (fun _ _ => rfl) busQualified_dev busQualified_fix
  | busBarAbsent => exact means_now_dev exec_busBarAbsent busAbsent_dev busAbsent_fix
  | shareSample uv => exact means_now_dev (exec_shareSample uv) (shareSample_dev uv) (shareSample_fix uv)
  | shareLoopStep => exact means_now_dev exec_shareLoopStep shareStep_dev shareStep_fix
  | huCapWrite v => exact means_now (exec_huCapWrite v) (hostWrite_wf 0x1006 v.toNat) (hostWrite_fix 0x1006 v.toNat)
  | mbTransactionDone res =>
    exact means_now_dev (exec_mbTransactionDone res) (KeepsDevices.comp holdJudge_dev (mbDone_dev res)) (KeepsFixed.comp
      holdJudge_fix (mbDone_fix res))
  | mbFailureRetry c =>
    exact means_till_dev (exec_mbFailureRetry c) (fun _ _ => rfl) (mbRetry_dev c false) (mbRetry_fix c false)
  | mbBusyRetry c => exact means_till_dev (exec_mbBusyRetry c) (fun _ _ => rfl) (mbRetry_dev c true) (mbRetry_fix c true)
  | mbLowTimeout sdaStuck =>
    exact means_now_dev (exec_mbLowTimeout sdaStuck) (KeepsDevices.comp holdJudge_dev (mbLowTimeout_dev sdaStuck))
      (KeepsFixed.comp holdJudge_fix (mbLowTimeout_fix sdaStuck))
  | cartridgeStatusPoll c => exact means_now_dev (exec_cartridgeStatusPoll c) (statusPoll_dev c) (statusPoll_fix c)
  | authPoll c => exact means_now_dev (exec_authPoll c) (authPollNow_dev c) (authPollNow_fix c)
  | authTimeout c =>
    exact means_till_dev (exec_authTimeout c) (fun _ _ => rfl) (KeepsDevices.comp holdJudge_dev (authExpired_dev c))
      (KeepsFixed.comp holdJudge_fix (authExpired_fix c))
  | reauthTimer c =>
    exact means_till_dev (exec_reauthTimer c) (fun _ _ => rfl) (KeepsDevices.comp holdJudge_dev (reauth_dev c))
      (KeepsFixed.comp holdJudge_fix (reauth_fix c))
  | counterWritePeriod => exact means_now_dev exec_counterWritePeriod writeAllCounters_dev writeAllCounters_fix
  | bcCtrlRescan c =>
    exact means_now (exec_bcCtrlRescan c) (hostWrite_wf 0x1020 (c.val + 16)) (hostWrite_fix 0x1020 (c.val + 16))
  | huCtrlTallyClr => exact means_now exec_huCtrlTallyClr (hostWrite_wf 0x1004 1) (hostWrite_fix 0x1004 1)
  | huResRead count => exact means_now_dev (exec_huResRead count) (hostRead_dev 0x1014 count) (hostRead_fix 0x1014 count)
  | faultnReleaseTimer => exact means_till_dev exec_faultnReleaseTimer (fun _ _ => rfl) faultnRelease_dev faultnRelease_fix
  | cresetRestart straps =>
    exact ⟨_, .now (exec_cresetRestart straps), cresetRestarted_wf straps, nofun, fun _ => cresetRestarted_keys straps⟩
  | blockResetComplete b => exact means_now (exec_blockResetComplete b) (blockDone_wf b) (blockDone_fix b)
  | evStatClear i v =>
    exact means_now (exec_evStatClear i v) (hostWrite_wf (0x0100 + 2 * i.val) v.toNat) (hostWrite_fix (0x0100 + 2 * i.val)
      v.toNat)
  | evIenWrite i v =>
    exact means_now (exec_evIenWrite i v) (hostWrite_wf (0x0120 + 2 * i.val) v.toNat) (hostWrite_fix (0x0120 + 2 * i.val)
      v.toNat)
  | evCtrlFaultnClr => exact means_now exec_evCtrlFaultnClr (hostWrite_wf 0x0150 1) (hostWrite_fix 0x0150 1)
  | evCtrlUnfence => exact means_now exec_evCtrlUnfence (hostWrite_wf 0x0150 2) (hostWrite_fix 0x0150 2)
  | evCtrlBlkRelease => exact means_now exec_evCtrlBlkRelease (hostWrite_wf 0x0150 4) (hostWrite_fix 0x0150 4)
  | evCtrlHoldClr => exact means_now exec_evCtrlHoldClr (hostWrite_wf 0x0150 8) (hostWrite_fix 0x0150 8)
  | evCtrlCntClr => exact means_now exec_evCtrlCntClr (hostWrite_wf 0x0150 16) (hostWrite_fix 0x0150 16)
  | tallyCtrlClrAll => exact means_now exec_tallyCtrlClrAll (hostWrite_wf 0x1780 1) (hostWrite_fix 0x1780 1)
  | evTimeRead count => exact means_now_dev (exec_evTimeRead count) (hostRead_dev 0x0144 count) (hostRead_fix 0x0144 count)
  | tallyRead i count =>
    exact means_now_dev (exec_tallyRead i count) (hostRead_dev (0x1700 + 4 * i.val) count) (hostRead_fix (0x1700 + 4 * i.val)
      count)
  | testChallenge tag q => exact means_request_dev (exec_testChallenge tag q) testChallengeDo_dev testChallengeDo_fix
  | testEnter tag q payload =>
    exact means_request_dev (exec_testEnter tag q payload) (testEnterDo_dev payload) (testEnterDo_fix payload)
  | supplyRangeExit k => exact means_now_dev (exec_supplyRangeExit k) (supplyExit_dev k) (supplyExit_fix k)
  | supplyRangeClear => exact means_now_dev exec_supplyRangeClear supplyClear_dev supplyClear_fix
  | pairLinkUp => exact means_now_dev exec_pairLinkUp pairLinked_dev pairLinked_fix
  | pairLinkLoss => exact (Carries.after .loss exec_pairLinkLoss).means pairDown_wf pairDown_fix
  | plSyncHealthSend => exact means_now_dev exec_plSyncHealthSend syncHealth_dev syncHealth_fix
  | plStateSend => exact means_now_dev exec_plStateSend stateRow_dev stateRow_fix
  | plCtrlRetryTimer seq =>
    exact means_till (exec_plCtrlRetryTimer seq) (fun _ _ => rfl) (ctrlRetry_wf seq.toNat) (ctrlRetry_fix seq.toNat)
  | plAck crcOk seq => exact means_pair_dev (exec_plAck crcOk seq) (ackIn_dev seq.toNat) (ackIn_fix seq.toNat)
  | plYield crcOk seq => exact means_ctrl_dev (exec_plYield crcOk seq) yieldIn_dev yieldIn_fix
  | plRefuse crcOk seq => exact means_ctrl (exec_plRefuse crcOk seq) refuseIn_wf refuseIn_fix
  | plTakeReq crcOk seq => exact means_ctrl_dev (exec_plTakeReq crcOk seq) takeIn_dev takeIn_fix
  | plFence crcOk seq n =>
    exact means_follow_dev (exec_plFence crcOk seq n) (fwdArrive_dev (.fence n)) (fwdArrive_fix (.fence n))
  | plUnfence crcOk seq n =>
    exact means_follow_dev (exec_plUnfence crcOk seq n) (fwdArrive_dev (.unfence n)) (fwdArrive_fix (.unfence n))
  | plSnuff crcOk seq r =>
    exact means_follow_dev (exec_plSnuff crcOk seq r) (fwdArrive_dev (.snuff r)) (fwdArrive_fix (.snuff r))
  | plUnsnuff crcOk seq r =>
    exact means_follow_dev (exec_plUnsnuff crcOk seq r) (fwdArrive_dev (.unsnuff r)) (fwdArrive_fix (.unsnuff r))
  | plShedAnnouncement crcOk seq r =>
    exact means_follow_dev (exec_plShedAnnouncement crcOk seq r) (fwdArrive_dev (.shed r)) (fwdArrive_fix (.shed r))
  | plRelight crcOk seq m =>
    exact means_follow_dev (exec_plRelight crcOk seq m) (fwdArrive_dev (.relight m.rail m.entry m.trig)) (fwdArrive_fix
      (.relight m.rail m.entry m.trig))
  | plDirectionChange crcOk seq discharge =>
    exact means_follow_dev (exec_plDirectionChange crcOk seq discharge) (fwdArrive_dev (.direction discharge)) (fwdArrive_fix
      (.direction discharge))
  | plLamplighterStep crcOk seq n on =>
    exact means_follow_dev (exec_plLamplighterStep crcOk seq n on) (fwdArrive_dev (.lampStep n on)) (fwdArrive_fix (.lampStep
      n on))
  | plSlotVerdict crcOk seq v => exact means_ctrl_dev (exec_plSlotVerdict crcOk seq v) (verdictIn_dev v) (verdictIn_fix v)
  | plDomainShutoff crcOk seq mask =>
    exact means_follow_dev (exec_plDomainShutoff crcOk seq mask) (shutOff_dev mask.toNat .fault) (shutOff_fix mask.toNat
      .fault)
  | plTrim crcOk seq addr v =>
    exact means_follow_dev (exec_plTrim crcOk seq addr v) (trimIn_dev addr.toNat v.toNat) (trimIn_fix addr.toNat v.toNat)
  | plSync crcOk entries => exact means_pair_dev (exec_plSync crcOk entries) (syncIn_dev entries) (syncIn_fix entries)
  | plHealth crcOk h => exact means_pair (exec_plHealth crcOk h) (healthIn_wf h) (healthIn_fix h)
  | plState crcOk t => exact means_pair_dev (exec_plState crcOk t) (stateIn_dev t) (stateIn_fix t)
  | plReport crcOk rep => exact means_pair_dev (exec_plReport crcOk rep) (reportIn_dev rep) (reportIn_fix rep)
  | plStream crcOk m => exact means_pair_dev (exec_plStream crcOk m) (streamIn_dev m) (streamIn_fix m)
  | ownershipDecision => exact means_till_dev exec_ownershipDecision (fun _ _ => rfl) decide100_dev decide100_fix
  | handoverOrigin => exact means_now exec_handoverOrigin handOrigin_wf handOrigin_fix
  | peerOwnNChange asserted =>
    exact means_now (exec_peerOwnNChange asserted) (peerChange_wf asserted) (peerChange_fix asserted)
  | ownRelease => exact means_till exec_ownRelease (fun _ _ => rfl) ownReleased_wf ownReleased_fix
  | ownConflict => exact means_till exec_ownConflict (fun _ _ => rfl) ownConflict_wf ownConflict_fix
  | revertHoldExpiry => exact means_till_dev exec_revertHoldExpiry (fun _ _ => rfl) revertDue_dev revertDue_fix
  | verdictTimeout => exact means_till_dev exec_verdictTimeout (fun _ _ => rfl) verdictLate_dev verdictLate_fix
  | pairCtrlYield => exact means_now exec_pairCtrlYield (hostStrobe_wf 0x1104 1) (hostStrobe_fix 0x1104 1)
  | pairCtrlTake => exact means_now exec_pairCtrlTake (hostStrobe_wf 0x1104 2) (hostStrobe_fix 0x1104 2)
  | pairCtrlFlapClr => exact means_now exec_pairCtrlFlapClr (hostStrobe_wf 0x1104 4) (hostStrobe_fix 0x1104 4)
  | pairCtrlNoRevert on =>
    exact means_now (exec_pairCtrlNoRevert on) (hostField_wf 0x1104 8 (bit01 on * 8)) (hostField_fix 0x1104 8 (bit01 on * 8))
  | pairCtrlTallyClr => exact means_now exec_pairCtrlTallyClr (hostStrobe_wf 0x1104 16) (hostStrobe_fix 0x1104 16)
  | ovLinkAligned k => exact means_now_dev (exec_ovLinkAligned k) (linkAligned_dev k) (linkAligned_fix k)
  | ovLinkFrame k e l => exact means_now_dev (exec_ovLinkFrame k e l) (linkIn_dev k e l) (linkIn_fix k e l)
  | ovLinkFrameSend k => exact means_now_dev (exec_ovLinkFrameSend k) (linkSend_dev k) (linkSend_fix k)
  | ovLinkDown k why =>
    exact means_till_dev (exec_ovLinkDown k why) (fun _ _ => rfl) (linkDown_dev k why) (linkDown_fix k why)
  | ovFrameForward k e f => exact means_now_dev (exec_ovFrameForward k e f) (forwardFrame_dev k e f) (forwardFrame_fix k e f)
  | ovCreditReturn k cls credits =>
    exact means_now_dev (exec_ovCreditReturn k cls credits) (creditReturn_dev k cls.val credits) (creditReturn_fix k cls.val
      credits)
  | ovEnum k e h => exact means_enum k e h
  | ovCount k e h n =>
    exact means_now (exec_ovCount k e h n) (onLink_wf k e h (.count k h n)) (onLink_fix k e h (.count k h n))
  | ovCountTimeout => exact means_till_dev exec_ovCountTimeout (fun _ _ => rfl) countTimeout_dev countTimeout_fix
  | ovAssign k e h base len =>
    exact means_now (exec_ovAssign k e h base len) (onLink_wf k e h (.assign k h base len)) (onLink_fix k e h (.assign k h
      base len))
  | ovTrip k e f => exact means_now_dev (exec_ovTrip k e f) (upIn_dev k e 1 f) (upIn_fix k e 1 f)
  | ovYield k e f => exact means_now_dev (exec_ovYield k e f) (upIn_dev k e 2 f) (upIn_fix k e 2 f)
  | ovSummary k e f => exact means_now_dev (exec_ovSummary k e f) (upIn_dev k e 3 f) (upIn_fix k e 3 f)
  | ovSummaryWindowEnd k =>
    exact means_till_dev (exec_ovSummaryWindowEnd k) (fun _ _ => rfl) (summaryWindowEnd_dev k) (summaryWindowEnd_fix k)
  | ovBarAck k e f => exact means_now_dev (exec_ovBarAck k e f) (ackFrame_dev k e 1 f) (ackFrame_fix k e 1 f)
  | ovSnapAck k e f => exact means_now_dev (exec_ovSnapAck k e f) (ackFrame_dev k e 2 f) (ackFrame_fix k e 2 f)
  | ovTmark k e f => exact means_now_dev (exec_ovTmark k e f) (tmarkIn_dev k e f) (tmarkIn_fix k e f)
  | ovBarrier k e f => exact means_now_dev (exec_ovBarrier k e f) (barrierIn_dev k e f) (barrierIn_fix k e f)
  | ovSnap k e f => exact means_now_dev (exec_ovSnap k e f) (snapIn_dev k e f) (snapIn_fix k e f)
  | ovReset k e f => exact means_now_dev (exec_ovReset k e f) (resetIn_dev k e f) (resetIn_fix k e f)
  | ovFtrip k e f => exact means_now_dev (exec_ovFtrip k e f) (ftripIn_dev k e f) (ftripIn_fix k e f)
  | ovFstart k e f => exact means_now_dev (exec_ovFstart k e f) (fstartIn_dev k e f) (fstartIn_fix k e f)
  | ovRootchg k e f => exact means_now_dev (exec_ovRootchg k e f) (rootchgIn_dev k e f) (rootchgIn_fix k e f)
  | ovGraft k e h base len =>
    exact means_now_dev (exec_ovGraft k e h base len) (graftFrame_dev k e h base len) (graftFrame_fix k e h base len)
  | ovUngraft k e h base len =>
    exact means_now_dev (exec_ovUngraft k e h base len) (ungraftFrame_dev k e h base len) (ungraftFrame_fix k e h base len)
  | ovRdReq k e h addr count =>
    exact means_now (exec_ovRdReq k e h addr count) (rdFrame_wf k e h addr.toNat count) (rdFrame_fix k e h addr.toNat count)
  | ovWrReq k e h addr data =>
    exact means_now (exec_ovWrReq k e h addr data) (wrFrame_wf k e h addr.toNat data) (wrFrame_fix k e h addr.toNat data)
  | ovResp k e h status data =>
    exact means_now (exec_ovResp k e h status data) (respIn_wf k e h status.toNat data) (respIn_fix k e h status.toNat data)
  | ovTime k e h mark markMs time =>
    exact means_now_dev (exec_ovTime k e h mark markMs time) (timeIn_dev k e h mark.toNat markMs.toNat time.toNat)
      (timeIn_fix k e h mark.toNat markMs.toNat time.toNat)
  | ovRole k e h acting =>
    exact means_now (exec_ovRole k e h acting) (onLink_wf k e h (.role k h acting)) (onLink_fix k e h (.role k h acting))
  | ovShareSp k e h v => exact means_now (exec_ovShareSp k e h v) (shareIn_wf k e h v.toNat) (shareIn_fix k e h v.toNat)
  | ovCap k e h v => exact means_now (exec_ovCap k e h v) (capIn_wf k e h v.toNat) (capIn_fix k e h v.toNat)
  | ovActivate k e h a => exact means_now (exec_ovActivate k e h a) (activateIn_wf k e h a) (activateIn_fix k e h a)
  | ovEvrec k e h rec => exact means_now (exec_ovEvrec k e h rec) (evrecIn_wf k e h rec) (evrecIn_fix k e h rec)
  | ovSnaprec k e h payload =>
    exact means_now (exec_ovSnaprec k e h payload) (snaprecIn_wf k e h payload) (snaprecIn_fix k e h payload)
  | ovImgData k e h imgId offset data =>
    exact means_now (exec_ovImgData k e h imgId offset data) (imgFrame_wf k e h imgId.toNat offset.toNat data) (imgFrame_fix
      k e h imgId.toNat offset.toNat data)
  | ovPark k => exact means_now_dev (exec_ovPark k) (parkPort_dev k) (parkPort_fix k)
  | ovMarkTimer => exact means_till_dev exec_ovMarkTimer (fun _ _ => rfl) markTimer_dev markTimer_fix
  | ovTimeHold => exact means_till_dev exec_ovTimeHold (fun _ _ => rfl) timeHold_dev timeHold_fix
  | ovBarrierTimeout => exact means_till_dev exec_ovBarrierTimeout (fun _ _ => rfl) barrierTimeout_dev barrierTimeout_fix
  | ovSnapCapture => exact means_global_dev exec_ovSnapCapture (fun _ _ => rfl) snapCapture_dev snapCapture_fix
  | ovTxnTimeout tag =>
    exact means_till_dev (exec_ovTxnTimeout tag) (fun _ _ => rfl) (txnTimeout_dev tag.toNat) (txnTimeout_fix tag.toNat)
  | ovAutoReroute => exact means_till_dev exec_ovAutoReroute (fun _ _ => rfl) autoReroute_dev autoReroute_fix
  | ovDeputyTakeover => exact means_till_dev exec_ovDeputyTakeover (fun _ _ => rfl) deputyTakeover_dev deputyTakeover_fix
  | ovCtrlEnum => exact means_now exec_ovCtrlEnum (hostWrite_wf 0x1202 1) (hostWrite_fix 0x1202 1)
  | ovCtrlBarrier => exact means_now exec_ovCtrlBarrier (hostWrite_wf 0x1202 2) (hostWrite_fix 0x1202 2)
  | ovCtrlSnap => exact means_now exec_ovCtrlSnap (hostWrite_wf 0x1202 4) (hostWrite_fix 0x1202 4)
  | ovCtrlReset => exact means_now exec_ovCtrlReset (hostWrite_wf 0x1202 8) (hostWrite_fix 0x1202 8)
  | ovCtrlReroute => exact means_now exec_ovCtrlReroute (hostWrite_wf 0x1202 16) (hostWrite_fix 0x1202 16)
  | ovCtrlReturn => exact means_now exec_ovCtrlReturn (hostWrite_wf 0x1202 32) (hostWrite_fix 0x1202 32)
  | ovCtrlReclaim => exact means_now exec_ovCtrlReclaim (hostWrite_wf 0x1202 64) (hostWrite_fix 0x1202 64)
  | ovTxnGo =>
    exact means_now exec_ovTxnGo (KeepsCanonical.comp serveWaiting_wf (hostStrobe_wf 0x1256 1)) (KeepsFixed.comp
      serveWaiting_fix (hostStrobe_fix 0x1256 1))
  | ovTimeSetWrite v =>
    exact means_now (exec_ovTimeSetWrite v) (hostBurst_wf 0x1220 (leBytes 8 v.toNat)) (hostBurst_fix 0x1220 (leBytes 8
      v.toNat))
  | ovTimeRead count => exact means_now_dev (exec_ovTimeRead count) (hostRead_dev 0x1218 count) (hostRead_fix 0x1218 count)
  | ledgerBlockWrite ch samples t0 =>
    exact means_now_dev (exec_ledgerBlockWrite ch samples t0) (ledgerBlock_dev ch _ t0.toNat)
      (ledgerBlock_fix ch _ t0.toNat)
  | recordClose => exact means_global_dev exec_recordClose (fun _ _ => rfl) recordDue_dev recordDue_fix
  | archiveFlushStart => exact means_till exec_archiveFlushStart (fun _ _ => rfl) flushStart_wf flushStart_fix
  | archiveFlushDone => exact means_now_dev exec_archiveFlushDone flushDone_dev flushDone_fix
  | lastGaspWriteDone complete =>
    exact means_now_dev (exec_lastGaspWriteDone complete) (lgsDone_dev complete) (lgsDone_fix complete)
  | eccError site double => exact means_now_dev (exec_eccError site double) (eccErr_dev site double) (eccErr_fix site double)
  | lgCtrlTrigger => exact means_now exec_lgCtrlTrigger (hostStrobe_wf 0x1402 1) (hostStrobe_fix 0x1402 1)
  | lgCtrlRelease => exact means_now exec_lgCtrlRelease (hostStrobe_wf 0x1402 2) (hostStrobe_fix 0x1402 2)
  | lgCtrlFlushHold on =>
    exact means_now (exec_lgCtrlFlushHold on) (hostField_wf 0x1402 4 (bit01 on * 4)) (hostField_fix 0x1402 4 (bit01 on * 4))
  | lgCtrlTallyClr => exact means_now exec_lgCtrlTallyClr (hostStrobe_wf 0x1402 8) (hostStrobe_fix 0x1402 8)
  | lgRecInfoRead count =>
    exact means_now_dev (exec_lgRecInfoRead count) (hostRead_dev 0x1420 count) (hostRead_fix 0x1420 count)
  | lgWinSelWrite v => exact means_now (exec_lgWinSelWrite v) (hostWrite_wf 0x1406 v.toNat) (hostWrite_fix 0x1406 v.toNat)
  | lgWinOfsWrite v =>
    exact means_now (exec_lgWinOfsWrite v) (hostBurst_wf 0x1408 (leBytes 4 v.toNat)) (hostBurst_fix 0x1408 (leBytes 4
      v.toNat))
  | prbSelWrite v => exact means_now (exec_prbSelWrite v) (hostWrite_wf 0x0040 v.toNat) (hostWrite_fix 0x0040 v.toNat)
  | ledgerWindowRead ofs count =>
    exact means_now_dev (exec_ledgerWindowRead ofs count) (hostRead_dev (0x8000 + ofs.toNat) count) (hostRead_fix (0x8000 +
      ofs.toNat) count)
  | patternWindowRead ofs count =>
    exact means_now_dev (exec_patternWindowRead ofs count) (hostRead_dev (0xC000 + ofs.toNat) count) (hostRead_fix (0xC000 +
      ofs.toNat) count)
  | windowLineFetch pat line =>
    exact means_now_dev (exec_windowLineFetch pat line) (lineFetch_dev pat line) (lineFetch_fix pat line)
  | hbSetPointer p count => exact means_now (exec_hbSetPointer p count) (hostPointer_wf p count) (hostPointer_fix p count)
  | registerWrite ptr data =>
    exact means_now (exec_registerWrite ptr data) (KeepsCanonical.comp serveWaiting_wf (hostBurst_wf ptr.toNat data))
      (KeepsFixed.comp serveWaiting_fix (hostBurst_fix ptr.toNat data))
  | hbLowTimeout line => exact means_now_dev (exec_hbLowTimeout line) (lowTimeout_dev line) (lowTimeout_fix line)
  | attnAttempt res => exact means_now_dev (exec_attnAttempt res) (attnTry_dev res) (attnTry_fix res)
  | attnBackoffExpiry => exact means_now_dev exec_attnBackoffExpiry backoffEnd_dev backoffEnd_fix
  | hbRecovery pulses => exact means_now_dev (exec_hbRecovery pulses) (recoverDue_dev pulses) (recoverDue_fix pulses)
  | hbCtrlTallyClr => exact means_now exec_hbCtrlTallyClr (hostWrite_wf 0x1504 1) (hostWrite_fix 0x1504 1)
  | hbCtrlFlush => exact means_now exec_hbCtrlFlush (hostWrite_wf 0x1504 2) (hostWrite_fix 0x1504 2)
  | hbCtrlRecover pulses => exact means_now (exec_hbCtrlRecover pulses) (recoverRow_wf pulses) (recoverRow_fix pulses)
  | glbUnlockWrite path v =>
    exact means_now (exec_glbUnlockWrite path v) (unlockRow_wf path v.toNat) (unlockRow_fix path v.toNat)
  | unlockDisarmTimeout ov =>
    exact means_till_dev (exec_unlockDisarmTimeout ov) (fun _ _ => rfl) (disarmDue_dev ov) (disarmDue_fix ov)
  | unlockIdleLock ov =>
    exact means_till_dev (exec_unlockIdleLock ov) (fun _ _ => rfl) (idleLockDue_dev ov) (idleLockDue_fix ov)
  | spFetch => exact means_now_dev exec_spFetch fetchResp_dev fetchResp_fix
  | spOpen tag q mode => exact means_request_dev (exec_spOpen tag q mode) (spOpenDo_dev mode.toNat) (spOpenDo_fix mode.toNat)
  | spClose tag q => exact means_request_dev (exec_spClose tag q) spCloseDo_dev spCloseDo_fix
  | spInfo tag q => exact means_request_dev (exec_spInfo tag q) spInfoDo_dev spInfoDo_fix
  | spRead tag q space ofs count =>
    exact means_request_dev (exec_spRead tag q space ofs count) (spReadDo_dev space.toNat ofs.toNat count.toNat)
      (spReadDo_fix space.toNat ofs.toNat count.toNat)
  | spStageBegin tag q payload =>
    exact means_request (exec_spStageBegin tag q payload) (spStageBeginDo_wf payload) (spStageBeginDo_fix payload)
  | spStageData tag q ofs data =>
    exact means_request (exec_spStageData tag q ofs data) (spStageDataDo_wf ofs.toNat data) (spStageDataDo_fix ofs.toNat data)
  | spStageAbort tag q => exact means_request (exec_spStageAbort tag q) spAbortDo_wf spAbortDo_fix
  | spActivate tag q imgId confirm atTime =>
    exact means_request (exec_spActivate tag q imgId confirm atTime) (spActivateDo_wf imgId.toNat confirm.toNat atTime.toNat)
      (spActivateDo_fix imgId.toNat confirm.toNat atTime.toNat)
  | spCancel tag q => exact means_request (exec_spCancel tag q) spCancelDo_wf spCancelDo_fix
  | spRevert tag q mode =>
    exact means_request (exec_spRevert tag q mode) (spRevertDo_wf mode.toNat) (spRevertDo_fix mode.toNat)
  | spConfirm tag q => exact means_request (exec_spConfirm tag q) spConfirmDo_wf spConfirmDo_fix
  | spMemErase tag q dev ofs =>
    exact means_request (exec_spMemErase tag q dev ofs) (spEraseDo_wf dev.toNat ofs.toNat) (spEraseDo_fix dev.toNat ofs.toNat)
  | spMemWrite tag q dev ofs data =>
    exact means_request (exec_spMemWrite tag q dev ofs data) (spWriteDo_wf dev.toNat ofs.toNat data) (spWriteDo_fix dev.toNat
      ofs.toNat data)
  | spMemRead tag q dev ofs count =>
    exact means_request_dev (exec_spMemRead tag q dev ofs count) (spMemReadDo_dev dev.toNat ofs.toNat count.toNat)
      (spMemReadDo_fix dev.toNat ofs.toNat count.toNat)
  | spKeyWrite tag q slot key =>
    exact ⟨_, .now (exec_spKeyWrite tag q slot key),
      KeepsDevices.canonical (fun t => spRequest_dev _ _ _ q _ t (spKeyDo_dev slot.toNat key)),
      fun _ => spRequest_straps (spKeyDo_straps slot.toNat key), nofun⟩
  | spSessionTimeout => exact means_till_dev exec_spSessionTimeout (fun _ _ => rfl) sessionTimeout_dev sessionTimeout_fix
  | ovStagingSilence => exact means_till_dev exec_ovStagingSilence (fun _ _ => rfl) ovSilence_dev ovSilence_fix
  | imageVerify => exact means_now exec_imageVerify imageVerified_wf imageVerified_fix
  | coreConfirm c => exact means_now (exec_coreConfirm c) (coreConfirmed_wf c) (coreConfirmed_fix c)
  | coreTrialTimeout c => exact means_till (exec_coreTrialTimeout c) (fun _ _ => rfl) (coreTrialEnd_wf c) (coreTrialEnd_fix c)
  | proofWindowEnd => exact means_till exec_proofWindowEnd (fun _ _ => rfl) proofEnd_wf proofEnd_fix
  | pairSequenceHalt => exact means_till_dev exec_pairSequenceHalt (fun _ _ => rfl) seqLate_dev seqLate_fix
  | scheduledActivation => exact (Carries.after .sched exec_scheduledActivation).means schedDue_wf schedDue_fix
  | updCtrlActivate => exact means_now exec_updCtrlActivate (hostStrobe_wf 0x1604 1) (hostStrobe_fix 0x1604 1)
  | updCtrlCancel => exact means_now exec_updCtrlCancel (hostStrobe_wf 0x1604 2) (hostStrobe_fix 0x1604 2)
  | updCtrlRevert => exact means_now exec_updCtrlRevert (hostStrobe_wf 0x1604 4) (hostStrobe_fix 0x1604 4)
  | updCtrlConfirm => exact means_now exec_updCtrlConfirm (hostStrobe_wf 0x1604 8) (hostStrobe_fix 0x1604 8)
  | continuousFilterExpiry m high =>
    exact means_till_dev (exec_continuousFilterExpiry m high) (fun _ _ => rfl) (KeepsDevices.comp holdFollow_dev
      (contExpiry_dev m high)) (KeepsFixed.comp holdFollow_fix (contExpiry_fix m high))
  | groundHoldExpiry => exact means_till_dev exec_groundHoldExpiry (fun _ _ => rfl) groundAge_dev groundAge_fix
  | flapWindowExpiry => exact means_till_dev exec_flapWindowExpiry (fun _ _ => rfl) flapAge_dev flapAge_fix
  | streamFrameTimeout => exact means_now_dev exec_streamFrameTimeout streamLost_dev streamLost_fix
  | ovUnlistedType k e => exact means_now_dev (exec_ovUnlistedType k e) (unlisted_dev k e) (unlisted_fix k e)
  | spUnknownCommand cmd tag q =>
    exact means_request_dev (exec_spUnknownCommand cmd tag q) (fun _ => ⟨rfl, rfl⟩) (fun _ => ⟨rfl, rfl⟩)
  | hostBusStop => exact means_now_dev exec_hostBusStop hostStop_dev hostStop_fix

/-! ### The statements about every command -/

theorem Carries.next {c : Instr} {f : State → State} (hc : Carries c f) (s : State) :
    ∃ t, exec c s = .next t ∧ t.pending = s.pending ∧ t.ev.fireQ = [] := by
  cases hc with
  | now h => exact h s ▸ run_next f s
  | after hw h => exact h s ▸ runAfter_next _ f s (hw.pending s)
  | tick hd h => exact h s ▸ runTick_next _ f s

theorem Carries.blind {c : Instr} {f : State → State} (hc : Carries c f) {l : List Instr} {s t : State}
    (ht : exec c s = .next t) : exec c { s with pending := l } = .next { t with pending := l } := by
  cases hc with
  | now h =>
    rw [h] at ht ⊢
    exact run_blind f l s t ht
  | after hw h =>
    rw [h] at ht ⊢
    exact runAfter_blind _ f l s t (hw.blind l s) ht
  | tick hd h =>
    rw [h] at ht ⊢
    exact runTick_blind _ f l s t (hd l s) ht

/-- What a command leaves is in canonical form where what it was given is, if its effect keeps it so. -/
theorem Carries.canonical {c : Instr} {f : State → State} (hc : Carries c f) (hf : KeepsCanonical f) {s t : State}
    (hs : cellsWf s.ch.dev0 = true ∧ cellsWf s.ch.dev1 = true) (ht : exec c s = .next t) :
    cellsWf t.ch.dev0 = true ∧ cellsWf t.ch.dev1 = true := by
  cases hc with
  | now h => exact run_wf f s t hf hs (h s ▸ ht)
  | after hw h => exact runAfter_wf _ f s t (hw.devices s) hf hs (h s ▸ ht)
  | tick hd h => exact runTick_wf _ f s t hf hs (h s ▸ ht)

theorem State.memWf_iff (s : State) : s.memWf = true ↔ cellsWf s.ch.dev0 = true ∧ cellsWf s.ch.dev1 = true := by
  simp [State.memWf]

/-- Settles O43. -/
theorem everyCommandAnswers : Obligations.EveryCommandAnswers := fun c s => by
  obtain ⟨f, hf⟩ := exec_means c
  exact hf.carries.next s

/-- Settles O44. -/
theorem commandsDoNotSeeTheQueue : Obligations.CommandsDoNotSeeTheQueue := fun c l s t ht => by
  obtain ⟨f, hf⟩ := exec_means c
  exact hf.carries.blind ht

/-- One step with a queue carries out the command at its front as if no other waited, and leaves the rest of the queue. -/
theorem step_cons (c : Instr) (l : List Instr) (s : State) (hs : s.pending = []) :
    nextOr { s with pending := c :: l } (step { s with pending := c :: l }) = { nextOr s (exec c s) with pending := l } ∧
      (nextOr s (exec c s)).pending = [] := by
  obtain ⟨t, ht, hpending, -⟩ := everyCommandAnswers c s
  have hstep : step { s with pending := c :: l } = .next { t with pending := l } := commandsDoNotSeeTheQueue c l s t ht
  rw [hstep, ht]
  exact ⟨rfl, hpending.trans hs⟩

/-- Settles O45, by induction on the queue: the first step carries out its first command (`step_cons`). -/
theorem theQueueRunsInOrder : Obligations.TheQueueRunsInOrder := by
  intro l
  induction l with
  | nil =>
    intro s hs
    have hsame : ({ s with pending := [] } : State) = s := by rw [← hs]
    exact ⟨hsame, hs⟩
  | cons c l ih =>
    intro s hs
    obtain ⟨hstep, hpending⟩ := step_cons c l s hs
    obtain ⟨hrun, hempty⟩ := ih (nextOr s (exec c s)) hpending
    refine ⟨?_, hempty⟩
    calc State.steps (l.length + 1) { s with pending := c :: l }
        = State.steps l.length { nextOr s (exec c s) with pending := l } := congrArg (State.steps l.length) hstep
      _ = (nextOr s (exec c s)).after l := hrun

/-- Settles O46. -/
theorem theMemoriesStayCanonical : Obligations.TheMemoriesStayCanonical := by
  intro s t hs ht
  rw [State.memWf_iff] at hs ⊢
  unfold step at ht
  split at ht
  case h_1 =>
    injection ht with hidle
    rw [← hidle, (idleTick_dev s).1, (idleTick_dev s).2]
    exact hs
  case h_2 c rest _ =>
    obtain ⟨f, hf⟩ := exec_means c
    exact hf.carries.canonical hf.canonical (s := { s with pending := rest }) hs ht

/-- What follows from an effect writes neither the straps nor the keys. -/
theorem State.closed_fix (s u : State) : (s.closed u).glb.straps = u.glb.straps ∧ (s.closed u).upd.keys = u.upd.keys :=
  ⟨(finish_fix ..).1.trans (settle_fix u).1, (finish_fix ..).2.trans (settle_fix u).2⟩

theorem State.opened_fix (s : State) : s.opened.glb.straps = s.glb.straps ∧ s.opened.upd.keys = s.upd.keys := ⟨rfl, rfl⟩

/-- The state on which a command at a tick acts. -/
theorem tickWait_fix (d : Option Nat) (s : State) :
    (match d with | some t => tickTo t 128 s | none => s).glb.straps = s.glb.straps ∧
      (match d with | some t => tickTo t 128 s | none => s).upd.keys = s.upd.keys := by
  cases d with
  | none => exact ⟨rfl, rfl⟩
  | some t => exact tickTo_fix t 128 s

/-- The straps and the keys that a command leaves are those that its effect leaves of a state with the straps and the keys given. -/
theorem Carries.fixed {c : Instr} {f : State → State} (hc : Carries c f) {s t : State} (ht : exec c s = .next t) :
    ∃ u : State, (u.glb.straps = s.glb.straps ∧ u.upd.keys = s.upd.keys) ∧
      t.glb.straps = (f u).glb.straps ∧ t.upd.keys = (f u).upd.keys := by
  cases hc with
  | now h =>
    rw [h, run_did] at ht
    injection ht with ht
    subst ht
    exact ⟨s.opened, s.opened_fix, State.closed_fix s _⟩
  | @after w hw h =>
    rw [h, runAfter_afterWait] at ht
    injection ht with ht
    subst ht
    exact ⟨egressAll (w s).opened, KeepsFixed.comp egressAll_fix (KeepsFixed.comp State.opened_fix hw.fixed) s, State.closed_fix (w s) _⟩
  | @tick d hd h =>
    rw [h, runTick_ticked] at ht
    injection ht with ht
    subst ht
    exact ⟨_, KeepsFixed.comp egressAll_fix (tickWait_fix (d s)) s.opened, State.closed_fix _ _⟩

theorem startsChip_eq_false {c : Instr} (hpor : ∀ x, c ≠ .porRelease x) (hreset : ∀ x, c ≠ .resetNRelease x)
    (hcreset : ∀ x, c ≠ .cresetRestart x) : startsChip c = false := by
  unfold startsChip
  split
  · exact absurd rfl (hpor _)
  · exact absurd rfl (hreset _)
  · exact absurd rfl (hcreset _)
  · rfl

theorem writesKey_eq_false {c : Instr} (hkey : ∀ g k n d, c ≠ .spKeyWrite g k n d) : writesKey c = false := by
  unfold writesKey
  split
  · exact absurd rfl (hkey _ _ _ _)
  · rfl

/-- Settles O47. -/
theorem theStrapsAndTheKeysStay : Obligations.TheStrapsAndTheKeysStay := by
  intro c s t ht
  obtain ⟨f, hf⟩ := exec_means c
  obtain ⟨u, ⟨hstraps, hkeys⟩, hft⟩ := hf.carries.fixed ht
  refine ⟨fun hpor hreset hcreset => ?_, fun hkey => ?_⟩
  · rw [hft.1, hf.straps (startsChip_eq_false hpor hreset hcreset), hstraps]
  · rw [hft.2, hf.keys (writesKey_eq_false hkey), hkeys]

end Sys2Proof.Machine

namespace Sys2Proof.Machine

/-! What follows from an effect that raises nothing: each watcher of `settle` leaves a quiet unit as it is. -/

/-! ### The watchers of a quiet unit -/

/-- With no firing waiting, none is carried out. -/
theorem drain_empty (n : Nat) {s : State} (hs : s.ev.fireQ = []) : drain n s = s := by
  cases n with
  | zero => rfl
  | succ n => rw [drain, hs]; rfl

theorem watchFeeds_judged {s : State} (hs : auxFallOf s.hold.cfg = s.hold.fall) : watchFeeds s = s := if_pos hs

theorem judgeGrounds_single {s : State} (hs : s.paired = false) : judgeGrounds s = s := if_neg (by simp [hs])

theorem watchYield_none {s : State} (hs : s.pair.yielding = false) : watchYield s = s := if_neg (by simp [hs])

theorem judgeProof_none {s : State} (hconds : s.proofConds = []) (hbroken : s.upd.proof.any (·.broken) = false) :
    judgeProof s = s := if_neg (by simp [hconds, hbroken])

theorem rollbackStep_none {s : State} (hs : s.upd.rollback = none) : rollbackStep s = s := by rw [rollbackStep, hs]

theorem seqGround_none {s : State} (hs : s.upd.pairSeq = none) : seqGround s = s := if_neg (by simp [hs])

theorem watchDegr_recorded {s : State} (hs : s.degraded = s.ev.degr) : watchDegr s = s := by
  unfold watchDegr
  exact if_pos hs

theorem reLimit_within {s : State} (hs : (s.hold.ofs == 0 || s.ofsOk s.hold.ofs) = true) : reLimit s = s := if_pos (by simpa using hs)

theorem watchPg_single {s : State} (hs : s.paired = false) : watchPg s = s := if_neg (by simp [State.follows, hs])

theorem watchStep_single {s : State} (hs : s.paired = false) : watchStep s = s := if_neg (by simp [hs])

theorem watchShared_single {s : State} (hs : s.paired = false) : watchShared s = s := if_neg (by simp [hs])

theorem watchShare_driven {s : State} (hs : s.hold.vown = s.vownNow) : watchShare s = s := by
  rw [watchShare, ← hs]
  rfl

theorem watchMb_sent {s : State} (hs : (s.carts.sent == s.mbNow) = true) : watchMb s = s := if_pos hs

theorem opTry_closed {s : State} (hs : s.ov.opOpen = false) : opTry s = s := if_neg (by simp [State.opReady, hs])

/-- The count of the idle time changes its start alone. -/
theorem watchIdle_eq (s : State) : ∃ i, watchIdle s = { s with slp := { s.slp with idleAt := i } } := by
  unfold watchIdle
  repeat' split
  all_goals exact ⟨_, rfl⟩

/-- What follows the count of the idle time in `settle` does not see it. -/
theorem watchers_of_idle {s : State} (hvown : s.hold.vown = s.vownNow) (hsent : (s.carts.sent == s.mbNow) = true)
    (hop : s.ov.opOpen = false) : opTry (watchMb (watchShare (watchIdle s))) = watchIdle s := by
  obtain ⟨i, hi⟩ := watchIdle_eq s
  rw [watchShare_driven (s := watchIdle s) (by rw [hi]; exact hvown), watchMb_sent (by rw [hi]; exact hsent),
    opTry_closed (by rw [hi]; exact hop)]

/-- Settles O49. -/
theorem aQuietEffectSettlesAtOnce : Obligations.AQuietEffectSettlesAtOnce := by
  intro t hreset hquiet
  simp only [State.quiet, Bool.and_eq_true, Bool.not_eq_true', beq_iff_eq, List.isEmpty_iff, Option.isNone_iff_eq_none] at hquiet
  obtain ⟨⟨⟨⟨⟨⟨⟨⟨⟨⟨⟨⟨hfire, hsingle⟩, hyield⟩, hofs⟩, hconds⟩, hbroken⟩, hroll⟩, hseq⟩, hdegr⟩, hfall⟩, hvown⟩, hsent⟩, hop⟩ := hquiet
  have hsettle : settle t = watchIdle t := by
    rw [settle, if_neg (by simp [hreset]), watchFeeds_judged hfall, judgeGrounds_single hsingle]
    simp only [drain_empty _ hfire, watchYield_none hyield, judgeProof_none hconds hbroken, rollbackStep_none hroll,
      seqGround_none hseq, watchDegr_recorded hdegr, reLimit_within hofs, watchPg_single hsingle, watchStep_single hsingle,
      watchShared_single hsingle]
    exact watchers_of_idle hvown (by simpa using hsent) hop
  exact ⟨hsettle, hsettle ▸ watchIdle_eq t⟩

end Sys2Proof.Machine

namespace Sys2Proof.Machine

/-! The ledger's codec (R320 to R323): the bound on what a decoder reconstructs, the choice of the Rice parameter, and the length
of a block. -/

/-! ### The quantiser -/

/-- The prediction from the last two samples, within 12 bits (R320). -/
def predicted (x1 x2 : Nat) : Int := max 0 (min 4095 (2 * (x1 : Int) - x2))

/-- The residual of a sample from its prediction, in steps of 2E + 1 (R320). -/
def quantised (e : Nat) (p : Int) (x : Nat) : Int :=
  if (x : Int) - p < 0 then -((((x : Int) - p).natAbs + e) / (2 * e + 1) : Nat)
  else ((((x : Int) - p).natAbs + e) / (2 * e + 1) : Nat)

/-- The sample that a residual stands for, within 12 bits (R320). -/
def restored (e : Nat) (p q : Int) : Nat := (max 0 (min 4095 (p + q * (2 * e + 1)))).toNat

theorem codeSamples_cons (e x1 x2 x : Nat) (xs : List Nat) :
    codeSamples e x1 x2 (x :: xs) =
      (quantised e (predicted x1 x2) x ::
          (codeSamples e (restored e (predicted x1 x2) (quantised e (predicted x1 x2) x)) x1 xs).1,
        (codeSamples e (restored e (predicted x1 x2) (quantised e (predicted x1 x2) x)) x1 xs).2) := rfl

theorem reconstruct_cons (e x1 x2 : Nat) (q : Int) (qs : List Int) :
    reconstruct e x1 x2 (q :: qs) =
      (restored e (predicted x1 x2) q :: (reconstruct e (restored e (predicted x1 x2) q) x1 qs).1,
        (reconstruct e (restored e (predicted x1 x2) q) x1 qs).2) := rfl

/-- The nearest multiple of 2E + 1 lies within E. -/
theorem nearest_multiple_within (e r : Nat) : r ≤ (r + e) / (2 * e + 1) * (2 * e + 1) + e ∧ (r + e) / (2 * e + 1) * (2 * e + 1) ≤ r + e := by
  have hdiv := Nat.div_add_mod (r + e) (2 * e + 1)
  have hmod := Nat.mod_lt (r + e) (show 0 < 2 * e + 1 by omega)
  rw [Nat.mul_comm] at hdiv
  omega

/-- Before it is held within 12 bits, what a residual stands for lies within E of the sample. -/
theorem quantised_within (e : Nat) (p : Int) (x : Nat) :
    (x : Int) ≤ p + quantised e p x * (2 * e + 1) + e ∧ p + quantised e p x * (2 * e + 1) ≤ x + e := by
  have hnear := nearest_multiple_within e ((x : Int) - p).natAbs
  unfold quantised
  generalize (((x : Int) - p).natAbs + e) / (2 * e + 1) = m at hnear ⊢
  have hcast : ((m * (2 * e + 1) : Nat) : Int) = (m : Int) * (2 * e + 1) := by push_cast; ring
  split
  · rw [neg_mul, ← hcast]
    omega
  · rw [← hcast]
    omega

/-- What a residual stands for lies within E of a sample of 12 bits (R323). -/
theorem restored_within (e : Nat) (p : Int) (x : Nat) (hx : x ≤ 4095) :
    x ≤ restored e p (quantised e p x) + e ∧ restored e p (quantised e p x) ≤ x + e := by
  have hq := quantised_within e p x
  unfold restored
  generalize quantised e p x * (2 * (e : Int) + 1) = y at hq ⊢
  omega

/-- The coder leaves one residual for each sample. -/
theorem codeSamples_length (e x1 x2 : Nat) (xs : List Nat) : (codeSamples e x1 x2 xs).1.length = xs.length := by
  induction xs generalizing x1 x2 with
  | nil => rfl
  | cons x xs ih => rw [codeSamples_cons, List.length_cons, List.length_cons, ih]

/-- The decoder ends with the coder's last two samples, with as many samples as were coded, each within E. -/
theorem reconstruct_codeSamples (e x1 x2 : Nat) (xs : List Nat) (hxs : ∀ x ∈ xs, x ≤ 4095) :
    (reconstruct e x1 x2 (codeSamples e x1 x2 xs).1).2 = (codeSamples e x1 x2 xs).2 ∧
      List.Forall₂ (fun x y => x ≤ y + e ∧ y ≤ x + e) xs (reconstruct e x1 x2 (codeSamples e x1 x2 xs).1).1 := by
  induction xs generalizing x1 x2 with
  | nil => exact ⟨rfl, .nil⟩
  | cons x xs ih =>
    rw [codeSamples_cons, reconstruct_cons]
    obtain ⟨hlast, hall⟩ := ih (restored e (predicted x1 x2) (quantised e (predicted x1 x2) x)) x1
      (fun y hy => hxs y (List.mem_cons_of_mem x hy))
    exact ⟨hlast, .cons (restored_within e _ x (hxs x List.mem_cons_self)) hall⟩

/-- Settles O55, by induction on the samples: the coder and the decoder restore the same sample from each residual. -/
theorem theCodecStaysWithinE : Obligations.TheCodecStaysWithinE := by
  intro e x1 x2 xs hxs
  obtain ⟨hlast, hall⟩ := reconstruct_codeSamples e x1 x2 xs hxs
  refine ⟨hlast, hall.length_eq.symm, fun i x y hx hy => ?_⟩
  obtain ⟨hi, rfl⟩ := List.getElem?_eq_some_iff.mp hx
  obtain ⟨hj, rfl⟩ := List.getElem?_eq_some_iff.mp hy
  have hxy := hall.get hi hj
  simp only [List.get_eq_getElem] at hxy
  exact ⟨hxy.1, hxy.2, fun he => by omega⟩

/-! ### The Rice parameter -/

/-- The parameter of least length among the first `n`, the lowest on a tie, as the search leaves it. -/
theorem riceSearch_least (us : List Nat) (n : Nat) :
    let b := (List.range n).foldl (fun b k => if riceLen k us < riceLen b us then k else b) 0
    b ≤ n - 1 ∧ ∀ k, k < n → riceLen b us ≤ riceLen k us ∧ (riceLen k us = riceLen b us → b ≤ k) := by
  induction n with
  | zero => simp
  | succ n ih =>
    rw [List.range_succ, List.foldl_append]
    generalize (List.range n).foldl (fun b k => if riceLen k us < riceLen b us then k else b) 0 = b at ih ⊢
    obtain ⟨hle, hleast⟩ := ih
    simp only [List.foldl_cons, List.foldl_nil]
    split
    case isTrue hlt =>
      refine ⟨by omega, fun k hk => ?_⟩
      rcases Nat.lt_succ_iff_lt_or_eq.mp hk with hk | rfl
      · have := (hleast k hk).1
        omega
      · omega
    case isFalse hge =>
      refine ⟨by omega, fun k hk => ?_⟩
      rcases Nat.lt_succ_iff_lt_or_eq.mp hk with hk | rfl
      · exact hleast k hk
      · omega

/-! ### The length of a block -/

theorem putBits_length (b : Nat × Nat) (v len : Nat) : (putBits b v len).2 = b.2 + len := rfl

/-- Fields appended one for each element add their lengths. -/
theorem foldl_putBits_length {α : Type} (put : Nat × Nat → α → Nat × Nat) (len : α → Nat)
    (hput : ∀ b a, (put b a).2 = b.2 + len a) (l : List α) (b : Nat × Nat) :
    (l.foldl put b).2 = l.foldl (fun n a => n + len a) b.2 := by
  induction l generalizing b with
  | nil => rfl
  | cons a l ih => rw [List.foldl_cons, ih, hput, List.foldl_cons]

theorem foldl_add_eq {α : Type} (len : α → Nat) (l : List α) (n : Nat) :
    l.foldl (fun n a => n + len a) n = n + (l.map len).sum := by
  induction l generalizing n with
  | nil => simp
  | cons a l ih => rw [List.foldl_cons, ih, List.map_cons, List.sum_cons, Nat.add_assoc]

theorem riceLen_eq_sum (k : Nat) (us : List Nat) : riceLen k us = (us.map (fun u => u / 2 ^ k + 1 + k)).sum := by
  simpa [riceLen, Nat.add_assoc] using foldl_add_eq (fun u => u / 2 ^ k + 1 + k) us 0

/-- The length of a block: 16 bits of header and the shorter of the two codings (R322). -/
theorem codeBlock_length (e x1 x2 flags : Nat) (xs : List Nat) :
    let us := (codeSamples e x1 x2 xs).1.map zigzag
    (codeBlock e x1 x2 flags xs).1.2 = 16 + min (riceLen (bestK us) us) (13 * xs.length) := by
  unfold codeBlock
  dsimp only
  generalize (codeSamples e x1 x2 xs).1.map zigzag = us
  split
  case isTrue hraw =>
    rw [foldl_putBits_length _ (fun _ => 13) (fun b q => putBits_length b _ 13), foldl_add_eq, putBits_length]
    rw [List.map_const', List.sum_replicate, codeSamples_length, smul_eq_mul, Nat.mul_comm, Nat.min_eq_right hraw.le]
  case isFalse hrice =>
    rw [foldl_putBits_length _ (fun u => u / 2 ^ bestK us + 1 + bestK us) (fun b u => ?_), foldl_add_eq, ← riceLen_eq_sum,
      putBits_length]
    · rw [Nat.min_eq_left (Nat.not_lt.mp hrice), Nat.zero_add]
    · rw [putBits_length, putBits_length, Nat.add_assoc]

/-- Settles O56. -/
theorem aBlockFits432Bits : Obligations.ABlockFits432Bits := by
  refine ⟨fun us => ?_, fun e x1 x2 flags xs hxs => ?_⟩
  · obtain ⟨hle, hleast⟩ := riceSearch_least us 14
    exact ⟨hle, fun k hk => hleast k (Nat.lt_succ_of_le hk)⟩
  · have hlength := codeBlock_length e x1 x2 flags xs
    simp only [hxs] at hlength
    refine ⟨hlength, ?_⟩
    rw [hlength]
    omega

end Sys2Proof.Machine

namespace Sys2Proof.Machine

/-! What a program and an erase of an external memory leave of each of its bytes (R63). -/

/-- One byte written to a device. -/
def memPoke (dev a : Nat) (b : Byte) (s : State) : State := memPut dev a [b] s

theorem memPut_cons (dev a : Nat) (b : Byte) (bs : List Byte) (s : State) :
    memPut dev a (b :: bs) s = memPut dev (a + 1) bs (memPoke dev a b s) := rfl

/-- A cell of a memory in canonical form after one of its cells was written. -/
theorem cellGet_cellPut {l : List Host.Cell} (hl : cellsWf l = true) (a x : Nat) (b : Byte) :
    cellGet (cellPut l a b) x = if x = a then b else cellGet l x := by
  split
  case isTrue h => rw [h, cellGet_cellPut_same l a b hl]
  case isFalse h => exact cellGet_cellPut_other l a x b h

/-- A cell of a memory after a range of its cells was erased. -/
theorem cellGet_cellErase (l : List Host.Cell) (a n x : Nat) :
    cellGet (cellErase l a n) x = if a ≤ x ∧ x < a + n then 0xFF else cellGet l x := by
  unfold cellErase
  induction l with
  | nil => simp [cellGet]
  | cons c l ih =>
    rw [List.filter_cons]
    split
    case isTrue hkept =>
      simp only [Bool.or_eq_true, decide_eq_true_eq] at hkept
      unfold cellGet
      rw [ih]
      by_cases hx : c.1 = x
      · rw [if_pos hx, if_pos hx, if_neg (by omega)]
      · rw [if_neg hx, if_neg hx]
    case isFalse hgone =>
      simp only [Bool.or_eq_true, decide_eq_true_eq] at hgone
      rw [ih]
      by_cases hx : c.1 = x
      · rw [if_pos (by omega), if_pos (by omega)]
      · rw [cellGet, if_neg hx]

theorem memByte_memPoke {dev : Nat} (hdev : dev < 2) {s : State} (hs : s.memWf = true) (a d x : Nat) (b : Byte) :
    (memPoke dev a b s).ch.memByte d x = if d = dev ∧ x = a then b else s.ch.memByte d x := by
  obtain ⟨h0, h1⟩ := (State.memWf_iff s).mp hs
  unfold memPoke memPut memPut ChandlerS.memByte
  rcases (by omega : dev = 0 ∨ dev = 1) with rfl | rfl
  · by_cases hd : d = 0
    · simp [hd, cellGet_cellPut h0]
    · simp [hd]
  · by_cases hd : d = 1
    · simp [hd, cellGet_cellPut h1]
    · simp [hd]

theorem memPoke_memWf {dev a : Nat} {b : Byte} {s : State} (hs : s.memWf = true) : (memPoke dev a b s).memWf = true :=
  (State.memWf_iff _).mpr (memPut_wf dev a [b] s ((State.memWf_iff s).mp hs))

/-- A byte after bytes were written to a device, by induction on those bytes. -/
theorem memByte_memPut {dev : Nat} (hdev : dev < 2) (bs : List Byte) (a d x : Nat) {s : State} (hs : s.memWf = true) :
    (memPut dev a bs s).ch.memByte d x =
      if d = dev ∧ a ≤ x ∧ x < a + bs.length then bs.getD (x - a) 0 else s.ch.memByte d x := by
  induction bs generalizing a s with
  | nil => rw [if_neg (by rw [List.length_nil]; omega)]; rfl
  | cons b bs ih =>
    rw [memPut_cons, ih (a + 1) (memPoke_memWf hs), memByte_memPoke hdev hs, List.length_cons]
    by_cases hd : d = dev
    · rcases Nat.lt_trichotomy x a with hx | rfl | hx
      · rw [if_neg (by omega), if_neg (by omega), if_neg (by omega)]
      · rw [if_neg (by omega), if_pos ⟨hd, rfl⟩, if_pos (by omega), Nat.sub_self, List.getD_cons_zero]
      · rw [if_neg (c := d = dev ∧ x = a) (by omega), show x - a = x - (a + 1) + 1 by omega, List.getD_cons_succ]
        exact if_congr (by omega) rfl rfl
    · simp [hd]

/-- Settles O57. -/
theorem programAndEraseWriteTheirCells : Obligations.ProgramAndEraseWriteTheirCells := by
  intro dev s hdev hs
  refine ⟨fun nor a bs d x => ?program, fun a n d x => ?erase⟩
  case program =>
    unfold memProgram
    rw [memByte_memPut hdev _ a d x hs]
    cases nor with
    | false => rfl
    | true =>
      simp only [if_true, List.length_map, List.length_range]
      split
      case isTrue hin =>
        have hlt : x - a < bs.length := by omega
        simp only [List.getD_eq_getElem?_getD, List.getElem?_map, List.getElem?_range hlt, Option.map_some, Option.getD_some,
          Nat.add_sub_cancel' hin.2.1]
      case isFalse => rfl
  case erase =>
    unfold memErase ChandlerS.memByte
    rcases (by omega : dev = 0 ∨ dev = 1) with rfl | rfl
    · by_cases hd : d = 0
      · simp [hd, cellGet_cellErase]
      · simp [hd]
    · by_cases hd : d = 1
      · simp [hd, cellGet_cellErase]
      · simp [hd]

end Sys2Proof.Machine

/-! What the commands leave whose own effect an obligation writes out: each by the law of the command in the model, which ties
it to its effect, and the effect being the one written. -/
namespace Sys2Proof.Machine

/-! ### What a command leaves, by its own effect -/

/-! The law of a command names its effect `f`; where `f` is what an obligation writes out as `g`, the command leaves `g`. -/

section Effects
variable {c : Instr} {f g : State → State}

theorem exec_did (h : ∀ s, exec c s = run f s) (hfg : ∀ σ, f σ = g σ) (s : State) : exec c s = .next (s.did g) :=
  (h s).trans (congrArg (fun t => Host.Outcome.next (s.closed t)) (hfg s.opened))

theorem exec_waited {d : State → Option Nat} (h : ∀ s, exec c s = runAfter (fun s => s.waitTill (d s)) f s)
    (hfg : ∀ σ, f σ = g σ) (s : State) : exec c s = .next (s.waited (d s) g) :=
  (h s).trans (congrArg (fun t => Host.Outcome.next ((s.waitTill (d s)).closed t)) (hfg _))

theorem exec_waitedGlobal {d : State → Option Nat} (h : ∀ s, exec c s = runAfter (fun s => s.waitGlobal (d s)) f s)
    (hfg : ∀ σ, f σ = g σ) (s : State) : exec c s = .next (s.waitedGlobal (d s) g) :=
  (h s).trans (congrArg (fun t => Host.Outcome.next ((s.waitGlobal (d s)).closed t)) (hfg _))

theorem exec_afterWait {w : State → State} (h : ∀ s, exec c s = runAfter w f s) (hfg : ∀ σ, f σ = g σ) (s : State) :
    exec c s = .next (s.afterWait w g) :=
  (h s).trans (congrArg (fun t => Host.Outcome.next ((w s).closed t)) (hfg _))

theorem exec_ticked {d : State → Option Nat} (h : ∀ s, exec c s = runTick d f s) (hfg : ∀ σ, f σ = g σ) (s : State) :
    exec c s = .next (s.ticked (d s) g) :=
  (h s).trans (congrArg (fun t => Host.Outcome.next (State.closed _ t)) (hfg _))

end Effects

/-! ### The commands of each part of the machine -/

/-- Settles O2: each command has the effect of its law. -/
theorem clockCommandsComplete : Obligations.ClockCommandsComplete :=
  ⟨exec_did exec_handshakeStall fun _ => rfl,
    exec_did exec_pllLockLoss fun _ => rfl,
    exec_did exec_pllLockAcquired fun _ => rfl,
    exec_did exec_refClkLoss fun _ => rfl,
    exec_did exec_refClkReturn fun _ => rfl,
    exec_waited exec_refClkHoldoverExpiry fun _ => rfl,
    exec_did exec_cdcAcceptFailure fun _ => rfl⟩

/-- Settles O3: each command has the effect of its law. -/
theorem coreAndSupplyCommandsComplete : Obligations.CoreAndSupplyCommandsComplete :=
  ⟨fun l => exec_did (exec_cdcToggleAck l) fun _ => rfl,
    fun i => exec_did (exec_islandRestartDone i) fun _ => rfl,
    fun c => exec_did (exec_coreWatchdogExpiry c) fun _ => rfl,
    fun c selfTestOk => exec_did (exec_coreRestartDone c selfTestOk) fun _ => rfl,
    fun k => exec_did (exec_supplyRangeExit k) fun _ => rfl,
    exec_did exec_supplyRangeClear fun _ => rfl⟩

/-- Settles O4: each command has the effect of its law. -/
theorem resetCommandsComplete : Obligations.ResetCommandsComplete :=
  ⟨fun k => exec_did (exec_porAssert k) fun _ => rfl,
    fun straps => exec_did (exec_porRelease straps) fun _ => rfl,
    fun lowNs => exec_did (exec_resetNAssert lowNs) fun _ => rfl,
    fun straps => exec_did (exec_resetNRelease straps) fun _ => rfl,
    fun straps => exec_did (exec_cresetRestart straps) fun _ => rfl⟩

/-- Settles O5: each command has the effect of its law. -/
theorem startCommandsComplete : Obligations.StartCommandsComplete :=
  ⟨exec_did exec_layoutDirectoryRead fun _ => rfl,
    fun _ _ _ => rfl,
    exec_did exec_patternCandidateCheck fun _ => rfl,
    exec_did exec_patternApply fun _ => rfl,
    exec_did exec_coreImageCheck fun _ => rfl,
    fun supOk ledOk lnkOk => exec_did (exec_coreStart supOk ledOk lnkOk) fun _ => rfl,
    fun copy => exec_did (exec_settingsStoreRead copy) fun _ => rfl,
    exec_did exec_ready fun _ => rfl,
    fun _ => rfl,
    fun _ => rfl,
    fun _ => rfl,
    fun _ => rfl⟩

/-- Settles O6: each command has the effect of its law. -/
theorem feedAndMemoryCommandsComplete : Obligations.FeedAndMemoryCommandsComplete :=
  ⟨fun f => exec_waited (exec_feedQualified f) fun _ => rfl,
    fun i => exec_did (exec_inputQualifyRestart i) fun _ => rfl,
    fun f => exec_did (exec_feedAbsent f) fun _ => rfl,
    fun f => exec_did (exec_feedGateOff f) fun _ => rfl,
    fun f => exec_did (exec_feedGateOn f) fun _ => rfl,
    fun busy => exec_did (exec_memStatusPoll busy) fun _ => rfl,
    exec_waited exec_memWriteTimeout fun _ => rfl⟩

/-- Settles O8: each command has the effect of its law. -/
theorem phaseCommandsComplete : Obligations.PhaseCommandsComplete :=
  ⟨fun n => exec_did (exec_pwmLeadingEdge n) fun _ => rfl,
    fun n why peak ton => exec_did (exec_onTimeEnd n why peak ton) fun _ => rfl,
    fun n code => exec_did (exec_valleySampleConversion n code) fun _ => rfl,
    fun n => exec_did (exec_phaseResultPublish n) fun _ => rfl⟩

/-- Settles O9: each command has the effect of its law. -/
theorem railSampleCommandsComplete : Obligations.RailSampleCommandsComplete :=
  ⟨fun r e sat vsnBad => exec_did (exec_compensatorSample r e sat vsnBad) fun _ => rfl,
    fun r => exec_did (exec_rampStep r) fun _ => rfl,
    fun r vsense => exec_did (exec_ovSnuff r vsense) fun _ => rfl,
    fun r vsense => exec_did (exec_uvComparatorChange r vsense) fun _ => rfl,
    fun r => exec_waited (exec_uvDelayExpiry r) fun _ => rfl,
    fun r => exec_did (exec_railResultPublish r) fun _ => rfl⟩

/-- Settles O10: each command has the effect of its law. -/
theorem railTimerCommandsComplete : Obligations.RailTimerCommandsComplete :=
  ⟨fun r => exec_waited (exec_dwellExpiry r) fun _ => rfl,
    fun r => exec_waited (exec_holdoffExpiry r) fun _ => rfl,
    fun r kind => exec_waited (exec_graceExpiry r kind) fun _ => rfl,
    fun r => exec_waited (exec_settleTimeout r) fun _ => rfl⟩

/-- Settles O11: each command has the effect of its law. -/
theorem loadLinkCommandsComplete : Obligations.LoadLinkCommandsComplete :=
  ⟨fun p edges startOne => exec_did (exec_llFrameBoundary p edges startOne) fun _ => rfl,
    fun p sub tog payload rcrc => exec_did (exec_setV p sub tog payload rcrc) fun _ => rfl,
    fun p sub tog payload rcrc => exec_did (exec_preload p sub tog payload rcrc) fun _ => rfl,
    fun p sub tog payload rcrc => exec_did (exec_llRead p sub tog payload rcrc) fun _ => rfl,
    fun p sub tog payload rcrc => exec_did (exec_noticeAck p sub tog payload rcrc) fun _ => rfl,
    fun p sub tog payload rcrc => exec_did (exec_dimAck p sub tog payload rcrc) fun _ => rfl,
    fun p cmd sub tog payload rcrc => exec_did (exec_llUnusedCommand p cmd sub tog payload rcrc) fun _ => rfl⟩

/-- Settles O12: each command has the effect of its law. -/
theorem lamplighterCommandsComplete : Obligations.LamplighterCommandsComplete :=
  ⟨exec_waited exec_lamplighterTick fun _ => rfl,
    fun d => exec_ticked (exec_domainCommonStart d) fun _ => rfl,
    fun n => exec_ticked (exec_slotSwitchOn n) fun _ => rfl,
    fun n => exec_ticked (exec_slotOffPoint n) fun _ => rfl,
    fun n => exec_ticked (exec_upToExpiry n) fun _ => rfl,
    fun n => exec_ticked (exec_downToExpiry n) fun _ => rfl,
    fun n level => exec_did (exec_pgInChange n level) fun _ => rfl⟩

/-- Settles O13: each command has the effect of its law. -/
theorem domainCommandsComplete : Obligations.DomainCommandsComplete :=
  ⟨fun d => exec_waited (exec_domainInputQualified d) fun _ => rfl,
    fun d => exec_did (exec_domainInputLost d) fun _ => rfl,
    fun d => exec_waited (exec_minOffExpiry d) fun _ => rfl,
    fun d => exec_waited (exec_restartExpiry d) fun _ => rfl,
    fun d => exec_waited (exec_retryWindowExpiry d) fun _ => rfl⟩

/-- Settles O14: each command has the effect of its law. -/
theorem monitorCommandsComplete : Obligations.MonitorCommandsComplete :=
  ⟨fun m v => exec_did (exec_wickSample m v) fun _ => rfl,
    fun m v => exec_did (exec_continuousComparatorChange m v) fun _ => rfl,
    fun m high => exec_waited (exec_continuousFilterExpiry m high) fun _ => rfl,
    fun t => exec_waited (exec_captureSaturate t) fun _ => rfl,
    fun m low high v => exec_did (exec_selfTestSample m low high v) fun _ => rfl,
    exec_did exec_sweepVisit fun _ => rfl⟩

/-- Settles O15: each command has the effect of its law. -/
theorem housekeepingCommandsComplete : Obligations.HousekeepingCommandsComplete :=
  ⟨exec_waited exec_hkRoundStart fun _ => rfl,
    fun ch val q => exec_did (exec_hkConversionDone ch val q) fun _ => rfl,
    fun ch => exec_did (exec_hkConversionTimeout ch) fun _ => rfl,
    exec_waited exec_hkRoundLate fun _ => rfl⟩

/-- Settles O16: each command has the effect of its law. -/
theorem holdUpCommandsComplete : Obligations.HoldUpCommandsComplete :=
  ⟨exec_did exec_rideComparatorTrip fun _ => rfl,
    exec_did exec_rideComparatorClear fun _ => rfl,
    exec_waited exec_handbackExpiry fun _ => rfl,
    exec_waited exec_maxRideExpiry fun _ => rfl,
    exec_waited exec_busBarQualified fun _ => rfl,
    exec_did exec_busBarAbsent fun _ => rfl,
    fun uv => exec_did (exec_shareSample uv) fun _ => rfl,
    exec_did exec_shareLoopStep fun _ => rfl⟩

/-- Settles O17: each command has the effect of its law. -/
theorem cartridgeCommandsComplete : Obligations.CartridgeCommandsComplete :=
  ⟨fun res => exec_did (exec_mbTransactionDone res) fun _ => rfl,
    fun c => exec_waited (exec_mbFailureRetry c) fun _ => rfl,
    fun c => exec_waited (exec_mbBusyRetry c) fun _ => rfl,
    fun sdaStuck => exec_did (exec_mbLowTimeout sdaStuck) fun _ => rfl,
    fun c => exec_did (exec_cartridgeStatusPoll c) fun _ => rfl,
    fun c => exec_did (exec_authPoll c) fun _ => rfl,
    fun c => exec_waited (exec_authTimeout c) fun _ => rfl,
    fun c => exec_waited (exec_reauthTimer c) fun _ => rfl,
    exec_did exec_counterWritePeriod fun _ => rfl⟩

/-- Settles O18: each command has the effect of its law. -/
theorem reactionCommandsComplete : Obligations.ReactionCommandsComplete :=
  ⟨exec_waited exec_faultnReleaseTimer fun _ => rfl,
    fun b => exec_did (exec_blockResetComplete b) fun _ => rfl⟩

/-- Settles O20: each command has the effect of its law. -/
theorem twinCommandsComplete : Obligations.TwinCommandsComplete :=
  ⟨fun crcOk seq => exec_did (exec_plYield crcOk seq) fun _ => rfl,
    fun crcOk seq => exec_did (exec_plRefuse crcOk seq) fun _ => rfl,
    fun crcOk seq => exec_did (exec_plTakeReq crcOk seq) fun _ => rfl,
    fun crcOk seq n => exec_did (exec_plFence crcOk seq n) fun _ => rfl,
    fun crcOk seq n => exec_did (exec_plUnfence crcOk seq n) fun _ => rfl,
    fun crcOk seq r => exec_did (exec_plSnuff crcOk seq r) fun _ => rfl,
    fun crcOk seq r => exec_did (exec_plUnsnuff crcOk seq r) fun _ => rfl,
    fun crcOk seq r => exec_did (exec_plShedAnnouncement crcOk seq r) fun _ => rfl,
    fun crcOk seq m => exec_did (exec_plRelight crcOk seq m) fun _ => rfl,
    fun crcOk seq discharge => exec_did (exec_plDirectionChange crcOk seq discharge) fun _ => rfl,
    fun crcOk seq n on => exec_did (exec_plLamplighterStep crcOk seq n on) fun _ => rfl,
    fun crcOk seq v => exec_did (exec_plSlotVerdict crcOk seq v) fun _ => rfl,
    fun crcOk seq mask => exec_did (exec_plDomainShutoff crcOk seq mask) fun _ => rfl,
    fun crcOk seq addr v => exec_did (exec_plTrim crcOk seq addr v) fun _ => rfl,
    fun _ _ => rfl,
    fun _ _ => rfl,
    fun _ _ => rfl⟩

/-- Settles O21: each command has the effect of its law. -/
theorem ownershipCommandsComplete : Obligations.OwnershipCommandsComplete :=
  ⟨exec_waited exec_ownershipDecision fun _ => rfl,
    exec_did exec_handoverOrigin fun _ => rfl,
    fun asserted => exec_did (exec_peerOwnNChange asserted) fun _ => rfl,
    exec_waited exec_ownRelease fun _ => rfl,
    exec_waited exec_ownConflict fun _ => rfl,
    exec_waited exec_revertHoldExpiry fun _ => rfl,
    exec_waited exec_verdictTimeout fun _ => rfl,
    exec_waited exec_flapWindowExpiry fun _ => rfl,
    exec_waited exec_groundHoldExpiry fun _ => rfl⟩

/-- Settles O22: each command has the effect of its law. -/
theorem ovrathLinkCommandsComplete : Obligations.OvrathLinkCommandsComplete :=
  ⟨fun k => exec_did (exec_ovLinkAligned k) fun _ => rfl,
    fun k e l => exec_did (exec_ovLinkFrame k e l) fun _ => rfl,
    fun k => exec_did (exec_ovLinkFrameSend k) fun _ => rfl,
    fun k why => exec_waited (exec_ovLinkDown k why) fun _ => rfl,
    fun k e f => exec_did (exec_ovFrameForward k e f) fun _ => rfl,
    fun k cls credits => exec_did (exec_ovCreditReturn k cls credits) fun _ => rfl,
    fun k => exec_waited (exec_ovSummaryWindowEnd k) fun _ => rfl,
    fun k => exec_did (exec_ovPark k) fun _ => rfl,
    fun k e => exec_did (exec_ovUnlistedType k e) fun _ => rfl⟩

/-- Settles O24: each command has the effect of its law. -/
theorem ovrathMessageCommandsComplete : Obligations.OvrathMessageCommandsComplete :=
  ⟨fun k e h => exec_did (exec_ovEnum k e h) fun _ => rfl,
    fun k e h n => exec_did (exec_ovCount k e h n) fun _ => rfl,
    fun k e h base len => exec_did (exec_ovAssign k e h base len) fun _ => rfl,
    fun k e h acting => exec_did (exec_ovRole k e h acting) fun _ => rfl,
    fun k e h base len => exec_did (exec_ovGraft k e h base len) fun _ => rfl,
    fun k e h base len => exec_did (exec_ovUngraft k e h base len) fun _ => rfl,
    fun k e h addr count => exec_did (exec_ovRdReq k e h addr count) fun _ => rfl,
    fun k e h addr data => exec_did (exec_ovWrReq k e h addr data) fun _ => rfl,
    fun k e h status data => exec_did (exec_ovResp k e h status data) fun _ => rfl,
    fun k e h mark markMs time => exec_did (exec_ovTime k e h mark markMs time) fun _ => rfl,
    fun k e h v => exec_did (exec_ovShareSp k e h v) fun _ => rfl,
    fun k e h v => exec_did (exec_ovCap k e h v) fun _ => rfl,
    fun k e h a => exec_did (exec_ovActivate k e h a) fun _ => rfl,
    fun k e h rec => exec_did (exec_ovEvrec k e h rec) fun _ => rfl,
    fun k e h payload => exec_did (exec_ovSnaprec k e h payload) fun _ => rfl,
    fun k e h imgId offset data => exec_did (exec_ovImgData k e h imgId offset data) fun _ => rfl⟩

/-- Settles O25: each command has the effect of its law. -/
theorem ovrathTimerCommandsComplete : Obligations.OvrathTimerCommandsComplete :=
  ⟨exec_waited exec_ovMarkTimer fun _ => rfl,
    exec_waited exec_ovCountTimeout fun _ => rfl,
    exec_waited exec_ovTimeHold fun _ => rfl,
    exec_waited exec_ovBarrierTimeout fun _ => rfl,
    exec_waitedGlobal exec_ovSnapCapture fun _ => rfl,
    fun tag => exec_waited (exec_ovTxnTimeout tag) fun _ => rfl,
    exec_waited exec_ovAutoReroute fun _ => rfl,
    exec_waited exec_ovDeputyTakeover fun _ => rfl⟩

/-- Settles O26: each command has the effect of its law. -/
theorem ledgerCommandsComplete : Obligations.LedgerCommandsComplete :=
  ⟨fun chan samples t0 => exec_did (exec_ledgerBlockWrite chan samples t0) fun _ => rfl,
    exec_waitedGlobal exec_recordClose fun _ => rfl,
    exec_waited exec_archiveFlushStart fun _ => rfl,
    exec_did exec_archiveFlushDone fun _ => rfl,
    fun complete => exec_did (exec_lastGaspWriteDone complete) fun _ => rfl,
    fun site double => exec_did (exec_eccError site double) fun _ => rfl⟩

/-- Settles O38: each command has the effect of its law. -/
theorem hostBusCommandsComplete : Obligations.HostBusCommandsComplete :=
  ⟨fun p count => exec_did (exec_hbSetPointer p count) fun _ => rfl,
    fun ph pl => exec_did (exec_hbSetPointer (.both ph pl) 0) fun _ => rfl,
    fun ptr data => exec_did (exec_registerWrite ptr data) fun _ => rfl,
    exec_did exec_hostBusStop fun _ => rfl,
    fun line => exec_did (exec_hbLowTimeout line) fun _ => rfl,
    fun res => exec_did (exec_attnAttempt res) fun _ => rfl,
    exec_did exec_attnBackoffExpiry fun _ => rfl,
    fun pulses => exec_did (exec_hbRecovery pulses) fun _ => rfl,
    fun pat line => exec_did (exec_windowLineFetch pat line) fun _ => rfl,
    fun ov => exec_waited (exec_unlockDisarmTimeout ov) fun _ => rfl,
    fun ov => exec_waited (exec_unlockIdleLock ov) fun _ => rfl⟩

/-- Settles O41: each command has the effect of its law. -/
theorem serviceMemoryCommandsComplete : Obligations.ServiceMemoryCommandsComplete :=
  ⟨fun tag q dev ofs => exec_did (exec_spMemErase tag q dev ofs) fun _ => rfl,
    fun tag q dev ofs data => exec_did (exec_spMemWrite tag q dev ofs data) fun _ => rfl,
    fun tag q dev ofs count => exec_did (exec_spMemRead tag q dev ofs count) fun _ => rfl,
    fun tag q slot key => exec_did (exec_spKeyWrite tag q slot key) fun _ => rfl,
    fun tag q => exec_did (exec_testChallenge tag q) fun _ => rfl,
    fun tag q payload => exec_did (exec_testEnter tag q payload) fun _ => rfl,
    exec_did exec_spFetch fun _ => rfl,
    exec_waited exec_spSessionTimeout fun _ => rfl,
    exec_waited exec_ovStagingSilence fun _ => rfl⟩

/-- Settles O42: each command has the effect of its law. -/
theorem updateCommandsComplete : Obligations.UpdateCommandsComplete :=
  ⟨exec_did exec_imageVerify fun _ => rfl,
    fun c => exec_did (exec_coreConfirm c) fun _ => rfl,
    fun c => exec_waited (exec_coreTrialTimeout c) fun _ => rfl,
    exec_waited exec_proofWindowEnd fun _ => rfl,
    exec_waited exec_pairSequenceHalt fun _ => rfl,
    exec_afterWait exec_scheduledActivation fun _ => rfl⟩

end Sys2Proof.Machine

namespace Sys2Proof.Machine

/-! The commands of which an obligation says case by case what they leave: along the branches of their effect. -/

section Branches
variable {o : Host.Outcome State Fault Refusal} {w a b : State} {p A B : Prop} [Decidable p]

/-- What holds of each branch of an effect holds of the command under the branch's condition. -/
theorem closed_ite (h : o = .next (w.closed (if p then a else b))) (ha : o = .next (w.closed a) → A)
    (hb : o = .next (w.closed b) → B) : (p → A) ∧ (¬p → B) :=
  ⟨fun hp => ha (by rwa [if_pos hp] at h), fun hp => hb (by rwa [if_neg hp] at h)⟩

/-- The same for a branch of which the obligation names the condition's other value first. -/
theorem closed_ite_not {q : Bool} (h : o = .next (w.closed (if !q then a else b))) (ha : o = .next (w.closed a) → A)
    (hb : o = .next (w.closed b) → B) : (!q → A) ∧ (q → B) :=
  (closed_ite h ha hb).imp id fun f hq => f (by simp [hq])

theorem closed_of_eq (h : o = .next (w.closed a)) (e : a = b) : o = .next (w.closed b) := e ▸ h

end Branches

/-! ### The scrub, the sleep and the wake -/

theorem scrubRepaired_nil {s : State} (h : s.ch.upset = []) : scrubRepaired s = s := by
  simp only [scrubRepaired, h]

theorem scrubRepaired_cons {s : State} {seg : Nat} {rest : List Nat} (h : s.ch.upset = seg :: rest) :
    scrubRepaired s =
      if s.blockDown .chandler || (s.paired && s.pair.role == .active && s.pair.yielding) then s
      else if s.rereadOk then (rereadFetch s).updCh (fun c => { c with upset := rest, repaired := true })
      else fire 180 3 ((rereadFetch s).updCh (fun c => { c with upset := rest, stuck := c.stuck ++ [seg], unrepaired := true })) := by
  simp only [scrubRepaired, h]

theorem idleSleep_none {s : State} (h : s.slp.idleAt = none) : idleSleep s = s := by
  simp only [idleSleep, h]

theorem idleSleep_some {s : State} {t : Nat} (h : s.slp.idleAt = some t) :
    idleSleep s =
      if s.cfg.device.sleepPolicy = 2 && s.cfg.device.sleepIdle ≠ 0 && t + sec s.cfg.device.sleepIdle ≤ s.now then requestSleep s
      else s := by
  simp only [idleSleep, h]

/-- Settles O7: along the branches of each effect. -/
theorem scrubAndSleepCommandsComplete : Obligations.ScrubAndSleepCommandsComplete :=
  ⟨fun seg crc s => closed_ite (exec_scrubSegmentCheck seg crc s)
      (fun h => closed_ite h (fun h => closed_ite h id id) (fun h => closed_ite h id (fun h => closed_ite h id id))) id,
    fun s => ⟨fun h => closed_of_eq (exec_scrubRepair s) (scrubRepaired_nil h),
      fun _ _ h => closed_ite (closed_of_eq (exec_scrubRepair s) (scrubRepaired_cons h)) id (fun h => closed_ite h id id)⟩,
    fun s => ⟨fun _ h => closed_ite (closed_of_eq (exec_sleepIdleExpiry s) (idleSleep_some h))
        (fun h => closed_ite h id (fun h => closed_ite h id id)) id,
      fun h => closed_of_eq (exec_sleepIdleExpiry s) (idleSleep_none h)⟩,
    fun s => closed_ite (exec_sleepEntry s) (fun h => closed_ite h id id) id,
    fun src s => closed_ite (exec_wakeRequest src s) id id,
    fun s => closed_ite (exec_slpAlarmExpiry s) id id,
    fun bad s => closed_ite (exec_wakeScrubPass bad s) (fun h => closed_ite h id (fun h => closed_ite h id id)) id,
    fun s => closed_ite (exec_wakeComplete s) id id,
    fun _ => rfl, fun _ => rfl, fun _ => rfl, fun _ _ => rfl, fun _ => rfl, fun _ => rfl, fun _ => rfl, fun _ => rfl,
    fun _ => rfl, fun _ => rfl, fun _ => rfl⟩

/-! ### The pair link -/

theorem ctrlRetry_none {s : State} {seq : Nat} (h : s.pair.unacked.find? (fun (c : CtrlOut) => c.seq == seq) = none) :
    ctrlRetry seq s = s := by
  simp only [ctrlRetry, h]

theorem ctrlRetry_some {s : State} {seq : Nat} {c : CtrlOut}
    (h : s.pair.unacked.find? (fun (c : CtrlOut) => c.seq == seq) = some c) :
    ctrlRetry seq s =
      if s.now < c.at_ + us 2 then s
      else if c.tries < 3 then
        send (.pair seq (.ctrl c.cmd)) (s.updPair (fun p => { p with
          unacked := p.unacked.map (fun x => if x == c then { x with tries := x.tries + 1, at_ := s.now } else x)
          retx := sat255 p.retx }))
      else
        let t := linkFault 1 (s.updPair (fun p => { p with
          unacked := p.unacked.filter (· != c), takeSent := p.takeSent && c.cmd != .takeReq }))
        if c.cmd == .yield && t.pair.yielding && t.pair.release.isNone then yieldBlock t else t := by
  simp only [ctrlRetry, h]

/-- Settles O19: along the branches of each effect. -/
theorem pairLinkCommandsComplete : Obligations.PairLinkCommandsComplete :=
  ⟨fun s => closed_ite (exec_pairLinkUp s) id id,
    exec_pairLinkLoss,
    fun _ => rfl,
    fun _ => rfl,
    fun s => closed_ite (exec_plSyncHealthSend s) id id,
    fun s => closed_ite (exec_plStateSend s) id id,
    fun seq s => ⟨fun h => closed_of_eq (exec_plCtrlRetryTimer seq s) (ctrlRetry_none h),
      fun _ h => closed_ite (closed_of_eq (exec_plCtrlRetryTimer seq s) (ctrlRetry_some h)) id
        (fun h => closed_ite h id (fun h => closed_ite h id id))⟩,
    fun crcOk seq s => closed_ite (exec_plAck crcOk seq s) (fun h => closed_ite h id id) id,
    fun crcOk l s => closed_ite (exec_plSync crcOk l s) (fun h => closed_ite h (fun h => closed_ite h id id) id) id,
    fun crcOk x s => closed_ite (exec_plHealth crcOk x s) (fun h => closed_ite h id id) id,
    fun crcOk t s => closed_ite (exec_plState crcOk t s) (fun h => closed_ite h id id) id,
    fun crcOk r s => closed_ite (exec_plReport crcOk r s) (fun h => closed_ite h id id) id,
    fun crcOk m s => closed_ite (exec_plStream crcOk m s)
      (fun h => closed_ite h
        (fun h => closed_ite h
          (fun h => closed_ite h (fun h => closed_ite h id id)
            (fun h => ⟨fun _ _ hf => closed_of_eq h (by rw [hf]; rfl), fun _ _ _ _ hf => closed_of_eq h (by rw [hf]; rfl)⟩)) id) id) id,
    fun s => closed_ite (exec_streamFrameTimeout s) id id⟩

/-! ### The class-0 frames of Ovrath -/

theorem onUp0_closed {k : Fin 6} {e : FrameEnd} {ty : Nat} {f : Ov0} {c : Instr} (hc : ∀ s, exec c s = run (upIn k e ty f) s)
    (s : State) :
    let σ := s.opened
    let r := rx k e σ
    (!σ.portUp k → exec c s = .next (s.closed r.2)) ∧
    (σ.portUp k →
      (σ.ov.acting → exec c s = .next (s.closed (r.2.when r.1 (onceOnly f.paired f.src.toNat f.arg2.toNat f.corr.toNat id)))) ∧
      (¬(σ.ov.acting) →
        (f.hops ≥ 15 → exec c s = .next (s.closed (ovDrop k r.2))) ∧
        (¬(f.hops ≥ 15) →
          exec c s = .next (s.closed (relayOut (!r.1) (.c0 ty { f with hops := f.hops + 1 }) none σ.upPort r.2))))) :=
  closed_ite_not (hc s) id fun h => closed_ite h id fun h => closed_ite h id id

/-- A frame that only the root may send: what it does not do on a closed port, from another source, or bad; and `good`, what
it does otherwise. -/
theorem onRoot0_closed {k : Fin 6} {e : FrameEnd} {ty : Nat} {f : Ov0} {act : State → State} {c : Instr} {A : Prop}
    {s : State} (hc : exec c s = .next (s.closed (onRoot0 k e ty f act s.opened)))
    (good : exec c s = .next (s.closed (act (rootNamed f.src.toNat (c0On false ty f (rx k e s.opened).2)))) → A) :
    let σ := s.opened
    let r := rx k e σ
    (!σ.portUp k → exec c s = .next (s.closed r.2)) ∧
    (σ.portUp k →
      (!σ.fromRoot k f.src.toNat → exec c s = .next (s.closed (r.2.when r.1 (ovDrop k)))) ∧
      (σ.fromRoot k f.src.toNat →
        (r.1 → A) ∧ (¬(r.1) → exec c s = .next (s.closed (c0On true ty f r.2))))) :=
  closed_ite_not hc id fun h => closed_ite_not h id fun h => closed_ite h good id

/-- Settles O23: along the branches of the two ways a class-0 frame is taken, up to the root and down from it. -/
theorem ovrathClassZeroCommandsComplete : Obligations.OvrathClassZeroCommandsComplete :=
  ⟨fun k e f => onUp0_closed (exec_ovTrip k e f),
    fun k e f => onUp0_closed (exec_ovYield k e f),
    fun k e f => onUp0_closed (exec_ovSummary k e f),
    fun k e f s => closed_ite (exec_ovBarAck k e f s) (fun h => closed_ite h id id) id,
    fun k e f s => closed_ite (exec_ovSnapAck k e f s) (fun h => closed_ite h id id) id,
    fun k e f s => onRoot0_closed (exec_ovTmark k e f s) id,
    fun k e f s => onRoot0_closed (exec_ovBarrier k e f s) id,
    fun k e f s => onRoot0_closed (exec_ovSnap k e f s) (fun h => closed_ite h id id),
    fun k e f s => onRoot0_closed (exec_ovReset k e f s) id,
    fun k e f s => onRoot0_closed (exec_ovFtrip k e f s) (fun h => closed_ite h id id),
    fun k e f s => onRoot0_closed (exec_ovFstart k e f s) id,
    fun k e f s => closed_ite_not (exec_ovRootchg k e f s) id fun h => closed_ite h id fun h =>
      closed_ite h (fun h => closed_ite_not h id fun h => closed_ite h id id) id⟩

/-! ### The reads of the host -/

theorem exec_read {c : Instr} {a n : Nat} (hc : ∀ s, exec c s = run (hostRead a n) s) (s : State) :
    let σ := s.opened
    (σ.readsNow a n = true → exec c s = .next (s.closed (σ.readOut a n))) ∧
    (σ.readsNow a n = false → exec c s = .next (s.closed (σ.readAway a n))) :=
  ⟨fun h => closed_of_eq (hc s) (hostRead_served a n s.opened h), fun h => closed_of_eq (hc s) (hostRead_away a n s.opened h)⟩

/-- Settles O39: a read that is served, and one that is not. -/
theorem readCommandsComplete : Obligations.ReadCommandsComplete :=
  ⟨fun n count => exec_read (exec_phResRead n count),
    fun r count => exec_read (exec_railResRead r count),
    fun t count => exec_read (exec_ctResRead t count),
    fun count => exec_read (exec_hkResRead count),
    fun count => exec_read (exec_thResRead count),
    fun count => exec_read (exec_huResRead count),
    fun count => exec_read (exec_evTimeRead count),
    fun i count => exec_read (exec_tallyRead i count),
    fun count => exec_read (exec_ovTimeRead count),
    fun count => exec_read (exec_lgRecInfoRead count),
    fun ofs count => exec_read (exec_ledgerWindowRead ofs count),
    fun ofs count => exec_read (exec_patternWindowRead ofs count)⟩

/-! ### The requests of the service port -/

/-- A command that leaves a request answered as an action says: its status, its bytes and the state. -/
def Answers (c : Instr) (s : State) (tag : Nat) (x : Nat × List Byte × State) : Prop :=
  exec c s = .next (s.closed (spAnswer x.1 tag x.2.1 x.2.2))

section Requests
variable {c : Instr} {cmd tag : Nat} {fields : List Byte} {q : SpEnd} {act : SpAct} {s τ : State} {modes : List Nat}
  {x y : Nat × List Byte × State} {p A B : Prop} [Decidable p]

theorem answers_taken (h : ∀ s, exec c s = run (spRequest cmd tag fields q act) s)
    (ht : s.opened.spTakes cmd tag fields q = true) : Answers c s tag (act (s.opened.spTaken cmd tag)) :=
  closed_of_eq (h s) (spRequest_taken cmd tag fields q act s.opened ht)

theorem answers_ite (h : Answers c s tag (if p then x else y)) (hx : Answers c s tag x → A) (hy : Answers c s tag y → B) :
    (p → A) ∧ (¬p → B) :=
  ⟨fun hp => hx (by rwa [if_pos hp] at h), fun hp => hy (by rwa [if_neg hp] at h)⟩

theorem answers_ite_not {b : Bool} (h : Answers c s tag (if !b then x else y)) (hx : Answers c s tag x → A)
    (hy : Answers c s tag y → B) : (!b → A) ∧ (b → B) :=
  (answers_ite h hx hy).imp id fun f hb => f (by simp [hb])

theorem inSession_none (h : τ.sp.mode = none) : inSession modes act τ = (5, [], τ) := by
  simp only [inSession, h]

theorem inSession_some {m : Nat} (h : τ.sp.mode = some m) :
    inSession modes act τ = if modes.contains m then act τ else (3, [], τ) := by
  simp only [inSession, h]

theorem Answers.of_eq (h : Answers c s tag x) (e : x = y) : Answers c s tag y := e ▸ h

/-- A request that needs a session (Table 16.3): with none, in one of another mode, and `hin`, in one of the right mode. -/
theorem answers_inSession (h : Answers c s tag (inSession modes act τ)) (hin : Answers c s tag (act τ) → A) :
    (τ.sp.mode = none → exec c s = .next (s.closed (spAnswer 5 tag [] τ))) ∧
    (∀ m, τ.sp.mode = some m →
      (modes.contains m → A) ∧ (¬(modes.contains m) → exec c s = .next (s.closed (spAnswer 3 tag [] τ)))) :=
  ⟨fun hm => (inSession_none hm ▸ h : Answers c s tag (5, [], τ)),
    fun _ hm => answers_ite (inSession_some hm ▸ h) hin id⟩

end Requests

/-- SP_OPEN on a port that is free, by the mode asked for. -/
def spOpenFree (mode : Nat) : SpAct := fun s =>
  if 2 < mode then (4, [], s)
  else
    let ok : Bool := match mode with
      | 0 => s.cfg.sp.readout
      | 1 => s.cfg.sp.update
      | _ => s.mode == .test || s.ch.blank
    if ok then (0, [], s.updSp (fun p => { p with mode := some mode })) else (6, [], s)

theorem spOpenDo_eq (mode : Nat) (s : State) :
    spOpenDo mode s = if s.mode == .testWait || s.sp.mode.isSome then (3, [], s) else spOpenFree mode s := rfl

/-- Settles O40: a request that is taken, along the branches of its action. -/
theorem servicePortCommandsComplete : Obligations.ServicePortCommandsComplete :=
  ⟨fun tag q mode s => ⟨exec_spOpen tag q mode s, fun ht =>
      answers_ite ((answers_taken (exec_spOpen tag q mode) ht).of_eq (spOpenDo_eq _ _)) id
        fun h => answers_ite h id fun h => answers_ite h id id⟩,
    fun tag q s => ⟨exec_spClose tag q s, fun ht => answers_inSession (answers_taken (exec_spClose tag q) ht) id⟩,
    fun tag q s => ⟨exec_spInfo tag q s, fun ht => answers_inSession (answers_taken (exec_spInfo tag q) ht) id⟩,
    fun tag q space ofs count s => ⟨exec_spRead tag q space ofs count s, fun ht =>
      answers_inSession (answers_taken (exec_spRead tag q space ofs count) ht)
        fun h => answers_ite h id fun h => answers_ite h id id⟩,
    fun tag q payload s => ⟨exec_spStageBegin tag q payload s, fun ht =>
      answers_inSession (answers_taken (exec_spStageBegin tag q payload) ht)
        fun h => answers_ite h id fun h => answers_ite_not h id id⟩,
    fun tag q ofs data s => ⟨exec_spStageData tag q ofs data s, fun ht =>
      answers_inSession (answers_taken (exec_spStageData tag q ofs data) ht)
        fun h => answers_ite h id fun h => answers_ite_not h id id⟩,
    fun tag q s => ⟨exec_spStageAbort tag q s, fun ht => answers_inSession (answers_taken (exec_spStageAbort tag q) ht) id⟩,
    fun tag q imgId confirm atTime s => ⟨exec_spActivate tag q imgId confirm atTime s, fun ht =>
      answers_inSession (answers_taken (exec_spActivate tag q imgId confirm atTime) ht) fun h => answers_ite h id id⟩,
    fun tag q s => ⟨exec_spCancel tag q s, fun ht => answers_inSession (answers_taken (exec_spCancel tag q) ht) id⟩,
    fun tag q mode s => ⟨exec_spRevert tag q mode s, fun ht =>
      answers_inSession (answers_taken (exec_spRevert tag q mode) ht) fun h => answers_ite h id fun h => answers_ite h id id⟩,
    fun tag q s => ⟨exec_spConfirm tag q s, fun ht => answers_inSession (answers_taken (exec_spConfirm tag q) ht) id⟩,
    fun cmd tag q s => ⟨exec_spUnknownCommand cmd tag q s, fun ht => answers_taken (exec_spUnknownCommand cmd tag q) ht⟩⟩

end Sys2Proof.Machine

namespace Sys2Proof.Machine

/-! ### The step and the reset -/

/-- Settles O1. -/
theorem stepRunsFrontCommand : Obligations.StepRunsFrontCommand := fun _ _ _ => rfl

theorem step_idle {s : State} (h : s.pending = []) : step s = .next (idleTick s) := by
  simp only [step, h]

/-- Settles O50. -/
theorem anIdleStepPassesOneNanosecond : Obligations.AnIdleStepPassesOneNanosecond :=
  fun _ h => ⟨step_idle h, rfl⟩

theorem memByte_reset (d a : Nat) : State.reset.ch.memByte d a = 0xFF := by
  have herased : cellGet [] a = 0xFF := rfl
  simp only [ChandlerS.memByte, State.reset, herased, ite_self]

/-! ### A firing and INT_N -/

theorem logEvent_ev_eq (kind a b c : Nat) (s : State) :
    (logEvent kind a b c s).ev.src = s.ev.src ∧ (logEvent kind a b c s).ev.last = s.ev.last ∧
      (logEvent kind a b c s).ev.tallies = s.ev.tallies := by
  unfold logEvent fireIf
  split <;> exact ⟨rfl, rfl, rfl⟩

theorem recordFiring_ev (n : Fin 192) (sub e cause : Nat) (s : State) :
    let t := recordFiring n sub e cause s
    t.ev.src = s.ev.src.upd n (fun x => { x with
      pend := true, fired := true, fence := e % 16 == 3, count := sat255 x.count, sub := sub, time := s.ov.gtime }) ∧
    t.ev.last = n.val ∧ t.ev.tallies = s.ev.tallies.upd 0 (fun k => min 0xFFFFFFFF (k + 1)) := by
  dsimp only [recordFiring]
  split
  · exact ⟨rfl, rfl, rfl⟩
  · exact logEvent_ev_eq ..

theorem intSource_iff (s : State) (n : Fin 192) :
    s.intSource n = true ↔ s.ev.src[n].pend = true ∧ s.ev.src[n].ien = true ∧ hasInt s.cfg.react[n] = true := by
  simp [State.intSource, and_assoc]

theorem intN_iff (s : State) : s.intN = true ↔
    ∃ n : Fin 192, s.ev.src[n].pend = true ∧ s.ev.src[n].ien = true ∧ hasInt s.cfg.react[n] = true := by
  simp only [State.intN, List.any_eq_true, List.mem_finRange, true_and, intSource_iff]

/-- Settles O60. -/
theorem aFiringIsRecorded : Obligations.AFiringIsRecorded := by
  refine ⟨fun n sub e cause s => ?_, intN_iff⟩
  obtain ⟨hsrc, hlast, htal⟩ := recordFiring_ev n sub e cause s
  refine ⟨?_, fun m hm => ?_, hlast, ?_, fun i hi => ?_⟩
  · rw [hsrc, Tab.upd_same]; rfl
  · rw [hsrc, Tab.upd_other _ _ _ _ hm.symm]
  · rw [htal, Tab.upd_same]
  · rw [htal, Tab.upd_other _ _ _ _ hi.symm]

theorem intN_reset : State.reset.intN = false :=
  Bool.eq_false_iff.mpr fun h => by
    obtain ⟨n, hn, -⟩ := (intN_iff _).mp h
    simp [State.reset] at hn

/-- Settles O51. -/
theorem resetState : Obligations.ResetState :=
  ⟨rfl, rfl, rfl, fun n => by simp [State.reset], fun r => by simp [State.reset], fun n => by simp [State.reset], rfl, rfl,
    intN_reset, fun i => by simp [State.reset], fun i => by simp [State.reset], fun k => by simp [State.reset], rfl, rfl,
    memByte_reset, rfl, fun i => by simp [State.reset], rfl⟩

/-! ### A target that does not answer -/

theorem hostRead_nack {s : State} (a n : Nat) (h : s.hostAcks = false) : hostRead a n s = hostNack s := by
  simp [hostRead, h]

theorem hostAcks_iff (s : State) : s.hostAcks = true ↔ s.ev.inReset.contains .hostBus = false ∧
    (s.mode = .ready ∨ s.mode = .toSleep ∨ s.mode = .start ∧ 11 ≤ s.step) := by
  simp only [State.hostAcks, Bool.and_eq_true, Bool.or_eq_true, Bool.not_eq_true', beq_iff_eq, decide_eq_true_eq]
  tauto

theorem hostNack_reset {s : State} (h : s.mode = .por ∨ s.mode = .creset ∨ s.mode = .held) : hostNack s = s := by
  rcases h with h | h | h <;> simp only [hostNack, h]

theorem hostNack_busy {s : State} (hp : s.mode ≠ .por) (hc : s.mode ≠ .creset) (hh : s.mode ≠ .held) :
    hostNack s = nackBusy s := by
  cases hmode : s.mode <;> simp_all only [hostNack, ne_eq, not_true_eq_false]

/-- Settles O58. -/
theorem anUnansweredHostIsCounted : Obligations.AnUnansweredHostIsCounted :=
  ⟨hostAcks_iff, fun a n bs s h => ⟨hostBurst_nack a bs s h, hostRead_nack a n h, hostNack_reset, hostNack_busy⟩⟩

/-! ### A protected write of a locked path -/

/-- What a protected write of a path that is not open leaves: the state, or a refusal and nothing else. -/
theorem trimWrite_locked {p : Path} {a v : Nat} {s : State} (h : s.openFor p = false) :
    trimWrite p a v s = s ∨ trimWrite p a v s = twinRefuse s ∨
      trimWrite p a v s = fire 175 8 (s.updHb (fun x => { x with stat := x.stat ||| 256 })) := by
  unfold trimWrite
  rw [if_neg (c := s.openFor p = true) (by simp [h])]
  repeat' split
  all_goals simp

theorem trimWrite_host {a v : Nat} {s : State} (h : s.openFor .host = false) (hm : rwpMask a ≠ 0) (hh : s.rwpHere a = true)
    (hp : s.passive = false) :
    trimWrite .host a v s =
      if s.rwpDiffers a v then fire 175 8 { s with hb := { s.hb with stat := s.hb.stat ||| 0x100 } } else s := by
  simp only [trimWrite, hm, hh, hp, h, decide_false, Bool.not_true, Bool.or_self, Bool.false_eq_true, if_false]
  rfl

/-- The registers with protected fields. -/
theorem rwpMask_range {a : Nat} (h : rwpMask a ≠ 0) : 0x0200 ≤ a ∧ a < 0x1000 := by
  by_contra hout
  simp only [rwpMask, Bool.and_eq_true, Bool.or_eq_true, decide_eq_true_eq] at h
  iterate 5 rw [if_neg (by omega)] at h
  exact h rfl

theorem domReg_withLocks (s : State) (g : GlobalS) (b : Bool) (d : Fin 8) (o : Nat) :
    State.domReg { s with glb := g, pair := { s.pair with wrRefused := b } } d o = s.domReg d o := rfl

theorem hkReg_withLocks (s : State) (g : GlobalS) (b : Bool) (a : Nat) :
    State.hkReg { s with glb := g, pair := { s.pair with wrRefused := b } } a = s.hkReg a := rfl

/-- No register with protected fields reads the locks or WR_REFUSED. -/
theorem reg_withLocks (s : State) (g : GlobalS) (b : Bool) {a : Nat} (h : 0x0200 ≤ a ∧ a < 0x1000) :
    State.reg { s with glb := g, pair := { s.pair with wrRefused := b } } a = s.reg a := by
  unfold State.reg
  iterate 2 refine ite_congr rfl (fun hlow => absurd hlow (by omega)) fun _ => ?_
  iterate 3 refine ite_congr rfl (fun _ => rfl) fun _ => ?_
  refine ite_congr rfl (fun _ => by simp only [domReg_withLocks]) fun _ => ?_
  iterate 2 refine ite_congr rfl (fun _ => rfl) fun _ => ?_
  refine ite_congr rfl (fun _ => hkReg_withLocks s g b a) fun _ => ?_
  refine ite_congr rfl (fun _ => by dsimp only) fun _ => ?_
  exact absurd h.2 ‹_›

/-- The state on which a write of a value acts: KEY1 forgotten (R387) and no refusal noted yet. -/
def State.atWrite (s : State) (p : Path) (a : Nat) : State := (disarm p a s).updPair (fun x => { x with wrRefused := false })

theorem writeUnit_locked {p : Path} {a n v : Nat} {s : State}
    (h : (rwpMask a != 0 && (s.atWrite p a).rwpHere a && !(s.atWrite p a).openFor p && (s.atWrite p a).rwpDiffers a v) = true) :
    (writeUnit p a n v s).1 = 2 := by
  have hrefuses : ∀ x y z w : Bool, (x || (rwpMask a != 0 && (s.atWrite p a).rwpHere a && !(s.atWrite p a).openFor p &&
      (s.atWrite p a).rwpDiffers a v) || y || z || w) = true := by
    intro x y z w
    rw [h, Bool.or_true, Bool.true_or, Bool.true_or, Bool.true_or]
  exact if_pos (hrefuses _ _ _ _)

theorem atWrite_ovrath (s : State) (who : BitVec 18) {a : Nat} (h : 0x0200 ≤ a ∧ a < 0x1000) : s.atWrite (.ovrath who) a =
    { s with
      glb := { s.glb with lockOv := { s.glb.lockOv with armed := false } }
      pair := { s.pair with wrRefused := false } } := by
  rw [State.atWrite, disarm, if_neg (by omega)]
  rfl

theorem atWrite_openFor (s : State) (who : BitVec 18) {a : Nat} (h : 0x0200 ≤ a ∧ a < 0x1000) :
    (s.atWrite (.ovrath who) a).openFor (.ovrath who) = s.openFor (.ovrath who) := by
  rw [atWrite_ovrath s who h]
  rfl

theorem atWrite_rwpHere (s : State) (who : BitVec 18) {a : Nat} (h : 0x0200 ≤ a ∧ a < 0x1000) :
    (s.atWrite (.ovrath who) a).rwpHere a = s.rwpHere a := by
  rw [atWrite_ovrath s who h]
  rfl

theorem atWrite_rwpDiffers (s : State) (who : BitVec 18) {a : Nat} (v : Nat) (h : 0x0200 ≤ a ∧ a < 0x1000) :
    (s.atWrite (.ovrath who) a).rwpDiffers a v = s.rwpDiffers a v := by
  rw [State.rwpDiffers, State.rwpDiffers, atWrite_ovrath s who h, reg_withLocks s _ false h]

/-- A locked Ovrath path refuses a protected write that would change a value. -/
theorem writeUnit_ovrath_locked {who : BitVec 18} {a v : Nat} {s : State} (h : s.openFor (.ovrath who) = false)
    (hm : rwpMask a ≠ 0) (hh : s.rwpHere a = true) (hd : s.rwpDiffers a v = true) :
    (writeUnit (.ovrath who) a 2 v s).1 = 2 := by
  have hrange := rwpMask_range hm
  refine writeUnit_locked ?_
  rw [atWrite_openFor s who hrange, atWrite_rwpHere s who hrange, atWrite_rwpDiffers s who v hrange, h, hh, hd]
  simpa using hm

/-- Settles O54. -/
theorem trimWritesNeedTheUnlock : Obligations.TrimWritesNeedTheUnlock := by
  refine ⟨fun p a v s h => ?_, fun a v s => trimWrite_host, fun who a v s => writeUnit_ovrath_locked⟩
  rcases trimWrite_locked (a := a) (v := v) h with e | e | e <;> rw [e] <;> exact ⟨rfl, rfl, rfl, rfl, rfl, rfl⟩

end Sys2Proof.Machine

/-! The register writes of the host: what each leaves where the host bus serves it, and where it does not. -/
namespace Sys2Proof.Machine

/-! ### A host write of a 16-bit register -/

/-- The command has the effect `f` where the host bus serves a write at `a`, and none of it elsewhere. -/
def ServesAs (c : Instr) (a : Nat) (f : State → State) (s : State) : Prop :=
  (s.serves a = true → exec c s = .next (s.served a f)) ∧ (s.serves a = false → exec c s = .next (s.turnedAway a))

/-- The address of a 16-bit register other than PAIR_STAT, below the windows and outside the wide values. -/
abbrev Narrow (a : Nat) : Prop :=
  a % 2 = 0 ∧ a < 32768 ∧ a ≠ 0x1100 ∧ (a < 0x0038 ∨ 0x003C ≤ a) ∧ (a < 0x1220 ∨ 0x1228 ≤ a) ∧ (a < 0x1250 ∨ 0x1254 ≤ a) ∧
    (a < 0x1408 ∨ 0x140C ≤ a) ∧ (a < 0x1610 ∨ 0x1618 ≤ a)

section Writes
variable {c : Instr} {a b m v : Nat} {f : State → State} {s : State}

theorem servesAs_of_wrote {g : State → State} (h : exec c s = .next (s.wrote a g))
    (hf : g (s.opened.hostAt a) = f (s.opened.hostAt a)) : ServesAs c a f s :=
  next_wrote (h.trans (congrArg Host.Outcome.next (s.wrote_congr a g f hf)))

theorem servesAs_write (hc : ∀ s, exec c s = run (hostWrite a v) s) (ha : Narrow a) (hv : v < 65536)
    (hf : ∀ σ, regAct .host a v σ = f σ) (s : State) : ServesAs c a f s :=
  servesAs_of_wrote ((hc s).trans (run_narrow a v s hv ha)) (hf _)

/-- A strobe of a register that has no RW field. -/
theorem servesAs_strobe (hc : ∀ s, exec c s = run (hostStrobe a b) s) (ha : Narrow a) (hm : rwMask a = 0) (hb : b < 65536)
    (hf : ∀ σ, regAct .host a b σ = f σ) (s : State) : ServesAs c a f s :=
  servesAs_of_wrote ((hc s).trans (run_strobe0 a b s hm hb ha)) (hf _)

/-- A strobe, with the register's RW fields written back as they stand. -/
theorem servesAs_strobe_rw (hc : ∀ s, exec c s = run (hostStrobe a b) s) (ha : Narrow a)
    (hv : b + (s.opened.reg a &&& rwMask a) < 65536)
    (hf : regAct .host a (b + (s.opened.reg a &&& rwMask a)) (s.opened.hostAt a) = f (s.opened.hostAt a)) : ServesAs c a f s :=
  servesAs_of_wrote ((hc s).trans (run_strobe a b s hv ha)) hf

/-- A write of one RW field, with the register's other RW fields written back as they stand. -/
theorem servesAs_field (hc : ∀ s, exec c s = run (hostField a m v) s) (ha : Narrow a)
    (hv : v + ((s.opened.reg a &&& rwMask a) &&& (65535 - m)) < 65536)
    (hf : regAct .host a (v + ((s.opened.reg a &&& rwMask a) &&& (65535 - m))) (s.opened.hostAt a) = f (s.opened.hostAt a)) :
    ServesAs c a f s :=
  servesAs_of_wrote ((hc s).trans (run_field a m v s hv ha)) hf

end Writes

/-- The field written, where the register's other RW fields leave none. -/
theorem field_only {m k : Nat} (h : m &&& (65535 - k) = 0) (v x : Nat) : v + (x &&& m &&& (65535 - k)) = v := by
  rw [Nat.land_assoc, h, Nat.and_zero, Nat.add_zero]

/-! What the state in which a host write acts keeps of the one before. -/

section HostAt
variable (s : State) (a : Nat)

theorem hostAt_rails : (s.hostAt a).rails = s.rails := by
  obtain ⟨h, g, e⟩ := hostAt_eq s a
  rw [e]

theorem hostAt_pair : (s.hostAt a).pair = { s.pair with wrRefused := false } := by
  obtain ⟨h, g, e⟩ := hostAt_eq s a
  rw [e]

theorem hostAt_lg : (s.hostAt a).lg = s.lg := by
  obtain ⟨h, g, e⟩ := hostAt_eq s a
  rw [e]

theorem hostAt_upd : (s.hostAt a).upd = s.upd := by
  obtain ⟨h, g, e⟩ := hostAt_eq s a
  rw [e]

theorem hostAt_ov : (s.hostAt a).ov = s.ov := by
  obtain ⟨h, g, e⟩ := hostAt_eq s a
  rw [e]

end HostAt

/-- Only the bits of the strobes count. -/
theorem strobes_congr {v b : Nat} {l : List (Nat × (State → State))} (h : ∀ x ∈ l, natBit v x.1 = natBit b x.1) (s : State) :
    strobes v l s = strobes b l s := by
  induction l generalizing s with
  | nil => rfl
  | cons x l ih =>
    have hstep : ∀ n, strobes n (x :: l) s = strobes n l (if natBit n x.1 then x.2 s else s) := fun _ => rfl
    rw [hstep, hstep, h x (by simp)]
    exact ih (fun y hy => h y (by simp [hy])) _

theorem strobes_none {v : Nat} {l : List (Nat × (State → State))} (h : ∀ x ∈ l, natBit v x.1 = false) (s : State) :
    strobes v l s = s := by
  induction l with
  | nil => rfl
  | cons x l ih =>
    have hx : strobes v (x :: l) s = strobes v l s := by simp [strobes, h x (by simp)]
    exact hx.trans (ih fun y hy => h y (by simp [hy]))

/-- A strobe to which alone a 1 is written has its effect, and no other has: `is` are the bits of the strobes, and the
`k`-th of them is the one that is set. -/
theorem strobes_single {v : Nat} {l : List (Nat × (State → State))} (is : List Nat) (k : Nat) (hi : l.map Prod.fst = is)
    (h : ∀ j, j < is.length → natBit v (is.getD j 0) = (j == k)) (s : State) :
    strobes v l s = (l.map Prod.snd).getD k id s := by
  subst hi
  induction l generalizing k with
  | nil => rfl
  | cons x l ih =>
    have hstep : strobes v (x :: l) s = strobes v l (if natBit v x.1 then x.2 s else s) := rfl
    have hx : natBit v x.1 = (0 == k) := h 0 (by simp)
    have hl : ∀ j, j < (l.map Prod.fst).length → natBit v ((l.map Prod.fst).getD j 0) = (j + 1 == k) := fun j hj =>
      h (j + 1) (by simpa using hj)
    cases k with
    | zero =>
      rw [hstep, hx]
      refine strobes_none (fun y hy => ?_) _
      obtain ⟨j, hj, rfl⟩ := List.getElem_of_mem hy
      simpa [hj] using hl j (by simpa using hj)
    | succ k =>
      rw [hstep, hx]
      exact ih k fun j hj => by simpa using hl j hj

theorem bit01_le (b : Bool) : bit01 b ≤ 1 := by
  cases b <;> decide

theorem natBit_of_lt {v i : Nat} (h : v < 2 ^ i) : natBit v i = false := by
  simp [natBit, Nat.div_eq_of_lt h]

/-! ### The registers of an engine (R49, R101, R102, R107) -/

theorem narrow_phase (n : Fin 64) {o : Nat} (he : o % 2 = 0) (ho : o < 16) : Narrow (0x0200 + o + 16 * n.val) := by
  have := n.isLt
  unfold Narrow
  omega

/-- The strobes of PH_CTRL. -/
def phStrobes (n : Fin 64) : List (Nat × (State → State)) :=
  [(0, fun t => if t.passive then phRefuse n (twinRefuse t) else hostFence n t),
    (1, fun t => if t.passive then phRefuse n (twinRefuse t) else hostUnfence n t),
    (2, fun t => t.updPhase n (fun x => { x with episodes := 0, fences := 0 }))]

theorem regAct_phCtrl (n : Fin 64) {v : Nat} (hv : natBit v 3 = false) (s : State) :
    regAct .host (0x0202 + 16 * n.val) v s = strobes v (phStrobes n) s := by
  have ho : (0x0202 + 16 * n.val) % 16 = 2 := by omega
  rw [regAct_phase .host n _ v (by omega)]
  simp only [wPhase, ho, w1c_zero _ v 3 hv, State.updPhase_id, phStrobes]

theorem regAct_phTrim (n : Fin 64) (v : Nat) (s : State) :
    regAct .host (0x020C + 16 * n.val) v s = trimWrite .host (0x020C + 16 * n.val) v s := by
  have ho : (0x020C + 16 * n.val) % 16 = 12 := by omega
  rw [regAct_phase .host n _ v (by omega)]
  simp only [wPhase, ho]

theorem servesAs_phCtrl {c : Instr} {n : Fin 64} {b : Nat} {f : State → State}
    (hc : ∀ s, exec c s = run (hostStrobe (0x0202 + 16 * n.val) b) s) (hb : b < 8)
    (hf : ∀ σ, strobes b (phStrobes n) σ = f σ) : ∀ s, ServesAs c (0x0202 + 16 * n.val) f s :=
  servesAs_strobe hc (narrow_phase n (o := 2) rfl (by decide)) (rwMask_zero _ (by omega)) (by omega)
    fun σ => (regAct_phCtrl n (natBit_of_lt hb) σ).trans (hf σ)

/-- Settles O27: the registers by their addresses, their strobes by the bits written. -/
theorem phaseRegisterCommandsComplete : Obligations.PhaseRegisterCommandsComplete :=
  ⟨fun n => servesAs_phCtrl (exec_phCtrlFence n) (by decide) (strobes_single [0, 1, 2] 0 rfl (by decide)),
    fun n => servesAs_phCtrl (exec_phCtrlUnfence n) (by decide) (strobes_single [0, 1, 2] 1 rfl (by decide)),
    fun n => servesAs_phCtrl (exec_phCtrlTallyClr n) (by decide) (strobes_single [0, 1, 2] 2 rfl (by decide)),
    fun n v => servesAs_write (exec_phTrimWrite n v) (narrow_phase n (o := 12) rfl (by decide)) v.isLt
      (regAct_phTrim n v.toNat)⟩

/-! ### The registers of a rail (R49, R125, R129, R135) -/

theorem narrow_rail (r : Fin 24) {o : Nat} (he : o % 2 = 0) (ho : o < 32) : Narrow (0x0600 + o + 32 * r.val) := by
  have := r.isLt
  unfold Narrow
  omega

/-- The bits of RAIL_CTRL that a strobe writes: its own, and NOSHED as it stands. -/
theorem railCtrl_bits (s : State) (r : Fin 24) (b : Nat) :
    ∃ on : Bool, b + (s.reg (0x0604 + 32 * r.val) &&& rwMask (0x0604 + 32 * r.val)) = b + bit01 on * 8 ∧
      (s.rails[r].cfg.isNone || s.rails[r].noshed == on) = true := by
  have hbit : ∀ x y, natBit (bit01 x * 2 + bit01 y * 8) 3 = y := by decide
  refine ⟨natBit (s.reg (0x0604 + 32 * r.val)) 3, by rw [rwMask_railCtrl, and_bit]; rfl, ?_⟩
  rw [reg_railCtrl]
  cases hcfg : s.rails[r].cfg with
  | none => rfl
  | some c => simp only [Option.isSome_some, if_true, hbit, BEq.rfl, Bool.or_true]

/-- The strobes of RAIL_CTRL. -/
def railStrobes (r : Fin 24) : List (Nat × (State → State)) :=
  [(0, asActive (fun t => holdFollow (hostUnsnuff r t))),
    (2, fun t => t.updRail r (fun x => { x with sheds := 0, relights := 0, ovs := 0, uvs := 0 }))]

theorem regAct_railCtrl (r : Fin 24) {v : Nat} (hv : natBit v 1 = false) (s : State) :
    regAct .host (0x0604 + 32 * r.val) v s =
      strobes v (railStrobes r) (noshedWrite r (0x0604 + 32 * r.val) (natBit v 3) s) := by
  have ho : (0x0604 + 32 * r.val) % 32 = 4 := by omega
  rw [regAct_rail .host r _ v (by omega)]
  simp only [wRail, ho, w1c_zero _ v 1 hv, State.updRail_id, railStrobes]

theorem noshedWrite_same {r : Fin 24} {a : Nat} {on : Bool} {s : State}
    (h : (s.rails[r].cfg.isNone || s.rails[r].noshed == on) = true) : noshedWrite r a on s = s := if_pos h

/-- A strobe of RAIL_CTRL has its effect alone: NOSHED stays as it is. -/
theorem servesAs_railCtrl {c : Instr} {r : Fin 24} {b : Nat} {f : State → State}
    (hc : ∀ s, exec c s = run (hostStrobe (0x0604 + 32 * r.val) b) s) (hb : b = 1 ∨ b = 4)
    (hf : ∀ on σ, strobes (b + bit01 on * 8) (railStrobes r) σ = f σ) (s : State) :
    ServesAs c (0x0604 + 32 * r.val) f s := by
  obtain ⟨on, hbits, hsame⟩ := railCtrl_bits s.opened r b
  have hlt : b + bit01 on * 8 < 16 := by rcases hb with rfl | rfl <;> cases on <;> decide
  have hlow : natBit (b + bit01 on * 8) 1 = false := by rcases hb with rfl | rfl <;> cases on <;> decide
  have hhigh : natBit (b + bit01 on * 8) 3 = on := by rcases hb with rfl | rfl <;> cases on <;> decide
  refine servesAs_strobe_rw hc (narrow_rail r (o := 4) rfl (by decide)) (by omega) ?_
  rw [hbits, regAct_railCtrl r hlow, hhigh, noshedWrite_same (by rw [hostAt_rails]; exact hsame)]
  exact hf on _

theorem regAct_railTrim (r : Fin 24) {o : Nat} (ho : o = 6 ∨ o = 10) (v : Nat) (s : State) :
    regAct .host (0x0600 + o + 32 * r.val) v s = trimWrite .host (0x0600 + o + 32 * r.val) v s := by
  have hm : (0x0600 + o + 32 * r.val) % 32 = o := by omega
  rw [regAct_rail .host r _ v (by omega)]
  rcases ho with rfl | rfl <;> simp only [wRail, hm]

theorem servesAs_noshed (r : Fin 24) (on : Bool) (s : State) :
    ServesAs (.railCtrlNoshed r on) (0x0604 + 32 * r.val) (fun σ =>
      if σ.rails[r].cfg.isNone || σ.rails[r].noshed == on then σ
      else asActive (fun t => forward (.trim (0x0604 + 32 * r.val) (bit01 on * 8)) (hostNoshed r on t)) σ) s := by
  have hbits := field_only (m := rwMask (0x0604 + 32 * r.val)) (k := 8) (by rw [rwMask_railCtrl r]; rfl) (bit01 on * 8)
    (s.opened.reg (0x0604 + 32 * r.val))
  have hlow : natBit (bit01 on * 8) 1 = false := by cases on <;> decide
  have hhigh : natBit (bit01 on * 8) 3 = on := by cases on <;> decide
  refine servesAs_field (exec_railCtrlNoshed r on) (narrow_rail r (o := 4) rfl (by decide))
    (by rw [hbits]; cases on <;> decide) ?_
  rw [hbits, regAct_railCtrl r hlow, hhigh]
  exact strobes_single [0, 2] 2 rfl (by cases on <;> decide) _

/-- Settles O28: the registers by their addresses, their strobes by the bits written. -/
theorem railRegisterCommandsComplete : Obligations.RailRegisterCommandsComplete :=
  ⟨fun r => servesAs_railCtrl (exec_railCtrlUnsnuff r) (.inl rfl) fun on =>
      strobes_single [0, 2] 0 rfl (by cases on <;> decide),
    fun r => servesAs_railCtrl (exec_railCtrlTallyClr r) (.inr rfl) fun on =>
      strobes_single [0, 2] 1 rfl (by cases on <;> decide),
    servesAs_noshed,
    fun r v => servesAs_write (exec_railVsetWrite r v) (narrow_rail r (o := 6) rfl (by decide)) v.isLt
      (regAct_railTrim r (.inl rfl) v.toNat),
    fun r v => servesAs_write (exec_railIlimWrite r v) (narrow_rail r (o := 10) rfl (by decide)) v.isLt
      (regAct_railTrim r (.inr rfl) v.toNat)⟩

/-! ### The registers of a port and of a domain (R148, R158, R183, R186) -/

theorem narrow_port (p : Fin 8) : Narrow (0x0904 + 32 * p.val) := by
  have := p.isLt
  unfold Narrow
  omega

theorem narrow_dom (d : Fin 8) : Narrow (0x0A04 + 16 * d.val) := by
  have := d.isLt
  unfold Narrow
  omega

/-- The strobes of LP_CTRL. -/
def lpStrobes (p : Fin 8) : List (Nat × (State → State)) :=
  [(0, fun t => t.updPort p (fun x => { x with good := 0, crcErr := 0, framing := 0, refused := 0, retries := 0 })),
    (1, asActive (noticeClear p))]

/-- The strobes of SEQ_CTRL. -/
def domStrobes (d : Fin 8) : List (Nat × (State → State)) :=
  [(0, domStrobe d (seqStart d)), (1, domStrobe d (seqStop d)), (2, domStrobe d (hostShutoff d)), (3, domStrobe d (seqUnlatch d)),
    (4, domStrobe d (seqRetryClr d)), (5, fun t => t.updDom d (fun x => { x with shutoffs := 0, noStarts := 0 }))]

theorem regAct_lpCtrl (p : Fin 8) (v : Nat) (s : State) :
    regAct .host (0x0904 + 32 * p.val) v s = strobes v (lpStrobes p) s := by
  have ho : (0x0904 + 32 * p.val) % 32 = 4 := by omega
  rw [regAct_port .host p _ v (by omega)]
  simp only [wPort, ho, lpStrobes]

theorem regAct_domCtrl (d : Fin 8) {v : Nat} (hv : natBit v 6 = false) (s : State) :
    regAct .host (0x0A04 + 16 * d.val) v s = holdFollow (strobes v (domStrobes d) s) := by
  have ho : (0x0A04 + 16 * d.val) % 16 = 4 := by omega
  rw [regAct_dom .host d _ v (by omega)]
  simp only [wDom, ho, w1c_zero _ v 6 hv, State.updDom_id, domStrobes]

theorem servesAs_lpCtrl {c : Instr} {p : Fin 8} {b : Nat} {f : State → State}
    (hc : ∀ s, exec c s = run (hostStrobe (0x0904 + 32 * p.val) b) s) (hb : b < 4)
    (hf : ∀ σ, strobes b (lpStrobes p) σ = f σ) :
    ∀ s, ServesAs c (0x0904 + 32 * p.val) f s :=
  servesAs_strobe hc (narrow_port p) (rwMask_zero _ (by omega)) (by omega) fun σ => (regAct_lpCtrl p b σ).trans (hf σ)

/-- A strobe of SEQ_CTRL has its effect, and the hold-up follows. -/
theorem servesAs_domCtrl {c : Instr} {d : Fin 8} {b : Nat} {f : State → State}
    (hc : ∀ s, exec c s = run (hostStrobe (0x0A04 + 16 * d.val) b) s) (hb : b < 64)
    (hf : ∀ σ, strobes b (domStrobes d) σ = f σ) :
    ∀ s, ServesAs c (0x0A04 + 16 * d.val) (fun σ => holdFollow (f σ)) s :=
  servesAs_strobe hc (narrow_dom d) (rwMask_zero _ (by omega)) (by omega)
    fun σ => (regAct_domCtrl d (natBit_of_lt hb) σ).trans (congrArg holdFollow (hf σ))

/-- Settles O29: the registers by their addresses, their strobes by the bits written. -/
theorem portAndDomainRegisterCommandsComplete : Obligations.PortAndDomainRegisterCommandsComplete :=
  ⟨fun p => servesAs_lpCtrl (exec_lpCtrlTallyClr p) (by decide) (strobes_single [0, 1] 0 rfl (by decide)),
    fun p => servesAs_lpCtrl (exec_lpCtrlNoticeClr p) (by decide) (strobes_single [0, 1] 1 rfl (by decide)),
    fun d => servesAs_domCtrl (exec_seqDomStart d) (by decide) (strobes_single [0, 1, 2, 3, 4, 5] 0 rfl (by decide)),
    fun d => servesAs_domCtrl (exec_seqDomStop d) (by decide) (strobes_single [0, 1, 2, 3, 4, 5] 1 rfl (by decide)),
    fun d => servesAs_domCtrl (exec_seqDomShutoff d) (by decide) (strobes_single [0, 1, 2, 3, 4, 5] 2 rfl (by decide)),
    fun d => servesAs_domCtrl (exec_seqDomUnlatch d) (by decide) (strobes_single [0, 1, 2, 3, 4, 5] 3 rfl (by decide)),
    fun d => servesAs_domCtrl (exec_seqDomRetryClr d) (by decide) (strobes_single [0, 1, 2, 3, 4, 5] 4 rfl (by decide)),
    fun d => servesAs_domCtrl (exec_seqDomTallyClr d) (by decide) (strobes_single [0, 1, 2, 3, 4, 5] 5 rfl (by decide))⟩

/-! ### The registers of a monitor (R49, R199, R200, R202) -/

theorem narrow_mon (m : Fin 96) {o : Nat} (he : o % 2 = 0) (ho : o < 8) : Narrow (0x0C00 + o + 8 * m.val) := by
  have := m.isLt
  unfold Narrow
  omega

/-- The tallies of a monitor that is there are cleared, and the counts of the self-tests with them. -/
def wmCleared (m : Fin 96) (t : State) : State :=
  t.when (t.watch.mons[m]).cfg.isSome (fun u =>
    (u.updMon m (fun x => { x with trips := 0 })).updWatch (fun w => { w with stFails := 0, skips := 0 }))

theorem regAct_wmCtrl (m : Fin 96) {v : Nat} (hv : natBit v 5 = false) (s : State) :
    regAct .host (0x0C02 + 8 * m.val) v s =
      strobes v [(0, wmSelftest m v), (4, wmCleared m)] (trimWrite .host (0x0C02 + 8 * m.val) v (wmKeep m v s)) := by
  have ho : (0x0C02 + 8 * m.val) % 8 = 2 := by omega
  rw [regAct_mon .host m _ v (by omega)]
  simp only [wMon, ho, w1c_zero _ v 5 hv, State.updMon_id]
  rfl

theorem regAct_wmThreshold (m : Fin 96) {o : Nat} (ho : o = 4 ∨ o = 6) (v : Nat) (s : State) :
    regAct .host (0x0C00 + o + 8 * m.val) v s = trimWrite .host (0x0C00 + o + 8 * m.val) v s := by
  have hm : (0x0C00 + o + 8 * m.val) % 8 = o := by omega
  rw [regAct_mon .host m _ v (by omega)]
  rcases ho with rfl | rfl <;> simp only [wMon, hm]

/-- The strobes of WM_CTRL and its write-one-to-clear bit are the bits 0, 4 and 5, where its RW fields have none. -/
theorem natBit_wmCtrl (x b : Nat) (hb : b % 64 = 0 ∨ b % 64 = 1 ∨ b % 64 = 16) :
    natBit (b + (x &&& 0xFFCE)) 0 = (b % 64 == 1) ∧ natBit (b + (x &&& 0xFFCE)) 4 = (b % 64 == 16) ∧
      natBit (b + (x &&& 0xFFCE)) 5 = false := by
  have heven : (x &&& 0xFFCE) % 2 ^ 1 = 0 := and_mask_mod x 0xFFCE 1 rfl
  have hle : (x &&& 0xFFCE) % 2 ^ 6 ≤ 14 := by
    rw [Nat.and_mod_two_pow]
    exact Nat.and_le_right
  simp only [natBit, beq_eq_decide, decide_eq_decide, decide_eq_false_iff_not]
  omega

theorem wmCtrl_lt (x : Nat) {b : Nat} (hb : b < 32) : b + (x &&& 0xFFCE) < 65536 := by
  have : x &&& 0xFFCE ≤ 0xFFCE := Nat.and_le_right
  omega

/-- A write of WM_CTRL with the strobe `k`, the RW and RWP fields written back as they stand: `f` is what follows that. -/
theorem servesAs_wmCtrl {c : Instr} {m : Fin 96} {b : Nat} {f : Nat → State → State}
    (hc : ∀ s, exec c s = run (hostStrobe (0x0C02 + 8 * m.val) b) s) (hb : b = 1 ∨ b = 16)
    (hf : ∀ v σ, natBit v 0 = (b == 1) → natBit v 4 = (b == 16) →
      strobes v [(0, wmSelftest m v), (4, wmCleared m)] (trimWrite .host (0x0C02 + 8 * m.val) v (wmKeep m v σ)) = f v σ) (s : State) :
    ServesAs c (0x0C02 + 8 * m.val) (f (b + (s.opened.reg (0x0C02 + 8 * m.val) &&& 0xFFCE))) s := by
  obtain ⟨hself, hclear, hrefused⟩ := natBit_wmCtrl (s.opened.reg (0x0C02 + 8 * m.val)) b (by omega)
  have hbits := wmCtrl_lt (s.opened.reg (0x0C02 + 8 * m.val)) (b := b) (by omega)
  rw [← rwMask_wmCtrl m] at hself hclear hrefused hbits ⊢
  refine servesAs_strobe_rw hc (narrow_mon m (o := 2) rfl (by decide)) hbits ?_
  rw [regAct_wmCtrl m hrefused]
  refine hf _ _ (hself.trans ?_) (hclear.trans ?_) <;> rcases hb with rfl | rfl <;> rfl

theorem servesAs_wmTick (m : Fin 96) (v : BitVec 10) (s : State) :
    ServesAs (.wmTickWrite m v) (0x0C02 + 8 * m.val) (fun σ =>
      trimWrite .host (0x0C02 + 8 * m.val) (v.toNat * 64 + (s.opened.reg (0x0C02 + 8 * m.val) &&& 14))
        (wmKeep m (v.toNat * 64 + (s.opened.reg (0x0C02 + 8 * m.val) &&& 14)) σ)) s := by
  have hfield : ∀ x : Nat, x &&& 0xFFCE &&& (65535 - 0xFFC0) = x &&& 14 := fun x => Nat.land_assoc x 0xFFCE 63
  have hle : s.opened.reg (0x0C02 + 8 * m.val) &&& 14 ≤ 14 := Nat.and_le_right
  have heven : (s.opened.reg (0x0C02 + 8 * m.val) &&& 14) % 2 ^ 1 = 0 := and_mask_mod _ 14 1 rfl
  have hlow : ∀ i, i = 0 ∨ i = 4 ∨ i = 5 →
      natBit (v.toNat * 64 + (s.opened.reg (0x0C02 + 8 * m.val) &&& 14)) i = false := by
    rintro i (rfl | rfl | rfl) <;> simp only [natBit, beq_eq_false_iff_ne] <;> omega
  refine servesAs_field (exec_wmTickWrite m v) (narrow_mon m (o := 2) rfl (by decide)) ?_ ?_ <;>
    rw [rwMask_wmCtrl, hfield]
  · omega
  · rw [regAct_wmCtrl m (hlow 5 (by simp))]
    exact strobes_none (by simp [hlow]) _

theorem servesAs_wmSelftest (m : Fin 96) :
    ∀ s, ServesAs (.wmCtrlSelftest m) (0x0C02 + 8 * m.val) (fun σ =>
      wmSelftest m (1 + (s.opened.reg (0x0C02 + 8 * m.val) &&& 0xFFCE))
        (trimWrite .host (0x0C02 + 8 * m.val) (1 + (s.opened.reg (0x0C02 + 8 * m.val) &&& 0xFFCE))
          (wmKeep m (1 + (s.opened.reg (0x0C02 + 8 * m.val) &&& 0xFFCE)) σ))) s :=
  servesAs_wmCtrl (f := fun v σ => wmSelftest m v (trimWrite .host (0x0C02 + 8 * m.val) v (wmKeep m v σ)))
    (exec_wmCtrlSelftest m) (.inl rfl) fun v σ hself hclear => by simp [strobes, hself, hclear]

theorem servesAs_wmTallyClr (m : Fin 96) :
    ∀ s, ServesAs (.wmCtrlTallyClr m) (0x0C02 + 8 * m.val) (fun σ =>
      wmCleared m (trimWrite .host (0x0C02 + 8 * m.val) (16 + (s.opened.reg (0x0C02 + 8 * m.val) &&& 0xFFCE))
        (wmKeep m (16 + (s.opened.reg (0x0C02 + 8 * m.val) &&& 0xFFCE)) σ))) s :=
  servesAs_wmCtrl (f := fun v σ => wmCleared m (trimWrite .host (0x0C02 + 8 * m.val) v (wmKeep m v σ)))
    (exec_wmCtrlTallyClr m) (.inr rfl) fun v σ hself hclear => by simp [strobes, hself, hclear]

/-- Settles O30: the registers by their addresses, their strobes by the bits written. -/
theorem monitorRegisterCommandsComplete : Obligations.MonitorRegisterCommandsComplete :=
  ⟨servesAs_wmSelftest,
    servesAs_wmTallyClr,
    servesAs_wmTick,
    fun m v => servesAs_write (exec_wmLowWrite m v) (narrow_mon m (o := 4) rfl (by decide)) v.isLt
      (regAct_wmThreshold m (.inl rfl) v.toNat),
    fun m v => servesAs_write (exec_wmHighWrite m v) (narrow_mon m (o := 6) rfl (by decide)) v.isLt
      (regAct_wmThreshold m (.inr rfl) v.toNat),
    fun v => servesAs_write (exec_wmSweepCtrlWrite v) (by decide) v.isLt fun _ => rfl,
    fun _ _ _ => rfl,
    fun _ _ _ => rfl⟩

/-! ### The registers of the capture timers and of housekeeping (R49, R194, R197, R202, R217) -/

theorem narrow_ct (t : Fin 16) : Narrow (0x0F42 + 12 * t.val) := by
  have := t.isLt
  unfold Narrow
  omega

/-- The strobes of CT_CTRL. -/
def ctStrobes (t : Fin 16) : List (Nat × (State → State)) :=
  [(0, hostArm t), (1, fun u => u.updCt t (fun x => { x with missed := 0 }))]

theorem wCt_ctrl (t : Fin 16) {a v : Nat} (ha : (a - 0x0F40) % 12 = 2) (hv : natBit v 2 = false) (s : State) :
    wCt .host t a v s = strobes v (ctStrobes t) (trimWrite .host a v s) := by
  unfold wCt
  rw [ha]
  simp only [w1c_zero _ v 2 hv, State.updCt_id, ctStrobes]

theorem regAct_ctCtrl (t : Fin 16) {v : Nat} (hv : natBit v 2 = false) (s : State) :
    regAct .host (0x0F42 + 12 * t.val) v s =
      strobes v (ctStrobes t) (trimWrite .host (0x0F42 + 12 * t.val) v s) := by
  rw [regAct_ct .host t _ v (by omega)]
  exact wCt_ctrl t (by omega) hv s

/-- The strobes of CT_CTRL and its write-one-to-clear bit are the bits 0, 1 and 2, where PRESCALE has none. -/
theorem natBit_ctCtrl (x : Nat) {b i : Nat} (hb : b < 4) (hi : i < 3) : natBit (b + (x &&& 0xF0)) i = natBit b i := by
  have hlow : (x &&& 0xF0) % 2 ^ 4 = 0 := and_mask_mod x 0xF0 4 rfl
  simp only [natBit, beq_eq_decide, decide_eq_decide]
  interval_cases i <;> omega

/-- A strobe of CT_CTRL, after the protected write of PRESCALE as it stands. -/
theorem servesAs_ctCtrl {c : Instr} {t : Fin 16} {b : Nat} {f : Nat → State → State}
    (hc : ∀ s, exec c s = run (hostStrobe (0x0F42 + 12 * t.val) b) s) (hb : b < 4)
    (hf : ∀ v σ, strobes b (ctStrobes t) (trimWrite .host (0x0F42 + 12 * t.val) v σ) = f v σ) (s : State) :
    ServesAs c (0x0F42 + 12 * t.val) (f (b + (s.opened.reg (0x0F42 + 12 * t.val) &&& 0xF0))) s := by
  have hbits := fun i => natBit_ctCtrl (s.opened.reg (0x0F42 + 12 * t.val)) (i := i) hb
  have hle : s.opened.reg (0x0F42 + 12 * t.val) &&& 0xF0 ≤ 0xF0 := Nat.and_le_right
  rw [← rwMask_ctCtrl t] at hbits ⊢
  refine servesAs_strobe_rw hc (narrow_ct t) (by rw [rwMask_ctCtrl]; omega) ?_
  rw [regAct_ctCtrl t ((hbits 2 (by decide)).trans (natBit_of_lt hb)), strobes_congr (b := b) (by simp [ctStrobes, hbits])]
  exact hf _ _

theorem servesAs_ctArm (t : Fin 16) :
    ∀ s, ServesAs (.ctCtrlArm t) (0x0F42 + 12 * t.val) (fun σ => hostArm t
      (trimWrite .host (0x0F42 + 12 * t.val) (1 + (s.opened.reg (0x0F42 + 12 * t.val) &&& 0xF0)) σ)) s :=
  servesAs_ctCtrl (f := fun v σ => hostArm t (trimWrite .host (0x0F42 + 12 * t.val) v σ)) (exec_ctCtrlArm t) (by decide)
    fun _ _ => strobes_single [0, 1] 0 rfl (by decide) _

theorem servesAs_ctMissedClr (t : Fin 16) :
    ∀ s, ServesAs (.ctCtrlMissedClr t) (0x0F42 + 12 * t.val) (fun σ =>
      (trimWrite .host (0x0F42 + 12 * t.val) (2 + (s.opened.reg (0x0F42 + 12 * t.val) &&& 0xF0)) σ).updCt t
        (fun x => { x with missed := 0 })) s :=
  servesAs_ctCtrl (f := fun v σ => (trimWrite .host (0x0F42 + 12 * t.val) v σ).updCt t (fun x => { x with missed := 0 }))
    (exec_ctCtrlMissedClr t) (by decide)
    fun _ _ => strobes_single [0, 1] 1 rfl (by decide) _

theorem servesAs_ctPrescale (t : Fin 16) (v : BitVec 4) (s : State) :
    ServesAs (.ctPrescaleWrite t v) (0x0F42 + 12 * t.val) (trimWrite .host (0x0F42 + 12 * t.val) (v.toNat * 16)) s := by
  have hfield := field_only (m := 0xF0) (k := 0xF0) rfl (v.toNat * 16)
  have hlow : ∀ i, i < 3 → natBit (v.toNat * 16) i = false := by
    intro i hi
    simp only [natBit, beq_eq_false_iff_ne]
    interval_cases i <;> omega
  refine servesAs_field (exec_ctPrescaleWrite t v) (narrow_ct t) ?_ ?_ <;> rw [rwMask_ctCtrl, hfield]
  · omega
  · rw [regAct_ctCtrl t (hlow 2 (by decide))]
    exact strobes_none (by simp [ctStrobes, hlow]) _

theorem narrow_level (lvl : ThLevel) : Narrow (levelAddr lvl) := by
  cases lvl <;> decide

/-- Settles O31: the registers by their addresses, their strobes by the bits written. -/
theorem captureAndThermalRegisterCommandsComplete : Obligations.CaptureAndThermalRegisterCommandsComplete :=
  ⟨servesAs_ctArm,
    servesAs_ctMissedClr,
    servesAs_ctPrescale,
    servesAs_write exec_hkCtrlTallyClr (by decide) (by decide) fun _ => rfl,
    fun lvl v => servesAs_write (exec_thLevelWrite lvl v) (narrow_level lvl) v.isLt fun _ => by cases lvl <;> rfl⟩

/-! ### The registers of the hold-up, the cartridges and the events (R229, R235, R242, R245, R247, R248, R250, R251, R253, R256) -/

theorem regAct_bcCtrl (c : Fin 16) (s : State) :
    regAct .host 0x1020 (c.val + 16) s = asActive (fun t => holdJudge (rescan c t)) (s.updCarts (fun x => { x with index := c.val })) := by
  have hc := c.isLt
  have hindex : (c.val + 16) % 16 = c.val := by omega
  have hgo : natBit (c.val + 16) 4 = true := by
    simp only [natBit, beq_iff_eq]
    omega
  have hcart : toCart c.val = some c := by simp [toCart]
  have hreg : regAct .host 0x1020 (c.val + 16) s = wHu 0x1020 (c.val + 16) s := rfl
  simp only [hreg, wHu, hindex, hgo, hcart, if_true]

theorem regAct_evStat (i : Fin 12) (v : Nat) (s : State) :
    regAct .host (0x0100 + 2 * i.val) v s = evSixteen i.val (fun j x => { x with pend := w1c x.pend v j }) s := by
  have hi := i.isLt
  have hindex : (0x0100 + 2 * i.val - 0x0100) / 2 = i.val := by omega
  unfold regAct wEvent
  rw [if_neg (by omega), if_neg (by omega), if_pos (by omega), if_pos (by omega), hindex]

theorem regAct_evIen (i : Fin 12) (v : Nat) (s : State) :
    regAct .host (0x0120 + 2 * i.val) v s = evSixteen i.val (fun j x => { x with ien := natBit v j }) s := by
  have hi := i.isLt
  have hindex : (0x0120 + 2 * i.val - 0x0120) / 2 = i.val := by omega
  unfold regAct wEvent
  rw [if_neg (by omega), if_neg (by omega), if_pos (by omega), if_neg (by omega), if_pos (by simp; omega), hindex]

theorem narrow_ev (i : Fin 12) {o : Nat} (he : o % 2 = 0) (ho : o < 256) : Narrow (0x0100 + o + 2 * i.val) := by
  have := i.isLt
  unfold Narrow
  omega

/-- The strobes of EV_CTRL. -/
def evStrobes : List (Nat × (State → State)) :=
  [(0, faultnClr), (1, evUnfence .host), (2, releaseBlocks), (3, fun t => t.updEv (fun e => { e with crHold := false })),
    (4, fun t => match t.evSel with | some n => t.updSrc n (fun x => { x with count := 0 }) | none => t)]

theorem regAct_evCtrl {v : Nat} (hv : natBit v 5 = false) (s : State) : regAct .host 0x0150 v s = strobes v evStrobes s := by
  have hreg : regAct .host 0x0150 v s = strobes v evStrobes (s.updEv (fun e => { e with refused := w1c e.refused v 5 })) := rfl
  rw [hreg]
  simp only [w1c_zero _ v 5 hv, State.updEv_id]

theorem servesAs_evCtrl {c : Instr} {b : Nat} {f : State → State} (hc : ∀ s, exec c s = run (hostWrite 0x0150 b) s) (hb : b < 32)
    (hf : ∀ σ, strobes b evStrobes σ = f σ) : ∀ s, ServesAs c 0x0150 f s :=
  servesAs_write hc (by decide) (by omega) fun σ => (regAct_evCtrl (natBit_of_lt hb) σ).trans (hf σ)

theorem regAct_tallyCtrl (s : State) : regAct .host 0x1780 1 s = talliesClear s := by
  have hkeep : s.updEv (fun e => { e with tallyRef := w1c e.tallyRef 1 1 }) = s := by
    simp only [w1c_zero _ 1 1 rfl, State.updEv_id]
  exact congrArg talliesClear hkeep

/-- Settles O32: the registers by their addresses, their strobes by the bits written. -/
theorem holdUpAndEventRegisterCommandsComplete : Obligations.HoldUpAndEventRegisterCommandsComplete :=
  ⟨fun v => servesAs_write (exec_huCapWrite v) (by decide) v.isLt fun _ => rfl,
    fun c => servesAs_write (exec_bcCtrlRescan c) (by decide) (by omega) (regAct_bcCtrl c),
    servesAs_write exec_huCtrlTallyClr (by decide) (by decide) fun _ => rfl,
    fun i v => servesAs_write (exec_evStatClear i v) (narrow_ev i (o := 0) rfl (by decide)) v.isLt (regAct_evStat i v.toNat),
    fun i v => servesAs_write (exec_evIenWrite i v) (narrow_ev i (o := 32) rfl (by decide)) v.isLt (regAct_evIen i v.toNat),
    servesAs_evCtrl exec_evCtrlFaultnClr (by decide) (strobes_single [0, 1, 2, 3, 4] 0 rfl (by decide)),
    servesAs_evCtrl exec_evCtrlUnfence (by decide) (strobes_single [0, 1, 2, 3, 4] 1 rfl (by decide)),
    servesAs_evCtrl exec_evCtrlBlkRelease (by decide) (strobes_single [0, 1, 2, 3, 4] 2 rfl (by decide)),
    servesAs_evCtrl exec_evCtrlHoldClr (by decide) (strobes_single [0, 1, 2, 3, 4] 3 rfl (by decide)),
    servesAs_evCtrl exec_evCtrlCntClr (by decide) (strobes_single [0, 1, 2, 3, 4] 4 rfl (by decide)),
    servesAs_write exec_tallyCtrlClrAll (by decide) (by decide) regAct_tallyCtrl⟩

/-! ### The registers of the pair (R276, R277, R281) -/

/-- The strobes of PAIR_CTRL. -/
def pairStrobes : List (Nat × (State → State)) :=
  [(0, pairHostYield), (1, pairHostTake), (2, fun t => t.updPair (fun p => { p with reverts := [] })),
    (4, fun t => t.updPair (fun p => { p with crcTally := 0, retx := 0, handovers := 0, takeovers := 0 }))]

theorem regAct_pairCtrl {v : Nat} (hv : natBit v 5 = false) (s : State) :
    regAct .host 0x1104 v s = strobes v pairStrobes (s.updPair (fun p => { p with noRevert := natBit v 3 })) := by
  have hreg : regAct .host 0x1104 v s =
      strobes v pairStrobes (s.updPair (fun p => { p with refused := w1c p.refused v 5, noRevert := natBit v 3 })) := rfl
  rw [hreg]
  simp only [w1c_zero _ v 5 hv]

theorem pairCtrl_bits (s : State) (b : Nat) : b + (s.reg 0x1104 &&& rwMask 0x1104) = b + bit01 s.pair.noRevert * 8 := by
  have hreg : s.reg 0x1104 = bit01 s.pair.noRevert * 8 + bit01 s.pair.refused * 32 := rfl
  have hmask : ∀ x y : Bool, (bit01 x * 8 + bit01 y * 32) &&& rwMask 0x1104 = bit01 x * 8 := by decide
  rw [hreg, hmask]

/-- A strobe of PAIR_CTRL has its effect alone: NO_REVERT stays as it is. -/
theorem servesAs_pairCtrl {c : Instr} {b : Nat} {f : State → State} (hc : ∀ s, exec c s = run (hostStrobe 0x1104 b) s)
    (hb : b = 1 ∨ b = 2 ∨ b = 4 ∨ b = 16) (hf : ∀ on σ, strobes (b + bit01 on * 8) pairStrobes σ = f σ) (s : State) :
    ServesAs c 0x1104 f s := by
  have hlt : ∀ on, b + bit01 on * 8 < 32 := by rcases hb with rfl | rfl | rfl | rfl <;> decide
  have hhigh : ∀ on, natBit (b + bit01 on * 8) 3 = on := by rcases hb with rfl | rfl | rfl | rfl <;> decide
  have hkeep : (s.opened.hostAt 0x1104).updPair (fun p => { p with noRevert := s.opened.pair.noRevert }) = s.opened.hostAt 0x1104 := by
    have hp : (s.opened.hostAt 0x1104).pair.noRevert = s.opened.pair.noRevert := by rw [hostAt_pair]
    rw [← hp]
    rfl
  refine servesAs_strobe_rw hc (by decide) ?_ ?_ <;> rw [pairCtrl_bits]
  · exact (hlt _).trans (by decide)
  · rw [regAct_pairCtrl (natBit_of_lt (hlt _)), hhigh, hkeep]
    exact hf _ _

theorem servesAs_noRevert (on : Bool) (s : State) :
    ServesAs (.pairCtrlNoRevert on) 0x1104 (fun σ => σ.updPair (fun p => { p with noRevert := on })) s := by
  have hbits := field_only (m := rwMask 0x1104) (k := 8) rfl (bit01 on * 8)
  have hlt : bit01 on * 8 < 32 := by cases on <;> decide
  have hhigh : natBit (bit01 on * 8) 3 = on := by cases on <;> decide
  refine servesAs_field (exec_pairCtrlNoRevert on) (by decide) ?_ ?_ <;> rw [hbits]
  · omega
  · rw [regAct_pairCtrl (natBit_of_lt hlt), hhigh]
    exact strobes_single [0, 1, 2, 4] 4 rfl (by cases on <;> decide) _

/-- Settles O33: the registers by their addresses, their strobes by the bits written. -/
theorem pairRegisterCommandsComplete : Obligations.PairRegisterCommandsComplete :=
  ⟨servesAs_pairCtrl exec_pairCtrlYield (by decide) fun on => strobes_single [0, 1, 2, 4] 0 rfl (by cases on <;> decide),
    servesAs_pairCtrl exec_pairCtrlTake (by decide) fun on => strobes_single [0, 1, 2, 4] 1 rfl (by cases on <;> decide),
    servesAs_pairCtrl exec_pairCtrlFlapClr (by decide) fun on => strobes_single [0, 1, 2, 4] 2 rfl (by cases on <;> decide),
    servesAs_noRevert,
    servesAs_pairCtrl exec_pairCtrlTallyClr (by decide) fun on => strobes_single [0, 1, 2, 4] 3 rfl (by cases on <;> decide)⟩

/-! ### The wide values and the registers of Ovrath (R285, R301, R303, R304, R306, R307, R310 to R312, R344) -/

/-- What a command leaves whose effect is a host write, by whether it is served. -/
theorem next_serves {o : Host.Outcome State Fault Refusal} {s : State} {a : Nat} {f : State → State}
    (h : o = .next (s.did (fun u => u.hostServes a f))) :
    (s.serves a = true → o = .next (s.did f)) ∧ (s.serves a = false → o = .next (s.turnedAway a)) :=
  ⟨fun e => h.trans (congrArg (fun t => Host.Outcome.next (s.closed t)) (hostServes_served s.opened a f e)),
    fun e => h.trans (congrArg (fun t => Host.Outcome.next (s.closed t)) (hostServes_not s.opened a f e))⟩

theorem hostBurst_wide {a n v : Nat} (s : State) (hwide : (a, n) = (0x1220, 8) ∨ (a, n) = (0x1408, 4)) (hv : v < 256 ^ n) :
    hostBurst a (leBytes n v) s = s.hostServes a (fun u => u.written a (a + n - 1) (wideAct a v)) := by
  have hburst := hostBurst_value a n v s
  rw [Nat.mod_eq_of_lt hv] at hburst
  obtain ⟨rfl, rfl⟩ | ⟨rfl, rfl⟩ : (a = 0x1220 ∧ n = 8) ∨ (a = 0x1408 ∧ n = 4) := by simpa using hwide
  · exact hburst rfl (by decide) (by decide) (by decide) (fun i hi => by unfold pageNext; omega) (by decide)
  · exact hburst rfl (by decide) (by decide) (by decide) (fun i hi => by unfold pageNext; omega) (by decide)

/-- The strobes of OV_CTRL. -/
def ovStrobes : List (Nat × (State → State)) :=
  [(0, ovHostEnum), (1, ovHostBarrier), (2, ovHostSnap), (3, ovHostReset), (4, ovHostReroute), (5, ovHostReturn), (6, ovHostReclaim)]

theorem regAct_ovCtrl {v : Nat} (hv : natBit v 7 = false) (s : State) : regAct .host 0x1202 v s = strobes v ovStrobes s := by
  have hreg : regAct .host 0x1202 v s = strobes v ovStrobes (s.updOv (fun o => { o with refused := w1c o.refused v 7 })) := rfl
  rw [hreg]
  simp only [w1c_zero _ v 7 hv, State.updOv_id]

theorem servesAs_ovCtrl {c : Instr} {b : Nat} {f : State → State} (hc : ∀ s, exec c s = run (hostWrite 0x1202 b) s) (hb : b < 128)
    (hf : ∀ σ, strobes b ovStrobes σ = f σ) : ∀ s, ServesAs c 0x1202 f s :=
  servesAs_write hc (by decide) (by omega) fun σ => (regAct_ovCtrl (natBit_of_lt hb) σ).trans (hf σ)

theorem ovTxn_bits (s : State) :
    1 + (s.reg 0x1256 &&& rwMask 0x1256) = 1 + (bit01 s.ov.txnWrite * 2 + s.ov.txnCount % 8 * 4) := by
  have hreg : s.reg 0x1256 = bit01 s.ov.txnWrite * 2 + s.ov.txnCount % 8 * 4 + bit01 s.ov.txnRefused * 32 := rfl
  have hmask : ∀ (w r : Bool) (k : Fin 8), (bit01 w * 2 + k.val * 4 + bit01 r * 32) &&& rwMask 0x1256 = bit01 w * 2 + k.val * 4 := by
    decide
  rw [hreg]
  exact congrArg (1 + ·) (hmask _ _ ⟨_, Nat.mod_lt _ (by decide)⟩)

/-- OV_TXN_CTRL with GO: the transaction of the mailbox as it stands, COUNT within its three bits. -/
theorem regAct_ovTxn (s : State) :
    regAct .host 0x1256 (1 + (bit01 s.ov.txnWrite * 2 + s.ov.txnCount % 8 * 4)) s =
      ovGo (s.updOv (fun o => { o with txnCount := o.txnCount % 8 })) := by
  have hfields : ∀ (w : Bool) (k : Fin 8), natBit (1 + (bit01 w * 2 + k.val * 4)) 0 = true ∧
      natBit (1 + (bit01 w * 2 + k.val * 4)) 1 = w ∧ natBits (1 + (bit01 w * 2 + k.val * 4)) 2 3 = k.val ∧
      natBit (1 + (bit01 w * 2 + k.val * 4)) 5 = false := by decide
  obtain ⟨hgo, hwrite, hcount, hrefused⟩ := hfields s.ov.txnWrite ⟨s.ov.txnCount % 8, Nat.mod_lt _ (by decide)⟩
  have hreg : ∀ v, regAct .host 0x1256 v s = strobes v [(0, ovGo)] (s.updOv (fun o => { o with
      txnRefused := w1c o.txnRefused v 5, txnWrite := natBit v 1, txnCount := natBits v 2 3 })) := fun _ => rfl
  simp only [hreg, hwrite, hcount, w1c_zero _ _ 5 hrefused]
  exact strobes_single [0] 0 rfl (by simpa using hgo) _

/-- GO starts the transaction of the mailbox, and what it lets in is served. -/
theorem exec_ovTxnGo_serves (s : State) :
    exec .ovTxnGo s = .next (s.did (fun u => serveWaiting (u.hostServes 0x1256 (fun w => w.written 0x1256 0x1257
      (regAct .host 0x1256 (1 + (bit01 s.opened.ov.txnWrite * 2 + s.opened.ov.txnCount % 8 * 4))))))) := by
  have hv : 1 + (bit01 s.opened.ov.txnWrite * 2 + s.opened.ov.txnCount % 8 * 4) < 65536 := by
    have := bit01_le s.opened.ov.txnWrite
    omega
  have hwrite := hostWrite_value 0x1256 (1 + (bit01 s.opened.ov.txnWrite * 2 + s.opened.ov.txnCount % 8 * 4)) s.opened rfl
    (by decide) (by decide) (by decide) (by decide)
  rw [Nat.mod_eq_of_lt hv, ← ovTxn_bits] at hwrite
  rw [exec_ovTxnGo, ← ovTxn_bits]
  exact congrArg (fun t => Host.Outcome.next (s.closed (serveWaiting t))) hwrite

theorem ovTxn_serves (s : State) :
    (s.serves 0x1256 = true → exec .ovTxnGo s = .next (s.did (fun σ => serveWaiting (
      σ.written 0x1256 0x1257 (fun τ => ovGo (τ.updOv (fun o => { o with txnCount := o.txnCount % 8 }))))))) ∧
    (s.serves 0x1256 = false → exec .ovTxnGo s = .next (s.did (fun σ => serveWaiting (σ.hostServes 0x1256 (fun υ => υ))))) := by
  have hgo : ∀ t : State, t.ov = s.opened.ov →
      regAct .host 0x1256 (1 + (bit01 s.opened.ov.txnWrite * 2 + s.opened.ov.txnCount % 8 * 4)) t =
        ovGo (t.updOv (fun o => { o with txnCount := o.txnCount % 8 })) := fun t ht => ht ▸ regAct_ovTxn t
  have hexec := exec_ovTxnGo_serves s
  rw [State.did_eq] at hexec
  refine ⟨fun hs => ?_, fun hs => ?_⟩
  · rw [hostServes_served s.opened _ _ hs] at hexec
    rw [hexec, State.did_eq]
    simp only [State.written, hgo _ (hostAt_ov _ _)]
  · rw [hostServes_not s.opened _ _ hs] at hexec
    exact hexec

/-- Settles O34: the registers by their addresses, their strobes by the bits written. -/
theorem ovrathRegisterCommandsComplete : Obligations.OvrathRegisterCommandsComplete :=
  ⟨servesAs_ovCtrl exec_ovCtrlEnum (by decide) (strobes_single [0, 1, 2, 3, 4, 5, 6] 0 rfl (by decide)),
    servesAs_ovCtrl exec_ovCtrlBarrier (by decide) (strobes_single [0, 1, 2, 3, 4, 5, 6] 1 rfl (by decide)),
    servesAs_ovCtrl exec_ovCtrlSnap (by decide) (strobes_single [0, 1, 2, 3, 4, 5, 6] 2 rfl (by decide)),
    servesAs_ovCtrl exec_ovCtrlReset (by decide) (strobes_single [0, 1, 2, 3, 4, 5, 6] 3 rfl (by decide)),
    servesAs_ovCtrl exec_ovCtrlReroute (by decide) (strobes_single [0, 1, 2, 3, 4, 5, 6] 4 rfl (by decide)),
    servesAs_ovCtrl exec_ovCtrlReturn (by decide) (strobes_single [0, 1, 2, 3, 4, 5, 6] 5 rfl (by decide)),
    servesAs_ovCtrl exec_ovCtrlReclaim (by decide) (strobes_single [0, 1, 2, 3, 4, 5, 6] 6 rfl (by decide)),
    fun v s => next_serves (closed_of_eq (exec_ovTimeSetWrite v s) (hostBurst_wide s.opened (.inl rfl) v.isLt)),
    ovTxn_serves⟩

/-! ### The registers of the ledger (R330, R337, R338, R392) -/

/-- The strobes of LG_CTRL. -/
def lgStrobes : List (Nat × (State → State)) :=
  [(0, lgTrigger), (1, lgRelease), (3, fun t => t.updLg (fun l => { l with eccCorr := 0, unflushed := 0 }))]

theorem regAct_lgCtrl {v : Nat} (hv : natBit v 4 = false) (s : State) :
    regAct .host 0x1402 v s = strobes v lgStrobes (s.updLg (fun l => { l with flushHold := natBit v 2 })) := by
  have hreg : regAct .host 0x1402 v s =
      strobes v lgStrobes (s.updLg (fun l => { l with refused := w1c l.refused v 4, flushHold := natBit v 2 })) := rfl
  rw [hreg]
  simp only [w1c_zero _ v 4 hv]

theorem lgCtrl_bits (s : State) (b : Nat) : b + (s.reg 0x1402 &&& rwMask 0x1402) = b + bit01 s.lg.flushHold * 4 := by
  have hreg : s.reg 0x1402 = bit01 s.lg.flushHold * 4 + bit01 s.lg.refused * 16 := rfl
  have hmask : ∀ x y : Bool, (bit01 x * 4 + bit01 y * 16) &&& rwMask 0x1402 = bit01 x * 4 := by decide
  rw [hreg, hmask]

/-- A strobe of LG_CTRL has its effect alone: FLUSH_HOLD stays as it is. -/
theorem servesAs_lgCtrl {c : Instr} {b : Nat} {f : State → State} (hc : ∀ s, exec c s = run (hostStrobe 0x1402 b) s)
    (hb : b = 1 ∨ b = 2 ∨ b = 8) (hf : ∀ on σ, strobes (b + bit01 on * 4) lgStrobes σ = f σ) (s : State) :
    ServesAs c 0x1402 f s := by
  have hlt : ∀ on, b + bit01 on * 4 < 16 := by rcases hb with rfl | rfl | rfl <;> decide
  have hhigh : ∀ on, natBit (b + bit01 on * 4) 2 = on := by rcases hb with rfl | rfl | rfl <;> decide
  have hkeep : (s.opened.hostAt 0x1402).updLg (fun l => { l with flushHold := s.opened.lg.flushHold }) = s.opened.hostAt 0x1402 := by
    rw [← hostAt_lg s.opened 0x1402]
    rfl
  refine servesAs_strobe_rw hc (by decide) ?_ ?_ <;> rw [lgCtrl_bits]
  · exact (hlt _).trans (by decide)
  · rw [regAct_lgCtrl (natBit_of_lt (hlt _)), hhigh, hkeep]
    exact hf _ _

theorem servesAs_flushHold (on : Bool) (s : State) :
    ServesAs (.lgCtrlFlushHold on) 0x1402 (fun σ => σ.updLg (fun l => { l with flushHold := on })) s := by
  have hbits := field_only (m := rwMask 0x1402) (k := 4) rfl (bit01 on * 4)
  have hlt : bit01 on * 4 < 16 := by cases on <;> decide
  have hhigh : natBit (bit01 on * 4) 2 = on := by cases on <;> decide
  refine servesAs_field (exec_lgCtrlFlushHold on) (by decide) ?_ ?_ <;> rw [hbits]
  · omega
  · rw [regAct_lgCtrl (natBit_of_lt hlt), hhigh]
    exact strobes_single [0, 1, 3] 3 rfl (by cases on <;> decide) _

/-- Settles O35: the registers by their addresses, their strobes by the bits written. -/
theorem ledgerRegisterCommandsComplete : Obligations.LedgerRegisterCommandsComplete :=
  ⟨servesAs_lgCtrl exec_lgCtrlTrigger (by decide) fun on => strobes_single [0, 1, 3] 0 rfl (by cases on <;> decide),
    servesAs_lgCtrl exec_lgCtrlRelease (by decide) fun on => strobes_single [0, 1, 3] 1 rfl (by cases on <;> decide),
    servesAs_flushHold,
    servesAs_lgCtrl exec_lgCtrlTallyClr (by decide) fun on => strobes_single [0, 1, 3] 2 rfl (by cases on <;> decide),
    fun v => servesAs_write (exec_lgWinSelWrite v) (by decide) v.isLt fun _ => rfl,
    fun v s => next_serves (closed_of_eq (exec_lgWinOfsWrite v s) (hostBurst_wide s.opened (.inr rfl) v.isLt))⟩

/-! ### The registers of the update (R374, R375, R379, R381) -/

/-- The strobes of UPD_CTRL. -/
def updStrobes : List (Nat × (State → State)) := [(0, updHostActivate), (1, cancelNow), (2, updHostRevert), (3, confirmProof)]

theorem regAct_updCtrl {v : Nat} (hv : natBit v 5 = false) (s : State) :
    regAct .host 0x1604 v s = strobes v updStrobes (s.updUpd (fun u => { u with
      kindSel := natBit v 4, confirmS := if 1 ≤ v / 64 && v / 64 ≤ 600 then v / 64 else u.confirmS })) := by
  have hreg : regAct .host 0x1604 v s = strobes v updStrobes (s.updUpd (fun u => { u with
      refused := w1c u.refused v 5, kindSel := natBit v 4
      confirmS := if 1 ≤ v / 64 && v / 64 ≤ 600 then v / 64 else u.confirmS })) := rfl
  rw [hreg]
  simp only [w1c_zero _ v 5 hv]

/-- The RW fields of UPD_CTRL: KIND_SEL, and CONFIRM_S in its ten bits. -/
theorem updCtrl_fields (kind refused : Bool) (n : Nat) :
    (bit01 kind * 16 + bit01 refused * 32 + n * 64) &&& 0xFFD0 = bit01 kind * 16 + n % 1024 * 64 := by
  have hkind := bit01_le kind
  have hrefused := bit01_le refused
  have hlow : (bit01 kind * 16 + bit01 refused * 32 + n * 64) % 2 ^ 6 = bit01 kind * 16 + bit01 refused * 32 := by omega
  have hhigh : (bit01 kind * 16 + bit01 refused * 32 + n * 64) / 2 ^ 6 = n := by omega
  have hmask : ∀ x y : Bool, (bit01 x * 16 + bit01 y * 32) &&& (0xFFD0 % 2 ^ 6) = bit01 x * 16 := by decide
  have hmod := Nat.and_mod_two_pow (a := bit01 kind * 16 + bit01 refused * 32 + n * 64) (b := 0xFFD0) (n := 6)
  have hdiv := Nat.and_div_two_pow (a := bit01 kind * 16 + bit01 refused * 32 + n * 64) (b := 0xFFD0) (n := 6)
  rw [hlow, hmask] at hmod
  rw [hhigh, show 0xFFD0 / 2 ^ 6 = 2 ^ 10 - 1 from rfl, Nat.and_two_pow_sub_one_eq_mod] at hdiv
  omega

theorem updCtrl_bits (s : State) (b : Nat) :
    b + (s.reg 0x1604 &&& rwMask 0x1604) = b + (bit01 s.upd.kindSel * 16 + s.upd.confirmS % 1024 * 64) :=
  congrArg (b + ·) (updCtrl_fields s.upd.kindSel s.upd.refused s.upd.confirmS)

/-- A strobe of UPD_CTRL over its RW fields: each has its own bits. -/
theorem updCtrl_split (kind : Bool) (n : Nat) {b : Nat} (hb : b < 16) :
    let v := b + (bit01 kind * 16 + n % 1024 * 64)
    v < 65536 ∧ (∀ i, i < 4 → natBit v i = natBit b i) ∧ natBit v 4 = kind ∧ natBit v 5 = false ∧ v / 64 = n % 1024 := by
  have hone := bit01_le kind
  have hkind : (bit01 kind == 1) = kind := by cases kind <;> rfl
  refine ⟨by omega, fun i hi => ?_, Eq.trans ?_ hkind, ?_, by omega⟩ <;>
    simp only [natBit, beq_eq_decide, decide_eq_decide, decide_eq_false_iff_not]
  · interval_cases i <;> omega
  · omega
  · omega

/-- A strobe of UPD_CTRL, with KIND_SEL and CONFIRM_S written back as they stand. -/
theorem servesAs_updCtrl {c : Instr} {b : Nat} {f : State → State} (hc : ∀ s, exec c s = run (hostStrobe 0x1604 b) s) (hb : b < 16)
    (hf : ∀ σ, strobes b updStrobes σ = f σ) (s : State) :
    ServesAs c 0x1604 (fun σ => f (σ.updUpd (fun v => { v with
      confirmS := if 1 ≤ v.confirmS % 1024 && v.confirmS % 1024 ≤ 600 then v.confirmS % 1024 else v.confirmS }))) s := by
  have hu := hostAt_upd s.opened 0x1604
  obtain ⟨hlt, hlow, hkind, hrefused, hconfirm⟩ := updCtrl_split s.opened.upd.kindSel s.opened.upd.confirmS hb
  refine servesAs_strobe_rw hc (by decide) ?_ ?_ <;> rw [updCtrl_bits]
  · exact hlt
  · rw [regAct_updCtrl hrefused, strobes_congr (b := b) (by simp [updStrobes, hlow]), hf, hkind, hconfirm, ← hu]
    rfl

/-- Settles O36: the registers by their addresses, their strobes by the bits written. -/
theorem updateRegisterCommandsComplete : Obligations.UpdateRegisterCommandsComplete :=
  ⟨servesAs_updCtrl exec_updCtrlActivate (by decide) (strobes_single [0, 1, 2, 3] 0 rfl (by decide)),
    servesAs_updCtrl exec_updCtrlCancel (by decide) (strobes_single [0, 1, 2, 3] 1 rfl (by decide)),
    servesAs_updCtrl exec_updCtrlRevert (by decide) (strobes_single [0, 1, 2, 3] 2 rfl (by decide)),
    servesAs_updCtrl exec_updCtrlConfirm (by decide) (strobes_single [0, 1, 2, 3] 3 rfl (by decide))⟩

/-! ### The registers of the host bus, the sleep, the readback and the lock (R76, R351, R356, R359, R387, R388, R391) -/

/-- The strobes of HB_CTRL. -/
def hbStrobes : List (Nat × (State → State)) :=
  [(0, fun t => t.updHb (fun h => { h with abandoned := 0, lostTally := 0, busyTally := 0, timeouts := 0 })),
    (1, attnDiscard), (2, hostRecover)]

theorem regAct_hbCtrl {v : Nat} (hv : natBit v 3 = false) (s : State) : regAct .host 0x1504 v s = strobes v hbStrobes s := by
  have hreg : regAct .host 0x1504 v s = strobes v hbStrobes (s.updHb (fun h => { h with refused := w1c h.refused v 3 })) := rfl
  rw [hreg]
  simp only [w1c_zero _ v 3 hv, State.updHb_id]

theorem servesAs_hbCtrl {c : Instr} {b : Nat} {f : State → State} (hc : ∀ s, exec c s = run (hostWrite 0x1504 b) s) (hb : b < 8)
    (hf : ∀ σ, strobes b hbStrobes σ = f σ) : ∀ s, ServesAs c 0x1504 f s :=
  servesAs_write hc (by decide) (by omega) fun σ => (regAct_hbCtrl (natBit_of_lt hb) σ).trans (hf σ)

/-- What the controller does with RECOVER once the write has been served or not. -/
def recoverAfter (pulses : Nat) (t : State) : State :=
  if t.hostAcks && t.mode != .start then
    (if t.hb.sending.isSome then t.updHb (fun h => { h with refused := true })
     else if t.attnOn then busRecover pulses t else t)
  else t

theorem recoverRow_eq (pulses : Nat) (s : State) :
    recoverRow pulses s = recoverAfter pulses (s.hostServes 0x1504 (fun u => u.written 0x1504 0x1505 (fun τ => τ))) := by
  have hwrite := hostWrite_value 0x1504 0 s rfl (by decide) (by decide) (by decide) (by decide)
  have hzero : regAct .host 0x1504 (0 % 65536) = fun τ => τ :=
    funext fun τ => (regAct_hbCtrl rfl τ).trans (strobes_none (by decide) τ)
  rw [hzero] at hwrite
  exact congrArg (recoverAfter pulses) hwrite

theorem hbRecover_serves (pulses : Nat) (s : State) :
    (s.serves 0x1504 = true → exec (.hbCtrlRecover pulses) s =
      .next (s.did (fun σ => recoverAfter pulses (σ.written 0x1504 0x1505 (fun τ => τ))))) ∧
    (s.serves 0x1504 = false → exec (.hbCtrlRecover pulses) s =
      .next (s.did (fun σ => recoverAfter pulses (σ.hostServes 0x1504 (fun υ => υ))))) := by
  have hexec := closed_of_eq (exec_hbCtrlRecover pulses s) (recoverRow_eq pulses s.opened)
  exact ⟨fun hs => closed_of_eq hexec (congrArg _ (hostServes_served s.opened _ _ hs)),
    fun hs => closed_of_eq hexec (congrArg _ (hostServes_not s.opened _ _ hs))⟩

/-- Settles O37: the registers by their addresses, their strobes by the bits written. -/
theorem hostRegisterCommandsComplete : Obligations.HostRegisterCommandsComplete :=
  ⟨servesAs_hbCtrl exec_hbCtrlTallyClr (by decide) (strobes_single [0, 1, 2] 0 rfl (by decide)),
    servesAs_hbCtrl exec_hbCtrlFlush (by decide) (strobes_single [0, 1, 2] 1 rfl (by decide)),
    hbRecover_serves,
    servesAs_write exec_sleepRequest (by decide) (by decide) fun _ => rfl,
    fun v => servesAs_write (exec_prbSelWrite v) (by decide) v.isLt fun _ => rfl,
    fun v => servesAs_write (exec_glbUnlockWrite .host v) (by decide) v.isLt fun _ => rfl,
    fun who v s => exec_glbUnlockWrite (.ovrath who) v s⟩

end Sys2Proof.Machine
